-- ==== Sys2Proof/Word.lean ====
section
/-! DEFINITION. The NP48's word types: bytes, 32-bit registers and 64-bit quantities (spec/00 R3 to R5). -/
namespace Sys2Proof

/-- One byte of a memory, a frame or a payload. -/
abbrev Byte := BitVec 8
/-- One 32-bit register (R5). -/
abbrev Word := BitVec 32
/-- One 64-bit quantity, such as the Timebase counter or an atomic's word. -/
abbrev Word64 := BitVec 64

end Sys2Proof
end

