-- ==== Sys2Proof/Syntax.lean ====
section
/-! DEFINITION. The commands of the block: one constructor per row of spec/opcode_table.json. An
operand says which unit, channel, queue or register the command concerns and carries what comes from
outside the device (register values, pin levels, frame bytes, sensor readings). -/
namespace Sys2Proof

/-- The register view through which the host reaches a register (R413): the PF, or VF `n`. -/
inductive View
  | pf
  | vf (n : Fin 16)
  deriving DecidableEq, Repr

/-- The sources that offer inputs to the Intake (R599). -/
inductive Source
  | tideway
  | eth (p : Fin 6)
  | sq (i : Fin 16) (q : Fin 8)
  | ford
  | supervisor
  deriving DecidableEq, Repr

/-- A unit that runs Egret words: thread `t` of cluster `c`, or Heron `k` (R155, R183). -/
inductive EgUnit
  | thread (c : Fin 6) (t : Fin 32)
  | heron (k : Fin 16)
  deriving DecidableEq, Repr

/-- What waits at the Weir for an entry or for packet-buffer space (R36): a thread's forward or emit,
or a direct-action cell. -/
inductive WeirWaiter
  | thread (c : Fin 6) (t : Fin 32)
  | cell (gseq : Nat)
  deriving DecidableEq, Repr

/-- How a host read ended (R433). -/
inductive HostRead
  | data (bytes : List Byte)
  | failed
  deriving DecidableEq, Repr

/-- A PCI Express configuration write that the spec names (R410, R411, R436). -/
inductive PcieCfg
  | busMaster (on : Bool)
  | numVfs (n : Fin 16)
  | devCtl2 (v : BitVec 16)
  | msix (enable mask : Bool)
  deriving DecidableEq, Repr

/-- An upset that a scrubber's visit finds to have struck a granule since it was last written: none, one bit, two
bits, check bits 0 and 7, or both copies of a Weir entry's key (R329, R335, R550). -/
inductive Upset
  | none
  | single
  | double
  | checks
  | keys
  deriving DecidableEq, Repr

/-- What the on-die sensors and rail monitors read (R582): eight temperatures in 0.1 °C, none for a sensor that fails its
self-check; the rails in mV; and which of VDD_CORE, VDD_SD, VDD_18, VDD_33 and VDDQ have been outside their range for 10 µs. -/
structure Samples where
  temps : List (Option Int)
  vcore : BitVec 12
  vsd : BitVec 16
  v18 : BitVec 16
  v33 : BitVec 16
  vddq : BitVec 16
  out : BitVec 5
  deriving DecidableEq, Repr

/-- What a receiver takes from a Ford frame's header, and whether its CRC is good (Table 14.2). -/
structure FordHdr where
  fseq : BitVec 32
  ack : BitVec 32
  retx : Bool
  crcOk : Bool
  deriving DecidableEq, Repr

/-- A step that a CONTROL frame carries (Table 14.3, R457, R466, R468, R471, R511); the specification does not give its
encoding. `resync` opens a resynchronisation with g0 and the lead's PROG_DIGEST, `mismatch` answers a digest that
differs, and `imageEnd` follows the last STATE frame. -/
inductive FordMsg
  | detach
  | resync (g0 : BitVec 48) (digest : BitVec 32)
  | mismatch
  | imageEnd
  | handover (boundary : BitVec 48)
  deriving DecidableEq, Repr

/-- Every command, one constructor per row of the table. -/
inductive Instr
  /-- REG_WRITE (R11). A register write to a field with no row of its own applies under the field's change class, and an H write while the block runs is refused with CFG_BUSY. -/
  | regWrite (v : View) (off bytes : Nat) (val : Word)
  /-- RC_READ (R9). A read of an RC field returns the field and then clears it. -/
  | rcRead (v : View) (off bytes : Nat)
  /-- LOWER_WORD_READ (R6). A read of the lower word of a 64-bit register pair latches the upper word. -/
  | lowerWordRead (v : View) (off : Nat)
  /-- TB_MM_MIN_READ (R65). A read of TB_MM_MIN returns the minimum lead, latches TB_MM_MIN_STREAM and reloads 0x7FFF_FFFF. -/
  | tbMmMinRead
  /-- INTAKE_ACCEPT (R599). The Intake accepts one waiting input, makes it a cell, and gives it GSEQ, TSTAMP and SRC. -/
  | intakeAccept (src : Source)
  /-- HERON_PARSE_START (R156). A free Heron starts the parse program at HN_ENTRYc, with the initial state set. -/
  | heronParseStart (k : Fin 16)
  /-- KMOV (R158). The Heron copies n bytes from a data address into key bytes. -/
  | kmov (k : Fin 16)
  /-- KPUT (R158). The Heron merges a register or immediate into one key byte under a mask. -/
  | kput (k : Fin 16)
  /-- KEND (R159). The Heron ends the parse, submits the key or drops the cell, and may issue a source probe. -/
  | kend (k : Fin 16)
  /-- STEP_LIMIT_ABORT (R161). A parse that reaches STEP_LIM steps is aborted, and the cell goes to action 0 on stream 0. -/
  | stepLimitAbort (k : Fin 16)
  /-- LEARNING_PROBE (R129). The learning engine takes one probe from its queue and sets HIT, stages a learn or move, or counts. -/
  | learningProbe
  /-- LEARNING_COMMIT (R130). When CMT_US has passed or 256 changes are staged, the learning set is committed as an epoch commit. -/
  | learningCommit
  /-- COMMIT_TAKEOVER (R175). Once every cell before the marker is classified, the new active set takes over and held keys are classified. -/
  | commitTakeover
  /-- STAGED_RELOAD_DONE (R175). The staged copy has been reloaded from the new active set, waiting staging writes proceed, and the commit response is sent. -/
  | stagedReloadDone
  /-- SHOAL_SCRUB_VISIT (R178). The scrubber visits one Shoal entry, corrects a correctable error, and invalidates an entry that holds an uncorrectable error. -/
  | shoalScrubVisit (e : Fin 4096) (g : Fin 16) (found : Upset)
  /-- DISPATCH (R222). A waiting classified cell is placed on a cluster and context, and its cell thread starts. -/
  | dispatch
  /-- PAIR_WORD (R186). A pair word executes its two short operations as one word. -/
  | pairWord (u : EgUnit)
  /-- ALU (R189). rd = ra fn rb, using the ALU function of Table 6.4. -/
  | alu (u : EgUnit)
  /-- ALUI (R189). rd = ra fn i8. -/
  | alui (u : EgUnit)
  /-- SHIFT (R190). A long shift or rotate by an immediate or a register count. -/
  | shift (u : EgUnit)
  /-- LDI (R189). Loads an 8-bit immediate into rd, or a 16-bit immediate into pN. -/
  | ldi (u : EgUnit)
  /-- LD (R191). A byte at pN + s16 is loaded into rd, with optional write-back. -/
  | ld (u : EgUnit)
  /-- LDP (R191). A 16-bit word at pN + s16 is loaded into pK. -/
  | ldp (u : EgUnit)
  /-- ST (R191). A byte is stored at pN + s16, with optional write-back. -/
  | st (u : EgUnit)
  /-- STP (R191). pK is stored as a 16-bit little-endian word. -/
  | stp (u : EgUnit)
  /-- LDX (R189). A byte at pN + ri is loaded. -/
  | ldx (u : EgUnit)
  /-- STX (R189). A byte is stored at pN + ri. -/
  | stx (u : EgUnit)
  /-- PADDI16 (R189). pD = pS + s16. -/
  | paddi16 (u : EgUnit)
  /-- PADDR (R189). pD = pS + the zero-extended ri. -/
  | paddr (u : EgUnit)
  /-- MUL (R191). The 16-bit product goes to rd and rd + 1. -/
  | mul (u : EgUnit)
  /-- BCC (R193). Branches on the flags in FL mode, and traps in CB mode. -/
  | bcc (u : EgUnit)
  /-- CBR (R194). Branches on a comparison of ra and rb. -/
  | cbr (u : EgUnit)
  /-- CBI (R194). Branches on a comparison of ra and i8. -/
  | cbi (u : EgUnit)
  /-- CBP (R194). Branches on a 16-bit comparison of two pointers. -/
  | cbp (u : EgUnit)
  /-- JMP (R195). Jumps to t16 or to pN. -/
  | jmp (u : EgUnit)
  /-- CALL (R206). Opens a new window frame and jumps, spilling the oldest frame if needed. -/
  | call (u : EgUnit)
  /-- RET (R206). Returns from the current frame, filling a frame if none is resident. -/
  | ret (u : EgUnit)
  /-- FORK (R225). Starts a child thread on a free context, and blocks while none is free or the quota is reached. -/
  | fork (c : Fin 6) (t : Fin 32)
  /-- FORK_UNBLOCK (R225). A FORK blocked for a context or quota starts its child once one frees. -/
  | forkUnblock (c : Fin 6) (t : Fin 32)
  /-- FORKQ (R225). Starts a child, or writes 0xFF and sets Z when none is free. -/
  | forkq (c : Fin 6) (t : Fin 32)
  /-- JOIN (R226). Waits until every direct child has exited. -/
  | join (c : Fin 6) (t : Fin 32)
  /-- JOIN_RETURN (R226). A waiting JOIN returns when its last child exits. -/
  | joinReturn (c : Fin 6) (t : Fin 32)
  /-- EXIT (R226). Ends the thread after an implied FENCE. -/
  | exit (c : Fin 6) (t : Fin 32)
  /-- TRAP (R213). Raises SW_TRAP with TINFO i8. -/
  | trap (c : Fin 6) (t : Fin 32)
  /-- RETT (R214). Restores the flags, BM and CWP from TSTATE, clears TS, and resumes at TPC. -/
  | rett (c : Fin 6) (t : Fin 32)
  /-- MODE (R193). Sets the branch mode BM from the next word on. -/
  | mode (u : EgUnit)
  /-- FENCE (R204). Waits for posted far stores and returns whether any completed in error. -/
  | fence (c : Fin 6) (t : Fin 32)
  /-- MFSR (R211). Reads a special register. -/
  | mfsr (u : EgUnit)
  /-- MTSR (R211). Writes a special register. -/
  | mtsr (u : EgUnit)
  /-- SEND (R235). Sends one 4-byte entry on a channel, and blocks while the channel is full. -/
  | send (c : Fin 6) (t : Fin 32)
  /-- SEND_UNBLOCK (R235). A blocked SEND completes once the channel has room. -/
  | sendUnblock (c : Fin 6) (t : Fin 32)
  /-- RECV (R235). Receives one entry from a channel, and blocks while it is empty. -/
  | recv (c : Fin 6) (t : Fin 32)
  /-- RECV_UNBLOCK (R235). A blocked RECV takes the next entry that is sent. -/
  | recvUnblock (c : Fin 6) (t : Fin 32)
  /-- SENDQ (R196). Sends without blocking, and reports failure in rd and Z. -/
  | sendq (c : Fin 6) (t : Fin 32)
  /-- RECVQ (R196). Receives without blocking, and reports failure in rd and Z. -/
  | recvq (c : Fin 6) (t : Fin 32)
  /-- FAULT (R218). Parks the thread with cause SELF_FAULT. -/
  | fault (c : Fin 6) (t : Fin 32)
  /-- BKPT (R213). Raises BREAK with TINFO i8. -/
  | bkpt (c : Fin 6) (t : Fin 32)
  /-- FWD (R28). The cell thread forwards its cell as (g, 0) to the Weir on its stream. -/
  | fwd (c : Fin 6) (t : Fin 32)
  /-- CONSUME (R28). The cell thread consumes its cell and removes the pending entry. -/
  | consume (c : Fin 6) (t : Fin 32)
  /-- EMIT (R250). Makes a DERIVED cell from a descriptor, sends it to the Weir, and writes the status. -/
  | emit (c : Fin 6) (t : Fin 32)
  /-- WEIR_WAIT_END (R36). A forward or emit that waited for a Weir entry or packet-buffer space proceeds once one frees. -/
  | weirWaitEnd (w : WeirWaiter)
  /-- WEIR_RELEASE_DUE (R30). An eligible head reaches its REL and is released with the stream's next ESEQ and epoch bit. -/
  | weirReleaseDue (stream : Fin 4096)
  /-- FAR_LOAD_DATA (R202). A far load's data arrive and the thread continues. -/
  | farLoadData (c : Fin 6) (t : Fin 32)
  /-- POSTED_STORE_COMPLETE (R202). A posted far store completes, and an error writes a CONTAINED record and marks the next FENCE. -/
  | postedStoreComplete (c : Fin 6) (t : Fin 32)
  /-- WAIT_LIMIT_EXPIRY (R239). A thread that has waited past WAITLIM raises CHANNEL_FAULT WAIT_LIMIT. -/
  | waitLimitExpiry (c : Fin 6) (t : Fin 32)
  /-- LOOKUP (R244). The Lookup helper reads a Stream, Action or Station Table entry in the cell's epoch and completes. -/
  | lookup (c : Fin 6)
  /-- COPY (R246). The Copy helper copies LEN bytes between local and device addresses and completes. -/
  | copy (c : Fin 6)
  /-- CRC (R247). The CRC helper computes the selected CRC over local bytes and completes. -/
  | crc (c : Fin 6)
  /-- WAIT_UNTIL (R248). The Time helper completes when the Timebase reaches TARGET. -/
  | waitUntil (c : Fin 6) (t : Fin 32)
  /-- WAIT_FOR (R248). The Time helper completes TARGET ns after receipt. -/
  | waitFor (c : Fin 6) (t : Fin 32)
  /-- TIME_PORT_SAMPLE (R249). A load from 0xFC00 samples the Timebase and latches bytes 1 to 7. -/
  | timePortSample (c : Fin 6) (t : Fin 32)
  /-- LAUNCH_REQUEST (R271). The launch service checks a launch request and queues it, or completes it with an error status. -/
  | launchRequest
  /-- KERNEL_START (R272). A queued launch starts on the lowest allowed free group. -/
  | kernelStart
  /-- IALU (R258). A lane integer ALU operation. -/
  | ialu (g : Fin 8)
  /-- IMUL (R258). A lane integer multiply, min/max or MAD. -/
  | imul (g : Fin 8)
  /-- FALU (R257). A lane floating-point ALU operation. -/
  | falu (g : Fin 8)
  /-- FSPEC (R257). A lane SQRT, RCP, RSQRT, FLOOR or ROUND. -/
  | fspec (g : Fin 8)
  /-- CVT (R258). A lane conversion or pack/unpack. -/
  | cvt (g : Fin 8)
  /-- SET (R260). Lanes set D to all ones when A cond B holds, else 0. -/
  | set (g : Fin 8)
  /-- SEL (R255). D = (D ≠ 0) ? A : B. -/
  | sel (g : Fin 8)
  /-- SHFL (R261). Lanes read A from a source lane given by IDX, UP, DOWN or XOR. -/
  | shfl (g : Fin 8)
  /-- VOTE (R261). ALL, ANY, BALLOT or EQ over the active lanes. -/
  | vote (g : Fin 8)
  /-- MFS (R273). Reads LANE, GROUP, EXEC, LAUNCH or INST. -/
  | mfs (g : Fin 8)
  /-- LDW (R265). Lanes load a 32-bit word. -/
  | ldw (g : Fin 8)
  /-- STW (R268). Lanes store a 32-bit word. -/
  | stw (g : Fin 8)
  /-- LDD (R265). Lanes load a 64-bit pair. -/
  | ldd (g : Fin 8)
  /-- STD (R268). Lanes store a 64-bit pair. -/
  | std (g : Fin 8)
  /-- CA_MOVI (R259). D = the sign-extended imm19. -/
  | caMovi (g : Fin 8)
  /-- MOVH (R259). Sets bits [31:13] of D from imm19. -/
  | movh (g : Fin 8)
  /-- CA_ADDI (R258). D = A + s12. -/
  | caAddi (g : Fin 8)
  /-- IF (R262). Pushes an IF entry and narrows EXEC, branching when no lane remains. -/
  | ifWord (g : Fin 8)
  /-- ELSE (R262). EXEC takes the ALT mask of the top entry. -/
  | elseWord (g : Fin 8)
  /-- ENDIF (R262). Restores SAVED and pops the entry. -/
  | endifWord (g : Fin 8)
  /-- LOOP (R262). Pushes a LOOP entry. -/
  | loop (g : Fin 8)
  /-- BRK (R262). Removes breaking lanes, and leaves the loop when none remains. -/
  | brk (g : Fin 8)
  /-- ENDLOOP (R262). Goes back to the start of the loop body. -/
  | endloop (g : Fin 8)
  /-- BRU (R262). Branches on a uniform register condition. -/
  | bru (g : Fin 8)
  /-- CA_JMP (R263). The group jumps to its target. -/
  | caJmp (g : Fin 8)
  /-- CA_EXIT (R264). The kernel waits for held tokens and posted stores, then ends or parks. -/
  | caExit (g : Fin 8)
  /-- KERNEL_END (R274). The kernel ends, RET and STAT are written, and the completion is sent. -/
  | kernelEnd (g : Fin 8)
  /-- CA_BKPT (R262). Parks the group with cause BREAK. -/
  | caBkpt (g : Fin 8)
  /-- ILIMIT (R286). A kernel that exceeds CA_Gg_ILIM steps parks with ILIMIT. -/
  | ilimit (g : Fin 8)
  /-- KSTART (R277). Takes the lowest free token and queues a Kettle operation. -/
  | kstart (g : Fin 8)
  /-- KWAIT (R278). Waits for a token's operation, then frees the token or parks. -/
  | kwait (g : Fin 8)
  /-- CA_FENCE (R268). Waits for the group's posted far stores and reports an error in uD. -/
  | caFence (g : Fin 8)
  /-- CA_FAR_LOAD_DATA (R268). A kernel's far load data arrive. -/
  | caFarLoadData (g : Fin 8)
  /-- CA_POSTED_STORE_COMPLETE (R268). A kernel's posted far store completes, and an error writes a CONTAINED record. -/
  | caPostedStoreComplete (g : Fin 8)
  /-- KETTLE_OP_START (R283). A Kettle unit starts a group's next operation and checks its descriptor. -/
  | kettleOpStart (k : Fin 4)
  /-- KETTLE_OP_END (R281). A Kettle operation ends, writing D or recording a fault against its token. -/
  | kettleOpEnd (k : Fin 4)
  /-- RESUME (R288). A RESUME write resumes a parked group at CA_Gg_PC, re-queuing a faulted operation. -/
  | resume (g : Fin 8)
  /-- ABANDON (R289). An ABANDON write ends a parked kernel as abandoned and frees its tokens. -/
  | abandon (g : Fin 8)
  /-- PARK_TIMEOUT (R289). A group still parked PTO ms after parking is abandoned. -/
  | parkTimeout (g : Fin 8)
  /-- CA_STATE_WRITE (R287). A write to a group's state window or PC applies while parked, and is ignored with NOTPARKED otherwise. -/
  | caStateWrite (g : Fin 8) (off : Nat) (val : Word)
  /-- DRAM_REQUEST (R312). A port splits an access into bursts that join the channel's read or write queue. -/
  | dramRequest (p : Fin 12)
  /-- DRAM_COMMAND_ISSUE (R317). At a command opportunity, the channel issues the first request by ordering, urgency, row hit and age. -/
  | dramCommandIssue (c : Fin 2)
  /-- URGENCY_RISE (R316). A request's age crosses 50, 75 or 100 % of LAT_TGT, and its urgency rises. -/
  | urgencyRise (p : Fin 12)
  /-- REFRESH_DUE (R321). A rank's refresh falls due and issues, is postponed, or is forced. -/
  | refreshDue (c r : Fin 2)
  /-- ZQ_CALIBRATION (R323). A rank receives its 128 ms ZQ short calibration. -/
  | zqCalibration (c r : Fin 2)
  /-- DRIFT_RECENTRE (R323). A rank receives its 1 s read and write drift re-centring. -/
  | driftRecentre (c r : Fin 2)
  /-- HOT_POLL (R322). Every 100 ms, Ohmyth reads the channel sensor and sets or clears HOT. -/
  | hotPoll (c : Fin 2) (reading : Option Int)
  /-- DRAM_SCRUB_VISIT (R337). The patrol scrubber visits one DRAM granule and corrects or records errors. -/
  | dramScrubVisit (found : Upset)
  /-- OCM_SCRUB_VISIT (R305). An on-chip scrubber visits one granule. -/
  | ocmScrubVisit (addr : Nat) (found : Upset)
  /-- CHANNEL_FAULT (R552). A channel that reports a persistent error is taken out of use. -/
  | channelFault (c : Fin 2)
  /-- ACQUIRE (R350). Takes a ticket on a lock and completes when it is granted. -/
  | acquire (c : Fin 6) (t : Fin 32)
  /-- TRYACQ (R344). Grants a free lock at once, or answers HELD. -/
  | tryacq (c : Fin 6) (t : Fin 32)
  /-- RELEASE (R350). The owner releases the lock, and the next ticket is served. -/
  | release (c : Fin 6) (t : Fin 32)
  /-- RELEASE_REPAIRED (R355). Releases the lock and clears the ABANDONED mark. -/
  | releaseRepaired (c : Fin 6) (t : Fin 32)
  /-- FADD (R344). An atomic fetch-add on an 8-byte word. -/
  | fadd (c : Fin 6) (t : Fin 32)
  /-- SWAP (R344). An atomic swap. -/
  | swap (c : Fin 6) (t : Fin 32)
  /-- CAS (R344). An atomic compare-and-swap. -/
  | cas (c : Fin 6) (t : Fin 32)
  /-- READ (R344). An atomic read of an 8-byte word. -/
  | read (c : Fin 6) (t : Fin 32)
  /-- ATOMIC_DONE (R358). An atomic completes on its word and delivers its RESULT and status. -/
  | atomicDone (master : BitVec 12)
  /-- BELFRY_WAIT_LIMIT (R357). A port-form load that has waited past WAITLIM faults, and its ticket is withdrawn. -/
  | belfryWaitLimit (c : Fin 6) (t : Fin 32)
  /-- DOORBELL (R367). A write to MB_DOORBELL is accepted, answered by hardware, or dropped. -/
  | doorbell (i : Fin 16) (val : Word)
  /-- REQUEST_AREA_WRITE (R383). A request-area write while BUSY is ignored and sets WR_LOST. -/
  | requestAreaWrite (i : Fin 16) (off : Nat) (val : Word)
  /-- TAKE_UP (R373). Ohmyth takes up the oldest accepted doorbell, checks it, and answers a repeat from its copy. -/
  | takeUp
  /-- DEV_INFO (R374). Returns identity, revision, mode, Ohmyth version and epoch. -/
  | devInfo (m : Fin 16)
  /-- DEV_MODE (R535). Requests a mode transition. -/
  | devMode (m : Fin 16)
  /-- DEV_REG_READ (R375). Reads up to 62 registers within the instance's reach. -/
  | devRegRead (m : Fin 16)
  /-- DEV_REG_WRITE (R375). A masked register write under the change classes. -/
  | devRegWrite (m : Fin 16)
  /-- DEV_WITHDRAW (R503). Starts the drain that withdraws a block. -/
  | devWithdraw (m : Fin 16)
  /-- DEV_RETURN (R506). Returns a withdrawn block to RUNNING. -/
  | devReturn (m : Fin 16)
  /-- DEV_TEST (R507). Runs the self-tests of a withdrawn block. -/
  | devTest (m : Fin 16) (fault : Word)
  /-- DEV_HEALTH (R374). Returns Tj, VDD_CORE, droops and Timebase state. -/
  | devHealth (m : Fin 16)
  /-- DEV_RESET (R532). Starts a device reset 10 µs after DONE. -/
  | devReset (m : Fin 16)
  /-- INST_CREATE (R416). Creates a tenant with its quota and set-up mode. -/
  | instCreate (m : Fin 16)
  /-- INST_DESTROY (R437). Resets a tenant, releases its resources, and makes it ABSENT. -/
  | instDestroy (m : Fin 16)
  /-- INST_RESET (R435). Resets a tenant by DRAIN or SQUASH, through the steps of Table 13.10. -/
  | instReset (m : Fin 16)
  /-- INST_DRAIN_EXPIRY (R435). When DRAIN_US passes in an instance reset, the remaining open cells are squashed. -/
  | instDrainExpiry (i : Fin 16)
  /-- INST_RESET_COMPLETE (R435). Once in-flight host requests finish, queues are disabled and the instance returns to ACTIVE. -/
  | instResetComplete (i : Fin 16)
  /-- INST_STATUS (R416). Returns the instance's state, set-up and usage. -/
  | instStatus (m : Fin 16)
  /-- INST_GRANT (R422). Adds or removes page rights in the grant table. -/
  | instGrant (m : Fin 16)
  /-- TBL_SHOAL_STAGE (R171). Stages an edit to a Shoal entry. -/
  | tblShoalStage (m : Fin 16)
  /-- TBL_ACTION_STAGE (R168). Stages an Action Table entry. -/
  | tblActionStage (m : Fin 16)
  /-- TBL_STREAM_STAGE (R122). Stages a Stream Table entry. -/
  | tblStreamStage (m : Fin 16)
  /-- TBL_REG_STAGE (R375). Stages class-S register bits. -/
  | tblRegStage (m : Fin 16)
  /-- TBL_STATION (R376). Adds or removes a static station through the learning set. -/
  | tblStation (m : Fin 16)
  /-- TBL_COMMIT (R174). Commits the software staged set as a new epoch. -/
  | tblCommit (m : Fin 16)
  /-- TBL_ABORT (R376). Discards the naming instance's staged edits. -/
  | tblAbort (m : Fin 16)
  /-- TBL_READ (R374). Reads an active or staged table entry. -/
  | tblRead (m : Fin 16)
  /-- PRG_EGRET_LOAD (R377). Loads words into a withdrawn cluster's program store. -/
  | prgEgretLoad (m : Fin 16)
  /-- PRG_PARSE_STAGE (R377). Stages parse-store words. -/
  | prgParseStage (m : Fin 16)
  /-- PRG_CHAN_BIND (R377). Binds or unbinds a cluster or device channel. -/
  | prgChanBind (m : Fin 16)
  /-- PRG_READ (R374). Reads program-store or parse-store words. -/
  | prgRead (m : Fin 16)
  /-- CA_CODE_LOAD (R297). Loads Carillon code-store words. -/
  | caCodeLoad (m : Fin 16)
  /-- CA_PARK_READ (R287). Reads a parked group's state. -/
  | caParkRead (m : Fin 16)
  /-- CA_PARK_WRITE (R378). Writes a parked group's state and logs the write. -/
  | caParkWrite (m : Fin 16)
  /-- CA_RESUME (R288). Resumes a parked group and logs the outcome. -/
  | caResume (m : Fin 16)
  /-- CA_ABANDON (R289). Abandons a parked group and logs the outcome. -/
  | caAbandon (m : Fin 16)
  /-- PORT_STATUS (R374). Returns an Ethernet or Tideway port's status and error registers. -/
  | portStatus (m : Fin 16)
  /-- PORT_COUNTERS (R374). Returns accumulated 64-bit port counters. -/
  | portCounters (m : Fin 16)
  /-- PORT_GCL_LOAD (R138). Writes gate-list entries and admin registers, and optionally CONFIG_CHANGE. -/
  | portGclLoad (m : Fin 16)
  /-- PORT_GONG_WRITE (R96). Writes a Gong entry. -/
  | portGongWrite (m : Fin 16)
  /-- PORT_GONG_REARM (R97). Re-arms Gong entries by mask. -/
  | portGongRearm (m : Fin 16)
  /-- TWIN_STATUS (R374). Returns roles, link, Baton, lag and digest misses. -/
  | twinStatus (m : Fin 16)
  /-- TWIN_PAIR (R471). Enables or disables pairing. -/
  | twinPair (m : Fin 16)
  /-- TWIN_DETACH (R471). Detaches the partner, or this shadow. -/
  | twinDetach (m : Fin 16)
  /-- TWIN_RESYNC (R468). Checkpoints and sends a state image to bring a partner to SHADOW. -/
  | twinResync (m : Fin 16)
  /-- TWIN_HANDOVER (R466). Hands the Baton to an eligible aligned shadow. -/
  | twinHandover (m : Fin 16)
  /-- REC_CONFIG (R479). Places and enables the recorder allocation. -/
  | recConfig (m : Fin 16)
  /-- REC_STATUS (R374). Returns recorder wraps, fill and last checkpoint. -/
  | recStatus (m : Fin 16)
  /-- REC_CHECKPOINT (R486). Requests a checkpoint. -/
  | recCheckpoint (m : Fin 16)
  /-- REC_REPLAY_ENTER (R492). Checks a case file, loads its image, and enters REPLAY. -/
  | recReplayEnter (m : Fin 16)
  /-- REC_REPLAY_EXIT (R495). Returns from REPLAY to HOLD and sets REPLAYED. -/
  | recReplayExit (m : Fin 16)
  /-- UPD_ERASE (R378). Erases a flash image slot. -/
  | updErase (m : Fin 16) (ok : Bool)
  /-- UPD_WRITE (R378). Writes data into a flash slot. -/
  | updWrite (m : Fin 16) (ok : Bool)
  /-- UPD_VERIFY (R524). Verifies a slot's image and returns its version. -/
  | updVerify (m : Fin 16)
  /-- UPD_SET_BOOT (R525). Sets the preferred boot slot. -/
  | updSetBoot (m : Fin 16)
  /-- UPD_PATCH (R398). Verifies a signed patch and loads it in an UPDATE window. -/
  | updPatch (m : Fin 16)
  /-- LOCK_ACQUIRE (R380). A host lock acquire through Belfry as master 0x200 + i. -/
  | lockAcquire (m : Fin 16)
  /-- LOCK_ACQUIRE_TIMEOUT (R380). A LOCK_ACQUIRE not granted within TIMEOUT withdraws its ticket and answers TIMEOUT. -/
  | lockAcquireTimeout (m : Fin 16)
  /-- LOCK_TRYACQ (R380). A host TRYACQ. -/
  | lockTryacq (m : Fin 16)
  /-- LOCK_RELEASE (R380). A host lock release. -/
  | lockRelease (m : Fin 16)
  /-- LOCK_RELEASE_REPAIRED (R380). A host release that clears the ABANDONED mark. -/
  | lockReleaseRepaired (m : Fin 16)
  /-- LOCK_ATOMIC (R380). A host atomic operation. -/
  | lockAtomic (m : Fin 16)
  /-- ERR_READ (R381). Returns the oldest record in the instance's error queue. -/
  | errRead (m : Fin 16)
  /-- ERR_COUNTS (R549). Returns the per-severity record counts. -/
  | errCounts (m : Fin 16)
  /-- ERR_FAULTLOG_READ (R490). Reads 128 bytes of a fault-log slot. -/
  | errFaultlogRead (m : Fin 16)
  /-- MICROWORD_ROM (R393). The Supervisor executes one ROM microword and forms its next address. -/
  | microwordRom
  /-- MICROWORD_PATCH (R394). The Supervisor executes one patch microword in sequential format. -/
  | microwordPatch
  /-- MICROTIMER_EXPIRY (R393). The microtimer loaded by TIMER_LD expires and the TIMER condition becomes true. -/
  | microtimerExpiry
  /-- SQ_TAIL_DOORBELL (R429). A write to an SQ tail doorbell advances the tail, or is dropped and counted. -/
  | sqTailDoorbell (i : Fin 16) (q : Fin 8) (val : Word)
  /-- CQ_HEAD_DOORBELL (R429). A write to a CQ head doorbell frees entries, or is dropped and counted. -/
  | cqHeadDoorbell (i : Fin 16) (q : Fin 8) (val : Word)
  /-- SQ_ENTRY_READ (R425). A fetched SQ entry becomes a host cell, or is skipped as malformed. -/
  | sqEntryRead (i : Fin 16) (q : Fin 8) (entry payload : HostRead)
  /-- SQ_ERR_CLEAR (R433). Clearing ERR by W1C on an enabled SQ restarts it from HEAD. -/
  | sqErrClear (i : Fin 16) (q : Fin 8)
  /-- QUEUE_ENABLE (R424). Enabling a queue resets its head and tail, and the CQ phase to 1. -/
  | queueEnable (i : Fin 16) (cq : Bool) (q : Fin 8) (val : Word)
  /-- IN_IEN_WRITE (R431). Setting an enable for a cause that is already pending sends one MSI-X message. -/
  | inIenWrite (i : Fin 16) (val : Word)
  /-- IN_HINT_WRITE (R439). A tenant hints that blocks are idle, or withdraws the hint. -/
  | inHintWrite (i : Fin 16) (val : Word)
  /-- IN_CLAIM_WRITE (R440). The manager sets or clears privileged claims, counting hints ignored. -/
  | inClaimWrite (val : Word)
  /-- BLOCK_DOZE (R441). A block with no work, every share hinted idle and no claim dozes. -/
  | blockDoze (b : Fin 20)
  /-- BLOCK_WAKE (R441). A dozing block takes an item offered to it after its wake time. -/
  | blockWake (b : Fin 20)
  /-- VF_FLR (R412). A VF function-level reset starts an instance reset by the quota's method. -/
  | vfFlr (i : Fin 16)
  /-- PF_FLR (R412). A PF function-level reset is a device reset. -/
  | pfFlr
  /-- HOST_RESET (R534). PERST_N, hot reset or link down resets PCIe, tenants' attachment and I0's queues, without stopping the machine. -/
  | hostReset
  /-- ENC_EDGE (R78). An accepted A or B edge in QUAD mode updates the count, window flags and error bits. -/
  | encEdge (n : Fin 16) (a b : Bool)
  /-- ENC_Z_EDGE (R79). An accepted Z rising edge latches ZPOS and, with ZCELL, makes a cell. -/
  | encZEdge (n : Fin 16)
  /-- ENC_SAMPLE (R79). At a sample instant, the encoder makes a PERIODIC cell, clocking an SSI frame in SSI mode. -/
  | encSample (n : Fin 16) (ready : Bool) (bits : BitVec 32) (parity : Bool)
  /-- SSI_MONOFLOP_END (R81). The SSI frame and its monoflop time end, and the channel is ready for the next sample. -/
  | ssiMonoflopEnd (n : Fin 16)
  /-- OUTPUT_APPLY (R74). At A = REL + OUT_DLY, a released Tideway cell takes effect on its channel, or is refused as malformed. -/
  | outputApply
  /-- SD_SEGMENT_END (R84). A segment ends, the next starts, and SEG_DONE or EMPTY status cells are made. -/
  | sdSegmentEnd (n : Fin 8)
  /-- SPI_FRAME_END (R86). A frame ends, LDAC pulses, XFER bits make a cell, and any queued frame starts. -/
  | spiFrameEnd (n : Fin 8) (rx : Word)
  /-- ADC_SAMPLE (R86). At an ADC sample instant, CONVST pulses and a frame is clocked. -/
  | adcSample (n : Fin 8)
  /-- GPIO_EDGE (R88). A filtered GPIO change is seen by Gong, and a selected edge opens or joins a bank cell. -/
  | gpioEdge (b : Fin 6) (p : Fin 16) (level : Bool)
  /-- GPIO_COAL_CLOSE (R88). The coalescing window ends and the bank cell closes with STATE and CHANGED. -/
  | gpioCoalClose (b : Fin 6)
  /-- UART_RX_CHAR (R90). A received character enters the cell, and may close it, set OVERRUN or act as XON/XOFF. -/
  | uartRxChar (n : Fin 4) (ch : Byte) (parityErr framingErr brk : Bool)
  /-- UART_GAP_CLOSE (R90). An idle line for GAP character times closes the receive cell. -/
  | uartGapClose (n : Fin 5)
  /-- UART_CTS_CHANGE (R91). A change of CTS_N stops or resumes sending at a character boundary. -/
  | uartCtsChange (n : Fin 4) (deasserted : Bool)
  /-- PAR_STROBE_IN (R92). In IN_STROBE, the strobe latches a byte and the acknowledge pulse follows. -/
  | parStrobeIn (data : Byte)
  /-- PAR_ACK_IN (R92). In OUT_STROBE, the acknowledge with BUSY negated lets the next byte go. -/
  | parAckIn
  /-- PAR_ACK_TIMEOUT (R92). No acknowledge within ACK_TO discards the rest of the cell and makes an ACK_TIMEOUT cell. -/
  | parAckTimeout
  /-- PWM_PERIOD_BOUNDARY (R93). At a period boundary, pending PERIOD_NS and HIGH_NS take effect. -/
  | pwmPeriodBoundary (k : Fin 4)
  /-- GG_REARM (R97). A 1 in GG_REARM clears FIRED, lifts the entry's force, and may fire it again at once. -/
  | ggRearm (hi : Bool) (val : Word)
  /-- FRAME_RECEIVED (R111). A received Ethernet frame is offered as a DATA cell, or dropped and counted. -/
  | frameReceived (p : Fin 6) (frame : List Byte) (fcsOk : Bool)
  /-- LINK_UP (R110). A port links up at full duplex, or stays down on half duplex. -/
  | linkUp (p : Fin 6) (speed : Fin 4) (full : Bool)
  /-- LINK_DOWN (R149). A link-down discards buffered frames and counts them. -/
  | linkDown (p : Fin 6)
  /-- FRAME_TRANSMIT (R140). A queue's head frame starts when its transmission fits an open gate run, or is dropped. -/
  | frameTransmit (p : Fin 6) (q : Fin 8)
  /-- GATE_STATE_CHANGE (R139). The operational gate list moves to its next interval and gates open or close. -/
  | gateStateChange (p : Fin 6)
  /-- CONFIG_CHANGE (R138). A write of CONFIG_CHANGE checks the admin list and sets CONFIG_PENDING, or is refused. -/
  | configChange (p : Fin 6) (val : Word)
  /-- CONFIG_CHANGE_TIME (R139). At the change time, the admin list becomes operational and CONFIG_PENDING clears. -/
  | configChangeTime (g : Fin 38)
  /-- SG_CONFIG_CHANGE (R144). A write of a stream gate's CONFIG_CHANGE checks and schedules its list. -/
  | sgConfigChange (g : Fin 32)
  /-- FRER_RESET_TIMEOUT (R146). A recovery function's reset timeout passes and it returns to its reset state. -/
  | frerResetTimeout (r : Fin 64)
  /-- AVOCET_PASS (R134). Every AV_PERIOD, Avocet ages the learned stations of HARDWARE tables and stages removals. -/
  | avocetPass
  /-- SYNC_RECEIVED (R59). A valid Sync on the active domain drives the servo and the Timebase state machine. -/
  | syncReceived (domain : Byte) (offset : Int)
  /-- SYNC_LOSS (R61). Three Sync intervals without a valid Sync enter HOLD_SYNC and freeze TB_RATE. -/
  | syncLoss
  /-- REF_LOST (R62). Five missing reference periods switch the Timebase to the backup oscillator in HOLD_REF. -/
  | refLost
  /-- REF_RESTORED (R62). After 100 ms of reference without a missing period, the Timebase returns to the reference. -/
  | refRestored
  /-- PLL_LOCK (R70). The Timebase PLL locks on a present reference and the counter starts. -/
  | pllLock
  /-- TB_STEP (R60). Ohmyth steps the Timebase counter where the mode and the Weir allow. -/
  | tbStep (delta : Int)
  /-- TB_RATE_WRITE (R57). Ohmyth writes TB_RATE, clamped, from the next tick. -/
  | tbRateWrite (rate : Int)
  /-- DROOP (R66). A VDD_CORE excursion below 0.74 V counts in HL_DROOP_CNT. -/
  | droop
  /-- BROWN_OUT (R66). VDD_CORE below 0.70 V for 1 µs starts a brown-out device reset. -/
  | brownOut
  /-- HEARTBEAT_SEND (R446). Every 10 µs, the device sends a heartbeat frame. -/
  | heartbeatSend
  /-- HEARTBEAT (R458). A received heartbeat updates peer state, link delay and time alignment, and restarts the interval count. -/
  | heartbeat (hdr : FordHdr) (body : List Byte)
  /-- HEARTBEAT_MISSED (R462). A 10 µs interval ends without a valid heartbeat, and the takeover condition is checked. -/
  | heartbeatMissed
  /-- BATON_LINE_CHANGE (R448). A change on the partner's Baton line is seen. -/
  | batonLineChange (low : Bool)
  /-- BATON_SETTLE (R448). 1 µs after a claim, the device holds the Baton, or releases it at a tie. -/
  | batonSettle
  /-- KEEPER_REFRESH (R449). Every 10 µs, the keeper refreshes the watchdog while its conditions hold, or releases the line. -/
  | keeperRefresh
  /-- BATON_WATCHDOG_EXPIRY (R449). 50 µs without refresh releases the Baton line. -/
  | batonWatchdogExpiry
  /-- FORD_LINK_UP (R444). The Ford link trains with matching protocol versions. -/
  | fordLinkUp (delay : BitVec 16) (version : Byte)
  /-- FORD_LINK_DOWN (R444). Loss of block lock or eight unacknowledged transmissions take the link DOWN. -/
  | fordLinkDown
  /-- INGRESS (R453). An INGRESS frame delivers ingress records that the shadow's Intake offers. -/
  | ingress (hdr : FordHdr) (body : List Byte)
  /-- DECISION (R485). A DECISION frame delivers entries that sites wait for and enforce. -/
  | decision (hdr : FordHdr) (body : List Byte)
  /-- CONFIG (R453). A CONFIG frame delivers changes applied before the record of their tag. -/
  | config (hdr : FordHdr) (body : List Byte)
  /-- DIGEST (R461). A DIGEST record from the lead is compared with the shadow's closed window. -/
  | digest (hdr : FordHdr) (body : List Byte)
  /-- STATE (R468). A STATE frame delivers a state-image block during resynchronisation. -/
  | state (hdr : FordHdr) (body : List Byte)
  /-- CONTROL (R457). A CONTROL frame carries a detach, resynchronisation or handover step. -/
  | control (hdr : FordHdr) (msg : FordMsg)
  /-- APP (R447). An APP frame becomes a Ford DATA cell in LEAD or COMMISSION, or is discarded. -/
  | app (hdr : FordHdr) (body : List Byte)
  /-- GATE_LIMIT_DETACH (R457). A frame unacknowledged past GATE_US detaches the partner. -/
  | gateLimitDetach
  /-- DIGEST_WINDOW_CLOSE (R460). A digest window closes and COUNT and SUM are formed and sent or compared. -/
  | digestWindowClose
  /-- SYNC_CATCH_UP (R468). A SYNCING partner whose lag falls below 50 µs becomes SHADOW. -/
  | syncCatchUp
  /-- BITTERN_RECORD (R481). Once H passes a cell's GSEQ, Bittern writes its record at the stream's level, or a GAP. -/
  | bitternRecord
  /-- CHUNK_CLOSE (R480). A chunk is closed when full, or every 1 ms. -/
  | chunkClose
  /-- CHECKPOINT_PERIOD (R486). Every CKPT_S seconds, a checkpoint starts and the Intake stops at g0. -/
  | checkpointPeriod
  /-- CHECKPOINT_MARK (R486). When every cell before g0 completes, the mark is written, the copy starts and ingress resumes. -/
  | checkpointMark
  /-- CHECKPOINT_QUIESCE_TIMEOUT (R486). No mark within 25 µs abandons the attempt and resumes ingress. -/
  | checkpointQuiesceTimeout
  /-- CHECKPOINT_RETRY (R486). 1 ms after an abandoned attempt, the checkpoint is tried again. -/
  | checkpointRetry
  /-- CHECKPOINT_COPY_DONE (R487). The image copy completes and the slot becomes valid. -/
  | checkpointCopyDone
  /-- XFER_GO (R491). Setting BT_XFER.GO starts moving a recording between DRAM and an I0 queue. -/
  | xferGo (val : Word)
  /-- XFER_DONE (R491). A transfer ends and sets DONE, or ERR on a refusal. -/
  | xferDone
  /-- REPLAY_OFFER (R493). In REPLAY, the next INGRESS record is offered, paced or at once. -/
  | replayOffer
  /-- REPLAY_STUCK (R494). A site that waits 100 ms for its entry sets STUCK. -/
  | replayStuck
  /-- REPLAY_DONE (R495). After the last record, open cells complete and DONE is set. -/
  | replayDone
  /-- DRAIN_END (R503). A draining block's drain ends, it becomes WITHDRAWN, and DEV_WITHDRAW answers. -/
  | drainEnd (kind : Fin 7) (index : Nat)
  /-- DRAIN_BOUND_EXPIRY (R504). A drain still running at DRAIN_US is forced to its end. -/
  | drainBoundExpiry (kind : Fin 7) (index : Nat)
  /-- POWER_ON_RESET (R532). PORST_N low or a rail below its threshold resets the whole device. -/
  | powerOnReset (twinId : Bool)
  /-- SYSRST_N (R532). SYSRST_N low for 1 µs starts a device reset. -/
  | sysrstN
  /-- BOOT_START (R529). The Supervisor starts at microaddress 0 and reads fuses. -/
  | bootStart
  /-- IMAGE_VERIFIED (R525). The boot ROM verifies slots and boots the first valid image, or fails. -/
  | imageVerified
  /-- CONFIG_STORE_LOADED (R108). The configuration store loads, Tideway outputs take safe states and the Sluice starts. -/
  | configStoreLoaded (ok : Bool)
  /-- DRAM_TRAINED (R339). DRAM training completes, disabling any channel that failed. -/
  | dramTrained (fail0 fail1 : Bool)
  /-- DRAM_ZEROED (R340). Memories are zeroed with valid check bits. -/
  | dramZeroed
  /-- OHMYTH_START (R409). The image patch set loads, Ohmyth starts and READY sets. -/
  | ohmythStart
  /-- BOOT_END (R531). The retire mask and tables are applied, the first commit is made, and BOOT ends in its mode. -/
  | bootEnd
  /-- RECORD_MOVE (R549). Ohmyth moves a record from the collector to the error queues. -/
  | recordMove
  /-- SV_WATCHDOG_KICK (R554). The Supervisor writes 0x0000_5A5A to HL_SVWD to restart the watchdog. -/
  | svWatchdogKick (val : Word)
  /-- SV_WATCHDOG_EXPIRY (R554). 100 ms without a kick outside an UPDATE window makes a FATAL record. -/
  | svWatchdogExpiry
  /-- FATAL_ESCALATION (R555). DELAY_MS after a FATAL record with ESC_EN set, a device reset with cause 6 starts. -/
  | fatalEscalation
  /-- STREAK_CLEAR (R556). 600 s after BOOT without a FATAL record, STREAK returns to 0. -/
  | streakClear
  /-- SENSOR_SAMPLE (R582). Every 1 ms, the sensors and rail monitors are sampled and alarms set or re-armed. -/
  | sensorSample (x : Samples)
  /-- VIVERAM_REWRITE (R591). Ohmyth rewrites each Viveram granule at least every 30 days. -/
  | viveramRewrite (addr : Nat)
  /-- IDCODE (R584). The TAP selects the 32-bit IDCODE register. -/
  | idcode
  /-- SAMPLE_PRELOAD (R584). The TAP samples or preloads the boundary register. -/
  | samplePreload (pins preload : List Byte)
  /-- EXTEST (R585). The boundary register drives the pads, allowed only in BOOT or HOLD with OUT_EN low. -/
  | extest (boundary : List Byte)
  /-- HIGHZ (R585). Outputs go high-impedance, under the same condition. -/
  | highz
  /-- CLAMP (R585). Outputs are clamped from the boundary register, under the same condition. -/
  | clamp
  /-- BYPASS (R584). The 1-bit bypass register is selected. -/
  | bypass
  /-- FUSE_PROG (R586). Starts programming the key hash or DBG_OPEN, or sets FAIL. -/
  | fuseProg (vpp : Bool) (val : BitVec 272)
  /-- FUSE_PROG_DONE (R586). Fuse programming completes and BUSY clears. -/
  | fuseProgDone
  /-- FUSE_READ (R586). Reads KEYHASH, DEVID, DBG_OPEN and status. -/
  | fuseRead
  /-- DBG_UNLOCK (R587). Loads and checks a debug token. -/
  | dbgUnlock (token : List Byte)
  /-- DBG_ACCESS (R587). Reads or writes a device address when debug is permitted, or sets ERR. -/
  | dbgAccess (val : BitVec 80)
  /-- PCIE_LINK_UP (R534). The PCIe link trains after PERST_N rises, configuration requests are answered normally and READY returns. -/
  | pcieLinkUp (speed : Fin 4) (width : Fin 5)
  /-- PCIE_COMPLETION_TIMEOUT (R433). A host read for an SQ entry or an indirect payload reaches its completion timeout with no completion, and the SQ stops. -/
  | pcieCompletionTimeout (i : Fin 16) (q : Fin 8)
  /-- PCIE_CONFIG_WRITE (R411). A host configuration write sets Bus Master Enable, SR-IOV NumVFs, Device Control 2 or the MSI-X enables of a function. -/
  | pcieConfigWrite (fn : Fin 16) (cfg : PcieCfg)
  /-- PLL_LOCK_LOST (R69). The Timebase PLL loses lock while the reference is present, and the Timebase enters HOLD_REF on the backup oscillator. -/
  | pllLockLost
  /-- DEV_RESET_START (R532). 10 µs after DONE of a DEV_RESET command, the device reset starts. -/
  | devResetStart
  /-- UART_TX_CHAR_END (R91). A UART finishes sending one character, then sends the next byte from its FIFO or stops at that boundary under CTS or XOFF. -/
  | uartTxCharEnd (n : Fin 4)
  /-- PAR_BUSY_CHANGE (R92). In OUT_STROBE the BUSY input is negated, and the port sends the next byte once the acknowledge has also come. -/
  | parBusyChange (busy : Bool)
  deriving DecidableEq, Repr

end Sys2Proof
end

