-- ==== Sys2Proof/Decode.lean ====
section
/-! DEFINITION. Decoding of the opcode table's words. The block takes commands, and no row of
spec/opcode_table.json gives bits, so no word spells a command. The words of Egret, Carillon and the
Supervisor are read by their sequencers, in Sys2Proof/Machine. -/
namespace Sys2Proof

/-- The command that a word of the table spells: none. -/
def decodeTableWord (_nbits _w : Nat) : Option Instr := none

end Sys2Proof
end

