-- ==== Sys2Proof/Machine/Bits.lean ====
section
/-! DEFINITION. Bit fields, sign extension, modular order and byte order, used by every meaning
(spec/00 R3, R4; spec/01 R21, R31). -/
namespace Sys2Proof.Machine

/-- Field [lo + w - 1 : lo] of a number (R4). -/
def bitsOf (n lo w : Nat) : Nat := (n >>> lo) % 2 ^ w

/-- One bit of a number, as a Bool. -/
def bitAt (n i : Nat) : Bool := (n >>> i) % 2 == 1

/-- `n` with field [lo + w - 1 : lo] replaced by the low `w` bits of `v`. -/
def putBits (n lo w v : Nat) : Nat :=
  n - (bitsOf n lo w) * 2 ^ lo + (v % 2 ^ w) * 2 ^ lo

/-- `n` with the bits of `mask` replaced by those of `v`. -/
def putMask (n mask v : Nat) : Nat := (n - (n &&& mask)) + (v &&& mask)

/-- A Bool as one bit. -/
def b2n (b : Bool) : Nat := if b then 1 else 0

/-- The signed reading of the low `w` bits of `n`. -/
def signedOf (w n : Nat) : Int :=
  let m := n % 2 ^ w
  if m < 2 ^ (w - 1) then (m : Int) else (m : Int) - (2 ^ w : Nat)

/-- The `w`-bit two's complement code of an integer. -/
def wrapTo (w : Nat) (i : Int) : Nat := (i % ((2 ^ w : Nat) : Int)).toNat

/-- An integer limited to a range. -/
def clampInt (lo hi i : Int) : Int := if i < lo then lo else if hi < i then hi else i

/-- A number limited to a range. -/
def clampNat (lo hi n : Nat) : Nat := if n < lo then lo else if hi < n then hi else n

/-- GSEQ, TSTAMP and REL are kept modulo 2^48. -/
def mod48 (n : Nat) : Nat := n % 2 ^ 48

/-- (a - b) mod 2^48. -/
def sub48 (a b : Nat) : Nat := (a % 2 ^ 48 + 2 ^ 48 - b % 2 ^ 48) % 2 ^ 48

/-- R21: `a` is before `b` when (b - a) mod 2^48 lies in 1 to 2^47 - 1. -/
def before48 (a b : Nat) : Bool :=
  let d := sub48 b a
  1 ≤ d && d ≤ 2 ^ 47 - 1

/-- R21: order of the keys (GSEQ, SUB), GSEQ first. -/
def keyBefore (g₁ s₁ g₂ s₂ : Nat) : Bool :=
  before48 g₁ g₂ || (g₁ % 2 ^ 48 == g₂ % 2 ^ 48 && s₁ < s₂)

/-- R3: the `k` bytes of a number, least significant first. -/
def leBytes : Nat → Nat → List Byte
  | 0, _ => []
  | k + 1, n => BitVec.ofNat 8 n :: leBytes k (n / 256)

/-- R3: the number that a little-endian byte list holds. -/
def ofLe : List Byte → Nat
  | [] => 0
  | b :: bs => b.toNat + 256 * ofLe bs

/-- The `k` bytes of a number, most significant first (network order). -/
def beBytes (k n : Nat) : List Byte := (leBytes k n).reverse

/-- The number that a big-endian byte list holds. -/
def ofBe (l : List Byte) : Nat := ofLe l.reverse

/-- Bytes `off` to `off + k - 1` of a list, read as a little-endian number; absent bytes read 0. -/
def leAt (l : List Byte) (off k : Nat) : Nat := ofLe ((l.drop off).take k)

/-- Bytes `off` to `off + k - 1` of a list, read as a big-endian number. -/
def beAt (l : List Byte) (off k : Nat) : Nat := ofBe ((l.drop off).take k)

/-- A list cut or padded with zero bytes to a length. -/
def padTo (n : Nat) (l : List Byte) : List Byte := l.take n ++ List.replicate (n - l.length) 0

/-- `l` with `v` written at byte offset `off` where the list has those bytes. -/
def putAt (l : List Byte) (off : Nat) (v : List Byte) : List Byte :=
  l.take off ++ (v.take (l.length - off) ++ l.drop (off + v.length))

/-- `l` with element `i` replaced (nothing where `i` is past the end). -/
def setNth {α : Type} : List α → Nat → α → List α
  | [], _, _ => []
  | _ :: xs, 0, v => v :: xs
  | x :: xs, n + 1, v => x :: setNth xs n v

/-- The numbers below `n`, in rising order. -/
def upTo (n : Nat) : List Nat := List.range n

/-- Puts a number into a strictly rising list. -/
def insNat (a : Nat) : List Nat → List Nat
  | [] => [a]
  | b :: l => if a < b then a :: b :: l else if a = b then b :: l else b :: insNat a l

/-- The numbers of a list, each once, in rising order. -/
def rising (l : List Nat) : List Nat := l.foldr insNat []

/-- The lowest number below `n` that satisfies `p`. -/
def lowest (n : Nat) (p : Nat → Bool) : Option Nat := (List.range n).find? p

/-- How many bits of a number are set, over its low `w` bits. -/
def countOnes (w n : Nat) : Nat := ((List.range w).filter (bitAt n ·)).length

/-- A counter that stops at `m`. -/
def satAdd (m a b : Nat) : Nat := min m (a + b)

/-- `n` rounded up to a multiple of `k`. -/
def roundUp (k n : Nat) : Nat := (n + k - 1) / k * k

end Sys2Proof.Machine
end

