-- ==== Sys2Proof/Machine/Checks.lean ====
section
/-! DEFINITION. The CRCs of R247 and the Ethernet frame check sequence. -/
namespace Sys2Proof.Machine

/-- One bit of a reflected CRC. -/
def crcBitR (poly c : Nat) : Nat := if c % 2 = 1 then (c / 2) ^^^ poly else c / 2

/-- `n` bits of a reflected CRC. -/
def crcBitsR (poly : Nat) : Nat → Nat → Nat
  | 0, c => c
  | n + 1, c => crcBitsR poly n (crcBitR poly c)

/-- Bytes through a reflected CRC register. -/
def crcR (poly c : Nat) (l : List Byte) : Nat := l.foldl (fun c b => crcBitsR poly 8 (c ^^^ b.toNat)) c

/-- `n` bits of a 16-bit CRC that is not reflected. -/
def crcBitsL (poly : Nat) : Nat → Nat → Nat
  | 0, c => c
  | n + 1, c => crcBitsL poly n (if bitAt c 15 then ((2 * c) % 0x10000) ^^^ poly else (2 * c) % 0x10000)

/-- Bytes through a 16-bit CRC register that is not reflected. -/
def crcL (poly c : Nat) (l : List Byte) : Nat := l.foldl (fun c b => crcBitsL poly 8 (c ^^^ (b.toNat * 256))) c

/-- R247, OP 0: CRC-32; `seed` is a CRC to continue from. -/
def crc32From (seed : Nat) (l : List Byte) : Nat := crcR 0xEDB88320 (seed ^^^ 0xFFFFFFFF) l ^^^ 0xFFFFFFFF

/-- CRC-32 of a byte list. -/
def crc32 (l : List Byte) : Nat := crc32From 0 l

/-- R247, OP 1: CRC-16/CCITT-FALSE. -/
def crcCcitt (seed : Nat) (l : List Byte) : Nat := crcL 0x1021 seed l

/-- R247, OP 2: CRC-16/MODBUS. -/
def crcModbus (seed : Nat) (l : List Byte) : Nat := crcR 0xA001 seed l

end Sys2Proof.Machine
end

