-- ==== Sys2Proof/Config.lean ====
section
/-! DEFINITION. The values that the specification leaves open. Each is an opaque constant: nothing in
Lean can evaluate it, so a statement about the model holds for every value it may have. The argument
`n` of a fresh value is the model's own counter `State.fresh`. -/
namespace Sys2Proof.Config

/-- R75, Table 3.4: a released cell's transit to the pin stage; taken modulo 131 and added to the
minimum of 20 ns, so that it lies in 20 to 150 ns. -/
opaque weirTransit : Nat → Nat
/-- R78: the count of an encoder after OVERSPEED "may be wrong". -/
opaque overspeedCount : Nat → BitVec 32
/-- R17: where a payload is placed in the packet buffer (PBUF). -/
opaque pbufPlace : Nat → BitVec 17
/-- R62: the forward phase step, 0 to 2 ns, at the change to the backup oscillator; taken modulo 3. -/
opaque phaseStep : Nat → Nat
/-- R329: the SYN code of an error; the check-bit assignment is not given. -/
opaque eccSyndrome : Nat → BitVec 8
/-- R333, R335: the SYN code of the poison pattern, the same for every granule. -/
opaque poisonSyndrome : BitVec 8
/-- R90: the CLOSE code of a receive cell that a parity or framing error closes; Table 3.2 lists none. -/
opaque errorClose : Nat → BitVec 8
/-- R61: where the mean of the last 16 rates lies midway between two values of TB_RATE, whether it is rounded up (true) or
down. -/
opaque meanRoundsUp : Nat → Bool
/-- R62: the backup oscillator's rate in HOLD_REF in TB_RATE units; limited to 20 ppm. -/
opaque backupRate : Nat → Int

/-- R345: the second byte of a two-byte load at a Belfry operation port, which the specification does not give. -/
opaque wideBelfry : Nat → BitVec 8

/-- R257: whether MIN (false) or MAX (true) of two floating-point patterns, where a single one is NaN, gives the other
operand (true) or the NaN; and where they are zeros of unlike sign, the first (true) or the second. -/
opaque fpMinMax : Bool → BitVec 64 → BitVec 64 → Bool
/-- Table 8.2, MFS: what a selector of 5 to 63, or LANE for a u destination, reads. -/
opaque mfsOther : Nat → BitVec 32

/-- R587: the DEVID that is fused at manufacture; it is never 0. -/
opaque devIdRaw : Nat
/-- DEVID. -/
def devId : Nat := devIdRaw % (2 ^ 64 - 1) + 1
/-- R392: bits [103:0] of the control ROM's word at a microaddress; its contents are not given. -/
opaque romWord : Nat → BitVec 104
/-- R582: HL_PWR, an estimate with an error of 15 %. -/
opaque powerEstimate : Nat → BitVec 16

/-- R369: the bytes that a repeat of the SEQ after reset writes, there being no response to send again. -/
opaque noResponse : Nat → List Byte

/-- R457, R466, R468: the body of a CONTROL frame, whose encoding is not given. -/
opaque controlBytes : FordMsg → List Byte
/-- R491: whether BT_XFER.DIR 1 is export (true) or import. -/
opaque xferDirExport : Bool

/-- R416, R417: the fields of I0's USAGE that Table 13.5 gives no meaning for the pool: its ranges, regions and limits. -/
opaque poolUsage : Nat → BitVec 512

/-- R229: the slot at which a core's round stands when a context of the core becomes runnable after none was. -/
opaque idleSlot : Nat → Nat

/-- R360: the operands of a host's atomic that a followed decision log names; Table 15.3 does not hold them. -/
opaque hostOperand : Nat → BitVec 64

/-- Table 11.10, Table 18.2: the STAT of a Tideway channel that has no status register. -/
opaque tidewayStat : Nat → BitVec 32

/-- Table 11.13: what the byte at a flash address holds after an erase or a program that failed there. -/
opaque flashFailed : Nat → Nat → Byte

/-- R399: the microaddress of the loader, in the protected range. -/
opaque loaderEntry : Nat

/-- Table 12.1: what the flags C and V become where the specification does not say it: by ALUOP, A, B, the old C and whether it
is V. -/
opaque supFlag : Nat → Nat → Nat → Bool → Bool → Bool
/-- Table 12.1: a shift by 32 or more, by ALUOP, A and B. -/
opaque supShift : Nat → Nat → Nat → Word
/-- Table 12.1: what RD gets from a load that is refused or meets an uncorrectable error. -/
opaque supLoad : Nat → Word
/-- R393: whether a microword's next address is formed from the conditions and D as that same word leaves them (true), or as it
found them. -/
opaque microAfter : Bool
/-- R20: whether the configuration store assigns a handler to a stream. -/
opaque hasHandler : Nat → Bool
/-- R20: the payloads of the cells that Ohmyth's handler originates for a cell it is handed; what handlers do is not given. -/
opaque handlerCells : Nat → List (List Byte)

/-- R148: a gPTP message of a type as Ohmyth composes it on a port, but for the fields that the model fills. -/
opaque gptpFrame : Nat → Nat → Nat → List Byte
/-- R148: the gPTP messages that are due on a port when Ohmyth's timed tasks run: message type and whether it is for the
monitored domain. -/
opaque gptpDue : Nat → Nat → List (Nat × Bool)
/-- R148: the role that the best master clock algorithm gives a port, from the Announce messages last received on the ports. -/
opaque bestMaster : Bool → List (List Byte) → Nat → Fin 4

/-- R594: the bits that a programming which was cut short has programmed. -/
opaque fuseCut : Nat → BitVec 256
/-- R595: HL_TJ.HOTTEST while no sensor is valid. -/
opaque hottestNone : Nat → BitVec 3

end Sys2Proof.Config
end

