-- ==== Sys2Proof/Machine/RegTable.lean ====
section
/-! DEFINITION. The register tables of spec/: every register's offset in PF BAR0 (or in the
instance block), its fields, access codes, reset values and change classes (R5 to R16, R598). -/
namespace Sys2Proof.Machine

/-- Table 0.3: access codes. -/
inductive Acc
  | ro | rw | wo | w1c | rc
  deriving DecidableEq, Repr

/-- Table 0.4: change classes; `none` for fields that no write reaches. -/
inductive Cls
  | none | live | staged | held
  deriving DecidableEq, Repr

/-- One field: bits [lo + w - 1 : lo], access, reset value, class, and the value that R598 makes of a
written one. -/
structure RegField where
  lo : Nat
  w : Nat
  acc : Acc
  reset : Nat := 0
  cls : Cls := .none
  norm : Nat → Nat := id

/-- A register, or `count` like registers `stride` apart. -/
structure RegDesc where
  base : Nat
  fields : List RegField
  stride : Nat := 4
  count : Nat := 1

/-- A read-only field. -/
def fRO (lo w : Nat) (reset : Nat := 0) : RegField := { lo, w, acc := .ro, reset }
/-- A class L field. -/
def fL (lo w : Nat) (reset : Nat := 0) (norm : Nat → Nat := id) : RegField :=
  { lo, w, acc := .rw, reset, cls := .live, norm }
/-- A class S field. -/
def fS (lo w : Nat) (reset : Nat := 0) (norm : Nat → Nat := id) : RegField :=
  { lo, w, acc := .rw, reset, cls := .staged, norm }
/-- A class H field. -/
def fH (lo w : Nat) (reset : Nat := 0) (norm : Nat → Nat := id) : RegField :=
  { lo, w, acc := .rw, reset, cls := .held, norm }
/-- A write-one-to-clear field. -/
def fW1C (lo w : Nat) : RegField := { lo, w, acc := .w1c }
/-- A read-to-clear field. -/
def fRC (lo w : Nat) (reset : Nat := 0) : RegField := { lo, w, acc := .rc, reset }
/-- A write-only field. -/
def fWO (lo w : Nat) : RegField := { lo, w, acc := .wo }

/-- A register whose 32 bits are one read-only value. -/
def dRO (base : Nat) : RegDesc := { base, fields := [fRO 0 32] }
/-- `count` saturating 32-bit event counters. -/
def dCnt (base : Nat) (count : Nat := 1) : RegDesc := { base, fields := [fRC 0 32], count }

/-- The key of offset `off` in the view of function `i`; the PF's keys are its BAR0 offsets. -/
def viewKey (i off : Nat) : Nat := i * 0x01000000 + off

/-- The key of a register of instance `i`'s own block (Table 13.3). -/
abbrev instKey (i off : Nat) : Nat := viewKey i off

/-- spec/01: the Weir's registers. -/
def weirRegs : List RegDesc := [
  dRO 0x00120000, { base := 0x00120004, fields := [fRO 0 16] },
  { base := 0x00120008, fields := [fRO 0 15, fRC 16 15] },
  dCnt 0x00120010 9]

/-- spec/02: the Timebase and the margin monitor. -/
def timebaseRegs : List RegDesc := [
  dRO 0x00130000, dRO 0x00130004,
  { base := 0x00130008, fields := [fRO 0 3, fRO 3 1, fRO 4 1, fRO 5 1, fRO 6 1, fRO 8 8, fRO 16 8] },
  { base := 0x0013000C, fields := [fW1C 0 1, fW1C 1 1, fW1C 2 1, fW1C 3 1, fW1C 4 1] },
  dRO 0x00130010, dRO 0x00130014, dRO 0x00130018, dRO 0x0013001C,
  { base := 0x00130020, fields := [fL 0 1 1, fL 1 1, fL 2 1, fL 16 12] },
  { base := 0x00130024, fields := [fL 0 24 50000] },
  { base := 0x00130028, fields := [fRO 0 32] },
  { base := 0x0013002C, fields := [fRO 0 12, fRO 12 4] },
  dCnt 0x00130030]

/-- spec/13: the queue registers of one instance block, SQs then CQs. -/
def queueRegs : List RegDesc := [
  { base := 0x0000, stride := 0x40, count := 16, fields := [fH 6 26] },
  { base := 0x0004, stride := 0x40, count := 16, fields := [fH 0 32] },
  { base := 0x0008, stride := 0x40, count := 16, fields := [fH 0 4 4 (clampNat 4 12)] },
  { base := 0x000C, stride := 0x40, count := 8, fields := [fL 0 1] },
  { base := 0x020C, stride := 0x40, count := 8, fields := [fL 0 1, fL 1 1] },
  { base := 0x0010, stride := 0x40, count := 16, fields := [fRO 0 12] },
  { base := 0x0014, stride := 0x40, count := 8, fields := [fW1C 0 1] },
  { base := 0x0218, stride := 0x40, count := 8, fields := [fH 6 26] },
  { base := 0x021C, stride := 0x40, count := 8, fields := [fH 0 32] },
  { base := 0x0220, stride := 0x40, count := 8, fields := [fH 0 5 12 (clampNat 12 24)] },
  { base := 0x1000, stride := 4, count := 16, fields := [fWO 0 12] }]

/-- spec/13: the mailbox, interrupt, status and counter registers of one instance block. -/
def instanceRegs : List RegDesc := [
  { base := 0x3000, fields := [fW1C 0 19] },
  { base := 0x3004, fields := [fL 0 19] },
  { base := 0x3008, fields := [fRO 0 2, fRO 2 1] },
  { base := 0x300C, fields := [fRO 0 3, fRO 3 1] },
  { base := 0x3010, fields := [fW1C 0 1, fW1C 1 1] },
  dCnt 0x4000 7,
  dRO 0x4020, { base := 0x4024, fields := [fRO 0 16] },
  dRO 0x4028, { base := 0x402C, fields := [fRO 0 16] },
  { base := 0x5000, fields := [fL 0 6, fL 8 8, fL 16 4] }]

/-- spec/13: IN_IVEC, four 6-bit vectors to a register, vector k for cause k at reset. -/
def ivecRegs : List RegDesc :=
  (List.range 8).map fun r =>
    { base := 0x3040 + 4 * r,
      fields := [fL 0 6 (4 * r), fL 8 6 (4 * r + 1), fL 16 6 (4 * r + 2), fL 24 6 (4 * r + 3)] }

/-- spec/11: a mailbox block at `base` (R364). -/
def mailboxRegs (base : Nat) : List RegDesc := [
  { base := base + 0x200, fields := [fWO 0 8] },
  { base := base + 0x204, fields := [fRO 0 1, fRO 1 1, fW1C 2 1, fRO 3 1, fRO 4 1, fW1C 5 1,
      fW1C 6 1, fRO 8 8] },
  { base := base + 0x208, fields := [fL 0 1] },
  dCnt (base + 0x20C)]

/-- spec/13: the privileged instance registers and the PCIe registers. -/
def privInstRegs : List RegDesc := [
  { base := 0x00380000, count := 16, fields := [fRO 0 2, fRO 2 1] },
  { base := 0x00380040, fields := [fL 0 6 0x3F, fL 8 8 0xFF, fL 16 4 0xF] },
  dCnt 0x00380050,
  { base := 0x00390000, fields := [fRO 0 2, fRO 4 3] },
  { base := 0x00390004, fields := [fW1C 0 1, fW1C 1 1] },
  dCnt 0x00390010]

/-- An MSI-X table of `n` entries at `base`: message address low and high, data, and vector control
(PRESUMED: the layout and the reset mask of the PCI Express Base Specification). -/
def msixRegs (base n : Nat) : List RegDesc := [
  { base := base, stride := 16, count := n, fields := [fL 2 30] },
  { base := base + 4, stride := 16, count := n, fields := [fL 0 32] },
  { base := base + 8, stride := 16, count := n, fields := [fL 0 32] },
  { base := base + 12, stride := 16, count := n, fields := [fL 0 1 1] },
  { base := base + 0x1000, count := (n + 31) / 32, fields := [fRO 0 (min n 32)] }]

/-- spec/15: Bittern and Viveram. -/
def bitternRegs : List RegDesc := [
  { base := 0x003B0000, fields := [fL 0 1, fL 8 8, fL 16 2 2 (fun n => min n 2)] },
  { base := 0x003B0004, fields := [fH 20 12] },
  { base := 0x003B0008, fields := [fH 0 32] },
  { base := 0x003B000C, fields := [fH 0 13 64 (clampNat 64 4096)] },
  { base := 0x003B0010, fields := [fRO 0 2, fRO 2 1, fRO 3 1, fRO 4 1, fRO 5 1] },
  { base := 0x003B0014, fields := [fW1C 0 10] },
  dRO 0x003B0020, { base := 0x003B0024, fields := [fRO 0 16] },
  dRO 0x003B0030, { base := 0x003B0034, fields := [fRO 0 16] },
  { base := 0x003B0100, stride := 8, count := 16, fields := [fH 0 28] },
  { base := 0x003B0104, stride := 8, count := 16, fields := [fH 0 17] },
  { base := 0x003B0080, fields := [fH 0 1, fRO 1 1, fRO 2 1] },
  dRO 0x003B0084, { base := 0x003B0088, fields := [fRO 0 16] }, dRO 0x003B008C,
  { base := 0x003B00A0, fields := [fL 0 1, fL 1 1, fL 2 3, fRO 5 1, fW1C 6 1] },
  { base := 0x003B00A4, fields := [fL 0 32] }, { base := 0x003B00A8, fields := [fL 0 32] },
  { base := 0x003B00AC, fields := [fL 0 32] },
  dCnt 0x003B00C0 5]

/-- VV_START.START: values other than 1 and 2 act as 5 (R598). -/
def normStart (n : Nat) : Nat := if n = 1 || n = 2 then n else 5

/-- spec/15 and spec/17: Viveram, its indices and the boot record. -/
def viveramRegs : List RegDesc := [
  { base := 0x003C0100, fields := [fL 0 1] },
  { base := 0x003C0104, fields := [fL 0 3 5 normStart, fL 4 2 1 (min 2)] },
  { base := 0x003C0108, fields := [fL 0 6, fL 8 8, fL 16 4, fL 24 6] },
  { base := 0x003C010C, fields := [fL 0 32] },
  { base := 0x003C0110, fields := [fL 0 6, fL 8 4, fL 12 1, fL 16 4] },
  { base := 0x003C0114, fields := [fL 0 16] },
  { base := 0x003C0118, fields := [fL 0 32] },
  { base := 0x003C0000, fields := [fL 0 2 1 (fun n => if n = 3 then 1 else n)] },
  { base := 0x003C0004, fields := [fRO 0 17] },
  { base := 0x003C0008, fields := [fRO 0 8, fRO 8 8] },
  dRO 0x003C000C]

/-- spec/18: the error registers. -/
def errorRegs : List RegDesc := [
  { base := 0x003D0200, fields := [fL 0 1 1, fL 1 10 10 (fun n => min n 1000), fL 16 1, fL 20 4 4] },
  { base := 0x003D0204, fields := [fRO 0 3, fRO 4 4, fRO 8 1, fRO 9 1] },
  { base := 0x003D0208, fields := [fWO 0 32] },
  dCnt 0x003D0210 5]

/-- spec/12 and spec/17: the Supervisor. -/
def supervisorRegs : List RegDesc := [
  { base := 0x00370000, fields := [fRO 0 32 0x4E503438] },
  { base := 0x00370004, fields := [fRO 0 1, fRO 1 1, fRO 2 1, fRO 8 6] },
  { base := 0x00370008, fields := [fRO 0 32 0xA0000001] }, dRO 0x0037000C,
  { base := 0x00370010, fields := [fW1C 0 1, fW1C 1 1, fW1C 2 1] },
  { base := 0x00370014, fields := [fRO 0 14, fRO 14 1, fRO 16 4] },
  dCnt 0x00370018,
  { base := 0x0037001C, fields := (List.range 6).map fun i => fRO i 1 },
  { base := 0x00370020, fields := [fRO 0 3, fRO 3 1] },
  { base := 0x00370024, fields := [fRO 0 4] }, dCnt 0x00370028,
  { base := 0x00370040, count := 32, fields := [fRO 0 14, fRO 16 9, fRO 31 1] }]

/-- spec/19: the health monitors. -/
def healthRegs : List RegDesc := [
  { base := 0x003D0000, fields := [fRO 0 16, fRO 16 8, fRO 24 3] },
  { base := 0x003D0004, fields := [fRC 0 16 0x8000] },
  { base := 0x003D0008, fields := [fRO 0 12] },
  { base := 0x003D000C, fields := [fRC 0 12 0xFFF] },
  { base := 0x003D0010, count := 2, fields := [fRO 0 16, fRO 16 16] },
  { base := 0x003D0018, fields := [fL 0 8 100, fL 8 8 115 (clampNat 105 125)] },
  { base := 0x003D001C, fields := (List.range 8).map (fun i => fW1C i 1) ++ [fRO 16 8] },
  dCnt 0x003D0020, { base := 0x003D0024, fields := [fRO 0 16] }, dRO 0x003D0028, dRO 0x003D002C]

/-- A period under R79: 0 stops sampling, 1 to 999 are taken as 1000. -/
def normPeriod (n : Nat) : Nat := if n = 0 then 0 else max n 1000
/-- A value of 0 taken as `d`. -/
def zeroAs (d n : Nat) : Nat := if n = 0 then d else n

/-- spec/03: Tideway. -/
def tidewayRegs : List RegDesc := [
  { base := 0x00140000, fields := [fH 0 10 200 (max 150)] },
  { base := 0x00140004, fields := [fW1C 0 1, fW1C 1 1, fW1C 2 1, fW1C 3 1, fW1C 4 1, fW1C 5 1, fW1C 6 1] },
  dCnt 0x00140010 4,
  -- encoders
  { base := 0x00140100, stride := 0x20, count := 16,
    fields := [fH 0 2, fL 2 1, fL 3 1, fH 4 1, fH 5 1, fH 6 5 0 (max 7), fL 11 8,
      fH 19 8 0 (zeroAs 1), fH 27 1] },
  { base := 0x00140104, stride := 0x20, count := 16, fields := [fH 0 32 0 normPeriod] },
  { base := 0x00140108, stride := 0x20, count := 16, fields := [fH 0 32] },
  { base := 0x0014010C, stride := 0x20, count := 16, fields := [fL 0 32 0x80000000] },
  { base := 0x00140110, stride := 0x20, count := 16, fields := [fL 0 32 0x7FFFFFFF] },
  { base := 0x00140114, stride := 0x20, count := 16, fields := [fRO 0 32] },
  -- step/direction
  { base := 0x00140300, stride := 0x10, count := 8,
    fields := [fH 0 1, fH 1 1, fL 2 1, fH 3 8 0 (zeroAs 5), fH 11 8, fH 19 1] },
  { base := 0x00140304, stride := 0x10, count := 8, fields := [fRO 0 32] },
  { base := 0x00140308, stride := 0x10, count := 8, fields := [fRO 0 4, fRO 4 1, fRO 5 1] },
  -- SPI converters
  { base := 0x00140400, stride := 0x20, count := 8,
    fields := [fH 0 2, fH 2 2, fH 4 5 0 (max 7), fH 9 8 0 (max 10), fH 17 2, fH 19 1, fH 20 8] },
  { base := 0x00140404, stride := 0x20, count := 8, fields := [fH 0 16, fH 16 8] },
  { base := 0x00140408, stride := 0x20, count := 8, fields := [fH 0 32 0 normPeriod] },
  { base := 0x0014040C, stride := 0x20, count := 8, fields := [fH 0 32] },
  { base := 0x00140410, stride := 0x20, count := 8, fields := [fL 0 32] },
  -- GPIO banks
  { base := 0x00140500, stride := 0x20, count := 6, fields := [fH 0 16, fH 16 16] },
  { base := 0x00140504, stride := 0x20, count := 6, fields := [fL 0 32] },
  { base := 0x00140508, stride := 0x20, count := 6, fields := [fH 0 32 0xAAAAAAAA] },
  { base := 0x0014050C, stride := 0x20, count := 6, fields := [fL 0 8, fL 8 2, fL 10 8] },
  { base := 0x00140510, stride := 0x20, count := 6, fields := [fRO 0 16, fRO 16 16] },
  { base := 0x00140514, stride := 0x20, count := 6, fields := [fRO 0 16, fRO 16 16] },
  -- UARTs
  { base := 0x00140600, stride := 0x10, count := 4, fields := [fH 0 1, fH 1 1, fH 2 2, fH 4 1, fH 5 2] },
  { base := 0x00140604, stride := 0x10, count := 4, fields := [fH 0 26 0x00021E89 (max 17360)] },
  { base := 0x00140608, stride := 0x10, count := 4, fields := [fL 0 8, fL 8 8 2, fL 16 8, fL 24 1] },
  -- parallel port and PWM
  { base := 0x00140700, fields := [fH 0 2, fH 2 1, fH 3 1, fL 4 1, fH 8 8] },
  { base := 0x00140704,
    fields := [fH 0 8 0 (zeroAs 1), fH 8 8 0 (zeroAs 1), fH 16 8 0 (zeroAs 1), fH 24 8 0 (zeroAs 1)] },
  { base := 0x00140708, fields := [fL 0 8, fL 8 8 2, fL 16 8, fL 24 1] },
  { base := 0x00140780, count := 4, fields := [fH 0 1, fH 1 1, fH 2 1] }]

/-- spec/03: Gong, its 64 entries of Table 3.6 included. -/
def gongRegs : List RegDesc := [
  { base := 0x00150000, fields := [fL 0 1] },
  dRO 0x00150004, dRO 0x00150008,
  { base := 0x0015000C, count := 2, fields := [fWO 0 32] },
  dCnt 0x00150014 2] ++
  (List.range 8).map (fun j => { base := 0x00151000 + 4 * j, stride := 0x40, count := 64, fields := [fH 0 32] }) ++
  [{ base := 0x00151020, stride := 0x40, count := 64, fields := [fH 0 6] },
   { base := 0x00151024, stride := 0x40, count := 64, fields := [fH 0 32] },
   { base := 0x00151028, stride := 0x40, count := 64, fields := [fL 0 1] }]

/-- spec/16: withdrawal. -/
def withdrawRegs : List RegDesc := [
  { base := 0x003D0100, fields := [fL 0 16 1000 (clampNat 10 50000)] },
  { base := 0x003D0104, fields := [fRO 0 1, fRO 1 2, fRO 3 3, fRO 16 16] },
  { base := 0x003D0108, fields := [fRO 0 6, fRO 8 8, fRO 16 4, fRO 24 6] },
  dRO 0x003D010C,
  { base := 0x003D0110, fields := [fRO 0 6, fRO 8 4, fRO 12 1, fRO 16 4] },
  { base := 0x003D0114, fields := [fRO 0 3, fRO 16 16] }, dRO 0x003D0118,
  dCnt 0x003D0120 2]

/-- spec/04: Ethernet ports, learning, Avocet, Qci. -/
def ethernetRegs : List RegDesc := [
  { base := 0x00160000, stride := 0x100, count := 6, fields := [fH 0 1, fL 1 1, fL 2 1, fL 4 12 1, fL 16 3] },
  { base := 0x00160004, stride := 0x100, count := 6, fields := [fRO 0 1, fRO 1 1, fRO 2 2] },
  { base := 0x00160008, stride := 0x100, count := 6, fields := [fS 0 12] },
  { base := 0x0016000C, stride := 0x100, count := 6, fields := [fL 0 10 0x3FF] },
  { base := 0x00160010, stride := 0x100, count := 6, fields := [fL 0 16] },
  { base := 0x00160020, stride := 0x100, count := 6, fields := [fRO 0 32] },
  { base := 0x00160024, stride := 0x100, count := 6, fields := [fRO 0 16] },
  { base := 0x00160028, stride := 0x100, count := 6, fields := [fRO 0 32] },
  { base := 0x0016002C, stride := 0x100, count := 6, fields := [fRO 0 16] },
  { base := 0x00160030, stride := 0x100, count := 6, fields := [fRO 0 32] },
  { base := 0x00160034, stride := 0x100, count := 6, fields := [fRO 0 16] },
  { base := 0x00160038, stride := 0x100, count := 6, fields := [fRO 0 32] },
  { base := 0x0016003C, stride := 0x100, count := 6, fields := [fRO 0 16] },
  { base := 0x00160040, stride := 0x100, count := 6, fields := [fRC 0 32] },
  { base := 0x00160044, stride := 0x100, count := 6, fields := [fRC 0 32] },
  { base := 0x00160048, stride := 0x100, count := 6, fields := [fRC 0 32] },
  { base := 0x0016004C, stride := 0x100, count := 6, fields := [fRC 0 32] },
  { base := 0x00160050, stride := 0x100, count := 6, fields := [fRC 0 32] },
  { base := 0x00160060, stride := 0x100, count := 6, fields := [fL 0 1, fWO 1 1, fRO 8 1] },
  { base := 0x00160064, stride := 0x100, count := 6, fields := [fL 0 32] },
  { base := 0x00160068, stride := 0x100, count := 6, fields := [fL 0 32] },
  { base := 0x0016006C, stride := 0x100, count := 6, fields := [fL 0 32 1000000] },
  { base := 0x00160070, stride := 0x100, count := 6, fields := [fL 0 32] },
  { base := 0x00160074, stride := 0x100, count := 6, fields := [fL 0 32 1] }] ++
  (List.range 8).map (fun q =>
    { base := 0x00160080 + 4 * q, stride := 0x100, count := 6, fields := [fH 0 8 16 (clampNat 1 128)] }) ++ [
  { base := 0x00160800, fields := [fW1C 0 1, fW1C 1 1, fW1C 2 1] },
  dCnt 0x00160810 4,
  { base := 0x00160900, fields := [fL 0 1, fH 1 3, fH 4 1, fH 5 3, fH 8 1, fL 16 10 100 (clampNat 10 1000)] },
  { base := 0x00160904, fields := [fS 0 12, fS 16 8] },
  dCnt 0x00160910 6,
  { base := 0x00188000, fields := [fL 0 1, fL 1 1, fL 2 1] },
  { base := 0x00188004, fields := [fL 0 12 300 (clampNat 1 3600)] },
  dCnt 0x00188008,
  -- gate lists of the ports, 256 entries of two words each
  { base := 0x00164000, stride := 8, count := 1536, fields := [fL 0 8] },
  { base := 0x00164004, stride := 8, count := 1536, fields := [fL 0 32] },
  -- Qci: stream filters, stream gate lists, flow meters, stream gate registers
  { base := 0x00168000, stride := 8, count := 128, fields := [fS 0 16, fS 16 8, fS 24 8] },
  { base := 0x00168004, stride := 8, count := 128, fields := [fS 0 8] },
  { base := 0x00169000, stride := 8, count := 2048, fields := [fL 0 8] },
  { base := 0x00169004, stride := 8, count := 2048, fields := [fL 0 32] },
  { base := 0x0016D000, stride := 32, count := 128, fields := [fS 0 32] },
  { base := 0x0016D004, stride := 32, count := 128, fields := [fS 0 32] },
  { base := 0x0016D008, stride := 32, count := 128, fields := [fS 0 32] },
  { base := 0x0016D00C, stride := 32, count := 128, fields := [fS 0 32] },
  { base := 0x0016D010, stride := 32, count := 128, fields := [fS 0 8, fS 8 8, fS 16 8] },
  { base := 0x0016E000, stride := 0x20, count := 32, fields := [fWO 0 1, fRO 8 1] },
  { base := 0x0016E004, stride := 0x20, count := 32, fields := [fL 0 32] },
  { base := 0x0016E008, stride := 0x20, count := 32, fields := [fL 0 32] },
  { base := 0x0016E00C, stride := 0x20, count := 32, fields := [fL 0 32 1000000] },
  { base := 0x0016E010, stride := 0x20, count := 32, fields := [fL 0 32] },
  { base := 0x0016E014, stride := 0x20, count := 32, fields := [fL 0 32 1] },
  { base := 0x0016E018, stride := 0x20, count := 32, fields := [fL 0 1 1] }]

/-- The read-only windows of the Stream, Station and Action Tables, the parse store and Shoal. -/
def tableWindows : List RegDesc := [
  { base := 0x00170000, count := 16384, fields := [fRO 0 32] },
  { base := 0x00180000, count := 4096, fields := [fRO 0 32] },
  { base := 0x00190000, count := 16384, fields := [fRO 0 32] },
  { base := 0x001A4000, count := 4096, fields := [fRO 0 32] },
  { base := 0x001C0000, count := 65536, fields := [fRO 0 32] }]

/-- spec/14: the Ford link and the Baton. -/
def fordRegs : List RegDesc := [
  { base := 0x003A0000, fields := [fL 0 1, fL 1 1, fH 8 5 16 (clampNat 10 24), fL 16 7 20 (clampNat 5 100)] },
  { base := 0x003A0004, fields := [fRO 0 3, fRO 3 3, fRO 6 2, fRO 8 1, fRO 9 1, fRO 10 1, fRO 11 1, fRO 12 1, fRO 13 1] },
  { base := 0x003A0008, fields := (List.range 10).map fun i => fW1C i 1 },
  { base := 0x003A000C, fields := [fL 0 1, fRO 1 1, fW1C 2 1] },
  dRO 0x003A0010, { base := 0x003A0014, fields := [fRO 0 16] }, dRO 0x003A0018,
  { base := 0x003A0020, fields := [fH 20 12] }, { base := 0x003A0024, fields := [fH 0 32] },
  { base := 0x003A0028, fields := [fH 0 13 64 (clampNat 64 4096)] },
  dCnt 0x003A0040 7]

/-- spec/09: the Sluice. -/
def sluiceRegs : List RegDesc := [
  { base := 0x00340000, fields := [fH 0 2, fH 2 2, fH 4 3 6, fH 7 1, fL 8 1 1] },
  { base := 0x00340004, fields := [fRO 0 2, fRO 2 2, fRO 4 2, fRO 8 8] },
  { base := 0x00340008, fields := (List.range 7).map fun i => fW1C i 1 },
  { base := 0x0034000C, fields := [fL 0 8 24 (zeroAs 1)] },
  { base := 0x00340010, stride := 0x10, count := 2, fields := [fH 0 1, fH 1 2, fH 3 1, fRO 8 5] },
  { base := 0x00340014, stride := 0x10, count := 2, fields := [fL 0 1 1, fRO 8 4, fRO 12 4] },
  dRO 0x00340200, { base := 0x00340204, fields := [fRO 0 8, fRO 8 1, fRO 9 1, fRO 10 1, fRO 12 4, fRO 16 8] },
  { base := 0x00340208, fields := [fRO 0 8] },
  dCnt 0x00340300 8] ++
  ([2000, 2000, 4000, 2000, 1000, 8000, 20000, 4000, 4000, 2000, 20000, 100000].zipIdx.flatMap fun (t, n) =>
    [{ base := 0x00340100 + 0x10 * n, fields := [fL 0 20 t (clampNat 500 1000000)] },
     dCnt (0x00340104 + 0x10 * n) 2])

/-- spec/05: Heron and Shoal. HN_WD (0x001A_0020) and HN_ENTRY4 share one offset: a read gives HN_WD, a
write stages ENTRY4 (DEDUCED, log entry 12). -/
def heronRegs : List RegDesc := [
  { base := 0x001A0000, fields := [fS 0 1, fL 16 12 1024 (max 64)] },
  { base := 0x001A0004, fields := [fW1C 0 1, fW1C 1 1, fW1C 2 1] },
  { base := 0x001A0010, count := 6, fields := [fS 0 12] },
  dCnt 0x001A0030 2,
  dRO 0x001B0000, { base := 0x001B0004, fields := [fRO 0 16] },
  { base := 0x001B0008, fields := [fRO 0 9, fRO 9 1, fRO 16 9] },
  { base := 0x001B000C, fields := [fW1C 0 1, fW1C 1 1] },
  { base := 0x001B0010, fields := [fS 0 32] },
  { base := 0x001B0020, count := 8, fields := [fS 0 3, fS 3 1, fRO 8 4] },
  dCnt 0x001B0040 4]

/-- spec/10: Belfry. -/
def belfryRegs : List RegDesc := [
  { base := 0x00350000, fields := [fRO 0 12, fRC 16 12] },
  { base := 0x00350004, fields := [fW1C 0 1, fW1C 1 1, fW1C 2 1] },
  { base := 0x00350040, count := 16, fields := [fRO 0 12, fL 16 12 2048 (min 2048)] },
  dCnt 0x00350010 5]

/-- spec/06 and spec/07: the Egret clusters and the device channels. -/
def egretRegs : List RegDesc :=
  let c (off : Nat) (fields : List RegField) : RegDesc := { base := 0x00200000 + off, stride := 0x10000, count := 6, fields }
  [c 0x00 [fRO 0 8 1, fRO 8 8 6, fRO 16 8 4],
   c 0x04 [fW1C 0 1, fW1C 1 1, fW1C 2 1],
   c 0x08 [fH 6 10],
   c 0x0C [fL 0 12],
   c 0x10 [fL 0 8 32 (zeroAs 1)],
   c 0x20 [fRC 0 32], c 0x24 [fRC 0 32], c 0x28 [fRC 0 32], c 0x2C [fRC 0 32],
   c 0x40 [fL 0 6 24 (fun n => clampNat 1 32 n), fRO 16 6, fRO 24 6],
   c 0x44 [fL 0 16],
   c 0x48 [fRO 0 10, fRO 10 3, fRO 16 5],
   c 0x50 [fRC 0 32], c 0x54 [fRC 0 32], c 0x58 [fRC 0 32], c 0x5C [fRC 0 32]] ++
  ((List.range 8).flatMap fun k =>
    [c (0x100 + 8 * k) [fH 0 5 8 (clampNat 4 16), fH 8 1, fH 9 2],
     c (0x104 + 8 * k) ((List.range 12).map fun j => fH (2 * j) 2 (j % 4))]) ++
  ((List.range 6).map fun k =>
    { base := 0x00201000 + 0x10000 * k, count := 768, fields := [fH 0 1, fH 1 4] }) ++
  [{ base := 0x00260000, count := 192, fields := [fH 0 1, fH 1 4, fH 8 6] }]

/-- spec/08: the Carillon groups, the code store window, the Kettle units and the launch queue. The words of a parked
group's state stand as read-only here: their rows are commands of their own (R287). -/
def carillonRegs : List RegDesc :=
  let g (off : Nat) (fields : List RegField) (count : Nat := 1) : List RegDesc :=
    if count = 1 then [{ base := 0x00280000 + off, stride := 0x10000, count := 8, fields }]
    else (List.range 8).map fun k => { base := 0x00280000 + 0x10000 * k + off, count, fields }
  g 0x00 [fRO 0 1, fRO 1 1, fRO 2 1, fRO 4 4, fRO 8 5, fRO 16 8] ++
  g 0x04 [fWO 0 1, fWO 1 1] ++
  g 0x08 [fW1C 0 1, fW1C 1 1, fW1C 2 1] ++
  g 0x0C [fRO 0 5, fRO 5 3, fRO 8 4, fRO 16 14] ++
  g 0x10 [fL 0 32] ++ g 0x14 [fL 0 16] ++
  g 0x18 [fRO 0 32] ++ g 0x1C [fRO 0 14] ++ g 0x20 [fRO 0 32] ++ g 0x24 [fRO 0 16] ++
  g 0x28 [fRO 0 8, fRO 8 8, fRO 16 8] ++
  g 0x30 [fRC 0 32] 3 ++
  g 0x0800 [fRO 0 32] 16 ++ g 0x0900 [fRO 0 32] 32 ++ g 0x1000 [fRO 0 32] 2048 ++
  [{ base := 0x00300000, count := 16384, fields := [fH 0 32] },
   { base := 0x00310000, stride := 0x100, count := 4, fields := [fRO 0 1, fRO 1 1, fRO 2 1, fRO 4 4, fRO 8 4] },
   { base := 0x00310004, stride := 0x100, count := 4, fields := [fW1C 0 1, fW1C 1 1, fW1C 2 1] },
   { base := 0x00310010, stride := 0x100, count := 4, fields := [fRC 0 32] },
   { base := 0x00310014, stride := 0x100, count := 4, fields := [fRC 0 32] },
   { base := 0x00310800, fields := [fRO 0 6] }, dCnt 0x00310810 2]

end Sys2Proof.Machine
end

