-- ==== Sys2Proof/Machine/Map.lean ====
section
/-! DEFINITION. The one finite map of the model: a list of (key, value) pairs with strictly rising
keys and no entry equal to what an unlisted key reads as, so that equal contents are equal data. -/
namespace Sys2Proof.Machine

/-- Pairs with rising keys. -/
abbrev NatMap (α : Type) := List (Nat × α)

/-- The value at `k`, or `d` where the map lists none. -/
def NatMap.get {α : Type} (d : α) : NatMap α → Nat → α
  | [], _ => d
  | (k', v) :: m, k => if k = k' then v else NatMap.get d m k

/-- Whether `k` is listed. -/
def NatMap.has {α : Type} : NatMap α → Nat → Bool
  | [], _ => false
  | (k', _) :: m, k => if k = k' then true else NatMap.has m k

/-- The map without an entry at `k`. -/
def NatMap.del {α : Type} : NatMap α → Nat → NatMap α
  | [], _ => []
  | (k', v) :: m, k => if k = k' then NatMap.del m k else (k', v) :: NatMap.del m k

/-- The map with `v` listed at `k`. -/
def NatMap.ins {α : Type} : NatMap α → Nat → α → NatMap α
  | [], k, v => [(k, v)]
  | (k', v') :: m, k, v =>
    if k = k' then (k, v) :: m
    else if k < k' then (k, v) :: (k', v') :: m
    else (k', v') :: NatMap.ins m k v

/-- Writes `v` at `k`; writing what an unlisted key reads as removes the entry. -/
def NatMap.put {α : Type} [DecidableEq α] (d : α) (m : NatMap α) (k : Nat) (v : α) : NatMap α :=
  if v = d then NatMap.del m k else NatMap.ins m k v

/-- Changes the value at `k` by `f`. -/
def NatMap.mod {α : Type} [DecidableEq α] (d : α) (m : NatMap α) (k : Nat) (f : α → α) : NatMap α :=
  NatMap.put d m k (f (NatMap.get d m k))

/-- The keys are above `lo` and strictly rising, and no value equals `d`. -/
def NatMap.wfFrom {α : Type} [DecidableEq α] (d : α) : Nat → NatMap α → Bool
  | _, [] => true
  | lo, (k, v) :: m => decide (lo ≤ k) && !decide (v = d) && NatMap.wfFrom d (k + 1) m

/-- The canonical form. -/
def NatMap.wf {α : Type} [DecidableEq α] (d : α) (m : NatMap α) : Bool := NatMap.wfFrom d 0 m

/-- Writes a list of values at consecutive keys. -/
def NatMap.putList {α : Type} [DecidableEq α] (d : α) (m : NatMap α) (k : Nat) : List α → NatMap α
  | [] => m
  | v :: vs => NatMap.putList d (NatMap.put d m k v) (k + 1) vs

/-- Reads `n` consecutive keys. -/
def NatMap.getList {α : Type} (d : α) (m : NatMap α) (k : Nat) : Nat → List α
  | 0 => []
  | n + 1 => NatMap.get d m k :: NatMap.getList d m (k + 1) n

/-- Keeps the entries whose key satisfies `p`. -/
def NatMap.keep {α : Type} (p : Nat → Bool) (m : NatMap α) : NatMap α := m.filter (p ·.1)

end Sys2Proof.Machine
end

