-- ==== Sys2Proof/Machine/Types.lean ====
section
/-! DEFINITION. The plain data of cells, the Weir, the Timebase, error records, decision entries,
instances and outputs (spec/00, 01, 02, 13, 15, 18). -/
namespace Sys2Proof.Machine

/-- Table 0.2: modes and transient states. -/
inductive Mode
  | boot | commission | lead | shadow | replay | hold
  deriving DecidableEq, Repr

/-- Table 1.3: cell kinds. -/
inductive CellKind
  | data | derived | hole | reflex
  deriving DecidableEq, Repr

/-- Table 1.3: the KIND byte. -/
def CellKind.code : CellKind → Nat
  | .data => 1 | .derived => 2 | .hole => 3 | .reflex => 4

/-- Table 1.2: the 64-byte cell header, one field per row; CF is held as its four bits. -/
structure Header where
  gseq : Nat := 0
  sub : Nat := 0
  kind : CellKind := .data
  tstamp : Nat := 0
  src : Nat := 0
  rel : Nat := 0
  stream : Nat := 0
  action : Nat := 0
  rflags : Nat := 0
  hasRel : Bool := false
  late : Bool := false
  eepoch : Bool := false
  rerun : Bool := false
  len : Nat := 0
  eseq : Nat := 0
  pbuf : Nat := 0
  repoch : Nat := 0
  hreason : Nat := 0
  inst : Nat := 0
  egress : Nat := 0
  metaBytes : List Byte := List.replicate 16 0
  deriving DecidableEq, Repr

/-- Table 1.2: CF. -/
def Header.cf (h : Header) : Nat :=
  b2n h.hasRel + 2 * b2n h.late + 4 * b2n h.eepoch + 8 * b2n h.rerun

/-- Table 1.2, R17: the header's 64 bytes; a cell whose LEN is 0 shows PBUF 0. -/
def Header.toBytes (h : Header) : List Byte :=
  leBytes 6 h.gseq ++ leBytes 1 h.sub ++ leBytes 1 h.kind.code ++ leBytes 6 h.tstamp ++
  leBytes 2 h.src ++ leBytes 6 h.rel ++ leBytes 2 h.stream ++ leBytes 2 h.action ++
  leBytes 1 h.rflags ++ leBytes 1 h.cf ++ leBytes 2 h.len ++ leBytes 2 h.eseq ++
  leBytes 4 (if h.len = 0 then 0 else h.pbuf) ++ leBytes 2 h.repoch ++ leBytes 1 h.hreason ++ leBytes 1 h.inst ++
  leBytes 2 h.egress ++ List.replicate 6 0 ++ padTo 16 h.metaBytes

/-- What one Weir entry holds (R27, R36). -/
inductive WeirItem
  /-- the place of (g, 0) until the cell thread disposes of it -/
  | pending
  /-- the tail placeholder at (g, 256) -/
  | tail
  /-- a cell with its payload; `lateArr`: its REL had passed when it arrived (R34);
  a late one has CF.LATE in `h` once the late policy has applied -/
  | cell (h : Header) (payload : List Byte) (lateArr : Bool)
  deriving DecidableEq, Repr

/-- One of the Weir's 16384 entries: its index (R600), the stream it queues on, its key, the Stream Table
entry that its cell meets (R245), and the packet-buffer granules that its leaving frees. `gate` is set once it
has become an eligible head (R30): the number of Ford frames that had been queued then (R457). -/
structure WeirEntry where
  slot : Nat
  stream : Nat
  gseq : Nat
  sub : Nat
  entry : Nat
  granules : Nat := 0
  gate : Option Nat := none
  item : WeirItem
  deriving DecidableEq, Repr

/-- R24: a stream's next ESEQ and its epoch bit; `restart` is the last key of the old epoch while R48's
restart waits. -/
structure StreamSeq where
  eseq : Nat := 0
  epoch : Bool := false
  restart : Option (Nat × Nat) := none
  deriving DecidableEq, Repr

/-- What a parse, or its absence, submits for classification (R157, R159, R161). -/
inductive HeldKey
  /-- a key for Shoal -/
  | key (k : Nat)
  /-- the SH_NOMATCH result, as for a key that matches nothing -/
  | noMatch
  /-- action 0x000 on stream 0x000: a drop, an aborted parse or a commit marker -/
  | null
  /-- classified to the direct action; its forward waits for a Weir entry (R36, R169) -/
  | direct
  /-- classified to an action; its placeholders wait for Weir entries (R27, R36) -/
  | action
  deriving DecidableEq, Repr

/-- R128: a source probe. -/
structure Probe where
  vid : Nat
  smac : Nat
  port : Nat
  deriving DecidableEq, Repr

/-- Where an accepted cell stands between the Intake and its completion. -/
inductive CellStage
  /-- accepted, waiting for a Heron -/
  | waiting
  /-- in parse on Heron `k` -/
  | parsing (k : Nat)
  /-- parsed on Heron `k` (16: on none); its result waits for the takeover of its epoch (R175), or for a
  Weir entry that its direct forward needs (R36, R169): no key, or a key for Shoal -/
  | held (k : Nat) (key : HeldKey)
  /-- classified, waiting for dispatch (R222) -/
  | classified
  /-- dispatched and open (R27) -/
  | opened
  /-- completed; kept only until it is recorded (R481) -/
  | done
  deriving DecidableEq, Repr

/-- A cell that the Intake has accepted (R27, R46, R174). -/
structure Cell where
  hdr : Header
  payload : List Byte
  stage : CellStage
  /-- the rule epoch the cell falls under (R174) -/
  epoch : Nat
  /-- the commit this cell is the marker of: 0 none, 1 software, 2 learning (R174) -/
  marker : Nat := 0
  /-- (stream, SUB) of every emit made (R22) -/
  emits : List (Nat × Nat) := []
  /-- (g, 0) was forwarded or consumed (R28) -/
  disposed : Bool := false
  /-- the action's emit list (R23) -/
  emitList : List Nat := []
  /-- REL, CF.HAS_REL, LEN and META as classified, for a re-run (R46) -/
  orig : Nat × Bool × Nat × List Byte := (0, false, 0, [])
  /-- cluster and context of the cell thread, once dispatched -/
  place : Option (Nat × Nat) := none
  /-- fault disposition REPLAY (R46) -/
  replayDisp : Bool := false
  /-- (stream, SUB) already released in the first run (R46) -/
  released : List (Nat × Nat) := []
  /-- packet-buffer granules of 64 bytes the payload holds (R17) -/
  granules : Nat := 0
  /-- its wait for a Weir entry has been counted (R36) -/
  fullWait : Bool := false
  /-- the INGRESS record has been written or skipped (R481) -/
  recorded : Bool := false
  deriving DecidableEq, Repr

/-- Table 2.3: Timebase states. -/
inductive TbState
  | free | acquire | locked | holdSync | holdRef
  deriving DecidableEq, Repr

/-- Table 2.3: the STATE code. -/
def TbState.code : TbState → Nat
  | .free => 0 | .acquire => 1 | .locked => 2 | .holdSync => 3 | .holdRef => 4

/-- The Timebase island and the margin monitor (R56 to R65, R70). -/
structure Timebase where
  count : Nat := 0
  frac : Nat := 0
  running : Bool := false
  everRan : Bool := false
  state : TbState := .free
  refOk : Bool := false
  pllLock : Bool := false
  monValid : Bool := false
  offsetLarge : Bool := false
  actDomain : Nat := 0
  actConfigured : Bool := false
  monDomain : Nat := 0
  rate : Int := 0
  /-- the last 16 rates, newest first (R61) -/
  rates : List Int := []
  offset : Int := 0
  monOffset : Int := 0
  goodSyncs : Nat := 0
  badSyncs : Nat := 0
  missed : Nat := 0
  holdSince : Nat := 0
  refSince : Nat := 0
  /-- margin monitor: the minimum and its cell (R65) -/
  mmMin : Int := 2147483647
  mmCand : Nat := 0
  mmLatched : Nat := 0
  deriving DecidableEq, Repr

/-- Table 18.1: an error record. -/
structure ErrRec where
  rseq : Nat
  sev : Nat
  block : Nat
  code : Nat
  time : Nat
  gseq : Nat
  inst : Nat
  shared : Bool
  dkind : Nat
  master : Nat
  unit : Nat
  suppr : Nat
  detail : List Byte
  /-- the nanosecond that made it (R563); it is no part of the record's bytes -/
  made : Nat := 0
  deriving DecidableEq, Repr

/-- Table 18.1: the bytes of a record, header then detail. -/
def ErrRec.toBytes (r : ErrRec) : List Byte :=
  leBytes 4 r.rseq ++ leBytes 1 r.sev ++ leBytes 1 r.block ++ leBytes 2 r.code ++
  leBytes 8 r.time ++ leBytes 6 r.gseq ++ leBytes 1 (r.inst % 16 + 128 * b2n r.shared) ++
  leBytes 1 r.dkind ++ leBytes 2 r.master ++ leBytes 2 r.detail.length ++ leBytes 2 r.unit ++
  leBytes 2 r.suppr ++ r.detail

/-- Whom an error record names: the instance whose state alone is concerned (none: shared, R547), the
master ID of R343, the cell, and for a mailbox command its mailbox, SEQ and opcode (Table 18.2). -/
structure Who where
  inst : Option Nat := none
  master : Nat := 0xFFFF
  gseq : Option Nat := none
  mbox : Nat := 0xFF
  seq : Nat := 0
  opcode : Nat := 0
  deriving DecidableEq, Repr

/-- R546: the last record made for one (BLOCK, CODE, UNIT). -/
structure RateMark where
  block : Nat
  code : Nat
  unit : Nat
  at_ : Nat
  suppr : Nat
  deriving DecidableEq, Repr

/-- The error collector, the queues and what R553 to R556 count. -/
structure Errors where
  /-- records waiting for Ohmyth, each with whether it is in the fault log already -/
  collector : List (ErrRec × Bool) := []
  /-- error queue of instance i -/
  queues : NatMap (List ErrRec) := []
  /-- ERR_COUNTS figures, key 4 * i + severity - 1 -/
  counts : NatMap Nat := []
  rseq : Nat := 0
  marks : List RateMark := []
  lastSev : Nat := 0
  svwdExp : Bool := false
  svwdSince : Nat := 0
  fatalAt : Option Nat := none
  fatalHeld : Bool := false
  /-- uncorrectable records per (block code, unit) in the 1 s interval that began at `ueSince` -/
  ueCounts : List (Nat × Nat × Nat) := []
  ueSince : Nat := 0
  bootEnd : Nat := 0
  deriving DecidableEq, Repr

/-- Table 15.3: a decision or configuration entry; `body` holds the bytes from 0x04. -/
structure DEntry where
  type : Nat
  size : Nat
  master : Nat
  body : List Byte
  deriving DecidableEq, Repr

/-- Table 15.3: the entry's bytes. -/
def DEntry.toBytes (e : DEntry) : List Byte :=
  leBytes 1 e.type ++ leBytes 1 e.size ++ leBytes 2 e.master ++ padTo (e.size - 4) e.body

/-- What the block sends to the outside, in the order it is sent. -/
inductive OutKind
  /-- data returned by a register read; `who` the view, `addr` the offset -/
  | regData
  /-- an MSI-X message; `who` the function, `addr` the vector -/
  | msix
  /-- a write to host memory -/
  | hostWrite
  /-- a read request to host memory -/
  | hostRead
  /-- an uncorrectable non-fatal error reported through a function's AER -/
  | aer
  /-- an Ethernet frame on port `who` -/
  | frame
  /-- a Ford frame; `who` its type -/
  | ford
  /-- bytes that leave a Tideway channel -/
  | tideway
  /-- a TAP register shifted out -/
  | tap
  /-- a gPTP frame or other message handed to Ohmyth -/
  | ohmyth
  deriving DecidableEq, Repr

/-- One output. -/
structure Output where
  kind : OutKind
  who : Nat
  addr : Nat
  data : List Byte
  deriving DecidableEq, Repr

/-- Table 13.4: instance states. -/
inductive InstState
  | absent | active | resetting | destroying
  deriving DecidableEq, Repr

/-- Table 13.4: the STATE code. -/
def InstState.code : InstState → Nat
  | .absent => 0 | .active => 1 | .resetting => 2 | .destroying => 3

/-- A granted range of 4 KiB DRAM pages (R422). -/
structure Grant where
  page : Nat
  pages : Nat
  canRead : Bool
  canWrite : Bool
  deriving DecidableEq, Repr

/-- A submission or completion queue's device side (R424 to R429). -/
structure HostQueue where
  head : Nat := 0
  tail : Nat := 0
  phase : Bool := true
  /-- CQ: releases dropped since the previous entry -/
  drops : Nat := 0
  /-- CQ: (DOFS, padded length) of each entry not yet passed by the head, oldest first -/
  spans : List (Nat × Nat) := []
  /-- CQ: next free data-ring offset -/
  dnext : Nat := 0
  /-- SQ: entries fetched from HEAD on, in ring order: a payload that waits for the Intake, or none for
  a malformed entry to skip -/
  fetched : List (Option (List Byte)) := []
  deriving DecidableEq, Repr

/-- The steps of an instance reset (Table 13.10). -/
structure InstReset where
  /-- the method is SQUASH -/
  squash : Bool
  /-- instant of the start -/
  since : Nat
  /-- the mailbox that asked and will be answered, and whether the reset is part of INST_DESTROY -/
  asker : Option Nat
  destroy : Bool
  /-- cells have been squashed or have completed; steps 3 to 5 are done -/
  stopped : Bool := false
  /-- the instance's cells that were open at the start (R455) -/
  opened : List Nat := []
  deriving DecidableEq, Repr

/-- One instance (R416). -/
structure Instance where
  state : InstState := .absent
  direct : Bool := false
  /-- the QUOTA block of Table 13.5, 64 bytes as a number -/
  quota : Nat := 0
  grants : List Grant := []
  reset : Option InstReset := none
  /-- cells made from SQs and CQ entries written, 48 bits each (IN_SQCELL, IN_CQENT) -/
  sqCells : Nat := 0
  cqEntries : Nat := 0
  /-- commits that its destruction has begun (R437) -/
  destroyed : Nat := 0
  deriving DecidableEq, Repr

/-- A PCI Express function's configuration that the spec names (R410, R411, R436). -/
structure PcieFn where
  busMaster : Bool := false
  devCtl2 : Nat := 0
  msixEnable : Bool := false
  msixMask : Bool := false
  /-- pending bits -/
  pba : Nat := 0
  deriving DecidableEq, Repr

end Sys2Proof.Machine
end

