-- ==== Sys2Proof/Machine/TypesEgret.lean ====
section
/-! DEFINITION. The plain data of Heron and Egret cores, threads, channels, helpers and Belfry (spec/05 R154
to R161; spec/06; spec/07; spec/10). -/
namespace Sys2Proof.Machine

/-- Table 6.1: the state of one context, or of a Heron. Byte register `k` of window `w` has key 8 w + k. -/
structure EgCore where
  win : NatMap Nat := []
  g : NatMap Nat := []
  p : NatMap Nat := []
  c : Bool := false
  z : Bool := false
  n : Bool := false
  v : Bool := false
  bm : Bool := false
  ts : Bool := false
  pc : Nat := 0
  cwp : Nat := 1
  depth : Nat := 0
  residents : Nat := 1
  ra : NatMap Nat := []
  /-- the depth of the interrupted code while a handler runs (R215) -/
  trapDepth : Nat := 0
  sbank : Nat := 0
  tcode : Nat := 0
  tinfo : Nat := 0
  spp : Nat := 0
  spl : Nat := 0
  tpc : Nat := 0
  tstate : Nat := 0
  farbl : Nat := 0
  farbh : Nat := 0
  taddr : Nat := 0
  deriving DecidableEq, Repr

/-- Where a load's data go. -/
inductive LoadDest
  | reg (r : Nat)
  | ptr (k : Nat)
  deriving DecidableEq, Repr

/-- A load that waits: its destination, the core after everything else the word does, its data address,
and its slot in a pair (R186, R202). -/
structure EgLoad where
  dest : LoadDest
  post : EgCore
  addr : Nat
  slot : Nat
  pair : Bool
  deriving DecidableEq, Repr

/-- Table 7.6: an emit descriptor with its payload. -/
structure Emit where
  stream : Nat
  sub : Nat
  rel : Option Nat
  metaBytes : List Byte
  payload : List Byte
  deriving DecidableEq, Repr

/-- What a thread waits in. -/
inductive EgWait
  | fork (rd target : Nat)
  | join
  | send (chan value : Nat)
  | recv (chan addr : Nat)
  /-- a far load of `n` bytes at a device address; the DRAM access, or none for an on-chip one -/
  | far (l : EgLoad) (acc : Option Nat) (dev n : Nat)
  /-- a load from 0xFC00 (R249) -/
  | sample (l : EgLoad) (two : Bool)
  /-- a Belfry port load (R345) -/
  | belfry (l : EgLoad) (two : Bool)
  | forward
  | emit (rd : Nat) (e : Emit)
  deriving DecidableEq, Repr

/-- A posted far store (R202): its device address, bytes and DRAM access, if any. -/
structure Posted where
  dev : Nat
  bytes : List Byte
  acc : Option Nat
  deriving DecidableEq, Repr

/-- A thread in a context (R183, R219, R225). -/
structure Thread where
  core : EgCore
  /-- its cell's GSEQ -/
  gseq : Nat
  /-- the owner of its cell's action (R420) -/
  inst : Nat
  isCell : Bool
  /-- the parent's thread ID, 0xFF for a cell thread, and the parent's own number -/
  parent : Nat := 0xFF
  parentUid : Nat := 0
  /-- the model's number of the thread -/
  uid : Nat
  /-- EG_Cc_TRAPEN and EG_Cc_WAITLIM as they stood when the thread's cell entered the cluster (R11, R12) -/
  trapen : Nat := 0
  waitlim : Nat := 0
  wait : Option EgWait := none
  since : Nat := 0
  posted : List Posted := []
  /-- a posted store completed in error since the last FENCE -/
  postErr : Bool := false
  /-- the Belfry operand window (R345) -/
  window : List Byte := List.replicate 32 0
  /-- bytes 1 to 7 of the last Timebase sample (R249) -/
  sample : List Byte := List.replicate 7 0
  /-- outstanding requests by service (R241) -/
  outst : NatMap Nat := []
  /-- the reply channel: (service, entry) (R240) -/
  replies : List (Nat × Nat) := []
  /-- stopped; the context is free once no request is outstanding (R253) -/
  stopped : Bool := false
  deriving DecidableEq, Repr

/-- A request that a thread has sent to a helper (R240). -/
structure HelpReq where
  c : Nat
  t : Nat
  uid : Nat
  op : Nat
  tag : Nat
  blk : Nat
  gseq : Nat
  inst : Nat
  sbank : Nat
  deriving DecidableEq, Repr

/-- A Time request: the helper has read its target; `status` is set where it completes at once (R248). -/
structure TimeReq where
  req : HelpReq
  target : Nat
  since : Nat
  status : Option Nat
  deriving DecidableEq, Repr

/-- A parse on a Heron (R156): its cell, registers, scratch, key and steps; the step limit that held when it took the cell
(R11, R12); and the VLAN and priority that the port passed with the frame (R125), which no word of Table 5.3 and no address of
Table 5.2 shows to a program. -/
structure HeronRun where
  gseq : Nat
  core : EgCore
  limit : Nat := 1024
  vlan : Option (Nat × Nat) := none
  scratch : NatMap Nat := []
  key : Nat := 0
  steps : Nat := 0
  deriving DecidableEq, Repr

/-- An entry of a channel with the master that sent it. -/
structure ChanEntry where
  value : Nat
  sender : Nat
  deriving DecidableEq, Repr

/-- How a Belfry request reached Belfry (R345, R380). -/
inductive BfForm
  /-- a port load of thread `t` of cluster `c` -/
  | port (c t uid : Nat)
  /-- a request on channel 0x3F5 -/
  | chan (r : HelpReq)
  /-- a lock command of mailbox `m` -/
  | host (m : Nat)
  /-- a host's operation that the followed log names (R360) -/
  | log
  deriving DecidableEq, Repr

/-- A Belfry request (R344). -/
structure BfReq where
  master : Nat
  inst : Nat
  op : Nat
  addr : Nat
  opa : Nat
  opb : Nat
  form : BfForm
  gseq : Option Nat
  /-- it has been performed and its status and result wait for delivery (ATOMIC_DONE, R360) -/
  done : Option (Nat × Option Nat) := none
  /-- the instant of its arrival, and the model's number of it -/
  at_ : Nat := 0
  num : Nat := 0
  /-- its master has ended (R354) -/
  ended : Bool := false
  deriving DecidableEq, Repr

/-- A waiting ticket (R350). -/
structure Ticket where
  num : Nat
  req : BfReq
  deriving DecidableEq, Repr

/-- A directory entry (R349). -/
structure BfEntry where
  /-- its place in the directory's memory (R600) -/
  slot : Nat
  addr : Nat
  owner : Option Nat := none
  next : Nat := 0
  serve : Nat := 0
  marked : Bool := false
  inst : Nat
  waiters : List Ticket := []
  /-- tickets withdrawn and not yet passed over (R356) -/
  gone : List Nat := []
  /-- lost by an uncorrectable error (R361) -/
  lost : Bool := false
  deriving DecidableEq, Repr

/-- Belfry. -/
structure Belfry where
  /-- requests that wait for the arbiter, or for their word, in order of arrival -/
  queue : List BfReq := []
  dir : List BfEntry := []
  /-- the model's number of the next request -/
  nextNum : Nat := 0
  deriving DecidableEq, Repr

/-- Every Heron, thread, channel and helper. A thread's key is 32 c + t; a cluster channel's is
0x400 c + id, a device channel's 0x1C00 + id. -/
structure Egret where
  herons : NatMap HeronRun := []
  threads : NatMap Thread := []
  nextUid : Nat := 1
  chans : NatMap (List ChanEntry) := []
  /-- helper `k` of cluster `c` has key 4 c + k: 0 Lookup, 1 Copy, 2 CRC -/
  helpers : NatMap (List HelpReq) := []
  times : List TimeReq := []
  /-- requests on channel 0x3F4 that the launch service has not yet checked (R271) -/
  launchReqs : List HelpReq := []
  /-- the slot of the round at which core `k` of cluster `c` stands, under key 8 c + k (R229) -/
  slots : NatMap Nat := []
  deriving DecidableEq, Repr

end Sys2Proof.Machine
end

