-- ==== Sys2Proof/Machine/TypesEth.lean ====
section
/-! DEFINITION. The plain data of the Ethernet ports, gate lists, learning, Qci and FRER (spec/04) and of
the classification tables (spec/04 Table 4.3 and 4.4, spec/05 Tables 5.5 and 5.6). -/
namespace Sys2Proof.Machine

/-- A gate list in use: (gate states, interval) per entry, base time and cycle (R138, R139). -/
structure GateList where
  entries : List (Nat × Nat)
  base : Nat
  cycle : Nat
  deriving DecidableEq, Repr

/-- A port's or a stream gate's schedule: the operational list and the pending change. -/
structure GateSched where
  oper : Option GateList := none
  /-- (change time, administrative list, extension) -/
  pending : Option (Nat × GateList × Nat) := none
  /-- what earlier changes replaced, newest first, while a frame stamped before the change may still need it: the change
  time, its extension and the list (none: no list yet) (R142, R144) -/
  old : List (Nat × Nat × Option GateList) := []
  deriving DecidableEq, Repr

/-- R148: what Ohmyth does once a gPTP frame has left a port: nothing; it awaits the answer to a Pdelay_Req; or it sends the
Follow_Up, whose body gets the instant of departure, or whose correction gets the time since the Sync came in. -/
inductive GptpThen
  | nothing
  | request (seq : Nat)
  | stamp (frame : List Byte)
  | residence (since : Nat) (frame : List Byte)
  deriving DecidableEq, Repr

/-- R148: what Ohmyth holds for the PTP port: its roles in the active and the monitored domain (0 disabled, 1 master, 2 slave,
3 passive), whether they are configured from outside, the last Announce of each domain, the two-step Syncs whose Follow_Up is
awaited with their instants, the Pdelay_Req under way (sequence number and departure), the Pdelay_Resp to it with its instant,
and the mean link delay in ns. -/
structure GptpPort where
  roles : Nat × Nat := (0, 0)
  external : Bool := false
  announce : List Byte × List Byte := ([], [])
  syncs : List (Nat × List Byte) := []
  reqAt : Option (Nat × Nat) := none
  resp : Option (Nat × List Byte) := none
  delay : Int := 0
  deriving DecidableEq, Repr

/-- A frame in an egress queue: the released header and the payload from DMAC on. -/
structure TxFrame where
  hdr : Header
  payload : List Byte
  frerGen : Bool
  deriving DecidableEq, Repr

/-- An Ethernet port (R110 to R121, R137 to R141). -/
structure EthPort where
  link : Bool := false
  hdx : Bool := false
  speed : Nat := 0
  /-- frames not yet accepted by the Intake: (TSTAMP, payload), in wire order -/
  ingress : List (Nat × List Byte) := []
  /-- egress queue q -/
  queues : NatMap (List TxFrame) := []
  /-- frames and octets, accumulated for PORT_COUNTERS; the registers show their low 48 bits -/
  rxFrm : Nat := 0
  rxOct : Nat := 0
  txFrm : Nat := 0
  txOct : Nat := 0
  sched : GateSched := {}
  /-- the gates as the list last set them, one bit per queue -/
  gates : Nat := 0xFF
  /-- the frame on the wire ends at this instant -/
  busyUntil : Nat := 0
  /-- gPTP frames on the management path, oldest first (R141) -/
  mgmt : List (List Byte × GptpThen) := []
  gptp : GptpPort := {}
  deriving DecidableEq, Repr

/-- An item of the learning queue: a probe, or a static station that TBL_STATION of mailbox `m` adds or
removes. -/
inductive LearnItem
  | probe (p : Probe)
  | static (m : Nat) (add : Bool) (vid mac port inst : Nat)
  deriving DecidableEq, Repr

/-- The learning engine and Avocet (R126 to R136). -/
structure Learning where
  /-- staged changes: station ↦ its new entry -/
  set_ : NatMap (Option Nat) := []
  /-- the one queue of probes and of Ohmyth's static entries, in order of arrival (R128, R150) -/
  queue : List LearnItem := []
  /-- mailboxes whose TBL_STATION the set carries, each with its station (R376) -/
  askers : List (Nat × Nat) := []
  /-- probes whose cell H has not passed, with its GSEQ (R160) -/
  held : List (Nat × Probe) := []
  lastCommit : Nat := 0
  lastPass : Nat := 0
  /-- Avocet's pass under way: the next station to visit (R134) -/
  passAt : Option Nat := none
  deriving DecidableEq, Repr

/-- A flow meter's buckets in 10^-6 bits (R142, R143). -/
structure Meter where
  started : Bool := false
  tc : Nat := 0
  te : Nat := 0
  last : Nat := 0
  allRed : Bool := false
  deriving DecidableEq, Repr

/-- A FRER recovery function (R146). -/
structure Frer where
  takeAny : Bool := true
  history : Nat := 0
  seq : Nat := 0
  last : Nat := 0
  passed : Nat := 0
  discarded : Nat := 0
  rogue : Nat := 0
  tagless : Nat := 0
  /-- configuration: history length and reset timeout in ms -/
  histLen : Nat := 1
  timeout : Nat := 1
  deriving DecidableEq, Repr

/-- One copy of the class S tables (R164, R168, R122, the parse store), entries as numbers. -/
structure Tables where
  shoal : NatMap Nat := []
  action : NatMap Nat := []
  stream : NatMap Nat := []
  parse : NatMap Nat := []
  station : NatMap Nat := []
  deriving DecidableEq, Repr

/-- A staged edit of class S register bits by an instance (R13, R16). -/
structure RegEdit where
  inst : Nat
  mask : Nat
  val : Nat
  deriving DecidableEq, Repr

/-- Software's staged edits: entry ↦ (staging instance, new entry) (R171). -/
structure Staged where
  shoal : NatMap (Option (Nat × Nat)) := []
  action : NatMap (Option (Nat × Nat)) := []
  stream : NatMap (Option (Nat × Nat)) := []
  parse : NatMap (Option (Nat × Nat)) := []
  deriving DecidableEq, Repr

/-- A commit whose marker has been accepted (R174, R175): the tables and class S register words that take
over, and the mailboxes that are answered after the reload. -/
structure Commit where
  gseq : Nat
  learning : Bool
  epoch : Nat
  takenOver : Bool
  tables : Tables
  /-- (key, mask, value) of the class S bits -/
  regs : List (Nat × Nat × Nat)
  /-- (mailbox, station): TBL_COMMIT with station 0, or TBL_STATION -/
  askers : List (Nat × Nat)
  /-- R178, R334: where the entries and parse-store words of the set stand in the active copies, and their bytes -/
  edited : List (Nat × Nat) := []
  deriving DecidableEq, Repr

/-- A commit marker that waits for the Intake. -/
structure Marker where
  learning : Bool
  askers : List (Nat × Nat)
  deriving DecidableEq, Repr

end Sys2Proof.Machine
end

