-- ==== Sys2Proof/Machine/TypesSystem.lean ====
section
/-! DEFINITION. The plain data of withdrawal, recording, pairing, the mailboxes, the Supervisor,
start-up and health (spec/11, 12, 14 to 19). -/
namespace Sys2Proof.Machine

/-- R503, R507: withdrawal states. -/
inductive WdState
  | running | draining | withdrawn | testing
  deriving DecidableEq, Repr

/-- The STATE code of HL_WD_STAT. -/
def WdState.code : WdState → Nat
  | .running => 0 | .draining => 1 | .withdrawn => 2 | .testing => 3

/-- A block by DEV_WITHDRAW KIND (1 cluster, 2 Carillon group, 3 Heron, 4 Kettle unit, 5 Ethernet
port, 6 Tideway channel) and INDEX. -/
abbrev blockKey (kind index : Nat) : Nat := kind * 0x10000 + index

/-- Withdrawal of every block (R503 to R508). -/
structure Withdraw where
  state : NatMap WdState := []
  /-- the instant at which each running drain reaches its bound -/
  since : NatMap Nat := []
  /-- mailbox whose DEV_WITHDRAW waits for the drain of the block, plus 1 (0: none) -/
  asker : NatMap Nat := []
  lastKind : Nat := 0
  lastIndex : Nat := 0
  testKind : Nat := 0
  testIndex : Nat := 0
  testResult : Nat := 0
  deriving DecidableEq, Repr

/-- Table 14: roles of a paired device. -/
inductive FordRole
  | none | lead | shadow | syncing | detached | unknown
  deriving DecidableEq, Repr

/-- The ROLE code of FD_STAT. -/
def FordRole.code : FordRole → Nat
  | .none => 0 | .lead => 1 | .shadow => 2 | .syncing => 3 | .detached => 4 | .unknown => 7

/-- A frame sent and not yet acknowledged, with its place in the Ford ring (R445). -/
structure FordFrame where
  fseq : Nat
  type : Nat
  at_ : Nat
  tries : Nat
  body : List Byte
  pos : Nat
  deriving DecidableEq, Repr

/-- A digest window (R460): COUNT, SUM and whether it holds a HANDOVER HOLE. -/
structure Digest where
  count : Nat := 0
  sum : Nat := 0
  handover : Bool := false
  deriving DecidableEq, Repr

/-- An ingress record of the lead or of a case (R452, R493). -/
structure IngressRec where
  gseq : Nat
  tstamp : Nat
  src : Nat
  payload : List Byte
  /-- in a case: where the record stands in DRAM, else 0 -/
  at_ : Nat := 0
  deriving DecidableEq, Repr

/-- A controlled handover (Table 14.7): the mailbox that asked, the boundary B, and how far it has come: 1
waiting for acknowledgement, 2 the line released. -/
structure Handover where
  asker : Nat
  boundary : Nat
  stage : Nat
  holes : Bool := false
  deriving DecidableEq, Repr

/-- An entry to COMMISSION or LEAD from HOLD or BOOT that waits for the Baton (R536): the mailbox that asked plus 1, or 0 for
the end of BOOT; the mode; and the instant at which it began. -/
structure ModeEntry where
  asker : Nat
  target : Mode
  since : Nat
  deriving DecidableEq, Repr

/-- The Ford link, the Baton and the pair (spec/14). -/
structure Ford where
  twinId : Nat := 0
  role : FordRole := .none
  peerRole : FordRole := .none
  /-- the role in the partner's last heartbeat (FD_STAT.PEER_ROLE) -/
  seenRole : FordRole := .none
  peerFlags : Nat := 0
  peerMode : Nat := 0
  /-- 0 DOWN, 1 TRAINING, 2 UP -/
  link : Nat := 0
  /-- this device drives its Baton line low, since this instant; the partner's line is low -/
  ownLine : Bool := false
  claimAt : Option Nat := none
  peerLine : Bool := false
  holds : Bool := false
  keepAt : Nat := 0
  talign : Bool := false
  diverged : Bool := false
  tofsGood : Nat := 0
  tofsBad : Nat := 0
  delay : Nat := 0
  tofs : Int := 0
  lag : Nat := 0
  hbAt : Option Nat := none
  /-- consecutive missed heartbeat intervals, and the instant at which the running interval began -/
  missed : Nat := 0
  intervalAt : Nat := 0
  nextSeq : Nat := 1
  rxSeq : Nat := 0
  ackSeen : Nat := 0
  ring : List FordFrame := []
  ringPos : Nat := 0
  records : List IngressRec := []
  /-- GSEQ after the last record received -/
  nextRecord : Nat := 0
  /-- CONFIG entries that wait for their record -/
  configs : List DEntry := []
  windows : NatMap Digest := []
  /-- the next window to close -/
  nextWindow : Nat := 0
  /-- own closed windows, and the lead's, that wait for comparison -/
  closed : NatMap Digest := []
  leads : NatMap Digest := []
  missTotal : Nat := 0
  handover : Option Handover := none
  /-- a takeover has been decided and waits for the Baton to settle (R463) -/
  takeover : Bool := false
  /-- a mode entry that waits for the Baton -/
  entry : Option ModeEntry := none
  /-- the boundary of a handover that this shadow has been told of, and for whose Baton it waits (Table 14.7) -/
  handIn : Option Nat := none
  /-- heartbeats stopped with the keeper (R446) -/
  hbStopped : Bool := false
  /-- the mailbox whose TWIN_RESYNC runs, and the image bytes received -/
  resync : Option Nat := none
  imageIn : List Byte := []
  /-- a SYNCING device has loaded the image -/
  imageOk : Bool := false
  /-- APP frames received that wait for the Intake: TSTAMP and payload (R447) -/
  appIn : List (Nat × List Byte) := []
  /-- FD_TOFS sign etc. measured from the last heartbeat; the partner's next GSEQ -/
  peerNext : Nat := 0
  deriving DecidableEq, Repr

/-- The Viveram store's indices (R489, R490, R501), the boot record's STREAK and boot count. -/
structure Viveram where
  bbxNext : Nat := 0
  bbxTotal : Nat := 0
  flogNext : Nat := 64
  kept : Nat := 0
  slotSeq : Nat := 0
  boots : Nat := 0
  streak : Nat := 0
  deriving DecidableEq, Repr

/-- The Supervisor (spec/12). -/
structure Supervisor where
  halted : Bool := false
  /-- stopped with a FATAL record of its own that does not escalate (R555) -/
  stopped : Bool := false
  /-- patch-hold (R399) -/
  hold : Bool := false
  running : Bool := false
  /-- next microaddress, or patch address; whether it lies in patch RAM; whether it is fetched without the match check -/
  upc : Nat := 0
  inPatch : Bool := false
  noMatch : Bool := false
  /-- working registers s0 to s63; the flags; the dispatch register and the loop counter -/
  regs : NatMap Nat := []
  z : Bool := false
  n : Bool := false
  c : Bool := false
  v : Bool := false
  d : Nat := 0
  loop : Nat := 0
  /-- the condition MEM_ERR -/
  memErr : Bool := false
  /-- the microtimer's end, and the condition TIMER -/
  timerAt : Option Nat := none
  timer : Bool := false
  /-- bits [103:0] of the patch RAM's words -/
  patch : NatMap Nat := []
  /-- the first boot stages that have run since reset (R529), in order -/
  stage : Nat := 0
  /-- the boot flash, erased bytes reading 0xFF, and the slot being programmed or erased -/
  flash : NatMap Nat := []
  /-- the booted image's OHMYTH and VERSION (Table 17.3) -/
  ohmyth : Nat := 0
  version : Nat := 0
  /-- bytes of Ohmyth's program, from the first byte of the Supervisor data RAM on -/
  codeLen : Nat := 0
  /-- the instant at which a DEV_RESET starts the device reset (Table 11.5) -/
  resetAt : Option Nat := none
  /-- Ohmyth's sum of HL_DROOP_CNT, for DEV_HEALTH -/
  droops : Nat := 0
  /-- a host reset waits for the link (R534) -/
  linkWait : Bool := false
  /-- the verified patch file that the open window loads (R399) -/
  loading : List Byte := []
  /-- the instant at which the window opened -/
  holdAt : Nat := 0
  /-- answers of Ohmyth that wait for the window to close (R379): mailbox, status, body -/
  deferred : List (Nat × Nat × List Byte) := []
  deriving DecidableEq, Repr

/-- The health monitors (R582, R583, R596). -/
structure Health where
  /-- alarms that have made a record and have not re-armed; those whose record waits for the collector -/
  raised : Nat := 0
  waiting : Nat := 0
  /-- since when the condition of a raised alarm has been absent -/
  absent : NatMap Nat := []
  /-- conditions present at the last sample -/
  active : Nat := 0
  deriving DecidableEq, Repr

/-- A command that a mailbox has accepted (R367): its latched request, its SEQ, whether Ohmyth has taken it up
and begun it, and the instant of the take-up. -/
structure MbCmd where
  req : List Byte
  seq : Nat
  taken : Bool := false
  begun : Bool := false
  since : Nat := 0
  /-- the latched request met an uncorrectable error (R388) -/
  bad : Bool := false
  /-- how far a long command has come, in units of its own -/
  stage : Nat := 0
  deriving DecidableEq, Repr

/-- A mailbox (R364 to R370): the command that makes it BUSY, LAST_SEQ, and Ohmyth's copy of the response to it. -/
structure Mailbox where
  cmd : Option MbCmd := none
  lastSeq : Nat := 0xFF
  copy : List Byte := []
  deriving DecidableEq, Repr

end Sys2Proof.Machine
end

