-- ==== Sys2Proof/Machine/TypesTideway.lean ====
section
/-! DEFINITION. The plain data of the Tideway machine ports and the Gong reflex array (spec/03). -/
namespace Sys2Proof.Machine

/-- An input cell that the pin stage holds for the Intake (R73, R103). -/
structure PinCell where
  tstamp : Nat
  src : Nat
  kind : CellKind
  payload : List Byte
  deriving DecidableEq, Repr

/-- A released Tideway cell on its way to its channel (R74, R75, R77): the Timebase instant at which
it takes effect, and whether that is after A. -/
structure DueCell where
  at_ : Nat
  slip : Bool
  chan : Nat
  gseq : Nat
  sub : Nat
  payload : List Byte
  deriving DecidableEq, Repr

/-- An encoder channel (R78 to R82). -/
structure Encoder where
  pos : Nat := 0
  zpos : Nat := 0
  a : Bool := false
  b : Bool := false
  zSeen : Bool := false
  illegal : Bool := false
  overspeed : Bool := false
  ssiErr : Bool := false
  lost : Bool := false
  belowLo : Bool := false
  aboveHi : Bool := false
  /-- instant of the last accepted edge -/
  lastEdge : Option Nat := none
  /-- end of the running SSI frame's monoflop time -/
  ssiUntil : Option Nat := none
  deriving DecidableEq, Repr

/-- A step/direction segment: signed pulses and their period (Table 3.3). -/
structure Segment where
  steps : Int
  period : Nat
  deriving DecidableEq, Repr

/-- A running segment and the instant of its first pulse. -/
structure SegRun where
  steps : Int
  period : Nat
  /-- its end makes a SEG_DONE cell: CELL_DONE as it was when the segment started (R11, R84) -/
  done : Bool := false
  start : Nat
  /-- the instant at which the segment, or the running pulse of a stopped one, ends -/
  endAt : Nat
  deriving DecidableEq, Repr

/-- A step/direction generator (R83, R84). -/
structure StepDir where
  /-- steps issued before the running segment -/
  base : Int := 0
  dir : Bool := false
  queue : List Segment := []
  run : Option SegRun := none
  gstop : Bool := false
  deriving DecidableEq, Repr

/-- An SPI frame that runs, or that waits for the end of CS_GAP with its start: what is sent, its sample instant in ADC mode,
whether it is the safe frame, its first and last instants, and the apply time A of its cell. -/
structure SpiFrame where
  data : Nat
  tstamp : Nat
  safe : Bool
  start : Nat
  endAt : Nat
  apply_ : Nat
  deriving DecidableEq, Repr

/-- An SPI converter channel (R85 to R87). -/
structure Spi where
  run : Option SpiFrame := none
  /-- waiting frames: (data, safe, A) -/
  queue : List (Nat × Bool × Nat) := []
  /-- no frame may start before this instant (CS_GAP) -/
  gapUntil : Nat := 0
  lost : Bool := false
  relval : Nat := 0
  deriving DecidableEq, Repr

/-- An open GPIO bank cell (R88). -/
structure BankCell where
  tstamp : Nat
  changed : Nat
  closeAt : Nat
  /-- EDGE as it was when the cell opened (R11) -/
  edge : Nat := 0
  deriving DecidableEq, Repr

/-- A GPIO bank (R88, R89, R98, R101, R102). -/
structure Gpio where
  /-- filtered and raw pad states of the inputs -/
  input : Nat := 0
  raw : Nat := 0
  relval : Nat := 0
  /-- the level each output pin drives, and the pins left high-impedance -/
  drive : Nat := 0
  hiz : Nat := 0xFFFF
  cell : Option BankCell := none
  deriving DecidableEq, Repr

/-- A serial receive path (R90, R92). -/
structure RxPath where
  open_ : List Byte := []
  overrun : Bool := false
  last : Nat := 0
  /-- MAXB, GAP and DELIM as they were when the open cell began (R11) -/
  cfg : Nat := 0
  /-- payloads of closed cells that wait in the FIFO for one of the channel's 4 places (R103), oldest first -/
  closed : List (List Byte) := []
  deriving DecidableEq, Repr

/-- A UART (R90, R91). -/
structure Uart where
  rx : RxPath := {}
  txFifo : List Byte := []
  /-- the character being sent and the instant it ends -/
  sending : Option (Byte × Nat) := none
  /-- XON or XOFF to send before the FIFO -/
  control : Option Byte := none
  /-- CTS_N is deasserted -/
  ctsStop : Bool := false
  /-- an XOFF was received -/
  xoffStop : Bool := false
  /-- RTS_N is deasserted, or XOFF was sent -/
  held : Bool := false
  deriving DecidableEq, Repr

/-- The parallel port (R92). -/
structure ParPort where
  rx : RxPath := {}
  /-- bytes of the cells to send, oldest cell first -/
  txCells : List (List Byte) := []
  /-- the byte on the lines and the instant at which its strobe begins -/
  sending : Option (Byte × Nat) := none
  /-- no byte is driven before this instant: the last strobe's end -/
  freeAt : Nat := 0
  acked : Bool := false
  busy : Bool := false
  /-- RUN is held off at the high mark -/
  runHeld : Bool := false
  deriving DecidableEq, Repr

/-- A PWM output (R93). -/
structure Pwm where
  period : Nat := 0
  high : Nat := 0
  running : Bool := false
  boundary : Nat := 0
  pending : Option (Nat × Nat) := none
  relval : Nat := 0
  /-- the level at which the output stands until the next release that takes effect on it: its safe
  level (R102) or a force (R97, R98) -/
  held : Option Bool := some false
  deriving DecidableEq, Repr

/-- Tideway's pin stage and Gong's latches (R73 to R108). -/
structure Tideway where
  outEn : Bool := false
  /-- the configuration store is loaded, so pins are no longer all high-impedance (R108) -/
  loaded : Bool := false
  inputs : List PinCell := []
  due : List DueCell := []
  enc : NatMap Encoder := []
  sd : NatMap StepDir := []
  spi : NatMap Spi := []
  gpio : NatMap Gpio := []
  uart : NatMap Uart := []
  par : ParPort := {}
  pwm : NatMap Pwm := []
  /-- FIRED bits of Gong's 64 entries -/
  fired : Nat := 0
  /-- ACTION and TARGET with which each fired entry fired (R97) -/
  forces : NatMap (Nat × Nat) := []
  deriving DecidableEq, Repr

end Sys2Proof.Machine
end

