-- ==== Sys2Proof/Machine/TypesBittern.lean ====
section
/-! DEFINITION. The plain data of the Bittern recorder, checkpoint images and replay (spec/15), and of the test access
port, the fuses and the boot flash (spec/17, spec/19). -/
namespace Sys2Proof.Machine

/-- R487: what a checkpoint image holds: register fields, both copies of the class S tables and the parse store, the
Weir, Gong's latches, memories and the DRAM scope, Belfry's directory, the Timebase, H and the sequences. -/
structure Image where
  regs : NatMap Nat := []
  stagedRegs : NatMap (List RegEdit) := []
  tables : Tables := {}
  epoch : Nat := 0
  staged : Staged := {}
  learn : NatMap (Option Nat) := []
  weir : List WeirEntry := []
  seqs : NatMap StreamSeq := []
  nextGseq : Nat := 0
  td : Tideway := {}
  inst : NatMap Instance := []
  dir : List BfEntry := []
  tb : Timebase := {}
  mem : List Host.Cell := []
  /-- the headers of the cells that were open at g0 (R469) -/
  opened : List Header := []
  deriving DecidableEq, Repr, Inhabited

/-- An image slot (R487, R488): its g0, where in the ring the chunk at g0 stands (total bytes written then), its image. -/
structure BtSlot where
  valid : Bool := false
  stale : Bool := false
  g0 : Nat := 0
  mark : Nat := 0
  image : Image := {}
  deriving DecidableEq, Repr

/-- A chunk being filled: the GSEQ of its first record, its records' bytes, and the GSEQ of its last record. -/
structure OpenChunk where
  gseq : Nat
  bytes : List Byte
  last : Nat := gseq
  deriving DecidableEq, Repr

/-- Who waits for a checkpoint: a mailbox, for REC_CHECKPOINT or for TWIN_RESYNC. -/
structure CkptAsker where
  mbox : Nat
  resync : Bool
  deriving DecidableEq, Repr

/-- The Bittern recorder. -/
structure Bittern where
  /-- 0 idle, 1 quiescing, 2 copying -/
  ckpt : Nat := 0
  since : Nat := 0
  g0 : Nat := 0
  tries : Nat := 0
  retryAt : Option Nat := none
  askers : List CkptAsker := []
  slot0 : BtSlot := {}
  slot1 : BtSlot := {}
  /-- the slot being copied into, and its image -/
  copying : Option (Nat × Image) := none
  /-- bytes of chunks written since the ring was placed, and CSEQ of the next chunk -/
  total : Nat := 0
  cseq : Nat := 0
  chunks : NatMap OpenChunk := []
  closeAt : Nat := 0
  /-- records skipped and not yet marked: first and last GSEQ (R482) -/
  gap : Option (Nat × Nat) := none
  lastCkpt : Nat := 0
  /-- bytes that each instance's records have used (R483) -/
  shares : NatMap Nat := []
  /-- BT_XFER: bytes moved so far; a transfer has ended -/
  moved : Nat := 0
  deriving DecidableEq, Repr

/-- A replay (R492 to R495): records still to offer, recorded digests as (window, COUNT, SUM), and its state. -/
structure Replay where
  records : List IngressRec := []
  digests : List (Nat × Nat × Nat) := []
  /-- instant at which the replay last made progress, for STUCK -/
  moved : Nat := 0
  done : Bool := false
  stuck : Bool := false
  site : Nat := 0
  first : Option Nat := none
  readErr : Bool := false
  deriving DecidableEq, Repr

/-- The test access port and the fuses (R584 to R587). -/
structure Tap where
  /-- the fuses as programmed, and the key hash as read at the last power-on reset (R586) -/
  keyHash : Nat := 0
  dbgOpen : Bool := false
  hashAtBoot : Nat := 0
  /-- the fuses have not been read since the last power-on reset (R529) -/
  unread : Bool := true
  /-- a running programming: (TARGET, VALUE, instant); FAIL -/
  prog : Option (Nat × Nat × Nat) := none
  fail : Bool := false
  /-- the instruction register; the boundary register's contents -/
  ir : Nat := 0x01
  boundary : List Byte := []
  /-- EXTEST, HIGHZ or CLAMP is in effect -/
  pads : Bool := false
  /-- a valid debug token has been loaded since the last device reset -/
  token : Bool := false
  /-- the DBG_ACCESS data register's DATA, DONE and ERR -/
  dbg : Nat × Bool × Bool := (0, false, false)
  deriving DecidableEq, Repr

end Sys2Proof.Machine

/-- The bytes of a checkpoint image and the image that bytes hold; the specification does not give their layout. -/
opaque Sys2Proof.Config.imageBytes : Sys2Proof.Machine.Image → List Sys2Proof.Byte
/-- The image that bytes hold. -/
opaque Sys2Proof.Config.imageOf : List Sys2Proof.Byte → Sys2Proof.Machine.Image
end

