-- ==== Sys2Proof/Machine/TypesCarillon.lean ====
section
/-! DEFINITION. The plain data of the Carillon groups, the launch queue and the Kettle units (spec/08). -/
namespace Sys2Proof.Machine

/-- A launch request that has passed R271, with its launch block. -/
structure Launch where
  req : HelpReq
  entry : Nat
  groups : Nat
  farEn : Bool
  autoAb : Bool
  farBase : Nat
  arg : List Byte
  deriving DecidableEq, Repr

/-- How far the operation of a held token has come (R278). -/
inductive KtStatus
  | waiting
  | done
  /-- a descriptor fault with its SUB (Table 8.10) -/
  | desc (sub : Nat)
  | ecc
  deriving DecidableEq, Repr

/-- A held token: its number, its descriptor's address and its operation. -/
structure CaToken where
  num : Nat
  addr : Nat
  status : KtStatus
  deriving DecidableEq, Repr

/-- A far load that waits for its data (R268): destination, uniform or per lane, a pair or a word, the lanes with
their addresses and, for a DRAM address, the access and the place in it. -/
structure CaLoad where
  dest : Nat
  uni : Bool
  pair : Bool
  lanes : List (Nat × Nat × Option (Nat × Nat))
  deriving DecidableEq, Repr

/-- A park (R286): its cause, token, SUB, lane address and, once the held operations have ended, its instant. -/
structure CaPark where
  cause : Nat
  tok : Nat
  sub : Nat
  since : Option Nat
  deriving DecidableEq, Repr

/-- A kernel on a group. Register r of lane l has key 64 l + r. -/
structure Kernel where
  launch : Launch
  lnum : Nat
  uid : Nat
  /-- CA_Gg_ILIM and CA_Gg_PTO as they stood when the kernel started (R11, R12) -/
  ilim : Nat := 0
  pto : Nat := 0
  v : NatMap Nat := []
  u : NatMap Nat := []
  exec : Nat := 0xFFFFFFFF
  /-- the mask stack: SAVED and ALT of entry e, and its kinds, bit e set for LOOP -/
  saved : NatMap Nat := []
  alt : NatMap Nat := []
  mkind : Nat := 0
  depth : Nat := 0
  pc : Nat
  steps : Nat := 0
  toks : List CaToken := []
  posted : List Posted := []
  /-- a posted far store completed in error since the last FENCE -/
  postErr : Bool := false
  load : Option CaLoad := none
  /-- EXIT has been executed -/
  exiting : Bool := false
  park : Option CaPark := none
  /-- PARKWR entries of writes made while parked (R290) -/
  writes : List DEntry := []
  deriving DecidableEq, Repr

/-- An operation on a Kettle unit: its group, its kernel and its token. -/
structure KtOp where
  g : Nat
  uid : Nat
  tok : Nat
  addr : Nat
  deriving DecidableEq, Repr

/-- A Kettle unit: the operations that wait, in KSTART order; the running one with its descriptor and what the checks
at its start found; and whether the operation that ended last was the odd group's (R283). -/
structure Kettle where
  queue : List KtOp := []
  run : Option (KtOp × List Byte × KtStatus) := none
  last : Option Bool := none
  deriving DecidableEq, Repr

/-- Carillon and Kettle. -/
structure Carillon where
  groups : NatMap Kernel := []
  queue : List Launch := []
  kettle : NatMap Kettle := []
  lnum : Nat := 0
  nextUid : Nat := 1
  deriving DecidableEq, Repr

end Sys2Proof.Machine
end

