-- ==== Sys2Proof/Machine/TypesSluice.lean ====
section
/-! DEFINITION. The plain data of the Sluice DRAM controller and of the patrol scrubbers (spec/09). -/
namespace Sys2Proof.Machine

/-- An access that a master makes to DRAM, from its offer at a port to its completion (R312, R315). -/
structure DramAcc where
  port : Nat
  write : Bool
  addr : Nat
  /-- the bytes to write, or the bytes read so far -/
  data : List Byte
  who : Who
  /-- the port has split it into bursts -/
  split : Bool := false
  /-- bursts not yet done -/
  left : Nat := 0
  /-- a burst met an uncorrectable error, or poisoned a granule -/
  bad : Bool := false
  deriving DecidableEq, Repr

/-- One request: bytes of one 64-byte burst (R312). -/
structure DramReq where
  acc : Nat
  port : Nat
  write : Bool
  addr : Nat
  len : Nat
  /-- instant of arrival at the port (R316) -/
  arrived : Nat
  /-- level 3 has been counted -/
  late : Bool := false
  /-- instant at which it joined its channel's queue (R317) -/
  joined : Nat := 0
  deriving DecidableEq, Repr

/-- One rank's refresh and calibration (R321, R323). -/
structure Rank where
  due : Nat := 7800
  postponed : Nat := 0
  /-- no command may issue before this instant -/
  busyUntil : Nat := 0
  zqAt : Nat := 0
  driftAt : Nat := 0
  deriving DecidableEq, Repr

/-- The Sluice. -/
structure Sluice where
  accs : NatMap DramAcc := []
  nextAcc : Nat := 1
  /-- requests that wait at their ports, in order of arrival -/
  waiting : List DramReq := []
  /-- requests in the channels' queues, in order of arrival -/
  queued : List DramReq := []
  /-- open row plus 1 of each bank, by bank key -/
  rows : NatMap Nat := []
  /-- banks in in-order mode -/
  inord : List Nat := []
  /-- channels that drain writes (R318) -/
  drain : List Nat := []
  ranks : NatMap Rank := []
  /-- each scrubber's place: the next visit of its pass, and the instant at which the pass began (R178, R305, R337) -/
  scrubs : NatMap (Nat × Nat) := []
  deriving DecidableEq, Repr

end Sys2Proof.Machine
end

