-- ==== Sys2Proof/Machine/State.lean ====
section
/-! DEFINITION. The state of the block: every register, buffer, queue, counter, mode and pin the
specification gives it, and the queue of waiting commands. -/
namespace Sys2Proof.Machine

/-- Reasons for which a step stops the machine: none. No command of this block stops it; every
condition the specification calls an error is recorded in State. -/
inductive Fault
  /-- Raised by no command; it stands for an empty set of reasons (safe). -/
  | noFault
  deriving DecidableEq, Repr

/-- Reasons for which a command has no meaning. -/
inductive Refusal
  /-- Raised by the dispatch alone, for a command whose meaning is not written (safe: nothing follows). -/
  | notModelled (mnemonic : String)
  deriving DecidableEq, Repr

/-- The state. -/
structure State where
  /-- commands that wait, first in, first out -/
  pending : List Instr := []
  /-- the model's own elapsed real time in ns, by which durations are measured -/
  now : Nat := 0
  /-- the model's own counter, by which each open value is a fresh one -/
  fresh : Nat := 0
  mode : Mode := .boot
  /-- active register values that differ from their reset values, by key -/
  regs : NatMap Nat := []
  /-- written values of class H fields of withdrawn blocks, in force at return (R11, R506) -/
  heldRegs : NatMap Nat := []
  /-- the edits of class S register bits that are staged, by key; no bit is in two edits (R13, R16) -/
  stagedRegs : NatMap (List RegEdit) := []
  /-- upper words of 64-bit pairs, latched by the last lower-word read (R6) -/
  latches : NatMap Nat := []
  tb : Timebase := {}
  weir : List WeirEntry := []
  seqs : NatMap StreamSeq := []
  nextGseq : Nat := 0
  /-- cells from acceptance to completion and recording, in GSEQ order -/
  cells : List Cell := []
  /-- packet-buffer granules in use, of 131072 -/
  pbufUsed : Nat := 0
  /-- the Supervisor input queue (R20) -/
  supQueue : List (Header × List Byte) := []
  /-- payloads of cells that Ohmyth offers to the Intake (R20) -/
  supOffers : List (List Byte) := []
  td : Tideway := {}
  eth : NatMap EthPort := []
  learn : Learning := {}
  /-- stream gates' schedules, flow meters, blocked stream filters (one bit each) and FRER functions -/
  sgates : NatMap GateSched := []
  meters : NatMap Meter := []
  blocked : Nat := 0
  frer : NatMap Frer := []
  /-- the active tables, the rule epoch (R176) and earlier tables that open cells still use (R245) -/
  tables : Tables := {}
  epoch : Nat := 0
  oldTables : List (Nat × Tables) := []
  staged : Staged := {}
  /-- class S register writes that wait for the end of a reload: key, mask, value (R175) -/
  lateStages : List (Nat × Nat × Nat) := []
  /-- accepted commits, in GSEQ order, and markers that wait for the Intake -/
  commits : List Commit := []
  markers : List Marker := []
  errors : Errors := {}
  inst : NatMap Instance := []
  sq : NatMap HostQueue := []
  cq : NatMap HostQueue := []
  pcie : NatMap PcieFn := []
  numVfs : Nat := 0
  linkSpeed : Nat := 0
  linkWidth : Nat := 0
  wd : Withdraw := {}
  ford : Ford := {}
  /-- Herons, Egret threads, channels and helpers (spec/05 to 07), and Belfry (spec/10) -/
  eg : Egret := {}
  bf : Belfry := {}
  /-- Carillon groups, the launch queue and the Kettle units (spec/08) -/
  ca : Carillon := {}
  /-- the mailboxes, and those whose command Ohmyth has not yet taken up, in order of acceptance (R373) -/
  mb : NatMap Mailbox := []
  mbQueue : List Nat := []
  /-- mailboxes whose command has been taken up and not yet answered, in that order (R373) -/
  mbTaken : List Nat := []
  viv : Viveram := {}
  sup : Supervisor := {}
  /-- decision entries received or recorded and not yet taken by their sites (R485) -/
  dlogIn : List DEntry := []
  /-- decision and configuration entries made (R484) -/
  dlogOut : List DEntry := []
  /-- Bittern and replay (spec/15) -/
  bt : Bittern := {}
  replay : Replay := {}
  /-- the test access port and the fuses (spec/19); HOT_N is asserted -/
  tap : Tap := {}
  hotN : Bool := false
  /-- the health monitors' alarms (R582) -/
  hl : Health := {}
  /-- dozing blocks, in the IN_HINT layout (R441) -/
  dozing : Nat := 0
  /-- Intake: inputs of other sources accepted while each source waited (R599) -/
  passedOver : NatMap Nat := []
  /-- the Sluice DRAM controller and the scrubbers (spec/09) -/
  sl : Sluice := {}
  /-- errors that granules hold, by granule (address / 8): 1 correctable, 2 uncorrectable, 3 poison, 4 both
  copies of a Weir key (R329 to R335, R550) -/
  ecc : NatMap Nat := []
  /-- the instant of the last occurrence of each periodic event, by the event's number -/
  timers : NatMap Nat := []
  /-- bytes of every memory, by device address (Table 9.1) -/
  mem : List Host.Cell := []
  /-- what has been sent to the outside, in order -/
  out : List Output := []
  deriving DecidableEq, Repr

/-- The state right after a power-on reset: SV_RSTCAUSE reads 1, and I0 is ACTIVE. -/
def State.reset : State := { inst := [(0, { state := .active })], regs := [(0x00370024, 1)] }

end Sys2Proof.Machine
end

