-- ==== Sys2Proof/Machine/Ops.lean ====
section
/-! DEFINITION. The named operations over registers, counters, outputs, interrupts, memory, error
records and the decision log that the meanings share. -/
namespace Sys2Proof.Machine

/-! ## Registers -/

/-- The registers of PF BAR0 in the part of its map that holds `off` (Table 0.6). -/
def pfRegsAt (off : Nat) : List RegDesc :=
  if off < 0x00140000 then weirRegs ++ timebaseRegs
  else if off < 0x00160000 then tidewayRegs ++ gongRegs
  else if off < 0x00200000 then ethernetRegs ++ tableWindows ++ heronRegs
  else if off < 0x00280000 then egretRegs
  else if off < 0x00340000 then carillonRegs
  else if off < 0x00360000 then sluiceRegs ++ belfryRegs
  else if off < 0x003A0000 then mailboxRegs 0x00360000 ++ supervisorRegs ++ privInstRegs
  else if off < 0x003C0000 then fordRegs ++ bitternRegs
  else if off < 0x00F00000 then viveramRegs ++ healthRegs ++ withdrawRegs ++ errorRegs
  else msixRegs 0x00F00000 64

/-- The registers of an instance block, without its mailbox. -/
def blockRegs : List RegDesc := queueRegs ++ instanceRegs ++ ivecRegs

/-- The registers of a VF's view: the instance block, the mailbox and the MSI-X table. -/
def vfRegs : List RegDesc := blockRegs ++ mailboxRegs 0x2000 ++ msixRegs 0x30000 16

/-- Whether register description `d` places a register at `off`. -/
def RegDesc.covers (d : RegDesc) (off : Nat) : Bool :=
  decide (d.base ≤ off) && (off - d.base) % d.stride == 0 && decide ((off - d.base) / d.stride < d.count)

/-- The register at an offset of a list of descriptions. -/
def findReg (l : List RegDesc) (off : Nat) : Option RegDesc := l.find? (·.covers off)

/-- The description of the register with key `key` (R8: none where the view implements nothing). -/
def regAt (key : Nat) : Option RegDesc :=
  let off := key % 0x01000000
  if key / 0x01000000 = 0 then
    if off < 0x00006000 then findReg blockRegs off else findReg (pfRegsAt off) off
  else findReg vfRegs off

/-- The reset word of a register description. -/
def RegDesc.resetWord (d : RegDesc) : Nat :=
  d.fields.foldl (fun a f => a + (f.reset % 2 ^ f.w) * 2 ^ f.lo) 0

/-- The value of a register after a device reset; 0 where no register is. -/
def regReset (key : Nat) : Nat :=
  match regAt key with
  | some d => d.resetWord
  | none => 0

/-- The active word of a register. -/
def State.regW (s : State) (key : Nat) : Nat := NatMap.get (regReset key) s.regs key

/-- A field of a register's active word. -/
def State.fld (s : State) (key lo w : Nat) : Nat := bitsOf (s.regW key) lo w

/-- One bit of a register. -/
def State.bit (s : State) (key i : Nat) : Bool := s.fld key i 1 == 1

/-- Sets a register's active word. -/
def State.setReg (s : State) (key v : Nat) : State :=
  { s with regs := NatMap.put (regReset key) s.regs key (v % 2 ^ 32) }

/-- Sets a field of a register. -/
def State.setFld (s : State) (key lo w v : Nat) : State := s.setReg key (putBits (s.regW key) lo w v)

/-- R598: after a write of register `key`, a TD_ENCn_PHASE that is not below TD_ENCn_PERIOD is taken modulo it, in the
active word and in a value held for a withdrawn channel. A PERIOD of 0 leaves PHASE as it is. -/
def State.phaseNorm (s : State) (key : Nat) : State :=
  if 0x00140100 ≤ key && key < 0x00140300 && (key % 0x20 == 4 || key % 0x20 == 8) then
    let p := key / 0x20 * 0x20 + 4
    let within (period phase : Nat) : Nat := if period = 0 then phase else phase % period
    let s := s.setReg (p + 4) (within (s.regW p) (s.regW (p + 4)))
    if NatMap.has s.heldRegs (p + 4) then
      let held := within (NatMap.get (s.regW p) s.heldRegs p) (NatMap.get 0 s.heldRegs (p + 4))
      { s with heldRegs := NatMap.ins s.heldRegs (p + 4) held }
    else s
  else s

/-- Hardware sets one bit of a register, such as an event bit (R10). -/
def State.setBit (s : State) (key i : Nat) : State := s.setFld key i 1 1

/-- A saturating 32-bit counter counts `n` events. -/
def State.bumpBy (s : State) (key n : Nat) : State :=
  s.setReg key (satAdd 0xFFFFFFFF (s.regW key) n)

/-- A saturating 32-bit counter counts one event. -/
def State.bump (s : State) (key : Nat) : State := s.bumpBy key 1

/-! ## Open values, outputs and instances -/

/-- The state after one open value has been taken. -/
def State.tick (s : State) : State := { s with fresh := s.fresh + 1 }

/-- Appends an output. -/
def State.emit (s : State) (k : OutKind) (who addr : Nat) (data : List Byte) : State :=
  { s with out := s.out ++ [⟨k, who, addr, data⟩] }

/-- Instance `i`. -/
def State.instAt (s : State) (i : Nat) : Instance := NatMap.get {} s.inst i

/-- Changes instance `i`. -/
def State.modInst (s : State) (i : Nat) (f : Instance → Instance) : State :=
  { s with inst := NatMap.mod {} s.inst i f }

/-- Instance `i` is ACTIVE. -/
def State.active (s : State) (i : Nat) : Bool := (s.instAt i).state == .active

/-- The configuration of function `fn`. -/
def State.fnAt (s : State) (fn : Nat) : PcieFn := NatMap.get {} s.pcie fn

/-- Byte `off` to `off + k - 1` of an instance's QUOTA block (Table 13.5), little-endian. -/
def Instance.q (x : Instance) (off k : Nat) : Nat := bitsOf x.quota (8 * off) (8 * k)

/-- The instant of periodic event `k`'s last occurrence. -/
def State.timer (s : State) (k : Nat) : Nat := NatMap.get 0 s.timers k

/-- Notes an occurrence of periodic event `k` now. -/
def State.stamp (s : State) (k : Nat) : State := { s with timers := NatMap.put 0 s.timers k s.now }

/-- At least `d` ns have passed since event `k`. -/
def State.passed (s : State) (k d : Nat) : Bool := decide (s.timer k + d ≤ s.now)

/-! ## Interrupts (R431) -/

/-- The MSI-X table's base key for function `i`. -/
def msixBase (i : Nat) : Nat := if i = 0 then 0x00F00000 else viewKey i 0x30000

/-- Sends the MSI-X message of vector `vec` of function `i`, or leaves it pending while masked. -/
def State.msix (s : State) (i vec : Nat) : State :=
  let v := vec % (if i = 0 then 64 else 16)
  let fn := s.fnAt i
  let base := msixBase i + 16 * v
  if !fn.msixEnable || !fn.busMaster then s
  else if fn.msixMask || s.bit (base + 12) 0 then
    { s with pcie := NatMap.put {} s.pcie i { fn with pba := fn.pba ||| 2 ^ v } }
  else s.emit .msix i v (leBytes 4 (s.regW base) ++ leBytes 4 (s.regW (base + 4)) ++ leBytes 4 (s.regW (base + 8)))

/-- The vector that IN_IVEC names for cause `k` of instance `i`. -/
def State.ivec (s : State) (i k : Nat) : Nat := s.fld (instKey i (0x3040 + k / 4 * 4)) (8 * (k % 4)) 6

/-- Sets cause `k` of instance `i`; a message is sent when the bit goes from 0 to 1 while enabled. -/
def State.cause1 (s : State) (i k : Nat) : State :=
  if s.bit (instKey i 0x3000) k then s
  else
    let s := s.setBit (instKey i 0x3000) k
    if s.bit (instKey i 0x3004) k then s.msix i (s.ivec i k) else s

/-- Sets cause `k` of instance `i` (Table 13.9); a tenant's CARILLON or ERROR cause also sets I0's TENANT. -/
def State.cause (s : State) (i k : Nat) : State :=
  let s := s.cause1 i k
  if i ≠ 0 ∧ (k = 10 ∨ k = 11) then s.cause1 0 16 else s

/-- Table 13.9: the TIME cause, set in every instance's view (R63). -/
def State.causeAll (s : State) (k : Nat) : State :=
  (List.range 16).foldl (fun s i => if s.active i then s.cause i k else s) s

/-! ## Memory by device address (Table 9.1); an unlisted byte reads 0 -/

/-- Where the thread frames stand in the model's one memory list; they have no device address. -/
def frameBase : Nat := 0x10000000000
/-- The frame of thread `t` of cluster `c`. -/
def frameAddr (c t : Nat) : Nat := frameBase + c * 0x20000 + t * 0x1000
/-- Cluster `c`'s shared memory. -/
def sharedAddr (c : Nat) : Nat := 0x1001000000 + 0x100000 * c
/-- Cluster `c`'s program store. -/
def progAddr (c : Nat) : Nat := 0x1001080000 + 0x100000 * c
/-- Group `g`'s local memory. -/
def localAddr (g : Nat) : Nat := 0x1002000000 + 0x40000 * g
/-- The Carillon code store. -/
def codeAddr : Nat := 0x1003000000
/-- The Viveram configuration store. -/
def cfgStoreAddr : Nat := 0x1004000000
/-- The Viveram black-box ring. -/
def bbxAddr : Nat := 0x1004100000
/-- The packet buffer. -/
def pbufBase : Nat := 0x1000000000
/-- The Viveram fault log. -/
def flogAddr : Nat := 0x1004380000
/-- The Supervisor data RAM. -/
def supRamAddr : Nat := 0x1005000000

/-- What an unlisted byte of memory reads as. -/
def memDefault : Byte := 0

/-- The memory's canonical form: rising addresses, and no entry equal to what an unlisted byte reads as. -/
def Memory.wf (m : List Host.Cell) : Bool := NatMap.wf memDefault m

/-- Reads one byte. -/
def State.rd8 (s : State) (a : Nat) : Byte := NatMap.get memDefault s.mem a

/-- Writes one byte. -/
def State.wr8 (s : State) (a : Nat) (v : Byte) : State :=
  { s with mem := NatMap.put memDefault s.mem a v }

/-- Reads `n` bytes from `a`. -/
def State.rdBytes (s : State) (a n : Nat) : List Byte := NatMap.getList memDefault s.mem a n

/-- Writes bytes from `a`. -/
def State.wrBytes (s : State) (a : Nat) (l : List Byte) : State :=
  { s with mem := NatMap.putList memDefault s.mem a l }

/-- Reads an `n`-byte little-endian number (R3). -/
def State.rdLe (s : State) (a n : Nat) : Nat := ofLe (s.rdBytes a n)

/-- Writes an `n`-byte little-endian number. -/
def State.wrLe (s : State) (a n v : Nat) : State := s.wrBytes a (leBytes n v)

/-! ## The fault log (R490) -/

/-- Table 17: the mode code, in the DEV_MODE encoding, with 0 for BOOT. -/
def Mode.code : Mode → Nat
  | .boot => 0 | .commission => 1 | .lead => 2 | .shadow => 3 | .replay => 4 | .hold => 5

/-- The last `k` black-box records, oldest first. -/
def State.lastBbx (s : State) (k : Nat) : List Byte :=
  let n := min k s.viv.bbxTotal
  (List.range n).flatMap fun j =>
    s.rdBytes (bbxAddr + 32 * ((s.viv.bbxNext + 81920 - n + j) % 81920)) 32

/-- Writes a record to the lowest free slot of 0 to 63, or to the ring 64 to 255. -/
def State.faultLog (s : State) (r : ErrRec) : State :=
  let slot := if s.viv.kept < 64 then s.viv.kept else s.viv.flogNext
  let bytes := leBytes 4 (s.viv.slotSeq + 1) ++ leBytes 4 s.viv.boots ++ leBytes 8 s.tb.count ++
    leBytes 6 s.nextGseq ++ leBytes 1 s.mode.code ++ [0xA5] ++ List.replicate 40 0 ++
    padTo 512 r.toBytes ++ padTo 1472 (s.lastBbx 46)
  let s := s.wrBytes (flogAddr + 2048 * slot) bytes
  let viv := { s.viv with slotSeq := (s.viv.slotSeq + 1) % 2 ^ 32 }
  if s.viv.kept < 64 then { s with viv := { viv with kept := viv.kept + 1 } }
  else { s with viv := { viv with flogNext := if viv.flogNext = 255 then 64 else viv.flogNext + 1 } }

/-! ## Error records (R544 to R549) -/

/-- What the source of an error record supplies. -/
structure ErrSrc where
  block : Nat
  code : Nat
  sev : Nat
  dkind : Nat := 0
  unit : Nat := 0
  gseq : Option Nat := none
  /-- the tenant or instance whose state alone is concerned; none sets SHARED (R547) -/
  inst : Option Nat := none
  master : Nat := 0xFFFF
  detail : List Byte := []

/-- Table 18.2: the MEM detail; `flags` holds UE, POISON and PMERGE. -/
def memDetail (addr memid syn flags port : Nat) (mbox : Nat := 0xFF) (seq opcode : Nat := 0) : List Byte :=
  leBytes 5 addr ++ leBytes 1 memid ++ leBytes 1 syn ++ leBytes 1 flags ++ leBytes 1 port ++
  leBytes 1 mbox ++ leBytes 1 seq ++ leBytes 1 0 ++ leBytes 2 opcode ++ leBytes 2 0

/-- The Supervisor moves records: it runs, outside patch-hold. -/
def State.ohmythUp (s : State) : Bool := s.sup.running && !s.sup.halted && !s.sup.stopped && !s.sup.hold

/-- R546: the mark of the last record made for the same three. -/
def State.rateMark (s : State) (e : ErrSrc) : Option RateMark :=
  s.errors.marks.find? fun m => m.block == e.block && m.code == e.code && m.unit == e.unit

/-- R546: the marks after the mark of one (BLOCK, CODE, UNIT) is replaced. -/
def setMark (l : List RateMark) (m : RateMark) : List RateMark :=
  m :: l.filter fun x => !(x.block == m.block && x.code == m.code && x.unit == m.unit)

/-- R563: the records at the collector's end that `r` of the same nanosecond goes before: those of a higher BLOCK, or of
its BLOCK and a higher UNIT, none of them already written to the fault log. -/
def recsAfter (l : List (ErrRec × Bool)) (r : ErrRec) : List (ErrRec × Bool) :=
  (l.reverse.takeWhile fun x =>
    x.1.made == r.made && !x.2 && decide (r.block < x.1.block || (r.block = x.1.block && r.unit < x.1.unit))).reverse

/-- R549, R563: hands a record to the collector; among the records of one nanosecond RSEQ rises with the place. -/
def State.collect (s : State) (r : ErrRec) : State :=
  let full := decide (32 ≤ s.errors.collector.length)
  let direct := r.sev == 4 || (r.sev == 3 && (full || !s.ohmythUp))
  let after := if full then [] else recsAfter s.errors.collector r
  let r' := { r with rseq := (after.map fun x => x.1.rseq).headD r.rseq }
  let later := after.zipWith (fun x n => ({ x.1 with rseq := n }, x.2))
    ((after.map fun x => x.1.rseq).drop 1 ++ [r.rseq])
  let s := if direct then s.faultLog r' else s
  if full then
    if direct then s else s.bump 0x003D0220
  else
    let kept := s.errors.collector.take (s.errors.collector.length - after.length)
    { s with errors := { s.errors with collector := kept ++ (r', direct) :: later } }

/-- Makes a record: counted by severity, numbered, and handed to the collector; a CORRECTED one within
1 ms of the last for the same BLOCK, CODE and UNIT is suppressed (R546). A FATAL one stands; with ESC_EN 0 it stops a
Supervisor that was its source (R555). -/
def State.record (s : State) (e : ErrSrc) : State :=
  match (if e.sev = 1 then s.rateMark e else none) with
  | some m =>
    if s.now < m.at_ + 1000000 then
      { s with errors := { s.errors with
        marks := setMark s.errors.marks { m with suppr := satAdd 0xFFFF m.suppr 1 } } }
    else go s m.suppr
  | none => go s 0
where
  go (s : State) (suppr : Nat) : State :=
    let r : ErrRec := {
      rseq := s.errors.rseq, sev := e.sev, block := e.block, code := e.code, time := s.tb.count,
      gseq := e.gseq.getD s.nextGseq, inst := e.inst.getD 0, shared := e.inst.getD 0 == 0,
      dkind := e.dkind, master := e.master, unit := e.unit, suppr, detail := e.detail, made := s.now }
    let s := s.bump (0x003D0210 + 4 * (e.sev - 1))
    let er := s.errors
    let er := { er with
      rseq := (er.rseq + 1) % 2 ^ 32, lastSev := e.sev,
      marks := setMark er.marks ⟨e.block, e.code, e.unit, s.now, 0⟩ }
    let er := if e.sev = 4 then
        { er with fatalAt := some (er.fatalAt.getD s.now), fatalHeld := er.fatalHeld || !s.bit 0x003D0200 0 }
      else er
    let halt := e.sev == 4 && e.block == 0x0F && !s.bit 0x003D0200 0
    ({ s with errors := er, sup := { s.sup with stopped := s.sup.stopped || halt } } : State).collect r

/-! ## The decision log (R484, R485) -/

/-- The device is a lead whose partner is SYNCING or SHADOW (R452). -/
def State.partnerFollows (s : State) : Bool :=
  s.ford.role == .lead && (s.ford.peerRole == .syncing || s.ford.peerRole == .shadow)

/-- R484: the device makes decision entries. -/
def State.makesLog (s : State) : Bool :=
  (s.mode == .lead || s.mode == .commission) && (s.bit 0x003B0000 0 || s.partnerFollows)

/-- R485: sites wait for their entries. -/
def State.followsLog (s : State) : Bool := s.mode == .shadow || s.mode == .replay || s.ford.role == .syncing

/-- Makes an entry. -/
def State.logEntry (s : State) (type master : Nat) (body : List Byte) (size : Nat := 16) : State :=
  if s.makesLog then { s with dlogOut := s.dlogOut ++ [⟨type, size, master, padTo (size - 4) body⟩] } else s

/-- The next entry of a site: the first expected one of TYPE `type` whose master and body satisfy `p`. -/
def State.siteNext (s : State) (type : Nat) (p : DEntry → Bool) : Option DEntry :=
  s.dlogIn.find? fun e => e.type == type && p e

/-- Takes the next entry of a site from the log. -/
def State.siteTake (s : State) (type : Nat) (p : DEntry → Bool) : State :=
  { s with dlogIn := s.dlogIn.eraseP fun e => e.type == type && p e, replay := { s.replay with moved := s.now } }

/-- R463: after a takeover, too, a site whose entry has been received follows it. -/
def State.followsSite (s : State) (type : Nat) (p : DEntry → Bool) : Bool :=
  s.followsLog || (s.mode == .lead && (s.siteNext type p).isSome)

end Sys2Proof.Machine
end

