-- ==== Sys2Proof/Machine/Ecc.lean ====
section
/-! DEFINITION. The device address map, DRAM addressing and the ECC policy of every protected memory
(spec/09 R298 to R311, R329 to R335, R600). -/
namespace Sys2Proof.Machine

/-! ## Where each memory stands. Memories outside the device map, which have no device address, stand at
the model's own addresses above the map -/

/-- The Heron parse store, active copy then staged. -/
def parseBase : Nat := 0x10001000000
/-- The Shoal entries, active copy then staged, 64 bytes an entry. -/
def shoalBase : Nat := 0x10002000000
/-- The Stream, Action and Station Tables, active copies then staged. -/
def tableBase : Nat := 0x10003000000
/-- The Weir entry store, 8 a slot. -/
def weirBase : Nat := 0x10004000000
/-- The Belfry directory, 8 an entry. -/
def belfryBase : Nat := 0x10005000000
/-- The Supervisor control store, 8 a microaddress. -/
def ctlStoreBase : Nat := 0x10006000000
/-- The mailbox areas, 512 bytes a mailbox. -/
def mailAreaBase : Nat := 0x10007000000
/-- Previous values of Stream, Action and Station Table entries that R245 keeps, by the low 16 bits of their epoch. -/
def keptBase : Nat := 0x10010000000

/-- Table 9.2, Table 18.2, R600: of the memory that holds address `a`, its MEMID, its block code and the
address an error record names. -/
def memInfo (a : Nat) : Nat × Nat × Nat :=
  if a < 0x800000000 then (0xF0, 0x0D, a)
  else if a < 0x1001000000 then (0, 0x0D, a)
  else if a < 0x1002000000 then
    if (a - 0x1001000000) % 0x100000 < 0x80000 then (1, 0x0A, a) else (3, 0x0A, a)
  else if a < 0x1003000000 then (4, 0x0B, a)
  else if a < 0x1004000000 then (5, 0x0B, a)
  else if a < 0x1005000000 then (14, 0x15, a)
  else if a < 0x10000000000 then (12, 0x0F, a)
  else if a < parseBase then (2, 0x0A, a - frameBase)
  else if a < shoalBase then (6, 0x08, a - parseBase)
  else if a < tableBase then (7, 0x09, a - shoalBase)
  else if a < weirBase then (8, 0x07, a - tableBase)
  else if a < belfryBase then (9, 0x02, (a - weirBase) / 8)
  else if a < ctlStoreBase then (10, 0x0E, (a - belfryBase) / 8)
  else if a < mailAreaBase then (11, 0x0F, (a - ctlStoreBase) / 8)
  else if a < keptBase then (13, 0x10, a - mailAreaBase)
  else (8, 0x07, (a - keptBase) % 0x40000)

/-! ## DRAM addressing (R307 to R310) -/

/-- SL_CTL. -/
abbrev slCtl : Nat := 0x00340000
/-- SV_RSTCAUSE. -/
abbrev svRstCause : Nat := 0x00370024
/-- SL_STAT. -/
abbrev slStat : Nat := 0x00340004
/-- SL_ERR. -/
abbrev slErr : Nat := 0x00340008
/-- SL_CHc_GEOM. -/
abbrev slGeom (c : Nat) : Nat := 0x00340010 + 0x10 * c

/-- Table 9.4: bank-group bits. -/
def State.dramG (s : State) (c : Nat) : Nat := if s.bit (slGeom c) 0 then 1 else 2
/-- Table 9.4: row bits. -/
def State.dramRb (s : State) (c : Nat) : Nat := 15 + min 2 (s.fld (slGeom c) 1 2)
/-- Rank bits. -/
def State.dramK (s : State) (c : Nat) : Nat := s.fld (slGeom c) 3 1
/-- R307: log2 of a channel's capacity. -/
def State.chanLog (s : State) (c : Nat) : Nat := 15 + s.dramG c + s.dramRb c + s.dramK c
/-- A channel is trained and in use. -/
def State.chanUp (s : State) (c : Nat) : Bool := s.bit slStat c && !s.bit slStat (2 + c)
/-- A channel that the map covers: trained in BOOT, whether or not it failed since (R552). -/
def State.chanMapped (s : State) (c : Nat) : Bool := s.bit slStat c
/-- The order, ORD0 to ORD3. -/
def State.dramOrd (s : State) : Nat := s.fld slCtl 0 2

/-- R340, R341: BOOT zeroes DRAM: after a power-on reset, or with SL_CTL.ZERO_ALWAYS. -/
def State.zeroesDram (s : State) : Bool := s.fld svRstCause 0 4 == 1 || s.bit slCtl 7

/-- R340: no master reaches DRAM before BOOT has zeroed it. -/
def State.dramShut (s : State) : Bool := s.mode == .boot && decide (s.sup.stage ≤ 4) && s.zeroesDram

/-- The device address after the last populated DRAM byte reached from `a`; none where `a` is unpopulated. -/
def State.dramEnd (s : State) (a : Nat) : Option Nat :=
  if s.dramShut then none
  else if s.dramOrd = 3 then
    let c := a / 0x400000000
    let top := c * 0x400000000 + 2 ^ s.chanLog c
    if c < 2 && s.chanMapped c && decide (a < top) then some top else none
  else
    let top := (if s.chanMapped 0 then 2 ^ s.chanLog 0 else 0) + (if s.chanMapped 1 then 2 ^ s.chanLog 1 else 0)
    if a < top then some top else none

/-! ## The geometry checks of BOOT (R307, R308, R311) -/

/-- R307, R308: a channel is refused: it is disabled, and CFG_BAD sets. -/
def State.refuseChannel (s : State) (c : Nat) : State := (s.setBit slStat (2 + c)).setBit slErr 1

/-- SL_CTL.CH_EN. -/
def State.chanEnabled (s : State) (c : Nat) : Bool := s.bit slCtl (2 + c)

/-- A channel that is enabled and has not been refused. -/
def State.chanWanted (s : State) (c : Nat) : Bool := s.chanEnabled c && !s.bit slStat (2 + c)

/-- R307, R308: the checks of the geometries and of the order. -/
def State.checkGeometry (s : State) : State :=
  let s := (upTo 2).foldl (fun s c => if s.chanWanted c && decide (34 < s.chanLog c) then s.refuseChannel c else s) s
  if s.dramOrd ≠ 3 && s.chanWanted 0 && s.chanWanted 1 && s.fld (slGeom 0) 0 4 ≠ s.fld (slGeom 1) 0 4 then s.refuseChannel 1
  else s

/-- R307, R308, R311: a write of SL_CTL or of a geometry in BOOT, after the configuration store has loaded, is checked as what
the store holds is. -/
def State.geometryWritten (s : State) (key : Nat) : State :=
  if s.mode == .boot && decide (2 < s.sup.stage) && (key == slCtl || key == slGeom 0 || key == slGeom 1) then s.checkGeometry
  else s

/-- The place of a DRAM address: channel, rank, bank group, bank, row. -/
structure DramPlace where
  ch : Nat
  rank : Nat
  group : Nat
  bank : Nat
  row : Nat

/-- R308, R309, R310, Table 9.5. -/
def State.dramPlace (s : State) (a : Nat) : DramPlace :=
  let ord := s.dramOrd
  let both := s.chanMapped 0 && s.chanMapped 1
  let h := if ord ≠ 3 && both then 1 else 0
  let only := if s.chanMapped 0 then 0 else 1
  let c0 := if ord = 3 then a / 0x400000000 % 2 else only
  let g := s.dramG c0
  let k := s.dramK c0
  let rb := s.dramRb c0
  let ch (lo : Nat) : Nat := if h = 1 then bitsOf a lo 1 else c0
  match ord with
  | 0 => ⟨ch 13, bitsOf a (15 + h + g) k, bitsOf a (13 + h) g, bitsOf a (13 + h + g) 2, bitsOf a (15 + h + g + k) rb⟩
  | 2 =>
    let row := bitsOf a (15 + g + h + k) rb
    ⟨ch (13 + g), bitsOf a (15 + g + h) k, bitsOf a 6 g ^^^ bitsOf row 0 g,
     bitsOf a (13 + g + h) 2 ^^^ bitsOf row g 2, row⟩
  | _ =>
    ⟨ch 9, bitsOf a (15 + h + g) k, bitsOf a (9 + h) g, bitsOf a (9 + h + g) 2, bitsOf a (15 + h + g + k) rb⟩

/-! ## The map (R298, R299) -/

/-- Which masters Table 9.1 asks about. -/
inductive Reach
  /-- a master that acts for an instance -/
  | inst
  /-- the Supervisor, or a debug access -/
  | sup
  /-- the device's own engines: DRAM, the packet buffer and the regions open to all -/
  | engine
  deriving DecidableEq, Repr

/-- Table 9.1: the address after the last byte of the region of `a`, where the region is open to `r`. -/
def State.regionEnd (s : State) (r : Reach) (a : Nat) : Option Nat :=
  if a < 0x800000000 then s.dramEnd a
  else if a < 0x1000000000 then none
  else if a < 0x1000800000 then if r = .inst then none else some 0x1000800000
  else if a < 0x1001000000 then none
  else if a < 0x1001600000 then
    let base := a - (a - 0x1001000000) % 0x100000
    let o := a - base
    if o < 0x40000 then some (base + 0x40000)
    else if 0x80000 ≤ o && o < 0x90000 && r = .sup then some (base + 0x90000) else none
  else if a < 0x1002000000 then none
  else if a < 0x1002200000 then some (a - (a - 0x1002000000) % 0x40000 + 0x40000)
  else if r ≠ .sup then none
  else if 0x1003000000 ≤ a && a < 0x1003010000 then some 0x1003010000
  else if 0x1004000000 ≤ a && a < 0x1004100000 then some 0x1004100000
  else if 0x1004100000 ≤ a && a < 0x1004380000 then some 0x1004380000
  else if 0x1004380000 ≤ a && a < 0x1004400000 then some 0x1004400000
  else if 0x1005000000 ≤ a && a < 0x1005040000 then some 0x1005040000
  else if 0x3F00000000 ≤ a && a < 0x3F01000000 then some 0x3F01000000
  else none

/-- R299: all the bytes lie in one region open to the master. -/
def State.mapOk (s : State) (r : Reach) (a n : Nat) : Bool :=
  match s.regionEnd r a with
  | some e => decide (a + n ≤ e)
  | none => false

/-- R299: a refused access. -/
def State.mapErr (s : State) : State := (s.setBit slErr 6).bump 0x0034031C

/-! ## The ECC policy -/

/-- The error that the granule of `a` holds: 0 none, 1 correctable, 2 uncorrectable, 3 poison. -/
def State.eccAt (s : State) (a : Nat) : Nat := NatMap.get 0 s.ecc (a / 8)

/-- Sets the error of a granule. -/
def State.setEcc (s : State) (a k : Nat) : State := { s with ecc := NatMap.put 0 s.ecc (a / 8) k }

/-- The granules, as addresses of their first bytes, of bytes `a` to `a + n - 1` that hold an error. -/
def State.badGranules (s : State) (a n : Nat) : List (Nat × Nat) :=
  if n = 0 then [] else
  (s.ecc.filter fun e => a / 8 ≤ e.1 && e.1 ≤ (a + n - 1) / 8).map fun e => (8 * e.1, e.2)

/-- An ErrSrc that names what `w` names. -/
def Who.src (w : Who) (block code sev : Nat) : ErrSrc :=
  { block, code, sev, gseq := w.gseq, inst := w.inst, master := w.master }

/-- FLAGS of the MEM detail and of SL_EADDR_HI (R333, R335): UE, POISON, PMERGE. -/
def eccFlags (kind : Nat) : Nat := b2n (decide (2 ≤ kind)) + 2 * b2n (kind == 3 || kind == 5) + 4 * b2n (decide (4 ≤ kind))

/-- R329, R335: the syndrome of an error of a kind: the poison pattern's for poison, and for no other uncorrectable error. -/
def State.eccSyn (s : State) (kind : Nat) : Nat :=
  let v := Config.eccSyndrome s.fresh
  (if kind = 3 || kind = 5 then Config.poisonSyndrome else if v = Config.poisonSyndrome then ~~~v else v).toNat

/-- R330 to R335, R600: the counters, flags and SL_EADDR of one error.
`kind`: 1 correctable, 2 uncorrectable, 3 poison met; 4 and 5 poison written onto a granule of kind 2 or 3. Shoal
entries count in their own counters (R178). -/
def State.eccCount (s : State) (kind a : Nat) (port : Nat := 0xF) : State :=
  let (memid, _, addr) := memInfo a
  let dram := memid == 0xF0
  let ue := decide (2 ≤ kind)
  let syn := s.eccSyn kind
  let flags := eccFlags kind
  let s := s.tick
  let s :=
    if 4 ≤ kind then s.bump 0x00340308
    else if memid == 7 then (if ue then s.bump 0x001B004C else s.bump 0x001B0048)
    else if ue then (if dram then s.bump 0x00340304 else s.bump 0x00340310)
    else (if dram then s.bump 0x00340300 else s.bump 0x0034030C)
  let s := s.setBit slErr (if 4 ≤ kind then 5 else if ue then 4 else 3)
  let s := s.setReg 0x00340200 (addr % 2 ^ 32)
  let s := s.setReg 0x00340204 (bitsOf addr 32 8 + flags * 2 ^ 8 + port * 2 ^ 12 + memid * 2 ^ 16)
  s.setReg 0x00340208 syn

/-- The same, with its record, whose code and severity are given. -/
def State.eccNoteAs (s : State) (kind a : Nat) (code sev : Nat) (w : Who := {}) (port : Nat := 0xF) : State :=
  let (memid, block, addr) := memInfo a
  let syn := s.eccSyn kind
  (s.eccCount kind a port).record { w.src (if 4 ≤ kind then 0x0D else block) code sev with
    dkind := 1, unit := memid, detail := memDetail addr memid syn (eccFlags kind) port w.mbox w.seq w.opcode }

/-- Table 18.3: the same with the codes of memory errors. -/
def State.eccNote (s : State) (kind a : Nat) (w : Who := {}) (port : Nat := 0xF) : State :=
  s.eccNoteAs kind a (if 4 ≤ kind then 3 else if kind == 1 then 1 else 2) (if kind == 1 then 1 else 2) w port

/-- R330, R331: reads bytes; a correctable error is corrected, an uncorrectable one gives no data. -/
def State.rdChk (s : State) (a n : Nat) (w : Who := {}) (port : Nat := 0xF) : State × Option (List Byte) :=
  let bad := s.badGranules a n
  let s' := bad.foldl (fun s e =>
    if e.2 = 1 then (s.eccNote 1 e.1 w port).setEcc e.1 0 else s.eccNote e.2 e.1 w port) s
  (s', if bad.any (fun e => e.2 ≠ 1) then none else some (s.rdBytes a n))

/-- The granule at `g` is wholly inside bytes `a` to `a + n - 1`. -/
def covers (a n g : Nat) : Bool := decide (a ≤ g) && decide (g + 8 ≤ a + n)

/-- R332, R333, R334: writes bytes; whether some granule was poisoned. -/
def State.wrChk (s : State) (a : Nat) (l : List Byte) (w : Who := {}) (port : Nat := 0xF) : State × Bool :=
  let n := l.length
  let bad := s.badGranules a n
  let keep := (bad.filter fun e => !covers a n e.1 && e.2 ≠ 1).map (·.1)
  let old := keep.map fun g => (g, s.rdBytes g 8)
  let s := bad.foldl (fun s e =>
    if covers a n e.1 then s.setEcc e.1 0
    else if e.2 = 1 then (s.eccNote 1 e.1 w port).setEcc e.1 0
    else (s.eccNote (2 + e.2) e.1 w port).setEcc e.1 3) s
  let s := s.wrBytes a l
  (old.foldl (fun s e => s.wrBytes e.1 e.2) s, !keep.isEmpty)

/-- R332, R333, R334: the check bits after writes to the places `l` (address and bytes) of on-chip memory, taken
together. -/
def State.rewritten (s : State) (l : List (Nat × Nat)) : State :=
  let hit (a : Nat) : Bool := l.any fun p => decide (p.1 ≤ a) && decide (a + 4 ≤ p.1 + p.2)
  (s.ecc.filter fun e => hit (8 * e.1) || hit (8 * e.1 + 4)).foldl (fun s e =>
    let g := 8 * e.1
    if hit g && hit (g + 4) then s.setEcc g 0
    else if e.2 = 1 then (s.eccNote 1 g).setEcc g 0
    else (s.eccNote (2 + e.2) g).setEcc g 3) s

/-- R600: the granule in error of a write that completed in error: the one left with the poison pattern, else the
first; and FLAGS of the record. -/
def State.failedGranule (s : State) (a n : Nat) : Nat × Nat :=
  match (s.badGranules a n).find? fun e => !covers a n e.1 && e.2 ≠ 1 with
  | some e => (e.1, eccFlags 5)
  | none => (a / 8 * 8, 0)

/-! ## The packet buffer (R17, R304) -/

/-- R17: the place given to a payload of `len` bytes, in 64-byte units; which of those where it fits is open. -/
def State.pbufPick (s : State) (len : Nat) : Nat :=
  if len = 0 then 0 else (Config.pbufPlace s.fresh).toNat % (131073 - (len + 63) / 64)

/-- R17, R334: a payload is written at its place, in whole 64-byte units. -/
def State.pbufStore (s : State) (place : Nat) (payload : List Byte) : State :=
  let a := pbufBase + 64 * place
  let n := (payload.length + 63) / 64 * 64
  ({ s with ecc := s.ecc.filter fun e => !(decide (a / 8 ≤ e.1) && decide (e.1 < (a + n) / 8)) } : State).wrBytes a payload

/-- A payload with the bytes that memory holds at addresses `a` to `a + n - 1`. -/
def State.pbufBytes (s : State) (a n : Nat) (h : Header) (p : List Byte) : List Byte :=
  p.zipIdx.map fun b =>
    let x := pbufBase + 64 * h.pbuf + b.2
    if h.len ≠ 0 && a ≤ x && x < a + n then s.rd8 x else b.1

/-- R300: a write to the packet buffer by its address changes the payloads that lie there. -/
def State.pbufPoke (s : State) (a n : Nat) : State :=
  if a < pbufBase || pbufBase + 0x800000 ≤ a then s
  else { s with
    cells := s.cells.map fun c => { c with payload := s.pbufBytes a n c.hdr c.payload }
    weir := s.weir.map fun e => match e.item with
      | .cell h p late => { e with item := .cell h (s.pbufBytes a n h p) late }
      | _ => e }

/-- The error code of an upset. -/
def upsetCode : Upset → Nat
  | .none => 0 | .single => 1 | .double => 2 | .checks => 3 | .keys => 4

/-- The error that an upset leaves in a memory other than the Weir's, whose entries alone hold a key twice (R550). -/
def upsetBits (u : Upset) : Nat := if upsetCode u = 4 then 2 else upsetCode u

/-- R178, R305, R337: scrubber `k`, a pass of which makes `n` visits spread evenly over `period` ns in rising order, makes
visit `i` now; none where another visit is next, or it is not yet due. -/
def State.scrubTurn (s : State) (k n period i : Nat) : Option State :=
  let x := NatMap.get (0, 0) s.sl.scrubs k
  if i = x.1 && decide (x.2 + i * period / max 1 n ≤ s.now) then
    let start := if i = 0 then s.now else x.2
    let x := if n ≤ i + 1 then (0, start + period) else (i + 1, start)
    some { s with sl := { s.sl with scrubs := NatMap.put (0, 0) s.sl.scrubs k x } }
  else none

/-- R305, Table 9.2: the on-chip memory unit that holds the granule at `a`: its first byte and its size. Shoal has its own
scrubber. -/
def ocmUnit (a : Nat) : Option (Nat × Nat) :=
  let within (base stride count size : Nat) : Option (Nat × Nat) :=
    let b := base + (a - base) / stride * stride
    if base ≤ a && a < base + stride * count && a < b + size then some (b, size) else none
  [within pbufBase 0x800000 1 0x800000, within 0x1001000000 0x100000 6 0x40000, within 0x1001080000 0x100000 6 0x10000,
    within 0x1002000000 0x40000 8 0x40000, within 0x1003000000 0x10000 1 0x10000, within 0x1004000000 0x400000 1 0x400000,
    within 0x1005000000 0x40000 1 0x40000, within frameBase 0x20000 6 0x20000, within parseBase 0x8000 1 0x8000,
    within tableBase 0x48000 1 0x48000, within weirBase 0x20000 1 0x20000, within belfryBase 0x4000 1 0x4000,
    within ctlStoreBase 0x21000 1 0x21000, within mailAreaBase 0x2000 1 0x2000,
    within keptBase 0x40000 65536 0x24000].findSome? id

/-- R305: an on-chip scrubber's visit to the granule at `a`: once in a second, in rising order. -/
def State.ocmTurn (s : State) (a : Nat) : Option State :=
  match ocmUnit a with
  | some (b, size) => s.scrubTurn b (size / 8) 1000000000 ((a - b) / 8)
  | none => none

/-- A scrubber's visit to the granule of `a`, where an upset may have struck (R305, R326, R337). -/
def State.scrub (s : State) (a k : Nat) (port : Nat := 0xF) : State :=
  let k := max k (s.eccAt a)
  if k = 0 then s
  else if k = 1 then (s.eccNote 1 a {} port).setEcc a 0
  else (s.setEcc a k).eccNote k a {} port

end Sys2Proof.Machine
end

