-- ==== Sys2Proof/Machine/TableOps.lean ====
section
/-! DEFINITION. The class S tables in the epoch of a cell, the Shoal lookup, and the learning set (spec/04
R122, R126 to R136; spec/05 R164 to R168, R174 to R178). -/
namespace Sys2Proof.Machine

/-! ## Epochs (R174 to R177, R245) -/

/-- The epoch that a cell accepted now falls under: that of the newest accepted marker (R174). -/
def State.intakeEpoch (s : State) : Nat :=
  match s.commits.getLast? with
  | some c => c.epoch
  | none => s.epoch

/-- The tables of an epoch: the active ones, those of a commit that has not taken over, or kept ones. -/
def State.tablesAt (s : State) (e : Nat) : Tables :=
  match s.commits.find? fun c => !c.takenOver && c.epoch == e with
  | some c => c.tables
  | none =>
    match s.oldTables.find? fun x => x.1 == e with
    | some x => x.2
    | none => s.tables

/-- A class S register word in an epoch. -/
def State.regAtEpoch (s : State) (e key : Nat) : Nat :=
  s.commits.foldl (fun v c =>
    if !c.takenOver && decide (c.epoch ≤ e) then
      match c.regs.find? fun r => r.1 == key with
      | some r => putMask v r.2.1 r.2.2
      | none => v
    else v) (s.regW key)

/-- R245: earlier tables are kept until no cell classified under them remains open. -/
def State.trimOld (s : State) : State :=
  let old := s.oldTables.filter fun x => s.cells.any fun c => c.epoch == x.1 && c.stage != .done
  let gone (g : Nat) : Bool :=
    decide (keptBase ≤ 8 * g) && !old.any fun x => x.1 % 65536 == (8 * g - keptBase) / 0x40000
  { s with oldTables := old, ecc := s.ecc.filter fun e => !gone e.1 }

/-- R245: the previous value of an entry that differs from the active one is still kept. -/
def State.kept (s : State) (sel : Tables → NatMap Nat) (i : Nat) : Bool :=
  s.oldTables.any fun x => NatMap.get 0 (sel x.2) i != NatMap.get 0 (sel s.tables) i

/-! ## Stream and Action Table entries -/

/-- Table 4.3: EGRESS of a Stream Table entry. -/
def seEgress (e : Nat) : Nat := bitsOf e 0 16
/-- VALID. -/
def seValid (e : Nat) : Bool := bitAt e 16
/-- R33: the stream is timed: TIMED, or egress class Tideway or Ford. -/
def seTimed (e : Nat) : Bool := bitAt e 17 || seEgress e / 0x1000 == 0 || seEgress e / 0x1000 == 3
/-- LATE_POL is HOLD_LAST. -/
def seHoldLast (e : Nat) : Bool := bitAt e 18
/-- REC. -/
def seRec (e : Nat) : Nat := bitsOf e 19 2
/-- TC. -/
def seTc (e : Nat) : Nat := bitsOf e 21 3
/-- FRER_GEN. -/
def seFrerGen (e : Nat) : Bool := bitAt e 24
/-- TWIN_TX. -/
def seTwinTx (e : Nat) : Bool := bitAt e 25
/-- RCVY_EN. -/
def seRcvyEn (e : Nat) : Bool := bitAt e 26
/-- INST. -/
def seInst (e : Nat) : Nat := bitsOf e 32 4
/-- FILTER. -/
def seFilter (e : Nat) : Nat := bitsOf e 40 8
/-- RCVY. -/
def seRcvy (e : Nat) : Nat := bitsOf e 48 6

/-- Table 5.6: ENTRY of an Action Table entry. -/
def aeEntry (e : Nat) : Nat := bitsOf e 0 16
/-- CLUSTERS. -/
def aeClusters (e : Nat) : Nat := bitsOf e 16 6
/-- VALID. -/
def aeValid (e : Nat) : Bool := bitAt e 24
/-- FDISP is REPLAY. -/
def aeReplay (e : Nat) : Bool := bitAt e 25
/-- R23, R168: the emit list: valid slots that do not name stream 0x000. -/
def aeEmit (e : Nat) : List Nat :=
  (upTo 4).filterMap fun k =>
    let v := bitsOf e (32 + 16 * k) 16
    if bitAt v 15 && v % 0x1000 != 0 then some (v % 0x1000) else none
/-- INST. -/
def aeInst (e : Nat) : Nat := bitsOf e 96 4

/-- Addresses of the active copies, by which errors are kept. -/
def streamAddr (i : Nat) : Nat := tableBase + 16 * i
def actionAddr (i : Nat) : Nat := tableBase + 0x10000 + 16 * i
def stationAddr (i : Nat) : Nat := tableBase + 0x20000 + 16 * i
/-- Offset from an active table copy to its staged copy (R600). -/
def stagedOff : Nat := 0x24000

/-- R178: an uncorrectable error in an active Stream or Action Table entry; correctable ones are corrected. -/
def State.tableChk (s : State) (a : Nat) (gseq : Option Nat) : State × Bool :=
  match s.rdChk a 16 { gseq } with
  | (s, some _) => (s, false)
  | (s, none) => ((s.setEcc a 0).setEcc (a + 8) 0, true)

/-- R178: clears bit `v` of an entry in the active copy, and where no edit changes it in the staged copy: the
staged copy shows the active entry where no edit is staged, and so do the sets of accepted commits. -/
def State.killIn (s : State) (sel : Tables → NatMap Nat) (set : Tables → NatMap Nat → Tables) (i v : Nat) : State :=
  let e := NatMap.get 0 (sel s.tables) i
  let f (t : Tables) : Tables :=
    if NatMap.get 0 (sel t) i = e then set t (NatMap.put 0 (sel t) i (putBits e v 1 0)) else t
  { s with tables := f s.tables, commits := s.commits.map fun c => if c.takenOver then c else { c with tables := f c.tables } }

/-- R178: a Stream Table entry becomes invalid. -/
def State.killStream (s : State) (i : Nat) : State := s.killIn (·.stream) (fun t m => { t with stream := m }) i 16
/-- R178: an Action Table entry becomes invalid. -/
def State.killAction (s : State) (i : Nat) : State := s.killIn (·.action) (fun t m => { t with action := m }) i 24
/-- R178: a Shoal entry becomes invalid. -/
def State.killShoal (s : State) (i : Nat) : State := s.killIn (·.shoal) (fun t m => { t with shoal := m }) i 416

/-- What a copy holds at a place of its Stream, Action or Station Table, without the flags that change in place. -/
def tableValue (t : Tables) (a : Nat) : Nat :=
  let o := a - tableBase
  if o < 0x10000 then NatMap.get 0 t.stream (o / 16)
  else if o < 0x20000 then NatMap.get 0 t.action ((o - 0x10000) / 16)
  else putBits (NatMap.get 0 t.station ((o - 0x20000) / 16)) 74 2 0

/-- R178, R245: where the entry with active address `a` stands for an epoch: there, or among the kept previous values. -/
def State.tableAddr (s : State) (epoch a : Nat) : Nat :=
  if tableValue (s.tablesAt epoch) a = tableValue s.tables a then a
  else keptBase + epoch % 65536 * 0x40000 + (a - tableBase)

/-- R178: an entry of an epoch becomes invalid, in the copy in which that epoch finds it. -/
def State.killAt (s : State) (epoch a : Nat) : State :=
  let o := a - tableBase
  if s.tableAddr epoch a = a then
    if o < 0x10000 then s.killStream (o / 16) else s.killAction ((o - 0x10000) / 16)
  else
    let clear (t : Tables) : Tables :=
      if o < 0x10000 then { t with stream := NatMap.mod 0 t.stream (o / 16) fun v => putBits v 16 1 0 }
      else { t with action := NatMap.mod 0 t.action ((o - 0x10000) / 16) fun v => putBits v 24 1 0 }
    { s with oldTables := s.oldTables.map fun x => if x.1 == epoch then (x.1, clear x.2) else x }

/-- R178: the Stream or Action Table entry with active address `a`, as an epoch finds it, is checked; whether it was lost. -/
def State.entryChk (s : State) (epoch a : Nat) (gseq : Option Nat) : State × Bool :=
  match s.tableChk (s.tableAddr epoch a) gseq with
  | (s, true) => (s.killAt epoch a, true)
  | (s, false) => (s, false)

/-- R178, R245: before the entries at these places change, the errors in them go with their values to every epoch that
keeps those. -/
def State.keepMarks (s : State) (places : List (Nat × Nat)) : State :=
  let marks := s.ecc.filter fun m => decide (tableBase ≤ 8 * m.1) && decide (8 * m.1 < tableBase + stagedOff) &&
    places.any fun p => decide (p.1 ≤ 8 * m.1) && decide (8 * m.1 < p.1 + p.2)
  marks.foldl (fun s m =>
    let a := 8 * m.1 / 16 * 16
    let epochs := s.epoch :: (s.oldTables.filter fun x => tableValue x.2 a == tableValue s.tables a).map (·.1)
    epochs.foldl (fun s e => s.setEcc (keptBase + e % 65536 * 0x40000 + (8 * m.1 - tableBase)) m.2) s) s

/-- The epoch of a cell whose REPOCH is `r`. -/
def State.epochOf (s : State) (r : Nat) : Nat :=
  ((s.oldTables.map (·.1)).find? fun e => e % 65536 == r).getD s.epoch

/-! ## Shoal (R164 to R167) -/

/-- SH_BANKk. -/
abbrev shBank (k : Nat) : Nat := 0x001B0020 + 4 * k
/-- An entry's VALUE, MASK, RESULT and VALID (Table 5.5). -/
def shValue (e : Nat) : Nat := bitsOf e 0 192
def shMask (e : Nat) : Nat := bitsOf e 192 192
def shResult (e : Nat) : Nat := bitsOf e 384 32
def shValid (e : Nat) : Bool := bitAt e 416

/-- R165: the entry matches the key. -/
def shMatches (e key : Nat) : Bool := shValid e && ((key ^^^ shValue e) &&& shMask e) == 0

/-- R178: the errors of entry `e` met by a lookup, a scrub or a window read. SH_UE_CNT counts an entry that is lost once. -/
def State.shoalChk (s : State) (e : Nat) : State :=
  let bad := s.badGranules (shoalBase + 64 * e) 64
  let lost := bad.filter fun g => g.2 != 1
  let s := bad.foldl (fun s g => (if g.2 = 1 then s.eccNote 1 g.1 else s).setEcc g.1 0) s
  match lost with
  | [] => s
  | g :: _ => ((s.eccNote g.2 g.1).killShoal e).setBit 0x001B000C 1

/-- R178: a lookup checks every entry that it compares. -/
def State.shoalChkAll (s : State) : State :=
  (s.badGranules shoalBase 0x40000).foldl (fun s g =>
    let e := (g.1 - shoalBase) / 64
    if s.bit (shBank (e / 512)) 3 then s.shoalChk e else s) s

/-- R166, rule 1: the candidate of each enabled bank, as (bank, result), banks in rising order. -/
def shoalCands (t : NatMap Nat) (banks : Nat → Nat) (key : Nat) : List (Nat × Nat) :=
  (upTo 8).filterMap fun b =>
    if bitAt (banks b) 3 then
      (t.find? fun x => x.1 / 512 == b && shMatches x.2 key).map fun x => (b, shResult x.2)
    else none

/-- R166, rules 2 and 3: the winning result, and whether it ties. -/
def shoalPick (banks : Nat → Nat) (c : List (Nat × Nat)) : Option (Nat × Bool) :=
  let top := c.foldl (fun m x => max m (bitsOf (banks x.1) 0 3)) 0
  match c.filter fun x => bitsOf (banks x.1) 0 3 == top with
  | [] => none
  | [x] => some (x.2, false)
  | x :: _ => some (x.2, true)

/-- SH_NOMATCH. -/
abbrev shNoMatch : Nat := 0x001B0010

/-- R166: a lookup's result with TIE in bit 24, and its counters; `none` is the key of an unparsed cell. -/
def State.shoalLookup (s : State) (key : Option Nat) : State × Nat :=
  let s := s.shoalChkAll
  let banks := fun b => s.regW (shBank b)
  match key.bind fun k => shoalPick banks (shoalCands s.tables.shoal banks k) with
  | some (r, true) => (s.bump 0x001B0040, putBits r 24 1 1)
  | some (r, false) => (s, putBits r 24 1 0)
  | none => (s.bump 0x001B0044, putBits (s.regW shNoMatch) 24 1 0)

/-! ## Stations and the learning set (R126 to R136, R150) -/

/-- EN_LRN_CTL. -/
abbrev lrnCtl : Nat := 0x00160900

/-- A Station Table entry's fields (Table 4.4); MAC is the little-endian number of its wire bytes. -/
def stMac (e : Nat) : Nat := bitsOf e 0 48
def stVid (e : Nat) : Nat := bitsOf e 48 12
def stPort (e : Nat) : Nat := bitsOf e 64 3
def stValid (e : Nat) : Bool := bitAt e 72
def stStatic (e : Nat) : Bool := bitAt e 73
def stHit (e : Nat) : Bool := bitAt e 74
def stAged (e : Nat) : Bool := bitAt e 75

/-- Table 4.4: a valid entry. -/
def stEntry (mac vid port inst lsec : Nat) (static : Bool) : Nat :=
  mac + vid * 2 ^ 48 + port * 2 ^ 64 + (1 + 2 * b2n static + 4 * b2n (!static)) * 2 ^ 72 +
    inst * 2 ^ 80 + lsec * 2 ^ 96

/-- The bank that station `st` uses, where one is designated (R126). -/
def State.stationBank (s : State) (st : Nat) : Option Nat :=
  if st < 512 then (if s.bit lrnCtl 4 then some (s.fld lrnCtl 1 3) else none)
  else if s.bit lrnCtl 8 then some (s.fld lrnCtl 5 3) else none

/-- R131: the entry of a station as a probe finds it: a staged learn or move stands for it; a staged removal
does not hide it. -/
def State.station (s : State) (st : Nat) : Nat :=
  let e := NatMap.get 0 s.tables.station st
  match NatMap.get none s.learn.set_ st with
  | some n => if stValid n then n else e
  | none => e

/-- The station that holds (VID, MAC). -/
def State.findStation (s : State) (vid mac : Nat) : Option Nat :=
  ((s.tables.station.map (·.1)) ++ (s.learn.set_.map (·.1))).find? fun st =>
    let e := s.station st
    stValid e && stMac e == mac && stVid e == vid

/-- Stages a change of a station. -/
def State.stageStation (s : State) (st e : Nat) : State :=
  { s with learn := { s.learn with set_ := NatMap.put none s.learn.set_ st (some e) } }

/-- Writes a station's active entry. -/
def State.putStation (s : State) (st e : Nat) : State :=
  { s with tables := { s.tables with station := NatMap.put 0 s.tables.station st e } }

/-- R129, R135: sets HIT; a staged removal is cancelled. -/
def State.hitStation (s : State) (st : Nat) : State :=
  let e := NatMap.get 0 s.tables.station st
  let s := if stValid e then s.putStation st (putBits e 74 1 1) else s
  match NatMap.get none s.learn.set_ st with
  | some n =>
    if stValid n then s.stageStation st (putBits n 74 1 1)
    else { s with learn := { s.learn with set_ := NatMap.put none s.learn.set_ st none } }
  | none => s

/-- The lowest free station index whose bank is designated. -/
def State.freeStation (s : State) : Option Nat :=
  lowest 1024 fun st =>
    (s.stationBank st).isSome && !stValid (NatMap.get 0 s.tables.station st) && !NatMap.has s.learn.set_ st

/-- Learned stations on a port. -/
def State.learnedOn (s : State) (p : Nat) : Nat :=
  ((upTo 1024).filter fun st => let e := s.station st; stValid e && !stStatic e && stPort e == p).length

/-- Table 4.4: LSEC now. -/
def State.lsec (s : State) : Nat := s.tb.count / 1000000000 % 2 ^ 32

/-- A Station Table entry without HIT and AGED1, which change in place and not by a commit (R129, R134). -/
def stSettled (e : Nat) : Nat := putBits e 74 2 0

/-- R245: station `st` may not be changed while its previous value is kept. -/
def State.stationKept (s : State) (st : Nat) : Bool :=
  s.oldTables.any fun x => stSettled (NatMap.get 0 x.2.station st) != stSettled (NatMap.get 0 s.tables.station st)

/-- R130, R175, R245: a change of station `st` waits: a commit is between its marker and the end of its reload, the entry's
previous value is kept, or the set holds the 256 changes with which it is committed at once. -/
def State.stationWaits (s : State) (st : Nat) : Bool :=
  !s.commits.isEmpty || s.stationKept st || (decide (256 ≤ s.learn.set_.length) && !NatMap.has s.learn.set_ st)

/-- R133: a probe of a follower sets HIT in the station's entry, and changes nothing else. -/
def State.hitOnly (s : State) (st : Nat) : State :=
  let e := NatMap.get 0 s.tables.station st
  if stValid e then s.putStation st (putBits e 74 1 1) else s

/-- R129 to R133: handles one probe; none where the change that it makes waits. -/
def State.doProbe (s : State) (p : Probe) : Option State :=
  let follows := s.followsLog
  match s.findStation p.vid p.smac with
  | some st =>
    let e := s.station st
    if stPort e == p.port then some (if follows then s.hitOnly st else s.hitStation st)
    else if stStatic e then some (s.bump 0x00160918)
    else if follows then some (s.hitOnly st)
    else if s.stationWaits st then none
    else
      let s := s.hitStation st
      some ((s.stageStation st (stEntry p.smac p.vid p.port 0 s.lsec false)).bump 0x00160914)
  | none =>
    let room := decide (s.learnedOn p.port < s.fld (0x0016000C + 0x100 * p.port) 0 10)
    match s.freeStation with
    | some st =>
      if !room then some (s.bump 0x0016091C)
      else if follows then some s
      else if s.stationWaits st then none
      else some ((s.stageStation st (stEntry p.smac p.vid p.port 0 s.lsec false)).bump 0x00160910)
    | none => some (s.bump 0x0016091C)

/-- R128: a probe arrives at the 64-entry queue. -/
def State.probeIn (s : State) (p : Probe) : State :=
  if bitAt p.smac 0 then s
  else if 64 ≤ (s.learn.queue.filter fun x => match x with | .probe _ => true | _ => false).length then s.bump 0x00160920
  else { s with learn := { s.learn with queue := s.learn.queue ++ [.probe p] } }

/-- R127: the Shoal entry of a station. -/
def State.stationShoal (s : State) (e : Nat) : Nat :=
  let key := 1 + stVid e * 2 ^ 16 + stMac e * 2 ^ 32
  let result := s.fld 0x00160904 0 12 + s.fld (0x00160008 + 0x100 * stPort e) 0 12 * 2 ^ 12 +
    s.fld 0x00160904 16 8 * 2 ^ 24
  key + (2 ^ 192 - 1) * 2 ^ 192 + putBits result 24 1 0 * 2 ^ 384 + 2 ^ 416

/-- R130: the tables after the learning set is applied to `t`. -/
def State.applyLearning (s : State) (t : Tables) : Tables :=
  s.learn.set_.foldl (fun t x =>
    match x.2 with
    | none => t
    | some e =>
      let st := x.1
      let t := { t with station := NatMap.put 0 t.station st e }
      match s.stationBank st with
      | some b => { t with shoal := NatMap.put 0 t.shoal (512 * b + st % 512) (if stValid e then s.stationShoal e else 0) }
      | none => t) t

end Sys2Proof.Machine
end

