-- ==== Sys2Proof/Machine/TidewayOps.lean ====
section
/-! DEFINITION. Tideway's pin stage and Gong as shared operations: input cells, channel starts and
stops, safe states, forces (spec/03). -/
namespace Sys2Proof.Machine

/-! ## Table 3.1: channel indices -/

/-- Index of step/direction generator `n`. -/
abbrev chSd (n : Nat) : Nat := 0x010 + n
/-- Index of SPI converter channel `n`. -/
abbrev chSpi (n : Nat) : Nat := 0x020 + n
/-- Index of GPIO bank `b`. -/
abbrev chGpio (b : Nat) : Nat := 0x030 + b
/-- Index of UART `u`. -/
abbrev chUart (u : Nat) : Nat := 0x040 + u
/-- Index of the parallel port. -/
abbrev chPar : Nat := 0x050
/-- Index of PWM output `k`. -/
abbrev chPwm (k : Nat) : Nat := 0x060 + k

/-- The channels of Table 3.1. -/
def tidewayChannels : List Nat :=
  upTo 16 ++ (upTo 8).map (chSd ·) ++ (upTo 8).map (chSpi ·) ++ (upTo 6).map (chGpio ·) ++
  (upTo 4).map (chUart ·) ++ [chPar] ++ (upTo 4).map (chPwm ·)

/-- R71: whether an index of class 0x0 is one of Table 3.1. -/
def tidewayIndex (n : Nat) : Bool := tidewayChannels.contains n

/-- Withdrawal state of a block. -/
def State.wdState (s : State) (kind index : Nat) : WdState := NatMap.get .running s.wd.state (blockKey kind index)

/-- A Tideway channel runs (is neither draining nor withdrawn). -/
def State.chanRuns (s : State) (ch : Nat) : Bool := s.wdState 6 ch == .running

/-- A Tideway channel is WITHDRAWN or TESTING (R105). -/
def State.chanOut (s : State) (ch : Nat) : Bool :=
  s.wdState 6 ch == .withdrawn || s.wdState 6 ch == .testing

/-! ## Channel records -/

def State.encAt (s : State) (n : Nat) : Encoder := NatMap.get {} s.td.enc n
def State.setEnc (s : State) (n : Nat) (e : Encoder) : State :=
  { s with td := { s.td with enc := NatMap.put {} s.td.enc n e } }
def State.sdAt (s : State) (n : Nat) : StepDir := NatMap.get {} s.td.sd n
def State.setSd (s : State) (n : Nat) (e : StepDir) : State :=
  { s with td := { s.td with sd := NatMap.put {} s.td.sd n e } }
def State.spiAt (s : State) (n : Nat) : Spi := NatMap.get {} s.td.spi n
def State.setSpi (s : State) (n : Nat) (e : Spi) : State :=
  { s with td := { s.td with spi := NatMap.put {} s.td.spi n e } }
def State.gpioAt (s : State) (b : Nat) : Gpio := NatMap.get {} s.td.gpio b
def State.setGpio (s : State) (b : Nat) (e : Gpio) : State :=
  { s with td := { s.td with gpio := NatMap.put {} s.td.gpio b e } }
def State.uartAt (s : State) (u : Nat) : Uart := NatMap.get {} s.td.uart u
def State.setUart (s : State) (u : Nat) (e : Uart) : State :=
  { s with td := { s.td with uart := NatMap.put {} s.td.uart u e } }
def State.setPar (s : State) (p : ParPort) : State := { s with td := { s.td with par := p } }
def State.pwmAt (s : State) (k : Nat) : Pwm := NatMap.get {} s.td.pwm k
def State.setPwm (s : State) (k : Nat) (e : Pwm) : State :=
  { s with td := { s.td with pwm := NatMap.put {} s.td.pwm k e } }

/-! ## Errors and the input buffer (R73, R103, R104) -/

/-- TD_ERR. -/
abbrev tdErr : Nat := 0x00140004

/-- TD_SDn_Q: queue depth, RUNNING, GSTOP. -/
def StepDir.status (d : StepDir) : Nat := min 15 d.queue.length + 16 * b2n d.run.isSome + 32 * b2n d.gstop

/-- The status word of channel `ch`: TD_SDn_Q; the other channels have no status register, and their word is a free value. -/
def State.tdStat (s : State) (ch : Nat) : Nat :=
  if 0x010 ≤ ch && ch < 0x018 then (s.sdAt (ch - 0x010)).status else (Config.tidewayStat s.fresh).toNat

/-- R104: a port error of channel `ch`, flagged in TD_ERR and recorded as CORRECTED. -/
def State.tdPortError (s : State) (ch bit : Nat) : State :=
  let s := s.setBit tdErr bit
  let stat := s.tdStat ch
  let detail := [1, 0] ++ leBytes 2 ch ++ leBytes 4 stat ++ leBytes 4 (s.regW tdErr) ++ leBytes 4 0
  s.tick.record { block := 0x04, code := 0x0060, sev := 1, dkind := 5, unit := ch, detail }

/-- R103: a refusal, merge or drop, counted in TD_OVF_CNT. -/
def State.tdOverflow (s : State) : State := (s.setBit tdErr 3).bump 0x00140018

/-- R75, R87: a change applied after A. -/
def State.tdSlip (s : State) : State := (s.setBit tdErr 2).bump 0x00140010

/-- R106, Table 17.7: the pin stage offers cells to the Intake in COMMISSION and LEAD. -/
def State.offersOwn (s : State) : Bool := s.mode == .lead || s.mode == .commission

/-- R73: the order of the pin stage: TSTAMP, then source index, REFLEX cells (class 0x4) last. -/
def PinCell.before (a b : PinCell) : Bool :=
  before48 a.tstamp b.tstamp || (a.tstamp == b.tstamp && a.src < b.src)

/-- Puts a cell in its place: after every cell that it does not come before. -/
def insertPin (c : PinCell) : List PinCell → List PinCell
  | [] => [c]
  | d :: ds => if c.before d then c :: d :: ds else d :: insertPin c ds

/-- The pin stage makes an input cell. -/
def State.pinCell (s : State) (tstamp src : Nat) (payload : List Byte) (kind : CellKind := .data) : State :=
  if s.offersOwn then
    { s with td := { s.td with inputs := insertPin ⟨mod48 tstamp, src, kind, payload⟩ s.td.inputs } }
  else s

/-- R103: input cells that channel `ch` has buffered. -/
def State.buffered (s : State) (ch : Nat) : Nat := (s.td.inputs.filter (·.src == ch)).length

/-- The filter delay of bank `b` in ns. -/
def State.gpioFilter (s : State) (b : Nat) : Nat :=
  let r := s.regW (0x0014050C + 0x20 * b)
  bitsOf r 0 8 * (match bitsOf r 8 2 with | 0 => 5 | 1 => 5000 | _ => 50000)

/-- The longest filter delay behind which an edge may stand that would make an input cell: banks with a pin whose EDGE is not
NONE, and encoders in QUAD mode with ZCELL or WINCELL (R72, R88). -/
def State.filterDelay (s : State) : Nat :=
  let banks := (upTo 6).map fun b =>
    if s.regW (0x00140504 + 0x20 * b) = 0 || s.chanOut (chGpio b) then 0 else s.gpioFilter b
  let encs := (upTo 16).map fun n =>
    let w := s.regW (0x00140100 + 0x20 * n)
    if bitsOf w 0 2 ≠ 1 || bitsOf w 2 2 = 0 || s.chanOut n then 0 else 5 * bitsOf w 11 8
  (banks ++ encs).foldl max 0

/-- R73: no cell may be offered while one whose (TSTAMP, index) comes before it is still to be made: of an open bank cell, of an
ADC frame that runs, or of an edge that may stand in its filter (log entry 108). -/
def State.pinFloor (s : State) (c : PinCell) : Bool :=
  let waits (t ch : Nat) : Bool := PinCell.before ⟨mod48 t, ch, .data, []⟩ c
  (upTo 6).any (fun b => (s.gpioAt b).cell.any fun o => waits o.tstamp (chGpio b)) ||
  (upTo 8).any (fun n => s.fld (0x00140400 + 0x20 * n) 0 2 == 2 &&
    (s.spiAt n).run.any fun f => !f.safe && waits f.tstamp (chSpi n)) ||
  decide (0 < s.filterDelay) && decide (sub48 s.tb.count c.tstamp < s.filterDelay)

/-! ## Gong (R94 to R99) -/

/-- The pads of bank `b`: an output pin stands at the level that it drives, except that one in high impedance, or an open-drain
pin that drives 1, stands where the outside holds it (R94). -/
def State.bankPads (s : State) (b outside : Nat) : Nat :=
  let g := s.gpioAt b
  let w := s.regW (0x00140500 + 0x20 * b)
  let drives := bitsOf w 0 16 &&& (0xFFFF - g.hiz % 0x10000) &&& (0xFFFF - (bitsOf w 16 16 &&& g.drive))
  (g.drive &&& drives) ||| (outside &&& (0xFFFF - drives))

/-- The filtered level of each pin of bank `b`; an output pin is seen at its pad level (R94). -/
def State.bankLevels (s : State) (b : Nat) : Nat := s.bankPads b (s.gpioAt b).input

/-- R94: the 128-bit input vector. -/
def State.gongVector (s : State) : Nat :=
  (upTo 6).foldl (fun a b => a + s.bankLevels b * 2 ^ (16 * b)) 0 +
  (upTo 16).foldl (fun a n =>
    a + b2n (s.encAt n).belowLo * 2 ^ (96 + 2 * n) + b2n (s.encAt n).aboveHi * 2 ^ (97 + 2 * n)) 0

/-- Four consecutive register words as one number. -/
def State.regs4 (s : State) (key : Nat) : Nat :=
  s.regW key + s.regW (key + 4) * 2 ^ 32 + s.regW (key + 8) * 2 ^ 64 + s.regW (key + 12) * 2 ^ 96

/-- Gong entry `k`'s base offset (Table 3.6). -/
abbrev gongKey (k : Nat) : Nat := 0x00151000 + 0x40 * k
/-- ACTION of entry `k`. -/
def State.gongAction (s : State) (k : Nat) : Nat := s.regW (gongKey k + 0x20)
/-- TARGET of entry `k`. -/
def State.gongTarget (s : State) (k : Nat) : Nat := s.regW (gongKey k + 0x24)

/-- R95: entry `k` is a candidate. -/
def State.gongCandidate (s : State) (k : Nat) : Bool :=
  s.bit (gongKey k + 0x28) 0 && !bitAt s.td.fired k &&
  (let m := s.regs4 (gongKey k + 0x10)
   (s.gongVector &&& m) == (s.regs4 (gongKey k) &&& m))

/-- The pins of bank `b` under a force, and their forced values: of two fired entries the lower-indexed one decides. A force
is that with which its entry fired, until the entry is re-armed (R97). -/
def State.forced (s : State) (b : Nat) : Nat × Nat :=
  s.td.forces.reverse.foldl (fun (acc : Nat × Nat) e =>
    let (a, t) := e.2
    if bitsOf a 0 3 == 1 && bitsOf a 3 3 == b then
      let m := bitsOf t 0 16
      (acc.1 ||| m, (acc.2 &&& (0xFFFF - m)) ||| (bitsOf t 16 16 &&& m))
    else acc) (0, 0)

/-- The level that PWM_FORCE holds output `k` at, if any. -/
def State.pwmForced (s : State) (k : Nat) : Option Bool :=
  (s.td.forces.find? fun e => bitsOf e.2.1 0 3 == 3 && bitAt e.2.2 k).map fun e => bitAt e.2.2 (4 + k)

/-- Drives every forced pin and output at its forced level; while OUT_EN is deasserted or the channel
is withdrawn the safe state stays (R101, R102, R105). -/
def State.applyForces (s : State) : State :=
  if !s.td.outEn then s
  else
    let s := (upTo 6).foldl (fun s b =>
      if s.chanOut (chGpio b) then s else
        let f := s.forced b
        let g := s.gpioAt b
        s.setGpio b { g with drive := (g.drive &&& (0xFFFF - f.1)) ||| f.2,
                             hiz := g.hiz &&& (0xFFFF - f.1) }) s
    (upTo 4).foldl (fun s k =>
      if s.chanOut (chPwm k) then s else
        match s.pwmForced k with
        | some v => s.setPwm k { s.pwmAt k with held := some v }
        | none => s) s

/-! ## Step/direction (R83, R84) -/

/-- Pulses of a running segment issued by instant `now`. -/
def SegRun.issued (r : SegRun) (now : Nat) : Nat :=
  if now < r.start then 0 else min r.steps.natAbs ((now - r.start) / max 1 r.period + 1)

/-- Steps issued, signed, at instant `now` (TD_SDn_POS). -/
def StepDir.pos (d : StepDir) (now : Nat) : Int :=
  match d.run with
  | some r => d.base + (if r.steps < 0 then -(r.issued now : Int) else (r.issued now : Int))
  | none => d.base

/-- R83: STEP pulse width in ns. -/
def State.sdWidth (s : State) (n period : Nat) : Nat :=
  let w := 10 * zeroAs 5 (s.fld (0x00140300 + 0x10 * n) 3 8)
  if period < w + 30 then period / 2 else w

/-- Starts a segment at instant `t`; a change of DIR delays the first STEP edge by DIR_SETUP. -/
def State.sdStart (s : State) (n : Nat) (seg : Segment) (t : Nat) : State :=
  let d := s.sdAt n
  let neg := decide (seg.steps < 0)
  let ctl := s.regW (0x00140300 + 0x10 * n)
  let start := if neg == d.dir then t else t + 10 * bitsOf ctl 11 8
  let run : SegRun := ⟨seg.steps, seg.period, bitAt ctl 2, start, start + seg.steps.natAbs * seg.period⟩
  (s.setSd n { d with dir := neg, run := some run, gstop := false }).emit .tideway (chSd n) start
    (leBytes 4 (wrapTo 32 seg.steps) ++ leBytes 4 seg.period ++ leBytes 2 (s.sdWidth n seg.period) ++
      [BitVec.ofNat 8 (b2n (neg != bitAt ctl 1)), BitVec.ofNat 8 (b2n (bitAt ctl 19))])

/-- Empties the queue and lets only the running pulse complete. -/
def State.sdStop (s : State) (n : Nat) : State :=
  let d := s.sdAt n
  match d.run with
  | none => s.setSd n { d with queue := [] }
  | some r =>
    let k := r.issued s.now
    let steps : Int := if r.steps < 0 then -(k : Int) else (k : Int)
    let endAt := if k = 0 then s.now else r.start + (k - 1) * r.period + s.sdWidth n r.period
    s.setSd n { d with queue := [], run := some { r with steps := steps, endAt := endAt } }

/-- A step/direction status cell (Table 3.2). No rule gives its TSTAMP: the model takes the Timebase when the cell is made. R103
names no step/direction cell that finds 4 buffered: it is refused and counted, and the next one has no LOST to carry (DESIGN
CHOICE, log entry 109). -/
def State.sdStatus (s : State) (n evt : Nat) : State :=
  if s.chanOut (chSd n) then s
  else if 4 ≤ s.buffered (chSd n) then s.tdOverflow
  else
    let d := s.sdAt n
    s.pinCell s.tb.count (chSd n)
      (leBytes 4 (wrapTo 32 (d.pos s.now)) ++ leBytes 1 d.queue.length ++ leBytes 1 evt ++ [0, 0])

/-! ## SPI converters (R85 to R87) -/

/-- TD_SPIn_CTL. -/
abbrev spiCtl (n : Nat) : Nat := 0x00140400 + 0x20 * n

/-- Frame length in bits. -/
def State.spiBits (s : State) (n : Nat) : Nat := max 7 (s.fld (spiCtl n) 4 5) + 1

/-- Duration of a frame in ns. -/
def State.spiTime (s : State) (n : Nat) : Nat := s.spiBits n * 2 * max 10 (s.fld (spiCtl n) 9 8)

/-- A frame's bits between the order on the line, the first bit highest, and the order of DATA: LSB_FIRST turns them round
(R85). -/
def State.spiOrder (s : State) (n data : Nat) : Nat :=
  let k := s.spiBits n
  let v := data % 2 ^ k
  if s.bit (spiCtl n) 19 then (upTo k).foldl (fun a i => a + bitsOf v i 1 * 2 ^ (k - 1 - i)) 0 else v

/-- Starts a frame at instant `start`; `tstamp` is the sample instant of an ADC frame, `apply_` the A of its cell. The line
carries the bits in their order, in the SPI mode that CPOL_CPHA selects. -/
def State.spiStart (s : State) (n data : Nat) (safe : Bool) (start apply_ tstamp : Nat) : State :=
  let p := s.spiAt n
  let f : SpiFrame := ⟨data, tstamp, safe, start, start + s.spiTime n, apply_⟩
  (s.setSpi n { p with run := some f }).emit .tideway (chSpi n) start
    (leBytes 4 (s.spiOrder n data) ++ leBytes 1 (s.fld (spiCtl n) 2 2))

/-- An AUX pulse of a channel, LDAC or CONVST, at an instant: AUX_W. -/
def State.spiAux (s : State) (n at_ : Nat) : State :=
  s.emit .tideway (chSpi n) at_ (leBytes 1 (s.fld (spiCtl n + 4) 16 8))

/-- A frame whose start at instant `at_` has not come is not sent. -/
def State.spiUnsend (s : State) (n at_ : Nat) : State :=
  { s with out := s.out.filter fun o => !(o.kind == .tideway && o.who == chSpi n && o.addr == at_ && o.data.length == 5) }

/-- R97, R101: the safe frame follows any frame in progress; frames that wait are dropped. R101 gives DAC and XFER channels
alone a safe frame: that SPI_SAFE does nothing on a channel in another mode is the model's choice (DESIGN CHOICE, log entry
109). -/
def State.spiSafe (s : State) (n : Nat) : State :=
  let mode := s.fld (spiCtl n) 0 2
  if mode = 1 ∨ mode = 3 then
    let p := s.spiAt n
    let d := s.regW (0x00140410 + 0x20 * n)
    let start (s : State) : State :=
      (s.setSpi n { p with run := none, queue := [] }).spiStart n d true (max s.now p.gapUntil) s.now s.tb.count
    match p.run with
    | some f => if s.now < f.start then start (s.spiUnsend n f.start) else s.setSpi n { p with queue := [(d, true, s.now)] }
    | none => start s
  else s

/-! ## Serial receive paths (R90 to R92) -/

/-- TD_UARTu registers. -/
abbrev uartKey (u : Nat) : Nat := 0x00140600 + 0x10 * u

/-- Bytes in a receive FIFO: those of the open cell and of the cells not yet accepted. -/
def State.rxCount (s : State) (ch : Nat) (rx : RxPath) : Nat :=
  rx.open_.length + rx.closed.foldl (fun a p => a + (p.length - 2)) 0 +
    (s.td.inputs.filter (·.src == ch)).foldl (fun a c => a + (c.payload.length - 2)) 0

/-- R103: closed cells of a receive path become input cells while the channel has fewer than 4 buffered. No rule gives their
TSTAMP: the model takes the Timebase when the cell is made (DESIGN CHOICE, log entry 109). -/
def State.rxMove (s : State) (ch : Nat) (rx : RxPath) : RxPath × State :=
  let n := 4 - s.buffered ch
  ({ rx with closed := rx.closed.drop n }, (rx.closed.take n).foldl (fun s p => s.pinCell s.tb.count ch p) s)

/-- Closes a receive cell: STAT and CLOSE, then the data (Table 3.2). Where the pin stage offers no cells it is lost (R106). -/
def State.rxClose (s : State) (ch : Nat) (rx : RxPath) (stat : Nat) (close : Byte) : RxPath × State :=
  let p := [BitVec.ofNat 8 (stat + 4 * b2n rx.overrun), close] ++ rx.open_
  let rx : RxPath := { rx with open_ := [], overrun := false }
  if s.chanOut ch || !s.offersOwn then (rx, s) else s.rxMove ch { rx with closed := rx.closed ++ [p] }

/-- Bits of one character on UART `u`. -/
def State.uartBits (s : State) (u : Nat) : Nat :=
  1 + (if s.bit (uartKey u) 1 then 7 else 8) + (if s.fld (uartKey u) 2 2 = 0 then 0 else 1) +
    (if s.bit (uartKey u) 4 then 2 else 1)

/-- One character time in ns. -/
def State.uartCharTime (s : State) (u : Nat) : Nat :=
  s.uartBits u * max 17360 (s.regW (uartKey u + 4)) / 16

/-- Sends the next character when the line is idle and nothing stops it (R91). -/
def State.uartKick (s : State) (u : Nat) : State :=
  let x := s.uartAt u
  let flow := s.fld (uartKey u) 5 2
  let start (x : Uart) (b : Byte) : State :=
    (s.setUart u { x with sending := some (b, s.now + s.uartCharTime u) }).emit .tideway (chUart u) s.now [b]
  match x.sending, x.control with
  | some _, _ => s
  | none, some c => start { x with control := none } c
  | none, none =>
    if (flow = 1 && x.ctsStop) || (flow = 2 && x.xoffStop) then s
    else match x.txFifo with
      | [] => s
      | b :: bs => start { x with txFifo := bs } b

/-- R91: deasserts RTS_N or sends XOFF at the high mark, reasserts or sends XON at the low mark. -/
def State.uartMarks (s : State) (u : Nat) : State :=
  let x := s.uartAt u
  let flow := s.fld (uartKey u) 5 2
  let n := s.rxCount (chUart u) x.rx
  if flow = 0 then s
  else if 768 ≤ n && !x.held then
    (s.setUart u { x with held := true, control := if flow = 2 then some 0x13 else x.control }).uartKick u
  else if n ≤ 256 && x.held then
    (s.setUart u { x with held := false, control := if flow = 2 then some 0x11 else x.control }).uartKick u
  else s

/-- The Intake has taken a cell of UART `u`: a closed cell that waits takes its place, and the marks are looked at (R91,
R103). -/
def State.uartTaken (s : State) (u : Nat) : State :=
  let r := s.rxMove (chUart u) (s.uartAt u).rx
  (r.2.setUart u { r.2.uartAt u with rx := r.1 }).uartMarks u

/-- R92: RUN is held off at the high mark and given again at the low mark. -/
def State.parMarks (s : State) : State :=
  let x := s.td.par
  let n := s.rxCount chPar x.rx
  if 768 ≤ n && !x.runHeld then s.setPar { x with runHeld := true }
  else if n ≤ 256 && x.runHeld then s.setPar { x with runHeld := false }
  else s

/-- The same for the parallel port (R92, R103). -/
def State.parTaken (s : State) : State :=
  let r := s.rxMove chPar s.td.par.rx
  (r.2.setPar { r.2.td.par with rx := r.1 }).parMarks

/-- R92, R101: the parallel port's control outputs, asserted or not: RUN in IN_STROBE mode, while RUN_EN is 1 and the receive
FIFO has not reached its marks; and SELECT in OUT_STROBE mode, of which no rule says when it is asserted (DESIGN CHOICE, log
entry 109). Both are negated while OUT_EN is deasserted and while the channel is withdrawn. -/
def State.parRun (s : State) : Bool :=
  s.td.outEn && !s.chanOut chPar && s.fld 0x00140700 0 2 == 1 && s.bit 0x00140700 4 && !s.td.par.runHeld
def State.parSelect (s : State) : Bool := s.td.outEn && !s.chanOut chPar && s.fld 0x00140700 0 2 == 2

/-- R92: OUT_STROBE puts the next byte on the lines, once the last strobe has ended; after SETUP it strobes for STB_W. The rest
of the byte's cell, even if empty, stays first. -/
def State.parKick (s : State) : State :=
  let x := s.td.par
  if s.fld 0x00140700 0 2 ≠ 2 || x.busy then s
  else match x.sending, x.txCells.dropWhile List.isEmpty with
    | none, (b :: bs) :: rest =>
      let at_ := max s.now x.freeAt
      let strobe := at_ + 100 * zeroAs 1 (s.fld 0x00140704 8 8)
      let width := zeroAs 1 (s.fld 0x00140704 0 8)
      ((s.setPar { x with
          sending := some (b, strobe), freeAt := strobe + 100 * width, acked := false, txCells := bs :: rest }).emit
        .tideway chPar at_ [b]).emit .tideway chPar strobe (leBytes 1 width ++ leBytes 1 (s.fld 0x00140700 2 1))
    | _, _ => s

/-! ## Safe states (R101, R105, R109) -/

/-- Puts the outputs of one channel in their safe states and empties its queues and FIFOs. -/
def State.chanSafe (s : State) (ch : Nat) : State :=
  if ch < 0x010 then s
  else if ch < 0x018 then s.sdStop (ch - 0x010)
  else if ch < 0x028 then s.spiSafe (ch - 0x020)
  else if ch < 0x036 then
    let b := ch - 0x030
    let g := s.gpioAt b
    let safe := s.regW (0x00140508 + 0x20 * b)
    let g := (upTo 16).foldl (fun (g : Gpio) p =>
      match bitsOf safe (2 * p) 2 with
      | 0 => { g with drive := putBits g.drive p 1 0, hiz := putBits g.hiz p 1 0 }
      | 1 => { g with drive := putBits g.drive p 1 1, hiz := putBits g.hiz p 1 0 }
      | 2 => { g with hiz := putBits g.hiz p 1 1 }
      | _ => g) g
    s.setGpio b g
  else if ch < 0x044 then
    let x := s.uartAt (ch - 0x040)
    s.setUart (ch - 0x040) { x with txFifo := [], control := none }
  else if ch = chPar then s.setPar { s.td.par with txCells := [] }
  else
    let k := ch - 0x060
    s.setPwm k { s.pwmAt k with running := false, pending := none,
                                held := some (s.bit (0x00140780 + 4 * k) 2) }


/-! ## Firing (R95 to R99) -/

/-- The action of entry `k` (R97). -/
def State.gongAct (s : State) (k : Nat) : State :=
  let t := s.gongTarget k
  match bitsOf (s.gongAction k) 0 3 with
  | 1 => s.applyForces
  | 2 => (upTo 8).foldl (fun s n =>
      if bitAt t n then
        let s := s.sdStop n
        (s.setSd n { s.sdAt n with gstop := true }).sdStatus n 4
      else s) s
  | 3 => s.applyForces
  | 4 => (upTo 8).foldl (fun s n => if bitAt t n then s.spiSafe n else s) s
  | _ => s

/-- Entry `k` fires: FIRED, the action, the REFLEX cell of R99. The TSTAMP of an entry that fires when it is re-armed or when a
register is written, with no input that has just reached Gong, is the instant of firing, which no rule states (DESIGN CHOICE,
log entry 109). -/
def State.gongFire (s : State) (k : Nat) : State :=
  let vec := s.gongVector
  let s := { s with td := { s.td with
    fired := s.td.fired ||| 2 ^ k, forces := NatMap.ins s.td.forces k (s.gongAction k, s.gongTarget k) } }
  let s := (s.gongAct k).bump 0x00150014
  s.pinCell s.tb.count (0x4000 + k)
    (leBytes 16 vec ++ leBytes 4 (s.gongAction k) ++ leBytes 4 (s.gongTarget k) ++ leBytes 8 s.td.fired)
    .reflex

/-- R95: while candidates exist, the lowest-indexed one fires; each entry fires at most once. -/
def State.gongRun (s : State) : State :=
  let rec go : Nat → State → State
    | 0, s => s
    | n + 1, s =>
      match lowest 64 s.gongCandidate with
      | some k => go n (s.gongFire k)
      | none => s
  if s.bit 0x00150000 0 && s.mode ≠ .boot then go 64 s else s

/-- R97: re-arms the entries of a 64-bit mask: FIRED clears, forces lift, and a still matching entry
may fire at once; pins keep the forced level until their next release (R98). -/
def State.gongRearm (s : State) (mask : Nat) : State :=
  let fired := (upTo 64).foldl (fun a k => if bitAt s.td.fired k && !bitAt mask k then a + 2 ^ k else a) 0
  State.gongRun (State.applyForces { s with td := { s.td with fired := fired, forces := NatMap.keep (bitAt fired ·) s.td.forces } })

/-! ## Safe states of several channels, and OUT_EN -/

/-- Channels go to their safe states; standing forces stay in force, and Gong sees the pads (R94, R95, R102, R109). -/
def State.chansSafe (s : State) (chs : List Nat) : State := ((chs.foldl State.chanSafe s).applyForces).gongRun

/-- R101: OUT_EN falls, and every output goes to its safe state. -/
def State.outEnFall (s : State) : State :=
  if s.td.outEn then State.chansSafe { s with td := { s.td with outEn := false } } tidewayChannels else s

/-- R102: OUT_EN asserts: outputs stay safe until their next release, standing forces apply at once. -/
def State.outEnRise (s : State) : State :=
  if s.td.outEn then s else (State.applyForces { s with td := { s.td with outEn := true } }).gongRun

end Sys2Proof.Machine
end

