-- ==== Sys2Proof/Machine/EthOps.lean ====
section
/-! DEFINITION. Ethernet ports, gate lists, Qci and FRER as shared operations (spec/04). -/
namespace Sys2Proof.Machine

/-- EN_PORTp registers. -/
abbrev enKey (p : Nat) : Nat := 0x00160000 + 0x100 * p
/-- EN_ERR. -/
abbrev enErr : Nat := 0x00160800
/-- Port `p`. -/
def State.ethAt (s : State) (p : Nat) : EthPort := NatMap.get {} s.eth p
def State.setEth (s : State) (p : Nat) (x : EthPort) : State := { s with eth := NatMap.put {} s.eth p x }

/-- EN_PORTp_STAT as a word. -/
def EthPort.stat (x : EthPort) : Nat := b2n x.link + 2 * b2n x.hdx + 4 * (if x.link then x.speed else 0)

/-- Table 18.3: a link-down, or a frame with a bad FCS. -/
def State.ethLine (s : State) (p : Nat) : State :=
  s.record { block := 0x06, code := 0x0061, sev := 1, dkind := 5, unit := p,
             detail := [0, 0] ++ leBytes 2 p ++ leBytes 4 (s.ethAt p).stat ++ leBytes 4 (s.regW enErr) ++ leBytes 4 0 }

/-- Bytes that a port's ingress buffer holds, and its size (R149). -/
def EthPort.buffered (x : EthPort) : Nat := x.ingress.foldl (fun a f => a + f.2.length) 0
def ethBuffer (p : Nat) : Nat := if p < 4 then 65536 else 262144

/-- R149: the link goes down: buffered frames are discarded and counted, and a record is made. -/
def State.ethLinkDown (s : State) (p : Nat) : State :=
  let x := s.ethAt p
  if x.link then
    ((s.bumpBy (enKey p + 0x40) x.ingress.length).setEth p
      { x with link := false, ingress := [], busyUntil := 0, mgmt := [], gptp := { roles := x.gptp.roles, external := x.gptp.external } }).ethLine p
  else s

/-- The port is enabled and not withdrawn, outside BOOT (R151, Table 17.7). -/
def State.ethOn (s : State) (p : Nat) : Bool :=
  s.mode != .boot && s.bit (enKey p) 0 && (s.wdState 5 p == .running || s.wdState 5 p == .draining)

/-! ## Gate lists (R137 to R140, R144) -/

/-- The runs of a list within one cycle: (start, end, states), cut at the cycle's end, the last states kept
to it (R140). -/
def GateList.runs (l : GateList) : List (Nat × Nat × Nat) :=
  go l.cycle 0 l.entries
where
  go (cycle at_ : Nat) : List (Nat × Nat) → List (Nat × Nat × Nat)
    | [] => []
    | [e] => if at_ < cycle then [(at_, cycle, e.1)] else []
    | e :: es => if at_ < cycle then (at_, min cycle (at_ + e.2), e.1) :: go cycle (at_ + e.2) es else []

/-- The states at a position in the cycle. -/
def GateList.statesAt (l : GateList) (pos : Nat) : Nat :=
  match l.runs.find? fun r => r.1 ≤ pos && pos < r.2.1 with
  | some r => r.2.2
  | none => 0xFF

/-- The position in the cycle at instant `t`. -/
def GateList.pos (l : GateList) (t : Nat) : Nat := (t - l.base) % max 1 l.cycle

/-- R139: where the list's last cycle before a change at `ct` ends, if the change lengthens it by no more than `ext`. -/
def GateList.lastCycle (l : GateList) (ct ext : Nat) : Option Nat :=
  let last := ct - l.pos ct
  if l.base < last && ct - last ≤ ext then some last else none

/-- The gate states that a list gives at instant `t`, with the change that ends it: a lengthened cycle keeps its last
states (R139, R140). -/
def GateList.statesBy (l : GateList) (ending : Option (Nat × Nat)) (t : Nat) : Nat :=
  match ending.bind fun e => l.lastCycle e.1 e.2 with
  | some last => l.statesAt (if last ≤ t then l.cycle - 1 else l.pos t)
  | none => l.statesAt (l.pos t)

/-- The change that a schedule awaits: its time and its extension. -/
def GateSched.ending (x : GateSched) : Option (Nat × Nat) := x.pending.map fun p => (p.1, p.2.2)

/-- The gate states at instant `t`, under the list that was operational then; `d` before any accepted change. -/
def GateSched.statesAt (x : GateSched) (d t : Nat) : Nat :=
  match x.oper with
  | none => d
  | some l =>
    match if l.base ≤ t then none else x.old.reverse.find? fun o => decide (t < o.1) with
    | some (_, _, none) => d
    | some (ct, ext, some k) => k.statesBy (some (ct, ext)) t
    | none => l.statesBy x.ending t

/-- How long gate `q` stays open from position `pos` of a list: none for ever. -/
def GateList.openFor (l : GateList) (q pos : Nat) : Option Nat :=
  let rs := l.runs
  if rs.all fun r => bitAt r.2.2 q then none
  else
    let later := rs.filter fun r => pos < r.2.1
    let again := rs.map fun r => (r.1 + l.cycle, r.2.1 + l.cycle, r.2.2)
    match (later ++ again).find? fun r => !bitAt r.2.2 q with
    | some r => some (r.1 - pos)
    | none => none

/-- R140: the longest open run of gate `q`; none without end. -/
def GateList.longest (l : GateList) (q : Nat) : Option Nat :=
  if l.runs.all fun r => bitAt r.2.2 q then none
  else some (l.runs.foldl (fun m r => if bitAt r.2.2 q then max m ((l.openFor q r.1).getD 0) else m) 0)

/-- How long gate `q`, open at instant `t`, stays open under the operational list before a change: none where it does not
close. A lengthened last cycle keeps its last states to the change (R139). -/
def GateSched.openUntilChange (x : GateSched) (q t : Nat) : Option Nat :=
  match x.oper with
  | none => none
  | some l =>
    let left := l.openFor q (l.pos t)
    match x.ending.bind fun e => l.lastCycle e.1 e.2 with
    | some last => left.filter fun n => decide (t + n < last)
    | none => left

/-- A span that may have no end is at least `n`. -/
def spanAtLeast (span : Option Nat) (n : Nat) : Bool :=
  match span with
  | none => true
  | some m => decide (n ≤ m)

/-- R140: a transmission of `dur` ns from `t` ends before gate `q` closes, now or at the change that is pending. -/
def GateSched.fits (x : GateSched) (q t dur : Nat) : Bool :=
  match x.pending with
  | none => spanAtLeast (x.openUntilChange q t) dur
  | some (ct, l, _) =>
    spanAtLeast (x.openUntilChange q t) (min dur (ct - t)) &&
      (decide (t + dur ≤ ct) || (bitAt (l.statesAt 0) q && spanAtLeast (l.openFor q 0) (t + dur - ct)))

/-- R140: no open run of gate `q` is as long as `dur` ns, in the operational list or in one that is pending. -/
def GateSched.tooLong (x : GateSched) (q dur : Nat) : Bool :=
  let short (l : GateList) : Bool := !spanAtLeast (l.longest q) dur
  x.oper.any short && x.pending.all fun p => short p.2.1

/-- R138, R139: accepts or refuses a change with the administrative values given. -/
def GateSched.change (x : GateSched) (now : Nat) (limit base cycle ext len : Nat) (entry : Nat → Nat × Nat) :
    Option GateSched :=
  let es := (List.range (min len limit)).map entry
  if len < 1 || limit < len || es.any (fun e => e.2 < 100) || cycle < 1000 || 1000000000 < cycle then none
  else
    let ct := if now < base then base else base + ((now - base) / cycle + 1) * cycle
    some { x with pending := some (ct, ⟨es, ct, cycle⟩, ext) }

/-- R139: at the change time the administrative list becomes operational. What it replaces is kept while a frame stamped at
`oldest` or later may need it (R144). -/
def GateSched.take (x : GateSched) (now : Nat) (oldest : Option Nat := none) : Option GateSched :=
  match x.pending with
  | some (ct, l, ext) =>
    if ct ≤ now then
      some { oper := some l, old := ((ct, ext, x.oper) :: x.old).filter fun o => oldest.any fun t => decide (t < o.1) }
    else none
  | none => none

/-- R138: CONFIG_CHANGE of port `p`; none where refused. -/
def State.ethChange (s : State) (p : Nat) : State :=
  let x := s.ethAt p
  let k := enKey p
  match x.sched.change s.tb.count 256 (s.regW (k + 0x64) + s.regW (k + 0x68) * 2 ^ 32) (s.regW (k + 0x6C))
      (s.regW (k + 0x70)) (s.regW (k + 0x74))
      (fun i => (s.fld (0x00164000 + 0x800 * p + 8 * i) 0 8, s.regW (0x00164004 + 0x800 * p + 8 * i))) with
  | some sc => s.setEth p { x with sched := sc }
  | none => s.setBit enErr 1

/-- A stream gate's schedule. -/
def State.sgAt (s : State) (g : Nat) : GateSched := NatMap.get {} s.sgates g
def State.setSg (s : State) (g : Nat) (x : GateSched) : State := { s with sgates := NatMap.put {} s.sgates g x }

/-- R144: CONFIG_CHANGE of stream gate `g`. -/
def State.sgChange (s : State) (g : Nat) : State :=
  let k := 0x0016E000 + 0x20 * g
  match (s.sgAt g).change s.tb.count 64 (s.regW (k + 4) + s.regW (k + 8) * 2 ^ 32) (s.regW (k + 0x0C))
      (s.regW (k + 0x10)) (s.regW (k + 0x14))
      (fun i => (s.fld (0x00169000 + 0x200 * g + 8 * i) 0 8, s.regW (0x00169004 + 0x200 * g + 8 * i))) with
  | some sc => s.setSg g sc
  | none => s.setBit enErr 1

/-! ## Qci (R142, R143) and FRER recovery (R146) -/

/-- The 64-bit instant of a cell's TSTAMP. -/
def State.fullTime (s : State) (tstamp : Nat) : Nat := s.tb.count - sub48 s.tb.count tstamp

/-- R142, R144, R146: the earliest TSTAMP of the received frames that are not yet classified, if any. -/
def State.oldestFrame (s : State) : Option Nat :=
  let cells := s.cells.filter fun c => c.hdr.src / 0x1000 == 1 &&
    (match c.stage with | .waiting | .parsing _ | .held _ _ => true | _ => false)
  let stamps := cells.map (fun c => s.fullTime c.hdr.tstamp) ++
    (upTo 6).flatMap fun p => (s.ethAt p).ingress.map fun f => s.fullTime f.1
  stamps.foldl (fun m t => some (min t (m.getD t))) none

/-- R143: a flow meter colours a frame of `len` bytes at instant `t`: 0 green, 1 yellow, 2 red. -/
def Meter.run (m : Meter) (cir eir cbs ebs : Nat) (cf : Bool) (len t : Nat) : Meter × Nat :=
  let m := if m.started then m else { m with started := true, tc := cbs * 8000000, te := ebs * 8000000, last := t }
  let dt := t - m.last
  let c := m.tc + cir * dt
  let excess := if cf then c - cbs * 8000000 else 0
  let tc := min (cbs * 8000000) c
  let te := min (ebs * 8000000) (m.te + eir * dt + excess)
  let need := len * 8000000
  let m := { m with last := max m.last t }
  if need ≤ tc then ({ m with tc := tc - need, te := te }, 0)
  else if need ≤ te then ({ m with tc := tc, te := te - need }, 1)
  else ({ m with tc := tc, te := te }, 2)

/-- R142: stream filter, stream gate and flow meter in this order; whether the frame passes. -/
def State.qci (s : State) (p filter tstamp len : Nat) : State × Bool :=
  if 128 ≤ filter then (s, true)
  else
    let drop (s : State) : State × Bool := (s.bump (enKey p + 0x50), false)
    let w := s.regW (0x00168000 + 8 * filter)
    let ovs := s.fld (0x00168004 + 8 * filter) 0 8 != 0
    let maxSdu := bitsOf w 0 16
    let n := len + 4
    if ovs && bitAt s.blocked filter then drop s
    else if maxSdu ≠ 0 && maxSdu < n then
      drop (if ovs then { s with blocked := putBits s.blocked filter 1 1 } else s)
    else
      let g := bitsOf w 16 8
      let t := s.fullTime tstamp
      if g < 32 && !bitAt ((s.sgAt g).statesAt (s.fld (0x0016E018 + 0x20 * g) 0 1) t) 0 then drop s
      else
        let m := bitsOf w 24 8
        if 128 ≤ m then (s, true)
        else
          let k := 0x0016D000 + 32 * m
          let mt := NatMap.get {} s.meters m
          let (mt', colour) := mt.run (s.regW k) (s.regW (k + 4)) (s.regW (k + 8)) (s.regW (k + 12))
            (s.fld (k + 16) 0 8 != 0) n t
          let allRed := s.fld (k + 16) 16 8 != 0
          if allRed && mt.allRed then drop s
          else
            let mt' := if allRed && colour == 2 then { mt' with allRed := true } else mt'
            let s := { s with meters := NatMap.put {} s.meters m mt' }
            if colour == 2 || (colour == 1 && s.fld (k + 16) 8 8 != 0) then drop s else (s, true)

/-- R146: the sequence number of an R-TAG directly after the SMAC or after one C-tag. -/
def rtagOf (f : List Byte) : Option Nat :=
  if beAt f 12 2 = 0xF1C1 && 18 ≤ f.length then some (beAt f 16 2)
  else if beAt f 12 2 = 0x8100 && beAt f 16 2 = 0xF1C1 && 22 ≤ f.length then some (beAt f 20 2)
  else none

/-- R146: the instant at which a function's reset timeout, 1 to 65 535 ms, has passed. -/
def Frer.deadline (x : Frer) : Nat := x.last + clampNat 1 65535 x.timeout * 1000000

/-- R146: a function whose reset timeout has passed at instant `t` returns to its reset state. -/
def Frer.expire (x : Frer) (t : Nat) : Frer :=
  if !x.takeAny && x.deadline ≤ t then { x with takeAny := true, history := 0 } else x

/-- R146: the vector recovery algorithm of IEEE 802.1CB; whether the frame passes. -/
def Frer.run (x : Frer) (seq : Option Nat) (t : Nat) : Frer × Bool :=
  let x := x.expire t
  match seq with
  | none => ({ x with tagless := x.tagless + 1 }, true)
  | some q =>
    if x.takeAny then ({ x with takeAny := false, history := 1, seq := q, last := t, passed := x.passed + 1 }, true)
    else
      let d := signedOf 16 (q + 0x10000 - x.seq)
      let h := clampNat 1 32 x.histLen
      if (h : Int) ≤ d || d ≤ -(h : Int) then ({ x with rogue := x.rogue + 1 }, false)
      else if d ≤ 0 then
        let i := d.natAbs
        if bitAt x.history i then ({ x with discarded := x.discarded + 1 }, false)
        else ({ x with history := putBits x.history i 1 1, last := t, passed := x.passed + 1 }, true)
      else ({ x with
        history := (x.history * 2 ^ d.natAbs + 1) % 2 ^ h, seq := q, last := t, passed := x.passed + 1 }, true)

/-! ## Release to Ethernet (R115 to R121, R147, R493) -/

/-- R117, R121: a released frame enters its queue on one port. -/
def State.ethEnqueue (s : State) (p tc : Nat) (f : TxFrame) : State :=
  let x := s.ethAt p
  if !x.link || !s.ethOn p then s.bump (enKey p + 0x48)
  else
    let q := NatMap.get [] x.queues tc
    let held := q.foldl (fun a f => a + f.payload.length) 0
    if 8192 * clampNat 1 128 (s.fld (enKey p + 0x80 + 4 * tc) 0 8) < held + f.payload.length then
      s.bump (enKey p + 0x44)
    else s.setEth p { x with queues := NatMap.put [] x.queues tc (q ++ [f]) }

/-- A release to Ethernet egress `index` of a cell whose Stream Table entry is `entry`. -/
def State.ethRelease (s : State) (index entry : Nat) (h : Header) (payload : List Byte) : State :=
  if h.kind = .hole then s
  else if !(index ≤ 5 || (0x100 ≤ index && index ≤ 0x13F)) then s.bump 0x00160810
  else if s.mode = .replay || (s.mode = .shadow && !(seTwinTx entry && seFrerGen entry)) then s.bump 0x00160814
  else if payload.length < 14 then s.bump 0x00160810
  else
    let ports := if index ≤ 5 then [index] else
      (upTo 6).filter fun p => bitAt index p && h.src != 0x1000 + p
    ports.foldl (fun s p => s.ethEnqueue p (seTc entry) ⟨h, payload, seFrerGen entry⟩) s

/-- R118, R145: the frame as it leaves port `p`, without its FCS. -/
def State.ethBuild (s : State) (p : Nat) (f : TxFrame) : List Byte :=
  let l := f.payload
  let tagged := beAt l 12 2 == 0x8100 && decide (16 ≤ l.length)
  let strip := tagged && s.bit (enKey p) 2 && beAt l 14 2 % 0x1000 == s.fld (enKey p) 4 12
  let l := if strip then l.take 12 ++ l.drop 16 else l
  let off := if tagged && !strip then 16 else 12
  let l := if f.frerGen then l.take off ++ [0xF1, 0xC1, 0, 0] ++ beBytes 2 f.hdr.eseq ++ l.drop off else l
  l ++ List.replicate (60 - l.length) 0

/-- R120: a frame forwarded to port `p` from another port, to a reserved group address. -/
def TxFrame.reserved (f : TxFrame) (p : Nat) : Bool :=
  f.hdr.src / 0x1000 == 1 && f.hdr.src % 0x1000 != p &&
    f.payload.take 5 == [0x01, 0x80, 0xC2, 0x00, 0x00] && beAt f.payload 5 1 < 16

/-- Duration of `n` bytes at a speed code, in ns, rounded up. -/
def wireTime (speed n : Nat) : Nat :=
  match speed with
  | 0 => 800 * n
  | 1 => 80 * n
  | 2 => 8 * n
  | _ => (8 * n + 9) / 10

end Sys2Proof.Machine
end

