-- ==== Sys2Proof/Machine/Gptp.lean ====
section
/-! DEFINITION. The gPTP time-aware system that Ohmyth runs on the ports: the management path, link delay, port roles and
relaying (spec/04 R112, R114, R141, R148). The places of the fields within a message are those of IEEE 802.1AS-2020, which R148
names (PRESUMED, log entry 90). -/
namespace Sys2Proof.Machine

/-- The message type, domain, two-step flag and sequence number of a gPTP frame. -/
def gpType (f : List Byte) : Nat := beAt f 14 1 % 16
def gpDomain (f : List Byte) : Nat := beAt f 18 1
def gpTwoStep (f : List Byte) : Bool := bitAt (beAt f 20 1) 1
def gpSeq (f : List Byte) : Nat := beAt f 44 2

/-- The 10-byte timestamp in the body of a message, in ns. -/
def gpStamp (f : List Byte) : Nat := beAt f 48 6 * 1000000000 + beAt f 54 4


/-- A message with an instant in its body. -/
def gpPut (f : List Byte) (t : Nat) : List Byte := putAt f 48 (beBytes 6 (t / 1000000000) ++ beBytes 4 (t % 1000000000))

/-- A message with `ns` added to its correction, which counts 2^-16 ns. -/
def gpCorrect (f : List Byte) (ns : Int) : List Byte :=
  putAt f 22 (beBytes 8 (wrapTo 64 (signedOf 64 (beAt f 22 8) + ns * 65536)))

/-- The length of a message: Sync, Follow_Up, the three Pdelay messages, Announce. -/
def gpLength (type : Nat) : Nat := 14 + (match type with | 0 => 44 | 8 | 0xB => 76 | _ => 54)

/-- A message that Ohmyth composes on port `p`; it transmits two-step only (R148). -/
def State.gptpMake (s : State) (p type domain seq : Nat) : List Byte :=
  let f := padTo (gpLength type) (Config.gptpFrame type p s.fresh)
  let f := putAt f 0 [0x01, 0x80, 0xC2, 0x00, 0x00, 0x0E]
  let f := putAt f 12 (beBytes 2 0x88F7 ++ beBytes 1 (0x10 + type))
  putAt (putAt (putAt f 18 (beBytes 1 domain)) 20 (beBytes 1 (if type = 0 || type = 3 then 2 else 0))) 44 (beBytes 2 seq)

/-- R112: EN_PORTp_LAT. It is taken from the instant of a frame that comes in and added to that of one that leaves. -/
def State.gptpLat (s : State) (p : Nat) : Nat := s.fld (enKey p + 0x10) 0 16

/-- Queues gPTP frames on the management path of port `p`. -/
def State.gptpQueue (s : State) (p : Nat) (l : List (List Byte × GptpThen)) : State :=
  let x := s.ethAt p
  s.setEth p { x with mgmt := x.mgmt ++ l }

/-- Changes what Ohmyth holds for PTP port `p`. -/
def State.modGptp (s : State) (p : Nat) (f : GptpPort → GptpPort) : State :=
  let x := s.ethAt p
  s.setEth p { x with gptp := f x.gptp }

/-- Which of the two domains a message is of: the active one (false) or the monitored one (true). -/
def State.gptpWhich (s : State) (d : Nat) : Option Bool :=
  if s.tb.actConfigured && d == s.tb.actDomain then some false
  else if d == s.tb.monDomain then some true else none

/-- The role of a port in a domain. -/
def GptpPort.role (g : GptpPort) (mon : Bool) : Nat := if mon then g.roles.2 else g.roles.1

/-- The ports with a link. -/
def State.gptpPorts (s : State) : List Nat := (upTo 6).filter fun p => (s.ethAt p).link && s.ethOn p

/-- R148: the best master clock algorithm gives every port whose roles are not configured its role. -/
def State.gptpRoles (s : State) (mon : Bool) : State :=
  let heard := (upTo 6).map fun q => (fun a : List Byte × List Byte => if mon then a.2 else a.1) (s.ethAt q).gptp.announce
  (upTo 6).foldl (fun s p => s.modGptp p fun g =>
    let r := (Config.bestMaster mon heard p).val
    if g.external then g else { g with roles := if mon then (g.roles.1, r) else (r, g.roles.2) }) s

/-- R148: a Sync of a domain that came in on the slave port `p` at instant `t`, with the message that carries its origin, is
relayed in two steps on every other port that is master in the domain. -/
def State.gptpRelay (s : State) (p : Nat) (mon : Bool) (t : Nat) (info : List Byte) : State :=
  let delay := (s.ethAt p).gptp.delay
  let d := gpDomain info
  (s.gptpPorts.filter fun q => q != p && (s.ethAt q).gptp.role mon == 1).foldl (fun s q =>
    let fu := putAt (s.gptpMake q 8 d (gpSeq info)) 48 ((info.drop 48).take (if gpType info = 8 then 42 else 10))
    let fu := gpCorrect (putAt fu 22 ((info.drop 22).take 8)) delay
    s.gptpQueue q [(s.gptpMake q 0 d (gpSeq info), .residence t fu)]) s.tick

/-- R148: what Ohmyth does with a gPTP frame that port `p` received. -/
def State.gptpReceive (s : State) (p : Nat) (f : List Byte) : State :=
  let t := s.tb.count - s.gptpLat p
  let g := (s.ethAt p).gptp
  let d := gpDomain f
  match gpType f with
  | 0x2 =>
    let asker (m : List Byte) : List Byte := putAt m 58 ((f.drop 34).take 10)
    s.tick.gptpQueue p
      [(asker (gpPut (s.gptpMake p 3 d (gpSeq f)) t), .stamp (asker (s.gptpMake p 0xA d (gpSeq f))))]
  | 0x3 =>
    if g.reqAt.any fun r => r.1 == gpSeq f then s.modGptp p fun g => { g with resp := some (t, f) } else s
  | 0xA =>
    match g.reqAt, g.resp with
    | some (seq, t1), some (t4, r) =>
      if seq = gpSeq f then
        let twice : Int := ((t4 : Int) - t1) - ((gpStamp f : Int) - gpStamp r)
        s.modGptp p fun g => { g with delay := twice / 2, reqAt := none, resp := none }
      else s
    | _, _ => s
  | 0x0 =>
    match s.gptpWhich d with
    | some mon =>
      if g.role mon != 2 then s
      else if gpTwoStep f then
        s.modGptp p fun g => { g with syncs := (t, f) :: g.syncs.filter fun y => gpDomain y.2 != d }
      else s.gptpRelay p mon t f
    | none => s
  | 0x8 =>
    match s.gptpWhich d, g.syncs.find? fun y => gpDomain y.2 == d && gpSeq y.2 == gpSeq f with
    | some mon, some y =>
      (s.modGptp p fun g => { g with syncs := g.syncs.filter fun z => gpDomain z.2 != d }).gptpRelay p mon y.1 f
    | _, _ => s
  | 0xB =>
    match s.gptpWhich d with
    | some mon =>
      (s.modGptp p fun g => { g with announce := if mon then (g.announce.1, f) else (f, g.announce.2) }).gptpRoles mon
    | none => s
  | _ => s

/-- R148: what Ohmyth does once a gPTP frame has left port `p`. -/
def State.gptpSent (s : State) (p : Nat) (after : GptpThen) : State :=
  let t := s.tb.count + s.gptpLat p
  match after with
  | .nothing => s
  | .request seq => s.modGptp p fun g => { g with reqAt := some (seq, t), resp := none }
  | .stamp f => s.gptpQueue p [(gpPut f t, .nothing)]
  | .residence since f => s.gptpQueue p [(gpCorrect f ((t : Int) - since), .nothing)]

/-- R148: the device is grandmaster of a domain: no port is slave in it. -/
def State.grandmaster (s : State) (mon : Bool) : Bool := s.gptpPorts.all fun p => (s.ethAt p).gptp.role mon != 2

/-- R148: Ohmyth's timed gPTP tasks on port `p`: a Pdelay_Req; an Announce where the port is master; and there a Sync where the
device is grandmaster. -/
def State.gptpTasks (s : State) (p : Nat) : State :=
  (Config.gptpDue p s.fresh).foldl (fun s m =>
    let d := if m.2 then s.tb.monDomain else s.tb.actDomain
    let seq := s.fresh % 65536
    let master := (s.ethAt p).gptp.role m.2 == 1
    match m.1 with
    | 0x2 => s.tick.gptpQueue p [(s.gptpMake p 2 0 seq, .request seq)]
    | 0xB => if master then s.tick.gptpQueue p [(s.gptpMake p 0xB d seq, .nothing)] else s
    | 0x0 =>
      if master && s.grandmaster m.2 then s.tick.gptpQueue p [(s.gptpMake p 0 d seq, .stamp (s.gptpMake p 8 d seq))] else s
    | _ => s) s.tick

/-- R148, R400: Ohmyth's timed gPTP tasks, on every port with a link. They run when the microtimer expires, which is the model's
choice (DESIGN CHOICE, log entry 90). -/
def State.gptpTimed (s : State) : State := if s.ohmythUp then s.gptpPorts.foldl State.gptpTasks s else s

end Sys2Proof.Machine
end

