-- ==== Sys2Proof/Machine/Ethernet.lean ====
section
/-! DEFINITION. The commands of the Ethernet ports, gate lists, learning and Avocet (spec/04). -/
namespace Sys2Proof.Machine

/-- A frame from DMAC to the byte before the FCS, as the port classes it. -/
def ethType (f : List Byte) : Nat := beAt f 12 2

/-- FRAME_RECEIVED. R111 to R114, R125, R147 to R149, R400, Table 17.7. -/
def doFrameReceived (p : Nat) (frame : List Byte) (fcsOk : Bool) (s : State) : State :=
  let x := s.ethAt p
  if !x.link || !s.ethOn p then s
  else
    let drop (s : State) : State := s.bump (enKey p + 0x40)
    if !fcsOk then (drop s).ethLine p
    else if frame.length < 60 || 9216 < frame.length || s.wdState 5 p != .running then drop s
    else
      let x := { x with rxFrm := (x.rxFrm + 1) % 2 ^ 64, rxOct := (x.rxOct + frame.length + 4) % 2 ^ 64 }
      let s := s.setEth p x
      if ethType frame == 0x8808 then (if beAt frame 14 2 == 1 then s else drop s)
      else if ethType frame == 0x88F7 && frame.take 6 == [0x01, 0x80, 0xC2, 0x00, 0x00, 0x0E] then
        if s.ohmythUp then (s.emit .ohmyth p s.tb.count frame).gptpReceive p frame else s
      else if ethType frame == 0x8100 && beAt frame 14 2 % 0x1000 == 0xFFF then drop s
      else if s.mode = .shadow ∨ s.mode = .replay then s
      else if ¬(s.mode = .lead ∨ s.mode = .commission) then drop s
      else if ethBuffer p < x.buffered + frame.length then drop s
      else s.setEth p { x with ingress := x.ingress ++ [(mod48 s.tb.count, frame)] }

/-- LINK_UP. R110: the port links up at full duplex only; Table 4.1 gives the speeds. -/
def doLinkUp (p speed : Nat) (full : Bool) (s : State) : State :=
  let x := s.ethAt p
  if !s.ethOn p || x.link || (if p < 4 then speed = 3 else speed ≠ 3) then s
  else if full then s.setEth p { x with link := true, hdx := false, speed := speed }
  else s.setEth p { x with hdx := true }

/-- LINK_DOWN. R110 says when EN_PORTp_STAT.HDX is set, and no rule says when it clears: that it clears at a full-duplex
link-up, or when the half-duplex PHY's link goes down, is the model's choice (DESIGN CHOICE, log entry 107). -/
def doLinkDown (p : Nat) (s : State) : State :=
  let x := s.ethAt p
  if x.link then s.ethLinkDown p else s.setEth p { x with hdx := false }

/-- A frame `l` starts on port `p`, whose state is `x`. R118. -/
def State.ethSend (s : State) (p : Nat) (x : EthPort) (l : List Byte) : State :=
  let y := { x with
    txFrm := (x.txFrm + 1) % 2 ^ 64, txOct := (x.txOct + l.length + 4) % 2 ^ 64
    busyUntil := s.now + wireTime x.speed (8 + l.length + 4) + wireTime x.speed 12 }
  (s.setEth p y).emit .frame p s.now (l ++ leBytes 4 (crc32 l))

/-- FRAME_TRANSMIT. R118, R120, R140, R141: at a frame boundary a gPTP frame starts first, past queues and gates; with none, the
head frame of queue `q` starts, is dropped, or waits. -/
def doFrameTransmit (p q : Nat) (s : State) : State :=
  let x := s.ethAt p
  if !x.link || !s.ethOn p || s.now < x.busyUntil then s
  else match x.mgmt, NatMap.get [] x.queues q with
    | (f, after) :: rest, _ =>
      (s.ethSend p { x with mgmt := rest } (f ++ List.replicate (60 - f.length) 0)).gptpSent p after
    | [], [] => s
    | [], f :: fs =>
      let next (s : State) (y : EthPort) : State := s.setEth p { y with queues := NatMap.put [] y.queues q fs }
      let l := s.ethBuild p f
      let gated := s.bit (enKey p + 0x60) 0
      let dur := wireTime x.speed (8 + l.length + 4)
      if f.reserved p || 9216 < l.length then next (s.bump 0x00160810) x
      else if gated && x.sched.tooLong q dur then next (s.bump (enKey p + 0x4C)) x
      else if gated && !(bitAt x.gates q && x.sched.fits q s.tb.count dur) then s
      else s.ethSend p { x with queues := NatMap.put [] x.queues q fs } l

/-- GATE_STATE_CHANGE. R139: the gates take the states that the list gives now. -/
def doGateStateChange (p : Nat) (s : State) : State :=
  let x := s.ethAt p
  s.setEth p { x with gates := x.sched.statesAt 0xFF s.tb.count }

/-- CONFIG_CHANGE. R138: a write of the register that holds GATE_EN and CONFIG_CHANGE. -/
def doConfigChange (p val : Nat) (s : State) : State :=
  let s := s.setFld (enKey p + 0x60) 0 1 (bitsOf val 0 1)
  if bitAt val 1 then s.ethChange p else s

/-- CONFIG_CHANGE_TIME. R139, R144: ports 0 to 5, then stream gates 0 to 31. -/
def doConfigChangeTime (g : Nat) (s : State) : State :=
  if g < 6 then
    let x := s.ethAt g
    match x.sched.take s.tb.count with
    | some sc => s.setEth g { x with sched := sc, gates := sc.statesAt 0xFF s.tb.count }
    | none => s
  else match (s.sgAt (g - 6)).take s.tb.count s.oldestFrame with
    | some sc => s.setSg (g - 6) sc
    | none => s

/-- SG_CONFIG_CHANGE. R144. -/
def doSgConfigChange (g : Nat) (s : State) : State := s.sgChange g

/-- FRER_RESET_TIMEOUT. R146: the timeout is measured in TSTAMP, so that it has passed once no frame stamped before it is
still to come. -/
def doFrerResetTimeout (r : Nat) (s : State) : State :=
  let t := min s.tb.count (s.oldestFrame.getD s.tb.count)
  { s with frer := NatMap.mod {} s.frer r fun x => x.expire t }

/-! ## Learning and Avocet -/

/-- The first station of an item that adds or removes a static station. -/
def State.staticChange (s : State) (m : Nat) (add : Bool) (vid mac port inst : Nat) : Option State :=
  let ask (s : State) (st : Nat) : State := { s with learn := { s.learn with askers := s.learn.askers ++ [(m, st)] } }
  match s.findStation vid mac with
  | some st =>
    if s.stationWaits st then none
    else if add then some (ask (s.stageStation st (stEntry mac vid port inst s.lsec true)) st)
    else some (ask (s.stageStation st 0) st)
  | none =>
    if !add then some (ask s 0xFFFF)
    else match s.freeStation with
      | some st => if s.stationWaits st then none else some (ask (s.stageStation st (stEntry mac vid port inst s.lsec true)) st)
      | none => some (ask s 0xFFFF)

/-- LEARNING_PROBE. R128 to R133, R150: the next item of the queue; a staging write waits while a commit is
between its marker and the end of its reload (R175) or an entry's previous value is kept (R245). -/
def doLearningProbe (s : State) : State :=
  if !s.bit lrnCtl 0 || !s.commits.isEmpty then s
  else match s.learn.queue with
    | [] => s
    | x :: xs =>
      let r := match x with
        | .probe p => s.doProbe p
        | .static m add vid mac port inst => s.staticChange m add vid mac port inst
      match r with
      | some s => { s with learn := { s.learn with queue := xs } }
      | none => s

/-- LEARNING_COMMIT. R130: once CMT_US has passed since the last one, or at once at 256 changes, the set goes
to the Intake as a commit marker. -/
def doLearningCommit (s : State) : State :=
  let due := decide (s.learn.lastCommit + 1000 * s.fld lrnCtl 16 10 ≤ s.now) || decide (256 ≤ s.learn.set_.length)
  if s.followsLog || !s.bit lrnCtl 0 || (s.learn.set_.isEmpty && s.learn.askers.isEmpty) || !due ||
      s.markers.any (·.learning) then s
  else { s with
    markers := s.markers ++ [⟨true, []⟩]
    learn := { s.learn with lastCommit := s.now } }

/-- R134: Avocet's visit to one station; none where the removal that it stages waits (R130, R175, R245). -/
def State.avocetVisit (s : State) (st : Nat) : Option State :=
  let e := NatMap.get 0 s.tables.station st
  if s.bit 0x00188000 (if st < 512 then 1 else 2) then some s
  else if !stValid e || stStatic e || NatMap.has s.learn.set_ st then some s
  else if stHit e then some (s.putStation st (putBits (putBits e 74 1 0) 75 1 0))
  else if !stAged e then some (s.putStation st (putBits e 75 1 1))
  else if s.stationWaits st then none
  else some ((s.stageStation st 0).bump 0x00160924)

/-- R134: Avocet visits these stations, in index order, and goes no further than one whose removal waits. -/
def State.avocetFrom : List Nat → State → State
  | [], s => ({ s with learn := { s.learn with passAt := none } } : State).bump 0x00188008
  | st :: l, s =>
    match s.avocetVisit st with
    | some s => State.avocetFrom l s
    | none => { s with learn := { s.learn with passAt := some st } }

/-- AVOCET_PASS. R133, R134: one pass over each HARDWARE table every AV_PERIOD seconds. A pass that waits with a removal goes
on from that station. -/
def doAvocetPass (s : State) : State :=
  if !s.bit 0x00188000 0 || s.followsLog then s
  else
    let all := s.tables.station.map (·.1)
    match s.learn.passAt with
    | some st => State.avocetFrom (all.filter fun k => decide (st ≤ k)) s
    | none =>
      if s.now < s.learn.lastPass + 1000000000 * clampNat 1 3600 (s.fld 0x00188004 0 12) then s
      else State.avocetFrom all { s with learn := { s.learn with lastPass := s.now } }

/-- FRAME_RECEIVED. -/
def execFrameReceived (p : Fin 6) (frame : List Byte) (fcsOk : Bool) (s : State) : Host.Outcome State Fault Refusal :=
  .next (doFrameReceived p frame fcsOk s)
/-- LINK_UP. -/
def execLinkUp (p : Fin 6) (speed : Fin 4) (full : Bool) (s : State) : Host.Outcome State Fault Refusal :=
  .next (doLinkUp p speed full s)
/-- LINK_DOWN. -/
def execLinkDown (p : Fin 6) (s : State) : Host.Outcome State Fault Refusal := .next (doLinkDown p s)
/-- FRAME_TRANSMIT. -/
def execFrameTransmit (p : Fin 6) (q : Fin 8) (s : State) : Host.Outcome State Fault Refusal :=
  .next (doFrameTransmit p q s)
/-- GATE_STATE_CHANGE. -/
def execGateStateChange (p : Fin 6) (s : State) : Host.Outcome State Fault Refusal := .next (doGateStateChange p s)
/-- CONFIG_CHANGE. -/
def execConfigChange (p : Fin 6) (val : Word) (s : State) : Host.Outcome State Fault Refusal :=
  .next (doConfigChange p val.toNat s)
/-- CONFIG_CHANGE_TIME. -/
def execConfigChangeTime (g : Fin 38) (s : State) : Host.Outcome State Fault Refusal := .next (doConfigChangeTime g s)
/-- SG_CONFIG_CHANGE. -/
def execSgConfigChange (g : Fin 32) (s : State) : Host.Outcome State Fault Refusal := .next (doSgConfigChange g s)
/-- FRER_RESET_TIMEOUT. -/
def execFrerResetTimeout (r : Fin 64) (s : State) : Host.Outcome State Fault Refusal := .next (doFrerResetTimeout r s)
/-- LEARNING_PROBE. -/
def execLearningProbe (s : State) : Host.Outcome State Fault Refusal := .next (doLearningProbe s)
/-- LEARNING_COMMIT. -/
def execLearningCommit (s : State) : Host.Outcome State Fault Refusal := .next (doLearningCommit s)
/-- AVOCET_PASS. -/
def execAvocetPass (s : State) : Host.Outcome State Fault Refusal := .next (doAvocetPass s)

end Sys2Proof.Machine
end

