-- ==== Sys2Proof/Machine/MailOps.lean ====
section
/-! DEFINITION. The mailboxes' answers, as shared operations (spec/11 R364 to R370). -/
namespace Sys2Proof.Machine

/-- Mailbox `m`. -/
def State.mbAt (s : State) (m : Nat) : Mailbox := NatMap.get {} s.mb m
/-- Changes mailbox `m`. -/
def State.modMb (s : State) (m : Nat) (f : Mailbox → Mailbox) : State :=
  { s with mb := NatMap.mod {} s.mb m f }

/-- The key of a mailbox's register block: I0's in the privileged view, a tenant's in its own (R364). -/
def mbKey (m : Nat) : Nat := if m = 0 then 0x00360000 else viewKey m 0x2000
/-- A mailbox's request area; its response area follows (Table 11.1). -/
def mbArea (m : Nat) : Nat := mailAreaBase + 512 * m

/-- A field of the latched request (Table 11.2). -/
def MbCmd.f (x : MbCmd) (off n : Nat) : Nat := leAt x.req off n
/-- OPCODE. -/
def MbCmd.op (x : MbCmd) : Nat := x.f 0 2
/-- LEN. -/
def MbCmd.len (x : MbCmd) : Nat := x.f 6 2

/-- R371: the instance that FOR names in mailbox `m`, where it may. -/
def MbCmd.for_ (x : MbCmd) (m : Nat) : Option Nat :=
  let k := x.f 3 1 % 16
  if m = 0 then some k else if k = 0 || k = m then some m else none

/-- Table 11.2: a response. -/
def mbResponse (m : Nat) (x : MbCmd) (status : Nat) (body : List Byte) : List Byte :=
  leBytes 2 x.op ++ leBytes 1 x.seq ++ leBytes 1 ((x.for_ m).getD (x.f 3 1 % 16)) ++ leBytes 2 status ++
    leBytes 2 body.length ++ body

/-- Ohmyth has started and has not stopped (R407). -/
def State.serves (s : State) : Bool := s.sup.running && !s.sup.halted && !s.sup.stopped
/-- R367, R407, R534, R555: MB_STATUS.READY. -/
def State.mbReady (s : State) : Bool := s.serves && !s.sup.linkWait && !s.errors.fatalHeld

/-- Table 11.3, step 6: BUSY clears, DONE sets, and with IRQ_EN the MAILBOX cause. -/
def State.mbDone (s : State) (m : Nat) : State :=
  let s := s.modMb m fun b => { b with cmd := none }
  let s := { s with mbQueue := s.mbQueue.filter (· != m), mbTaken := s.mbTaken.filter (· != m) }
  let key := mbKey m
  let s := if s.bit (key + 0x204) 2 then s else s.setBit (key + 0x204) 2
  if s.bit (key + 0x208) 0 then s.cause m 8 else s

/-- Table 11.3, steps 5 and 6: writes a response. -/
def State.mbRespond (s : State) (m : Nat) (bytes : List Byte) : State :=
  ((s.wrChk (mbArea m + 256) (padTo 256 bytes)).1).mbDone m

/-- R374, R382: Ohmyth answers the command of mailbox `m` and keeps a copy (R369). In an UPDATE window the answer waits
(R379); a Supervisor that has stopped answers nothing (R407). -/
def State.mbAnswer (s : State) (m status : Nat) (body : List Byte := []) : State :=
  match (s.mbAt m).cmd with
  | none => s
  | some x =>
    if s.sup.halted || s.sup.stopped then s
    else if s.sup.hold then { s with sup := { s.sup with deferred := s.sup.deferred ++ [(m, status, body)] } }
    else
      let bytes := mbResponse m x status body
      (s.modMb m fun b => { b with copy := bytes }).mbRespond m bytes

/-- R379: the answers that waited for the window to close are written. -/
def State.mbFlush (s : State) : State :=
  let l := s.sup.deferred
  l.foldl (fun s a => s.mbAnswer a.1 a.2.1 a.2.2) { s with sup := { s.sup with deferred := [] } }

/-- Table 18.3: Ohmyth answers INTERNAL, with its record. -/
def State.mbInternal (s : State) (m : Nat) : State :=
  match (s.mbAt m).cmd with
  | none => s
  | some x =>
    let detail := leBytes 1 m ++ leBytes 1 x.seq ++ leBytes 2 x.op ++ leBytes 2 0x0801 ++ leBytes 2 0
    (s.record { block := 0x0F, code := 0x00B0, sev := 3, dkind := 6, detail }).mbAnswer m 0x0801

/-- R370: a hardware answer, which leaves LAST_SEQ and the copy as they are. -/
def State.mbHardware (s : State) (m status : Nat) : State :=
  match (s.mbAt m).cmd with
  | none => s
  | some x => s.mbRespond m (mbResponse m x status [])

end Sys2Proof.Machine
end

