-- ==== Sys2Proof/Machine/Sluice.lean ====
section
/-! DEFINITION. The Sluice DRAM controller (spec/09 R312 to R328, R337; spec/18 R552): ports, queues,
ordering, urgency, refresh and calibration, and the scrubbers. -/
namespace Sys2Proof.Machine

/-- An access by its number. -/
def State.accAt (s : State) (id : Nat) : Option DramAcc :=
  (s.sl.accs.find? fun e => e.1 == id).map (·.2)

/-- Changes an access. -/
def State.modAcc (s : State) (id : Nat) (f : DramAcc → DramAcc) : State :=
  { s with sl := { s.sl with accs := s.sl.accs.map fun e => if e.1 == id then (e.1, f e.2) else e } }

/-- A master offers an access to DRAM; the access's number. -/
def State.dramOffer (s : State) (x : DramAcc) : State × Nat :=
  let id := s.sl.nextAcc
  ({ s with sl := { s.sl with accs := NatMap.ins s.sl.accs id x, nextAcc := id + 1 } }, id)

/-- The master takes a completed access away. -/
def State.dramTake (s : State) (id : Nat) : State :=
  { s with sl := { s.sl with accs := NatMap.del s.sl.accs id } }

/-- An access is complete. -/
def DramAcc.done (x : DramAcc) : Bool := x.split && x.left == 0

/-- R312: the bursts of `n` bytes at `a`, in ascending order. -/
def bursts (a n : Nat) : List (Nat × Nat) :=
  (List.range ((a + n + 63) / 64 - a / 64)).map fun j =>
    let lo := max a ((a / 64 + j) * 64)
    let hi := min (a + n) ((a / 64 + j + 1) * 64)
    (lo, hi - lo)

/-- R316: the age of a request. -/
def State.dramAge (s : State) (r : DramReq) : Nat := s.now - r.arrived

/-- R315, R320: LAT_TGT of a port. -/
def State.latTgt (s : State) (p : Nat) : Nat := s.fld (0x00340100 + 0x10 * p) 0 20

/-- R316: a request's urgency. -/
def State.urgency (s : State) (r : DramReq) : Nat :=
  let t := s.latTgt r.port
  let a := s.dramAge r
  if t ≤ a then 3 else if 3 * t ≤ 4 * a then 2 else if t ≤ 2 * a then 1 else 0

/-- R316: a request that has reached level 3 counts once. -/
def State.lateCount (s : State) (r : DramReq) : State :=
  if s.urgency r == 3 && !r.late then s.bump (0x00340104 + 0x10 * r.port) else s

/-- The highest age since the last read. -/
def State.maxLat (s : State) (r : DramReq) : State :=
  let k := 0x00340108 + 0x10 * r.port
  s.setReg k (max (s.regW k) (min 0xFFFFFFFF (s.dramAge r)))

/-- Does a request on memory (R330 to R334), or completes it in error on a failed channel (R552). -/
def State.dramDo (s : State) (r : DramReq) : State :=
  let s := (s.lateCount r).maxLat r
  match s.accAt r.acc with
  | none => s
  | some x =>
    let off := r.addr - x.addr
    if !s.chanUp (s.dramPlace r.addr).ch then
      s.modAcc r.acc fun x => { x with left := x.left - 1, bad := true }
    else if r.write then
      let (s, bad) := s.wrChk r.addr ((x.data.drop off).take r.len) x.who r.port
      s.modAcc r.acc fun x => { x with left := x.left - 1, bad := x.bad || bad }
    else
      match s.rdChk r.addr r.len x.who r.port with
      | (s, some l) => s.modAcc r.acc fun x => { x with left := x.left - 1, data := putAt x.data off l }
      | (s, none) => s.modAcc r.acc fun x => { x with left := x.left - 1, bad := true }

/-- The key of a bank, and the rank's key. -/
def DramPlace.bankKey (p : DramPlace) : Nat := ((p.ch * 2 + p.rank) * 4 + p.group) * 4 + p.bank
def DramPlace.rankKey (p : DramPlace) : Nat := p.ch * 2 + p.rank

/-- Two requests have one bank and row. -/
def State.sameRow (s : State) (a b : DramReq) : Bool :=
  let x := s.dramPlace a.addr
  let y := s.dramPlace b.addr
  x.bankKey == y.bankKey && x.row == y.row

/-- R313: a bank leaves in-order mode when no queued request's row matches one of the other kind. -/
def State.inordTrim (s : State) : State :=
  let keep (b : Nat) : Bool :=
    s.sl.queued.any fun x => (s.dramPlace x.addr).bankKey == b &&
      s.sl.queued.any fun y => x.write != y.write && s.sameRow x y
  { s with sl := { s.sl with inord := s.sl.inord.filter keep } }

/-- R318: a channel that holds 16 writes or fewer prefers them no more. -/
def State.drainTrim (s : State) : State :=
  let writes (c : Nat) : Nat := (s.sl.queued.filter fun x => (s.dramPlace x.addr).ch == c && x.write).length
  { s with sl := { s.sl with drain := s.sl.drain.filter fun c => decide (16 < writes c) } }

/-- R317: the order of arrival in the queues; of one instant, the order of the ports. -/
def dramInsert (r : DramReq) : List DramReq → List DramReq
  | [] => [r]
  | q :: qs => if q.joined = r.joined && r.port < q.port then r :: q :: qs else q :: dramInsert r qs

/-- R312, R313, R318, R324: a request joins its channel's queue where that has room. -/
def State.dramJoin (s : State) (r : DramReq) : Option State :=
  let p := s.dramPlace r.addr
  let same := (s.sl.queued.filter fun x => (s.dramPlace x.addr).ch == p.ch && x.write == r.write).length
  if 64 ≤ same then none
  else
    let meets := s.sl.queued.any fun x => x.write != r.write && s.sameRow x r
    let enter := meets && !s.sl.inord.contains p.bankKey
    let s := if enter then s.bump 0x00340314 else s
    some { s with sl := { s.sl with
      queued := dramInsert { r with joined := s.now } s.sl.queued,
      inord := if enter then p.bankKey :: s.sl.inord else s.sl.inord,
      drain := if r.write && 48 ≤ same + 1 && !s.sl.drain.contains p.ch then p.ch :: s.sl.drain else s.sl.drain } }

/-- Moves the port's waiting requests into the queues, in order, while there is room. -/
def State.dramFeed (s : State) (p : Nat) : State :=
  let mine := s.sl.waiting.filter (·.port == p)
  let (s, left, _) := mine.foldl (fun (acc : State × List DramReq × Bool) r =>
    if acc.2.2 then (acc.1, acc.2.1 ++ [r], true)
    else match acc.1.dramJoin r with
      | some s => (s, acc.2.1, false)
      | none => (acc.1, acc.2.1 ++ [r], true)) (s, [], false)
  { s with sl := { s.sl with waiting := s.sl.waiting.filter (·.port != p) ++ left } }

/-- DRAM_REQUEST. R312, R324: the port takes the next access offered to it, splits it, and its requests join
their queues; at most 32 wait at the port. -/
def doDramRequest (p : Nat) (s : State) : State :=
  let s := s.dramFeed p
  match s.sl.accs.find? (fun e => !e.2.split && e.2.port == p) with
  | none => s
  | some (id, x) =>
    let bs := bursts x.addr x.data.length
    if 32 < (s.sl.waiting.filter (·.port == p)).length + bs.length then s
    else
      let s := s.modAcc id fun x => { x with split := true, left := bs.length }
      let rs := bs.map fun b => ({ acc := id, port := p, write := x.write, addr := b.1, len := b.2, arrived := s.now } : DramReq)
      ({ s with sl := { s.sl with waiting := s.sl.waiting ++ rs } }).dramFeed p

/-- Two requests touch one granule. -/
def DramReq.meets (x y : DramReq) : Bool :=
  decide (x.addr / 8 ≤ (y.addr + y.len - 1) / 8) && decide (y.addr / 8 ≤ (x.addr + x.len - 1) / 8)

/-- R313, R314, R317 rule 1: no earlier request must issue before request `r`, and its rank is ready, or will be (`later`). -/
def State.dramAllowed (s : State) (r : DramReq) (later : Bool := false) : Bool :=
  let p := s.dramPlace r.addr
  let before := s.sl.queued.takeWhile (· != r)
  (later || decide ((NatMap.get {} s.sl.ranks p.rankKey).busyUntil ≤ s.now)) &&
  !(before.any fun x =>
    ((s.dramPlace x.addr).bankKey == p.bankKey && s.sl.inord.contains p.bankKey) ||
    (r.meets x && (r.write || x.write)))

/-- R317, R318: request `a` goes before request `b` that arrived later. -/
def State.dramBefore (s : State) (ch : Nat) (a b : DramReq) : Bool :=
  let ua := s.urgency a
  let ub := s.urgency b
  let hit (r : DramReq) : Bool :=
    let p := s.dramPlace r.addr
    NatMap.get 0 s.sl.rows p.bankKey == p.row + 1
  if ua ≠ ub then decide (ub < ua)
  else if s.sl.drain.contains ch && a.write != b.write then a.write
  else if hit a != hit b then hit a
  else true

/-- The request that a channel issues next. -/
def State.dramPick (s : State) (ch : Nat) (later : Bool := false) : Option DramReq :=
  let cand := s.sl.queued.filter fun r => (s.dramPlace r.addr).ch == ch && s.dramAllowed r later
  cand.foldl (fun best r =>
    match best with
    | none => some r
    | some b => if s.dramBefore ch b r then some b else some r) none

/-- Issues one queued request: its row opens, it takes effect, and modes that end, end. -/
def State.dramIssue (s : State) (r : DramReq) : State :=
  let p := s.dramPlace r.addr
  let s := s.dramDo r
  let s := { s with sl := { s.sl with
    queued := s.sl.queued.erase r
    rows := NatMap.put 0 s.sl.rows p.bankKey (p.row + 1) } }
  s.drainTrim.inordTrim

/-- DRAM_COMMAND_ISSUE. R317, R318; a failed channel's requests complete in error (R552). -/
def doDramCommandIssue (ch : Nat) (s : State) : State :=
  match s.dramPick ch with
  | some r => s.dramIssue r
  | none => s

/-! ## Accesses that end within one command -/

/-- The request that channel `ch` issues next is done; where its ranks are busy, the one that would be next. -/
def State.dramOne (s : State) (ch : Nat) : State :=
  match s.dramPick ch, s.dramPick ch true with
  | some r, _ => s.dramIssue r
  | none, some r => s.dramIssue r
  | none, none => s

/-- Both channels issue their requests, in their order, until `goal` holds; what waits at port `p` joins as there is room. -/
def State.dramWork (p : Nat) (goal : State → Bool) : Nat → State → State
  | 0, s => s
  | n + 1, s => if goal s then s else State.dramWork p goal n (((s.dramOne 0).dramOne 1).dramFeed p)

/-- The same, for as many turns as there are requests. -/
def State.dramUntil (s : State) (p : Nat) (goal : State → Bool) : State :=
  State.dramWork p goal (s.sl.queued.length + s.sl.waiting.length + 1) s

/-- R312, R324: a burst of access `id` reaches its port; where 32 wait there already, once one has gone on. -/
def State.dramPush (s : State) (id : Nat) (x : DramAcc) (b : Nat × Nat) : State :=
  let s := s.dramUntil x.port fun s => decide ((s.sl.waiting.filter (·.port == x.port)).length < 32)
  let r : DramReq := { acc := id, port := x.port, write := x.write, addr := b.1, len := b.2, arrived := s.now }
  ({ s with sl := { s.sl with waiting := s.sl.waiting ++ [r] } }).dramFeed x.port

/-- R312 to R318: an offered access runs to its end through its port and its channels' queues. What stands before it under R317
is done first. -/
def State.dramFinish (s : State) (id : Nat) : State :=
  match s.accAt id with
  | none => s
  | some x =>
    let bs := bursts x.addr x.data.length
    let s := if x.split then s
      else bs.foldl (fun s b => s.dramPush id x b) (s.modAcc id fun x => { x with split := true, left := bs.length })
    s.dramUntil x.port fun s => (s.accAt id).all DramAcc.done

/-- An offered write ends and is taken away; the flag says that it ended in error. -/
def State.dramEndWrite (s : State) (id : Nat) : State × Bool :=
  let s := s.dramFinish id
  (s.dramTake id, match s.accAt id with | some x => x.bad | none => true)

/-- A checked read of any memory within one command; DRAM on a failed channel gives no data (R552). A request that no rule of
Table 9.7 places is the Supervisor's. -/
def State.rdMem (s : State) (a n : Nat) (w : Who := {}) (port : Nat := 8) : State × Option (List Byte) :=
  if a < 0x800000000 && 0 < n then
    let (s, id) := s.dramOffer { port, write := false, addr := a, data := List.replicate n 0, who := w }
    let s := s.dramFinish id
    (s.dramTake id, match s.accAt id with | some x => if x.bad then none else some x.data | none => none)
  else s.rdChk a n w

/-- A checked write of any memory within one command; the flag says that it ended in error. -/
def State.wrMem (s : State) (a : Nat) (l : List Byte) (w : Who := {}) (port : Nat := 8) : State × Bool :=
  if a < 0x800000000 && !l.isEmpty then
    let (s, id) := s.dramOffer { port, write := true, addr := a, data := l, who := w }
    s.dramEndWrite id
  else
    let (s, bad) := s.wrChk a l w
    (s.pbufPoke a l.length, bad)

/-- URGENCY_RISE. R316: queued requests of port `p` that have reached level 3 are counted. -/
def doUrgencyRise (p : Nat) (s : State) : State :=
  let due := (s.sl.queued ++ s.sl.waiting).filter fun r => r.port == p && s.urgency r == 3 && !r.late
  let mark (r : DramReq) : DramReq := if due.contains r then { r with late := true } else r
  let s := s.bumpBy (0x00340104 + 0x10 * p) due.length
  { s with sl := { s.sl with queued := s.sl.queued.map mark, waiting := s.sl.waiting.map mark } }

/-! ## Refresh and calibration -/

/-- Rank `r` of channel `c`. -/
def State.rankAt (s : State) (c r : Nat) : Rank := NatMap.get {} s.sl.ranks (2 * c + r)
def State.setRank (s : State) (c r : Nat) (x : Rank) : State :=
  { s with sl := { s.sl with ranks := NatMap.put {} s.sl.ranks (2 * c + r) x } }

/-- The rank exists and its channel is in use. -/
def State.rankUp (s : State) (c r : Nat) : Bool := s.chanUp c && decide (r ≤ s.dramK c)

/-- R321: a rank is refreshed every 7.8 µs, or every 3.9 µs while its channel's HOT bit is 1. -/
def State.refreshPeriod (s : State) (c : Nat) : Nat := if s.bit (slGeom c + 4) 0 then 3900 else 7800

/-- R321: a request of urgency 2 or 3 waits for the rank, in its channel's queue or at its port. -/
def State.rankUrgent (s : State) (c r : Nat) : Bool :=
  (s.sl.queued ++ s.sl.waiting).any fun x => (s.dramPlace x.addr).rankKey == 2 * c + r && decide (2 ≤ s.urgency x)

/-- R321: tRFC. -/
def State.tRfc (s : State) (c : Nat) : Nat :=
  match s.fld (slGeom c) 1 2 with
  | 0 => 260 | 1 => 350 | _ => 550

/-- A refresh, or several back to back, blocks its rank and closes its rows. -/
def State.blockRank (s : State) (c r dur : Nat) : State :=
  let x := s.rankAt c r
  let s := s.setRank c r { x with busyUntil := max s.now x.busyUntil + dur }
  { s with sl := { s.sl with rows := s.sl.rows.filter fun e => e.1 / 16 != 2 * c + r } }

/-- REFRESH_DUE. R321, R323, R327: a refresh that is due is forced as the ninth, postponed, or issues with
those postponed before; with none due, postponed ones are made up once nothing urgent waits. -/
def doRefreshDue (c r : Nat) (s : State) : State :=
  let x := s.rankAt c r
  if !s.rankUp c r then s
  else
    let due := decide (x.due ≤ s.now)
    let x := if due then { x with due := x.due + s.refreshPeriod c } else x
    let busy := decide (s.now < x.busyUntil)
    if due then
      if !(s.rankUrgent c r || busy) then
        (s.setRank c r { x with postponed := 0 }).blockRank c r ((x.postponed + 1) * s.tRfc c)
      else if x.postponed < 8 then s.setRank c r { x with postponed := x.postponed + 1 }
      else ((s.setRank c r x).bump 0x00340318).blockRank c r (s.tRfc c)
    else if 0 < x.postponed && !(s.rankUrgent c r || busy) then
      (s.setRank c r { x with postponed := 0 }).blockRank c r (x.postponed * s.tRfc c)
    else s

/-- R323: one calibration or re-centring at a time on a channel. -/
def State.calFree (s : State) (c : Nat) : Bool := (upTo 2).all fun r => decide ((s.rankAt c r).busyUntil ≤ s.now)

/-- ZQ_CALIBRATION. R323: every 128 ms per rank, blocking it for no more than 2 µs. -/
def doZqCalibration (c r : Nat) (s : State) : State :=
  let x := s.rankAt c r
  if s.rankUp c r && s.calFree c && decide (x.zqAt + 128000000 ≤ s.now) then
    (s.setRank c r { x with zqAt := s.now }).blockRank c r 2000
  else s

/-- DRIFT_RECENTRE. R323: every 1 s per rank. -/
def doDriftRecentre (c r : Nat) (s : State) : State :=
  let x := s.rankAt c r
  if s.rankUp c r && s.calFree c && decide (x.driftAt + 1000000000 ≤ s.now) then
    (s.setRank c r { x with driftAt := s.now }).blockRank c r 2000
  else s

/-- HOT_POLL. R322: `reading` in °C, none where no sensor is assigned or its read failed. -/
def doHotPoll (c : Nat) (reading : Option Int) (s : State) : State :=
  if !s.ohmythUp then s
  else
    let hot := match reading with
      | none => true
      | some t => if 85 ≤ t then true else if t < 83 then false else s.bit (slGeom c + 4) 0
    s.setFld (slGeom c + 4) 0 1 (b2n hot)

/-- R308, R310: granules of populated DRAM on channel `c`. -/
def State.chanGranules (s : State) (c : Nat) : Nat := if s.chanMapped c then 2 ^ s.chanLog c / 8 else 0

/-- The address of granule `i` of populated DRAM, in rising order. -/
def State.dramGranule (s : State) (i : Nat) : Nat :=
  if s.dramOrd = 3 && s.chanGranules 0 ≤ i then 0x400000000 + 8 * (i - s.chanGranules 0) else 8 * i

/-- R337: the patrol scrubber's place is among `Sluice.scrubs` under this key. -/
def patrolKey : Nat := 0

/-- R326, R337: the visit to the granule at `a`, where upset `u` has struck: a read on port 11 that corrects what it can. A
granule with a queued write is skipped for the pass, and so is one on a failed channel. -/
def State.patrolVisit (s : State) (a u : Nat) : State :=
  let t : DramReq := { acc := 0, port := 11, write := true, addr := a, len := 8, arrived := 0 }
  let s := if u = 0 then s else s.setEcc a (max u (s.eccAt a))
  if !s.chanUp (s.dramPlace a).ch || (s.sl.queued ++ s.sl.waiting).any fun r => r.write && r.meets t then s
  else (s.rdMem a 8 {} 11).1

/-- DRAM_SCRUB_VISIT. R337: the patrol scrubber visits its next granule, once that is due: one pass in SCRUB_H hours, 0 taken as
1. -/
def doDramScrubVisit (u : Nat) (s : State) : State :=
  let n := s.chanGranules 0 + s.chanGranules 1
  let i := (NatMap.get (0, 0) s.sl.scrubs patrolKey).1
  if !s.bit slCtl 8 || s.mode = .boot || n = 0 then s
  else match s.scrubTurn patrolKey n (3600000000000 * zeroAs 1 (s.fld 0x0034000C 0 8)) i with
    | some s => s.patrolVisit (s.dramGranule i) u
    | none => s

/-- CHANNEL_FAULT. R552: the channel is taken out of use; its requests complete as uncorrectable errors. -/
def doChannelFault (c : Nat) (s : State) : State :=
  if !s.chanUp c then s
  else
    let s := s.setBit slStat (2 + c)
    let s := s.record { block := 0x0D, code := 0x0081, sev := 3, unit := c }
    let hit := (s.sl.queued ++ s.sl.waiting).filter fun r => (s.dramPlace r.addr).ch == c
    let s := hit.foldl (fun s r => s.dramDo r) s
    ({ s with sl := { s.sl with
      queued := s.sl.queued.filter (!hit.contains ·), waiting := s.sl.waiting.filter (!hit.contains ·) } }).drainTrim.inordTrim

/-- DRAM_REQUEST. -/
def execDramRequest (p : Fin 12) (s : State) : Host.Outcome State Fault Refusal := .next (doDramRequest p s)
/-- DRAM_COMMAND_ISSUE. -/
def execDramCommandIssue (c : Fin 2) (s : State) : Host.Outcome State Fault Refusal := .next (doDramCommandIssue c s)
/-- URGENCY_RISE. -/
def execUrgencyRise (p : Fin 12) (s : State) : Host.Outcome State Fault Refusal := .next (doUrgencyRise p s)
/-- REFRESH_DUE. -/
def execRefreshDue (c r : Fin 2) (s : State) : Host.Outcome State Fault Refusal := .next (doRefreshDue c r s)
/-- ZQ_CALIBRATION. -/
def execZqCalibration (c r : Fin 2) (s : State) : Host.Outcome State Fault Refusal := .next (doZqCalibration c r s)
/-- DRIFT_RECENTRE. -/
def execDriftRecentre (c r : Fin 2) (s : State) : Host.Outcome State Fault Refusal := .next (doDriftRecentre c r s)
/-- HOT_POLL. -/
def execHotPoll (c : Fin 2) (reading : Option Int) (s : State) : Host.Outcome State Fault Refusal :=
  .next (doHotPoll c reading s)
/-- DRAM_SCRUB_VISIT. -/
def execDramScrubVisit (found : Upset) (s : State) : Host.Outcome State Fault Refusal :=
  .next (doDramScrubVisit (upsetBits found) s)
/-- CHANNEL_FAULT. -/
def execChannelFault (c : Fin 2) (s : State) : Host.Outcome State Fault Refusal := .next (doChannelFault c s)

end Sys2Proof.Machine
end

