-- ==== Sys2Proof/Machine/FordOps.lean ====
section
/-! DEFINITION. The Ford link's sending side, the release gate, digests and the black box, as shared
operations (spec/14 R445, R447, R457, R460; spec/15 R489). -/
namespace Sys2Proof.Machine

/-- FD_CTL. -/
abbrev fdCtl : Nat := 0x003A0000
/-- FD_EVT. -/
abbrev fdEvt : Nat := 0x003A0008

/-- The Ford ring's first address and its size in bytes. -/
def State.fordRing (s : State) : Nat × Nat :=
  (s.regW 0x003A0020 + s.regW 0x003A0024 * 2 ^ 32, clampNat 64 4096 (s.fld 0x003A0028 0 13) * 2 ^ 20)

/-- Table 14.2: a frame's header. -/
def fordHeader (type : Nat) (retx : Bool) (len fseq ack : Nat) : List Byte :=
  leBytes 1 type ++ leBytes 1 (b2n retx) ++ leBytes 2 len ++ leBytes 4 fseq ++ leBytes 4 ack ++ leBytes 4 0

/-- R445: the frame's bytes with its CRC. -/
def fordBytes (type : Nat) (retx : Bool) (fseq ack : Nat) (body : List Byte) : List Byte :=
  let l := fordHeader type retx body.length fseq ack ++ body
  l ++ leBytes 4 (crc32 l)

/-- R470: bytes of the Ford ring that frames not yet acknowledged use, image frames apart. -/
def Ford.ringUse (f : Ford) : Nat :=
  (f.ring.filter fun x => x.type != 6).foldl (fun a x => a + x.body.length + 20) 0

/-- Sends a frame while the link is UP: it takes the next FSEQ and stays in the Ford ring, in DRAM where the
ring is populated, until it is acknowledged. -/
def State.fordPut (s : State) (type : Nat) (body : List Byte) : State :=
  let f := s.ford
  if f.link ≠ 2 then s
  else
    let (base, size) := s.fordRing
    let l := fordBytes type false f.nextSeq f.rxSeq body
    let pos := if f.ringPos + l.length ≤ size then f.ringPos else 0
    let s := if s.mapOk .engine (base + pos) l.length && base < 0x800000000 then
        (s.wrMem (base + pos) l {} 7).1 else s
    ({ s with ford := { s.ford with
      nextSeq := f.nextSeq + 1, ringPos := pos + l.length,
      ring := s.ford.ring ++ [(⟨f.nextSeq, type, s.now, 1, body, base + pos⟩ : FordFrame)] } }).emit .ford type f.nextSeq l

/-- R471, R457: the lead's partner is detached: a CONTROL frame tells it, where `tell`; the event is counted. -/
def State.partnerGone (s : State) (tell : Bool) : State :=
  let s := if tell then s.fordPut 7 (Config.controlBytes .detach) else s
  ({ s with ford := { s.ford with peerRole := .detached } }).bump 0x003A0054 |>.setBit fdEvt 4

/-- R470: the Ford ring cannot hold the records queued during a resynchronisation. -/
def State.ringOverflow (s : State) : State :=
  match s.ford.resync with
  | none => s
  | some m =>
    let s := s.record { block := 0x13, code := 0x00A3, sev := 3 }
    let s := { s with ford := { s.ford with resync := none } }
    (s.partnerGone true).mbInternal m

/-- Sends a frame. -/
def State.fordSend (s : State) (type : Nat) (body : List Byte) : State :=
  let s := s.fordPut type body
  if s.ford.resync.isSome && decide (s.fordRing.2 < s.ford.ringUse) then s.ringOverflow else s

/-- R457: the number of frames queued so far, that a cell which becomes eligible now waits for. -/
def State.gateMark (s : State) : Nat := s.ford.nextSeq

/-- R457: every frame queued before the mark has been acknowledged, or the gate does not hold. -/
def State.gateOpen (s : State) (mark : Nat) : Bool :=
  !(s.mode == .lead && s.partnerFollows) || s.ford.ring.all fun f => decide (mark ≤ f.fseq)

/-- R452: an entry goes to the partner as a DECISION or CONFIG frame when it is made. -/
def State.sendEntry (s : State) (e : DEntry) : State :=
  if s.partnerFollows && s.ford.role == .lead then
    s.fordSend (if e.type = 0x20 then 4 else 3) e.toBytes
  else s

/-- R484: makes a decision entry and sends it. -/
def State.decision (s : State) (type master : Nat) (body : List Byte) (size : Nat := 16) : State :=
  if s.makesLog then (s.logEntry type master body size).sendEntry ⟨type, size, master, padTo (size - 4) body⟩ else s

/-- R452: makes a CONFIG entry tagged with the Intake's next GSEQ. -/
def State.configEntry (s : State) (kind offset mask value : Nat) : State :=
  s.decision 0x20 0xFFFF
    (leBytes 6 s.nextGseq ++ leBytes 1 kind ++ leBytes 1 0 ++ leBytes 4 offset ++ leBytes 4 mask ++ leBytes 4 value) 32

/-- R460: the CRC that a release contributes. -/
def digestCrc (h : Header) (payload : List Byte) : Nat :=
  let b := h.toBytes
  crc32 (b.take 0x20 ++ (b.drop 0x24).take 0x1C ++ payload)

/-- R460: window of a GSEQ. -/
def State.windowOf (s : State) (gseq : Nat) : Nat := gseq / 2 ^ clampNat 10 24 (s.fld fdCtl 8 5)

/-- R460: a release contributes to its window; Table 14.7, step 6: a handover notes a HANDOVER HOLE. -/
def State.digestAdd (s : State) (h : Header) (payload : List Byte) : State :=
  let hole := h.kind == .hole && h.hreason == 6
  { s with ford := { s.ford with
    handover := s.ford.handover.map fun x => { x with holes := x.holes || hole }
    windows := NatMap.mod {} s.ford.windows (s.windowOf h.gseq) fun d =>
      { count := d.count + 1, sum := (d.sum + digestCrc h payload) % 2 ^ 64
        handover := d.handover || hole } } }

/-- R489: the black-box record of a release. -/
def State.blackBox (s : State) (h : Header) (timed : Bool) : State :=
  let m := s.fld 0x003C0000 0 2
  if m = 2 || (m = 1 && !timed && h.kind != .hole) then s
  else
    let bytes := leBytes 6 h.gseq ++ leBytes 1 h.sub ++ leBytes 1 h.kind.code ++ leBytes 6 h.tstamp ++
      leBytes 2 h.src ++ leBytes 6 h.rel ++ leBytes 2 h.stream ++ leBytes 2 h.eseq ++ leBytes 1 h.cf ++
      leBytes 1 h.hreason ++ leBytes 2 h.repoch ++ leBytes 2 s.viv.boots
    let s := s.wrBytes (bbxAddr + 32 * s.viv.bbxNext) bytes
    { s with viv := { s.viv with bbxNext := (s.viv.bbxNext + 1) % 81920, bbxTotal := s.viv.bbxTotal + 1 } }

/-- R447: a release to Ford egress. -/
def State.fordRelease (s : State) (h : Header) (payload : List Byte) : State :=
  if h.kind = .hole || !(s.mode == .lead || s.mode == .commission) then s
  else s.fordSend 8 (h.toBytes ++ payload)

end Sys2Proof.Machine
end

