-- ==== Sys2Proof/Machine/Queues.lean ====
section
/-! DEFINITION. Host queues, doorbells, interrupt enables and PCI Express configuration (spec/13 R410,
R411, R424 to R434). -/
namespace Sys2Proof.Machine

/-- The submission queue `q` of instance `i`. -/
def State.sqAt (s : State) (i q : Nat) : HostQueue := NatMap.get {} s.sq (8 * i + q)
def State.setSq (s : State) (i q : Nat) (x : HostQueue) : State := { s with sq := NatMap.put {} s.sq (8 * i + q) x }
/-- The completion queue `q` of instance `i`. -/
def State.cqAt (s : State) (i q : Nat) : HostQueue := NatMap.get {} s.cq (8 * i + q)
def State.setCq (s : State) (i q : Nat) (x : HostQueue) : State := { s with cq := NatMap.put {} s.cq (8 * i + q) x }

/-- Register block of SQ `q`. -/
abbrev sqKey (i q : Nat) : Nat := instKey i (0x40 * q)
/-- Register block of CQ `q`. -/
abbrev cqKey (i q : Nat) : Nat := instKey i (0x200 + 0x40 * q)

/-- Entries of the ring whose registers are at `key`. -/
def State.ringLen (s : State) (key : Nat) : Nat := 2 ^ clampNat 4 12 (s.fld (key + 8) 0 4)

/-- A doorbell write that is dropped (R429). -/
def State.badDoorbell (s : State) (i : Nat) : State := (s.setBit (instKey i 0x3010) 1).bump (instKey i 0x4018)

/-- SQ_TAIL_DOORBELL. R429; while the instance is not ACTIVE the write is dropped uncounted (R415); one of a queue that
is not enabled counts (DESIGN CHOICE: log 124). -/
def doSqTailDoorbell (i q val : Nat) (s : State) : State :=
  if !s.active i then s
  else
    let idx := bitsOf val 0 12
    let n := s.ringLen (sqKey i q)
    let x := s.sqAt i q
    let free := n - 1 - (x.tail + n - x.head) % n
    if s.bit (sqKey i q + 0x0C) 0 && idx < n && (idx + n - x.tail) % n ≤ free then
      s.setSq i q { x with tail := idx }
    else s.badDoorbell i

/-- CQ_HEAD_DOORBELL. R429, R426: entries passed free their data-ring space (a queue not enabled: log 124). -/
def doCqHeadDoorbell (i q val : Nat) (s : State) : State :=
  if !s.active i then s
  else
    let idx := bitsOf val 0 12
    let n := s.ringLen (cqKey i q)
    let x := s.cqAt i q
    let adv := (idx + n - x.head) % n
    if s.bit (cqKey i q + 0x0C) 0 && idx < n && adv ≤ (x.tail + n - x.head) % n then
      s.setCq i q { x with head := idx, spans := x.spans.drop adv }
    else s.badDoorbell i

/-- R411, R430, Table 17.7: the SQs of instance `i` are fetched. -/
def State.sqFetches (s : State) (i : Nat) : Bool :=
  s.active i && (s.fnAt i).busMaster && (s.mode == .lead || s.mode == .commission)

/-- R433: a failed host read stops the SQ: no entry is consumed, and it will start again from HEAD. -/
def State.sqStop (s : State) (i q : Nat) : State :=
  let s := (s.setSq i q { s.sqAt i q with fetched := [] }).setBit (sqKey i q + 0x14) 0
  let s := (s.setBit 0x00390004 0).cause i 12
  let s := s.record { block := 0x12, code := 0x0050, sev := 2, dkind := 5, unit := q, inst := some i,
                      detail := [2, 0] ++ leBytes 2 q ++ leBytes 4 (s.regW (sqKey i q + 0x14)) ++ leBytes 4 0 ++ leBytes 4 0 }
  s.emit .aer i 0 []

/-- R425: the payload of a well-formed SQ entry; none for a malformed one. -/
def sqPayload (e : List Byte) (indirect : List Byte) : Option (List Byte) :=
  let len := leAt e 0 2
  let flags := leAt e 2 1
  let ind := bitAt flags 0
  if 9216 < len || (!ind && 48 < len) || 2 ≤ flags || leAt e 3 5 ≠ 0 then none
  else some (if ind then padTo len indirect else padTo len (e.drop 16))

/-- Entries at HEAD that are malformed are skipped. -/
def State.sqSkip (s : State) (i q : Nat) : State :=
  let x := s.sqAt i q
  let k := (x.fetched.takeWhile Option.isNone).length
  s.setSq i q { x with head := (x.head + k) % s.ringLen (sqKey i q), fetched := x.fetched.drop k }

/-- R491: while BT_XFER.GO is 1, I0's queue Q serves Bittern alone. -/
def State.xferOwns (s : State) (i q : Nat) : Bool :=
  i == 0 && s.bit 0x003B00A0 0 && s.fld 0x003B00A0 2 3 == q

/-- R491: the direction of the transfer that BT_XFER describes. -/
def State.xferExports (s : State) : Bool := s.bit 0x003B00A0 1 == Config.xferDirExport

/-- R491: the transfer reads SQ `q` of instance `i`, in any mode. -/
def State.xferImports (s : State) (i q : Nat) : Bool :=
  s.xferOwns i q && !s.xferExports && s.active i && (s.fnAt i).busMaster

/-- SQ `q` of instance `i` has an entry that may be fetched. -/
def State.sqReady (s : State) (i q : Nat) : Bool :=
  let x := s.sqAt i q
  (if s.xferOwns i q then s.xferImports i q else s.sqFetches i) && s.bit (sqKey i q + 0x0C) 0 && !s.bit (sqKey i q + 0x14) 0 &&
    (x.head + x.fetched.length) % s.ringLen (sqKey i q) != x.tail

/-- R491: a transfer ends with ERR. -/
def State.xferRefuse (s : State) : State :=
  let s := (s.setBit 0x003B00A0 6).setBit 0x003B0014 8
  { s with bt := { s.bt with moved := s.regW 0x003B00AC + 1 } }

/-- SQ_ENTRY_READ. R425, R433: the data of the next entry, and of its indirect payload, arrive. -/
def doSqEntryRead (i q : Nat) (entry payload : HostRead) (s : State) : State :=
  if !s.sqReady i q then s
  else match entry with
    | .failed => s.sqStop i q
    | .data e =>
      let x := s.sqAt i q
      let e := padTo 64 e
      let take (ind : List Byte) : State :=
        match sqPayload e ind with
        | some p => s.setSq i q { x with fetched := x.fetched ++ [some p] }
        | none => ((s.bump (instKey i 0x4010)).setSq i q { x with fetched := x.fetched ++ [none] }).sqSkip i q
      let ind := bitAt (leAt e 2 1) 0 && (sqPayload e []).isSome
      if s.xferOwns i q && !ind then s.xferRefuse
      else if ind then
        match payload with
        | .failed => s.sqStop i q
        | .data p => take p
      else take []

/-- PCIE_COMPLETION_TIMEOUT. R433. -/
def doPcieCompletionTimeout (i q : Nat) (s : State) : State := if s.sqReady i q then s.sqStop i q else s

/-- SQ_ERR_CLEAR. R433: a W1C of ERR; an enabled SQ restarts from HEAD. -/
def doSqErrClear (i q : Nat) (s : State) : State :=
  if s.active i then s.setFld (sqKey i q + 0x14) 0 1 0 else s

/-- QUEUE_ENABLE. R424: a write of the queue's CTL register. -/
def doQueueEnable (i : Nat) (cq : Bool) (q val : Nat) (s : State) : State :=
  if !s.active i then s
  else
    let key := if cq then cqKey i q else sqKey i q
    let was := s.bit (key + 0x0C) 0
    let s := s.setReg (key + 0x0C) (bitsOf val 0 (if cq then 2 else 1))
    if bitAt val 0 && !was then if cq then s.setCq i q { drops := (s.cqAt i q).drops } else s.setSq i q {}
    else if !bitAt val 0 && !cq then s.setSq i q { s.sqAt i q with fetched := [] }
    else s

/-! ## Releases to a CQ (R426, R427) -/

/-- Where a payload of `len` bytes goes in a data ring of `size` bytes: never wrapping, clear of every
span still held. -/
def dataPlace (x : HostQueue) (size len : Nat) : Option Nat :=
  let l := roundUp 64 len
  let start := if x.dnext + l ≤ size then x.dnext else 0
  if l ≤ size && x.spans.all (fun sp => start + l ≤ sp.1 || sp.1 + sp.2 ≤ start) then some start else none

/-- R427: a release dropped for an ACTIVE instance. -/
def State.cqDrop (s : State) (i q : Nat) : State :=
  let x := s.cqAt i q
  (s.setCq i q { x with drops := satAdd 0xFFFF x.drops 1 }).bump (instKey i 0x400C)

/-- Table 13.7: a CQ entry. -/
def cqEntry (h : Header) (phase inData perr : Bool) (drops dofs : Nat) (payload : List Byte) : List Byte :=
  leBytes 6 h.gseq ++ leBytes 1 h.sub ++ leBytes 1 h.kind.code ++ leBytes 6 h.tstamp ++
  leBytes 2 h.eseq ++ leBytes 2 h.stream ++ leBytes 2 h.len ++
  leBytes 1 (b2n phase + 2 * b2n h.eepoch + 4 * b2n h.late + 8 * b2n inData + 16 * b2n perr) ++
  leBytes 1 h.hreason ++ leBytes 2 drops ++ leBytes 4 dofs ++ leBytes 4 0 ++
  padTo 32 (if inData then [] else payload)

/-- R491: an entry with `len` bytes in the data ring fits in CQ `q` of I0 now. -/
def State.cqFits (s : State) (q len : Nat) : Bool :=
  let key := cqKey 0 q
  let x := s.cqAt 0 q
  let n := s.ringLen key
  decide ((x.tail + n - x.head) % n < n - 1) && (dataPlace x (2 ^ clampNat 12 24 (s.fld (key + 0x20) 0 5)) len).isSome

/-- R426: writes the payload, then the entry, at the CQ's tail; R427 where it cannot. `perr`: the
payload met an uncorrectable error in the packet buffer and is not written (R434); `raw`: an entry of KIND 0 of a transfer (R491). -/
def State.cqWrite (s : State) (i q : Nat) (h : Header) (payload : List Byte) (perr : Bool := false) (raw : Bool := false) : State :=
  let key := cqKey i q
  let x := s.cqAt i q
  let n := s.ringLen key
  if !s.active i then s.bump 0x00390010
  else if !s.bit (key + 0x0C) 0 || !(s.fnAt i).busMaster || n - 1 ≤ (x.tail + n - x.head) % n then s.cqDrop i q
  else
    let big := raw || (decide (32 < payload.length) && !perr)
    let place := if big then dataPlace x (2 ^ clampNat 12 24 (s.fld (key + 0x20) 0 5)) payload.length else some 0
    match place with
    | none => s.cqDrop i q
    | some dofs =>
      let base := s.regW key + s.regW (key + 4) * 2 ^ 32
      let dbase := s.regW (key + 0x18) + s.regW (key + 0x1C) * 2 ^ 32
      let l := roundUp 64 payload.length
      let s := if big then s.emit .hostWrite i (dbase + dofs) (padTo l payload) else s
      let s := s.emit .hostWrite i (base + 64 * x.tail)
        (let e := cqEntry h x.phase big perr x.drops (if big then dofs else 0) (if perr then [] else payload)
         if raw then setNth e 7 0 else e)
      let tail := (x.tail + 1) % n
      let s := s.setCq i q { x with
        tail := tail, phase := if tail = 0 then !x.phase else x.phase, drops := 0,
        spans := x.spans ++ [(dofs, if big then l else 0)], dnext := if big then dofs + l else x.dnext }
      let s := s.modInst i fun y => { y with cqEntries := mod48 (y.cqEntries + 1) }
      let s := if perr then
          let a := pbufBase + 64 * h.pbuf
          let bad := ((s.badGranules a h.len).find? fun e => e.2 != 1).getD (a, 2)
          ((s.setBit 0x00390004 1).tick).record {
            block := 0x12, code := 0x0051, sev := 2, dkind := 1, gseq := some h.gseq, inst := some i,
            detail := memDetail bad.1 0 (s.eccSyn bad.2) (eccFlags bad.2) 0xF }
        else s
      if s.bit (key + 0x0C) 1 then s.cause i q else s

/-- R426, R427: a release to a host CQ. -/
def State.cqRelease (s : State) (i q : Nat) (h : Header) (payload : List Byte) (perr : Bool := false) : State :=
  if s.xferOwns i q then (if s.active i then s.cqDrop i q else s.bump 0x00390010) else s.cqWrite i q h payload perr

/-! ## Interrupt enables and PCI Express configuration -/

/-- IN_IEN_WRITE. R431: enabling a cause that is already set sends one message. -/
def doInIenWrite (i val : Nat) (s : State) : State :=
  if !s.active i then s
  else
    let old := s.fld (instKey i 0x3004) 0 19
    let s := s.setReg (instKey i 0x3004) (bitsOf val 0 19)
    (upTo 19).foldl (fun s k =>
      if bitAt val k && !bitAt old k && s.bit (instKey i 0x3000) k then s.msix i (s.ivec i k) else s) s

/-- Sends every pending message of function `fn` that is no longer masked. -/
def State.msixFlush (s : State) (fn : Nat) : State :=
  (upTo 64).foldl (fun s v =>
    let x := s.fnAt fn
    if bitAt x.pba v && !x.msixMask && x.msixEnable && !s.bit (msixBase fn + 16 * v + 12) 0 then
      ({ s with pcie := NatMap.put {} s.pcie fn { x with pba := putBits x.pba v 1 0 } }).msix fn v
    else s) s

/-- PCIE_CONFIG_WRITE. R410, R411, R436. Until READY, or until a boot without a valid image has failed, and until the
link is up again after a host reset, configuration requests are answered with retry status (R526, R530, R534). -/
def doPcieConfigWrite (fn : Nat) (cfg : PcieCfg) (s : State) : State :=
  let x := s.fnAt fn
  if !(s.sup.running || s.bit 0x0037001C 2) || s.sup.linkWait then s
  else match cfg with
  | .busMaster on => ({ s with pcie := NatMap.put {} s.pcie fn { x with busMaster := on } }).msixFlush fn
  | .numVfs n => { s with numVfs := n }
  | .devCtl2 v => { s with pcie := NatMap.put {} s.pcie fn { x with devCtl2 := v.toNat } }
  | .msix en mask =>
    ({ s with pcie := NatMap.put {} s.pcie fn { x with msixEnable := en, msixMask := mask } }).msixFlush fn

/-- SQ_TAIL_DOORBELL. -/
def execSqTailDoorbell (i : Fin 16) (q : Fin 8) (val : Word) (s : State) : Host.Outcome State Fault Refusal :=
  .next (doSqTailDoorbell i q val.toNat s)
/-- CQ_HEAD_DOORBELL. -/
def execCqHeadDoorbell (i : Fin 16) (q : Fin 8) (val : Word) (s : State) : Host.Outcome State Fault Refusal :=
  .next (doCqHeadDoorbell i q val.toNat s)
/-- SQ_ENTRY_READ. -/
def execSqEntryRead (i : Fin 16) (q : Fin 8) (entry payload : HostRead) (s : State) :
    Host.Outcome State Fault Refusal := .next (doSqEntryRead i q entry payload s)
/-- PCIE_COMPLETION_TIMEOUT. -/
def execPcieCompletionTimeout (i : Fin 16) (q : Fin 8) (s : State) : Host.Outcome State Fault Refusal :=
  .next (doPcieCompletionTimeout i q s)
/-- SQ_ERR_CLEAR. -/
def execSqErrClear (i : Fin 16) (q : Fin 8) (s : State) : Host.Outcome State Fault Refusal := .next (doSqErrClear i q s)
/-- QUEUE_ENABLE. -/
def execQueueEnable (i : Fin 16) (cq : Bool) (q : Fin 8) (val : Word) (s : State) :
    Host.Outcome State Fault Refusal := .next (doQueueEnable i cq q val.toNat s)
/-- IN_IEN_WRITE. -/
def execInIenWrite (i : Fin 16) (val : Word) (s : State) : Host.Outcome State Fault Refusal :=
  .next (doInIenWrite i val.toNat s)
/-- PCIE_CONFIG_WRITE. -/
def execPcieConfigWrite (fn : Fin 16) (cfg : PcieCfg) (s : State) : Host.Outcome State Fault Refusal :=
  .next (doPcieConfigWrite fn cfg s)

end Sys2Proof.Machine
end

