-- ==== Sys2Proof/Machine/Tideway.lean ====
section
/-! DEFINITION. The commands of the Tideway ports and of Gong (spec/03 R72 to R109). An event that the
state does not allow at its instant did not happen and changes nothing. -/
namespace Sys2Proof.Machine

/-- TD_ENCn_CTL. -/
abbrev encCtl (n : Nat) : Nat := 0x00140100 + 0x20 * n

/-! ## Encoders -/

/-- R80: the window flags of a position; signed in QUAD mode, unsigned in SSI mode. -/
def State.encFlags (s : State) (n pos : Nat) : Bool × Bool :=
  let lo := s.regW (encCtl n + 0x0C)
  let hi := s.regW (encCtl n + 0x10)
  if s.fld (encCtl n) 0 2 = 2 then (decide (pos < lo), decide (hi < pos))
  else (decide (signedOf 32 pos < signedOf 32 lo), decide (signedOf 32 hi < signedOf 32 pos))

/-- An encoder cell with CAUSE, or its refusal when 4 cells are buffered (R103). -/
def State.encCell (s : State) (n cause tstamp : Nat) : State :=
  let e := s.encAt n
  if s.chanOut n then s
  else if 4 ≤ s.buffered n then (s.setEnc n { e with lost := true }).tdOverflow
  else
    let stat := b2n e.zSeen + 2 * b2n e.illegal + 4 * b2n e.overspeed + 8 * b2n e.ssiErr +
      16 * b2n e.lost + 32 * b2n e.belowLo + 64 * b2n e.aboveHi
    let s := s.setEnc n { e with zSeen := false, illegal := false, overspeed := false, ssiErr := false, lost := false }
    s.pinCell tstamp n
      (leBytes 4 e.pos ++ leBytes 4 e.zpos ++ leBytes 2 stat ++ leBytes 1 cause ++ List.replicate 5 0)

/-- R80: the flags follow the position. -/
def State.encFollow (s : State) (n : Nat) : State :=
  let e := s.encAt n
  let f := s.encFlags n e.pos
  s.setEnc n { e with belowLo := f.1, aboveHi := f.2 }

/-- R80: encoder `n` stood at `old`; where its flags have changed since, a WINDOW cell is made with WINCELL, and Gong sees
it. -/
def State.encChanged (s : State) (n : Nat) (old : Encoder) (tstamp : Nat) : State :=
  let e := s.encAt n
  if (e.belowLo, e.aboveHi) = (old.belowLo, old.aboveHi) then s
  else (if s.bit (encCtl n) 3 then s.encCell n 2 tstamp else s).gongRun

/-- R80: the flags follow the position; a change makes a WINDOW cell with WINCELL, and Gong sees it. -/
def State.encWindow (s : State) (n tstamp : Nat) : State := (s.encFollow n).encChanged n (s.encAt n) tstamp

/-- The step that a change of (A, B) makes: +1 when A leads B, -1 when B leads A, none when both
changed (R78). -/
def quadStep (a b a' b' : Bool) : Option Int :=
  if a ≠ a' ∧ b ≠ b' then none
  else if a = a' ∧ b = b' then some 0
  else if a ≠ a' then (if a' = b then some (-1) else some 1)
  else (if b' = a then some 1 else some (-1))

/-- R72: the Timebase at the pad edge that a filter of `ns` accepted. -/
def State.edgeStamp (s : State) (ns : Nat) : Nat := mod48 (s.tb.count + 2 ^ 64 - ns)

/-- R78: an accepted state of A and B in QUAD mode: the count, ILLEGAL and OVERSPEED. -/
def State.encCount (s : State) (n : Nat) (a b : Bool) : State :=
  let e := s.encAt n
  if s.fld (encCtl n) 0 2 ≠ 1 ∨ (a = e.a ∧ b = e.b) then s
  else
    let fast := e.lastEdge.any fun t => decide (s.now < t + 20)
    let ts := s.edgeStamp (5 * s.fld (encCtl n) 11 8)
    match quadStep e.a e.b a b with
    | none =>
      (s.setEnc n { e with
        a := a, b := b, illegal := true, overspeed := e.overspeed || fast, lastEdge := some s.now }).tdPortError n 4
    | some d =>
      let d := if s.bit (encCtl n) 27 then -d else d
      let pos := wrapTo 32 ((e.pos : Int) + d)
      let pos := if fast then (Config.overspeedCount s.fresh).toNat else pos
      let s := s.setEnc n { e with a := a, b := b, pos := pos, overspeed := e.overspeed || fast, lastEdge := some s.now }
      let s := if fast then s.tick.tdPortError n 4 else s
      s.encWindow n ts

/-- ENC_Z_EDGE. R79: an accepted Z rising edge latches ZPOS and makes a cell, with ZCELL set. -/
def doEncZEdge (n : Nat) (s : State) : State :=
  let e := s.encAt n
  if s.fld (encCtl n) 0 2 ≠ 1 then s
  else
    let zpos := if s.bit (encCtl n) 2 then e.pos else e.zpos
    let s := s.setEnc n { e with zSeen := true, zpos := zpos }
    if s.bit (encCtl n) 2 then s.encCell n 1 (s.edgeStamp (5 * s.fld (encCtl n) 11 8)) else s

/-- R79: `t` is a sample instant of a period and phase. -/
def sampleInstant (t period phase : Nat) : Bool :=
  let p := normPeriod period
  p != 0 && t % p == phase % p

/-- Binary value of a `k`-bit Gray code. -/
def grayToBin (k n : Nat) : Nat :=
  (upTo k).foldl (fun a i => a + ((upTo k).foldl (fun x j => if i ≤ j then (x + bitsOf n j 1) % 2 else x) 0) * 2 ^ i) 0

/-- R81: the SSI value of a frame, or none for a parity error or an encoder that is not ready. -/
def State.ssiValue (s : State) (n : Nat) (ready : Bool) (bits : Nat) (parity : Bool) : Option Nat :=
  let k := max 7 (s.fld (encCtl n) 6 5) + 1
  let v := bits % 2 ^ k
  if !ready then none
  else if s.bit (encCtl n) 5 && (countOnes k v + b2n parity) % 2 == 1 then none
  else some (if s.bit (encCtl n) 4 then grayToBin k v else v)

/-- R81: a frame in SSI mode: ENCn_A drives the clock, as many cycles as there are bits, and then holds it high; the sample's
cell shows the flags that follow it (R80). -/
def State.ssiSample (s : State) (n : Nat) (v : Option Nat) : State :=
  let e := s.encAt n
  let k := max 7 (s.fld (encCtl n) 6 5) + 1 + b2n (s.bit (encCtl n) 5)
  let half := 50 * zeroAs 1 (s.fld (encCtl n) 19 8)
  let until_ := s.now + k * 2 * half + 20000
  let s := s.emit .tideway n s.now (leBytes 1 k ++ leBytes 4 half)
  let s := match v with
    | some v => s.setEnc n { e with pos := v, ssiUntil := some until_ }
    | none => (s.setEnc n { e with ssiErr := true, ssiUntil := some until_ }).tdPortError n 4
  ((s.encFollow n).encCell n 0 s.tb.count).encChanged n e s.tb.count

/-- ENC_SAMPLE. R79, R81: a sample instant; in SSI mode `bits`, `parity` and `ready` are what the frame
receives. -/
def doEncSample (n : Nat) (ready : Bool) (bits : Nat) (parity : Bool) (s : State) : State :=
  let mode := s.fld (encCtl n) 0 2
  let e := s.encAt n
  if !(mode = 1 || mode = 2) ||
      !sampleInstant s.tb.count (s.regW (encCtl n + 4)) (s.regW (encCtl n + 8)) || s.chanOut n then s
  else if mode = 1 then s.encCell n 0 s.tb.count
  else if e.ssiUntil.any fun t => decide (s.now < t) then s.setEnc n { e with lost := true }
  else s.ssiSample n (s.ssiValue n ready bits parity)

/-- SSI_MONOFLOP_END. R81: the frame and its monoflop time have passed. -/
def doSsiMonoflopEnd (n : Nat) (s : State) : State :=
  let e := s.encAt n
  match e.ssiUntil with
  | some t => if t ≤ s.now then s.setEnc n { e with ssiUntil := none } else s
  | none => s

/-! ## Released cells take effect (R74 to R77) -/

/-- R76: a Tideway cell of channel `ch` is well formed. -/
def wellFormedOut (ch : Nat) (p : List Byte) : Bool :=
  if ch < 0x010 then p.length == 8 && leAt p 0 1 == 1
  else if ch < 0x018 then p.length == 12 && 100 ≤ leAt p 4 4 && leAt p 8 1 ≤ 2
  else if ch < 0x028 then p.length == 8
  else if ch < 0x036 then p.length == 4
  else if ch ≤ chPar then 1 ≤ p.length && p.length ≤ 1024
  else p.length == 8 && 20 ≤ leAt p 0 4 && leAt p 4 4 ≤ leAt p 0 4

/-- R83, R84: the running segment of a generator has ended; the next one starts at its end, or at `t` where that is later. -/
def State.sdEnd (s : State) (n t : Nat) : State :=
  let d := s.sdAt n
  match d.run with
  | none => s
  | some r =>
    let s := s.setSd n { d with base := d.base + r.steps, run := none }
    let s := if r.done then s.sdStatus n 1 else s
    let d := s.sdAt n
    match d.queue with
    | [] => s.sdStatus n 2
    | seg :: rest => (s.setSd n { d with queue := rest }).sdStart n seg (max t r.endAt)

/-- R83, R84: a segment cell. -/
def State.sdApply (s : State) (n : Nat) (p : List Byte) (t : Nat) : State :=
  let seg : Segment := ⟨signedOf 32 (leAt p 0 4), leAt p 4 4⟩
  if !s.td.outEn || !s.bit (0x00140300 + 0x10 * n) 0 then s
  else match leAt p 8 1 with
    | 0 =>
      let d := s.sdAt n
      match d.run with
      | none => s.sdStart n seg t
      | some _ =>
        if 8 ≤ d.queue.length then (s.bump 0x00140018).setBit tdErr 3 |>.sdStatus n 3
        else s.setSd n { d with queue := d.queue ++ [seg] }
    | 1 =>
      let s := s.sdStop n
      let d := s.sdAt n
      match d.run with
      | none => s.sdStart n seg t
      | some r =>
        let s := s.setSd n { d with queue := [seg] }
        if r.endAt ≤ t then s.sdEnd n t else s
    | _ => s.sdStop n

/-- R85, R87: a DAC or XFER frame starts, or waits behind the running frame and its gap. -/
def State.spiApply (s : State) (n : Nat) (p : List Byte) (t : Nat) : State :=
  let mode := s.fld (spiCtl n) 0 2
  let d := leAt p 0 4
  let x := s.spiAt n
  let s := s.setSpi n { x with relval := d }
  let x := s.spiAt n
  if !s.td.outEn || !(mode = 1 || mode = 3) then s
  else if x.run.isNone && x.gapUntil ≤ t then s.spiStart n d false t t s.tb.count
  else if x.run.isNone && x.queue.isEmpty then s.tdSlip.spiStart n d false x.gapUntil t s.tb.count
  else if 4 ≤ x.queue.length + b2n (x.run.any fun f => decide (t < f.start)) then s.tdOverflow
  else s.tdSlip.setSpi n { x with queue := x.queue ++ [(d, false, t)] }

/-- R89, R98: a GPIO cell sets the masked output pins; forced pins take only their released value. Gong sees the pads once every
release of the instant has taken effect (R77). -/
def State.gpioApply (s : State) (b : Nat) (p : List Byte) : State :=
  let g := s.gpioAt b
  let m := leAt p 0 2 &&& s.fld (0x00140500 + 0x20 * b) 0 16
  let v := leAt p 2 2
  let f := (s.forced b).1
  let keep := 0xFFFF - m
  let g := { g with relval := (g.relval &&& keep) ||| (v &&& m) }
  let s := if m &&& f ≠ 0 then s.bump 0x00150018 else s
  if !s.td.outEn then s.setGpio b g
  else
    let m' := m &&& (0xFFFF - f)
    s.setGpio b { g with drive := (g.drive &&& (0xFFFF - m')) ||| (v &&& m'), hiz := g.hiz &&& (0xFFFF - m') }

/-- R91: a transmit cell enters the FIFO whole, or is dropped. -/
def State.uartApply (s : State) (u : Nat) (p : List Byte) : State :=
  let x := s.uartAt u
  if !s.td.outEn || !s.bit (uartKey u) 0 then s
  else if 1024 < x.txFifo.length + p.length then s.tdOverflow
  else (s.setUart u { x with txFifo := x.txFifo ++ p }).uartKick u

/-- R92: a transmit cell of the parallel port in OUT_STROBE mode. -/
def State.parApply (s : State) (p : List Byte) : State :=
  let x := s.td.par
  if !s.td.outEn || s.fld 0x00140700 0 2 ≠ 2 then s
  else if 1024 < x.txCells.flatten.length + p.length then s.tdOverflow
  else (s.setPar { x with txCells := x.txCells ++ [p] }).parKick

/-- A PWM period starts at instant `t`: the output is high for HIGH_NS of it, or low with POL_INV. -/
def State.pwmStart (s : State) (k : Nat) (x : Pwm) (t : Nat) : State :=
  (s.setPwm k x).emit .tideway (chPwm k) t
    (leBytes 4 x.period ++ leBytes 4 x.high ++ leBytes 1 (s.fld (0x00140780 + 4 * k) 1 1))

/-- R93: the level of PWM output `k` at instant `t`: a held one is as the safe level or the force gives it, without POL_INV,
which is the model's reading (DEDUCED, log entry 109). -/
def State.pwmPad (s : State) (k t : Nat) : Bool :=
  let x := s.pwmAt k
  match x.held with
  | some v => v
  | none => (x.running && decide (t + x.period < x.boundary + x.high)) != s.bit (0x00140780 + 4 * k) 1

/-- R93, R98: a PWM cell starts an idle output, or waits for the first period boundary at or after A; A itself may be one. A
forced output takes only its released value. -/
def State.pwmApply (s : State) (k : Nat) (p : List Byte) (t : Nat) : State :=
  let x := s.pwmAt k
  let per := leAt p 0 4
  let high := leAt p 4 4
  let x := { x with relval := high }
  if !s.td.outEn || !s.bit (0x00140780 + 4 * k) 0 then s.setPwm k x
  else if (s.pwmForced k).isSome then (s.bump 0x00150018).setPwm k x
  else if x.running && x.boundary != t + x.period && x.boundary != t then s.setPwm k { x with pending := some (per, high) }
  else s.pwmStart k { x with running := true, period := per, high := high, boundary := t + per, held := none, pending := none } t

/-- A due cell takes effect on its channel at instant `t` of real time, or is refused as malformed. -/
def State.applyDue (s : State) (d : DueCell) (t : Nat) : State :=
  let ch := d.chan
  if !s.chanRuns ch then s.bump 0x0014001C
  else if !wellFormedOut ch d.payload then (s.setBit tdErr 1).bump 0x00140014
  else
    let s := if d.slip then s.tdSlip else s
    if ch < 0x010 then s.setEnc ch { s.encAt ch with pos := leAt d.payload 4 4 }
    else if ch < 0x018 then s.sdApply (ch - 0x010) d.payload t
    else if ch < 0x028 then s.spiApply (ch - 0x020) d.payload t
    else if ch < 0x036 then s.gpioApply (ch - 0x030) d.payload
    else if ch < 0x044 then s.uartApply (ch - 0x040) d.payload
    else if ch = chPar then s.parApply d.payload
    else s.pwmApply (ch - 0x060) d.payload t

/-- The earliest due cell: least instant, then key order (R77). -/
def firstDue : List DueCell → Option DueCell
  | [] => none
  | d :: ds =>
    match firstDue ds with
    | none => some d
    | some e =>
      if e.at_ < d.at_ || (e.at_ == d.at_ && keyBefore e.gseq e.sub d.gseq d.sub) then some e else some d

/-- The due cells of one instant that satisfy `p`, in key order (R77). -/
def dueAt (at_ : Nat) (p : DueCell → Bool) (l : List DueCell) : List DueCell :=
  let rec put (d : DueCell) : List DueCell → List DueCell
    | [] => [d]
    | e :: es => if keyBefore d.gseq d.sub e.gseq e.sub then d :: e :: es else e :: put d es
  (l.filter fun d => d.at_ == at_ && p d).foldl (fun a d => put d a) []

/-- R77: the due cells of instant `at_` that satisfy `p` take effect together, in key order: what follows a pin or a position
follows the result of the last. -/
def State.applyAt (s : State) (at_ : Nat) (p : DueCell → Bool) : State :=
  let now := dueAt at_ p s.td.due
  let before := s
  let s := { s with td := { s.td with due := s.td.due.filter fun d => !(d.at_ == at_ && p d) } }
  let s := now.foldl (fun s d => s.applyDue d (s.now - (s.tb.count - at_))) s
  let encs := ((now.map (·.chan)).filter fun ch => decide (ch < 0x010) && s.chanRuns ch).eraseDups
  (encs.foldl (fun s n => (s.encFollow n).encChanged n (before.encAt n) s.tb.count) s).gongRun

/-- OUTPUT_APPLY. R74, R77: at its instant the first due cell takes effect, with every other of the same instant. -/
def doOutputApply (s : State) : State :=
  match firstDue s.td.due with
  | none => s
  | some d => if s.tb.count < d.at_ then s else s.applyAt d.at_ fun _ => true

/-- ENC_EDGE. R78, R80, R82: an accepted state of A and B in QUAD mode is counted after a preset of the same nanosecond. -/
def doEncEdge (n : Nat) (a b : Bool) (s : State) : State :=
  let s := match firstDue (s.td.due.filter fun d => d.chan == n) with
    | some d => if d.at_ ≤ s.tb.count then s.applyAt d.at_ fun e => e.chan == n else s
    | none => s
  s.encCount n a b

/-- R74, R75: a Tideway release at REL is due at REL + OUT_DLY, or on arrival when that is later. -/
def State.tidewayRelease (s : State) (h : Header) (payload : List Byte) : State :=
  if h.kind == .hole then s
  else
    let a := (s.tb.count : Int) + signedOf 48 (sub48 h.rel s.tb.count) +
      (max 150 (s.fld 0x00140000 0 10) : Nat)
    let due (at_ : Nat) (slip : Bool) (s : State) : State :=
      { s with td := { s.td with due := s.td.due ++ [⟨at_, slip, h.egress % 0x1000, h.gseq, h.sub, payload⟩] } }
    if (s.tb.count : Int) + 150 ≤ a then due a.toNat false s
    else
      let arrive := s.tb.count + 20 + Config.weirTransit s.fresh % 131
      due (max a.toNat arrive) (decide (a < (arrive : Int))) s.tick

/-! ## Events of the output channels -/

/-- SD_SEGMENT_END. R83, R84. -/
def doSdSegmentEnd (n : Nat) (s : State) : State :=
  let d := s.sdAt n
  match d.run with
  | none => s
  | some r => if s.now < r.endAt then s else s.sdEnd n r.endAt

/-- An SPI input cell (Table 3.2, R103). -/
def State.spiCell (s : State) (n rx tstamp : Nat) : State :=
  let x := s.spiAt n
  if s.chanOut (chSpi n) then s
  else if 4 ≤ s.buffered (chSpi n) then (s.setSpi n { x with lost := true }).tdOverflow
  else (s.setSpi n { x with lost := false }).pinCell tstamp (chSpi n)
    (leBytes 4 (s.spiOrder n rx) ++ leBytes 1 (b2n x.lost) ++ [0, 0, 0])

/-- SPI_FRAME_END. R85 to R87: the frame ends, LDAC pulses, received bits, the first one highest in `rx`, make a cell in ADC and
XFER mode, and the next waiting frame starts after CS_GAP. R72 does not cover the cell of an XFER frame: that its TSTAMP is the
Timebase at the frame's end is the model's choice (DESIGN CHOICE, log entry 109). -/
def doSpiFrameEnd (n : Nat) (rx : Nat) (s : State) : State :=
  let x := s.spiAt n
  match x.run with
  | none => s
  | some f =>
    if s.now < f.endAt then s
    else
      let mode := s.fld (spiCtl n) 0 2
      let gap := f.endAt + 10 * s.fld (spiCtl n) 20 8
      let s := s.setSpi n { x with run := none, gapUntil := gap }
      let s := if s.fld (spiCtl n) 17 2 = 1 then s.spiAux n (max (f.apply_ + s.fld (spiCtl n + 4) 0 16) (f.endAt + 10)) else s
      let s := if f.safe then s else if mode = 2 then s.spiCell n rx f.tstamp
        else if mode = 3 then s.spiCell n rx s.tb.count else s
      let x := s.spiAt n
      match x.queue with
      | [] => s
      | (d, safe, a) :: rest => (s.setSpi n { x with queue := rest }).spiStart n d safe gap a s.tb.count

/-- ADC_SAMPLE. R86, R87: AUX in mode CONVST pulses at the sample instant, and the frame follows after AUX_OFS, MOSI low. R87
skips an instant within a frame: one after the frame's end but within CS_GAP is neither skipped nor delayed, which is the model's
choice (DESIGN CHOICE, log entry 109). -/
def doAdcSample (n : Nat) (s : State) : State :=
  let x := s.spiAt n
  if s.fld (spiCtl n) 0 2 ≠ 2 || s.chanOut (chSpi n) ||
      !sampleInstant s.tb.count (s.regW (spiCtl n + 8)) (s.regW (spiCtl n + 12)) then s
  else if x.run.isSome then s.setSpi n { x with lost := true }
  else
    let s := if s.fld (spiCtl n) 17 2 = 2 then s.spiAux n s.now else s
    s.spiStart n 0 false (s.now + s.fld (spiCtl n + 4) 0 16) s.now s.tb.count

/-- PWM_PERIOD_BOUNDARY. R93, R98: a release that waited takes effect, unless a force has come since. -/
def doPwmPeriodBoundary (k : Nat) (s : State) : State :=
  let x := s.pwmAt k
  if !x.running || s.now < x.boundary then s
  else match x.pending, s.pwmForced k with
    | some (per, high), none =>
      s.pwmStart k { x with period := per, high := high, pending := none, held := none, boundary := x.boundary + per } x.boundary
    | some _, some _ => (s.bump 0x00150018).pwmStart k { x with pending := none, boundary := x.boundary + x.period } x.boundary
    | none, _ => s.pwmStart k { x with boundary := x.boundary + x.period } x.boundary

/-! ## GPIO banks (R88) -/

/-- Closes the open cell of a bank; a full buffer merges it into the bank's newest cell (R103). -/
def State.gpioClose (s : State) (b : Nat) : State :=
  let g := s.gpioAt b
  match g.cell with
  | none => s
  | some o =>
    let s := s.setGpio b { g with cell := none }
    let st := s.bankLevels b
    if s.chanOut (chGpio b) then s
    else if s.buffered (chGpio b) < 4 then
      s.pinCell o.tstamp (chGpio b) (leBytes 2 st ++ leBytes 2 o.changed ++ leBytes 1 0 ++ [0, 0, 0])
    else
      let rec merge : List PinCell → List PinCell
        | [] => []
        | c :: cs =>
          if c.src == chGpio b then
            { c with payload := leBytes 2 st ++ leBytes 2 (leAt c.payload 2 2 ||| o.changed) ++ leBytes 1 1 ++ [0, 0, 0] } :: cs
          else c :: merge cs
      ({ s with td := { s.td with inputs := (merge s.td.inputs.reverse).reverse } }).tdOverflow


/-- GPIO_EDGE. R88, R95: a filtered pin changes; Gong sees it, and a selected edge opens or joins the
bank's cell. -/
def doGpioEdge (b p : Nat) (level : Bool) (s : State) : State :=
  let g := s.gpioAt b
  if bitAt g.input p == level then s
  else
    let s := s.setGpio b { g with input := putBits g.input p 1 (b2n level), raw := putBits g.raw p 1 (b2n level) }
    let s := s.gongRun
    let g := s.gpioAt b
    let edges := match g.cell with | some o => o.edge | none => s.regW (0x00140504 + 0x20 * b)
    if s.chanOut (chGpio b) || !s.offersOwn || !bitAt (bitsOf edges (2 * p) 2) (if level then 0 else 1) then s
    else match g.cell with
      | some o => s.setGpio b { g with cell := some { o with changed := o.changed ||| 2 ^ p } }
      | none =>
        let coal := 10 * s.fld (0x0014050C + 0x20 * b) 10 8
        let s := s.setGpio b { g with cell := some ⟨s.edgeStamp (s.gpioFilter b), 2 ^ p, s.now + coal, edges⟩ }
        if coal = 0 then s.gpioClose b else s

/-- GPIO_COAL_CLOSE. R88: the coalescing window has passed. -/
def doGpioCoalClose (b : Nat) (s : State) : State :=
  match (s.gpioAt b).cell with
  | some o => if s.now < o.closeAt then s else s.gpioClose b
  | none => s

/-! ## UARTs and the parallel port (R90 to R92) -/

/-- A byte enters a receive path whose cell registers are at `key`, or closes its cell. An open cell keeps the settings with
which it began (R11). -/
def State.rxByte (s : State) (ch key : Nat) (rx : RxPath) (b : Byte) : RxPath × State :=
  if 1024 ≤ s.rxCount ch rx then ({ rx with overrun := true }, s.tdPortError ch 5)
  else
    let r := if rx.open_.isEmpty then s.regW key else rx.cfg
    let rx := { rx with open_ := rx.open_ ++ [b], last := s.now, cfg := r }
    let maxb := zeroAs 256 (bitsOf r 0 8)
    if maxb ≤ rx.open_.length then s.rxClose ch rx 0 1
    else if bitAt r 24 && b.toNat == bitsOf r 16 8 then s.rxClose ch rx 0 3
    else (rx, s)

/-- UART_RX_CHAR. R90, R91, R104. -/
def doUartRxChar (u : Nat) (b : Byte) (parityErr framingErr brk : Bool) (s : State) : State :=
  let ch := chUart u
  if !s.bit (uartKey u) 0 || s.chanOut ch then s
  else
    let x := s.uartAt u
    let b := if s.bit (uartKey u) 1 then b &&& 0x7F else b
    if brk || parityErr || framingErr then
      let code : Byte := if brk then 4 else Config.errorClose s.fresh
      let s := if brk then s else s.tick
      let r := s.rxClose ch x.rx (b2n parityErr + 2 * b2n framingErr + 8 * b2n brk) code
      (r.2.setUart u { x with rx := { r.1 with last := s.now } }).tdPortError ch 5
    else if s.fld (uartKey u) 5 2 = 2 ∧ (b = 0x11 ∨ b = 0x13) then
      (s.setUart u { x with xoffStop := decide (b = 0x13) }).uartKick u
    else
      let r := s.rxByte ch (uartKey u + 8) x.rx b
      (r.2.setUart u { (r.2.uartAt u) with rx := r.1 }).uartMarks u

/-- UART_GAP_CLOSE. R90, R92: the line of UART `n`, or of the parallel port (n = 4), has been idle for
GAP. -/
def doUartGapClose (n : Nat) (s : State) : State :=
  if n < 4 then
    let x := s.uartAt n
    let gap := bitsOf x.rx.cfg 8 8
    let t := gap * s.uartBits n * max 17360 (s.regW (uartKey n + 4))
    if gap = 0 || x.rx.open_.isEmpty || 16 * (s.now - x.rx.last) < t then s
    else
      let r := s.rxClose (chUart n) x.rx 0 2
      r.2.setUart n { x with rx := r.1 }
  else
    let x := s.td.par
    let gap := bitsOf x.rx.cfg 8 8
    if gap = 0 || x.rx.open_.isEmpty || s.now - x.rx.last < 100000 * gap then s
    else
      let r := s.rxClose chPar x.rx 0 2
      r.2.setPar { x with rx := r.1 }

/-- UART_CTS_CHANGE. R91: sending stops at the next character boundary, or resumes. -/
def doUartCtsChange (u : Nat) (deasserted : Bool) (s : State) : State :=
  (s.setUart u { s.uartAt u with ctsStop := deasserted }).uartKick u

/-- UART_TX_CHAR_END. R91. -/
def doUartTxCharEnd (u : Nat) (s : State) : State :=
  let x := s.uartAt u
  match x.sending with
  | some (_, t) => if s.now < t then s else (s.setUart u { x with sending := none }).uartKick u
  | none => s

/-- PAR_STROBE_IN. R92: IN_STROBE latches the byte at the strobe; the acknowledge pulse follows. -/
def doParStrobeIn (data : Byte) (s : State) : State :=
  if s.fld 0x00140700 0 2 ≠ 1 || s.chanOut chPar then s
  else
    let r := s.rxByte chPar 0x00140708 s.td.par.rx data
    let s := r.2.setPar { r.2.td.par with rx := r.1 }
    let hold := zeroAs 1 (s.fld 0x00140704 16 8)
    let ackW := zeroAs 1 (s.fld 0x00140704 24 8)
    (s.emit .tideway chPar (s.now + 100 * hold) (leBytes 1 ackW ++ leBytes 1 (s.fld 0x00140700 3 1))).parMarks

/-- The byte on the parallel lines is done once acknowledged with BUSY negated. -/
def State.parDone (s : State) : State :=
  let x := s.td.par
  if x.sending.isSome && x.acked && !x.busy then
    (s.setPar { x with sending := none, acked := false }).parKick
  else s

/-- PAR_ACK_IN. R92. -/
def doParAckIn (s : State) : State :=
  let x := s.td.par
  if s.fld 0x00140700 0 2 ≠ 2 || x.sending.isNone then s
  else (s.setPar { x with acked := true }).parDone

/-- PAR_BUSY_CHANGE. R92. -/
def doParBusyChange (busy : Bool) (s : State) : State :=
  let s := s.setPar { s.td.par with busy := busy }
  if s.fld 0x00140700 0 2 ≠ 2 then s
  else if s.td.par.sending.isSome then s.parDone else s.parKick

/-- PAR_ACK_TIMEOUT. R92: the rest of the cell is discarded, and an ACK_TIMEOUT cell is made. ACK_TO is counted from the strobe's
beginning (DESIGN CHOICE, log entry 109). -/
def doParAckTimeout (s : State) : State :=
  let x := s.td.par
  let lim := s.fld 0x00140700 8 8
  match x.sending with
  | some (_, t) =>
    if s.fld 0x00140700 0 2 ≠ 2 || lim = 0 || x.acked || s.now < t + 1000000 * lim then s
    else
      let s := s.setPar { x with sending := none, txCells := x.txCells.drop 1 }
      let r := s.rxClose chPar { closed := x.rx.closed } 0 5
      ((r.2.setPar { r.2.td.par with rx := { x.rx with closed := r.1.closed } }).tdPortError chPar 6).parKick
  | none => s

/-! ## Gong -/

/-- GG_REARM. R97: a write of GG_REARM_LO or GG_REARM_HI. -/
def doGgRearm (hi : Bool) (val : Nat) (s : State) : State :=
  s.gongRearm (if hi then (val % 2 ^ 32) * 2 ^ 32 else val % 2 ^ 32)

/-! ## The meanings -/

/-- ENC_EDGE. -/
def execEncEdge (n : Fin 16) (a b : Bool) (s : State) : Host.Outcome State Fault Refusal := .next (doEncEdge n a b s)
/-- ENC_Z_EDGE. -/
def execEncZEdge (n : Fin 16) (s : State) : Host.Outcome State Fault Refusal := .next (doEncZEdge n s)
/-- ENC_SAMPLE. -/
def execEncSample (n : Fin 16) (ready : Bool) (bits : BitVec 32) (parity : Bool) (s : State) :
    Host.Outcome State Fault Refusal := .next (doEncSample n ready bits.toNat parity s)
/-- SSI_MONOFLOP_END. -/
def execSsiMonoflopEnd (n : Fin 16) (s : State) : Host.Outcome State Fault Refusal := .next (doSsiMonoflopEnd n s)
/-- OUTPUT_APPLY. -/
def execOutputApply (s : State) : Host.Outcome State Fault Refusal := .next (doOutputApply s)
/-- SD_SEGMENT_END. -/
def execSdSegmentEnd (n : Fin 8) (s : State) : Host.Outcome State Fault Refusal := .next (doSdSegmentEnd n s)
/-- SPI_FRAME_END. -/
def execSpiFrameEnd (n : Fin 8) (rx : Word) (s : State) : Host.Outcome State Fault Refusal :=
  .next (doSpiFrameEnd n rx.toNat s)
/-- ADC_SAMPLE. -/
def execAdcSample (n : Fin 8) (s : State) : Host.Outcome State Fault Refusal := .next (doAdcSample n s)
/-- GPIO_EDGE. -/
def execGpioEdge (b : Fin 6) (p : Fin 16) (level : Bool) (s : State) : Host.Outcome State Fault Refusal :=
  .next (doGpioEdge b p level s)
/-- GPIO_COAL_CLOSE. -/
def execGpioCoalClose (b : Fin 6) (s : State) : Host.Outcome State Fault Refusal := .next (doGpioCoalClose b s)
/-- UART_RX_CHAR. -/
def execUartRxChar (n : Fin 4) (ch : Byte) (parityErr framingErr brk : Bool) (s : State) :
    Host.Outcome State Fault Refusal := .next (doUartRxChar n ch parityErr framingErr brk s)
/-- UART_GAP_CLOSE. -/
def execUartGapClose (n : Fin 5) (s : State) : Host.Outcome State Fault Refusal := .next (doUartGapClose n s)
/-- UART_CTS_CHANGE. -/
def execUartCtsChange (n : Fin 4) (deasserted : Bool) (s : State) : Host.Outcome State Fault Refusal :=
  .next (doUartCtsChange n deasserted s)
/-- UART_TX_CHAR_END. -/
def execUartTxCharEnd (n : Fin 4) (s : State) : Host.Outcome State Fault Refusal := .next (doUartTxCharEnd n s)
/-- PAR_STROBE_IN. -/
def execParStrobeIn (data : Byte) (s : State) : Host.Outcome State Fault Refusal := .next (doParStrobeIn data s)
/-- PAR_ACK_IN. -/
def execParAckIn (s : State) : Host.Outcome State Fault Refusal := .next (doParAckIn s)
/-- PAR_ACK_TIMEOUT. -/
def execParAckTimeout (s : State) : Host.Outcome State Fault Refusal := .next (doParAckTimeout s)
/-- PAR_BUSY_CHANGE. -/
def execParBusyChange (busy : Bool) (s : State) : Host.Outcome State Fault Refusal := .next (doParBusyChange busy s)
/-- PWM_PERIOD_BOUNDARY. -/
def execPwmPeriodBoundary (k : Fin 4) (s : State) : Host.Outcome State Fault Refusal := .next (doPwmPeriodBoundary k s)
/-- GG_REARM. -/
def execGgRearm (hi : Bool) (val : Word) (s : State) : Host.Outcome State Fault Refusal := .next (doGgRearm hi val.toNat s)

end Sys2Proof.Machine
end

