-- ==== Sys2Proof/Machine/TimebaseCmds.lean ====
section
/-! DEFINITION. The Timebase and the margin monitor (spec/02 R56 to R70). -/
namespace Sys2Proof.Machine

/-- TB_EVT. -/
abbrev tbEvt : Nat := 0x0013000C

/-- Holdover states of Table 2.3. -/
def TbState.holdover : TbState → Bool
  | .holdSync | .holdRef => true
  | _ => false

/-- R63: the Timebase enters a state: its event bits, the TIME cause of every instance on entering or
leaving holdover, and for HOLD_REF the DEVICE record. -/
def State.tbEnter (s : State) (st : TbState) : State :=
  let old := s.tb.state
  if st = old then s
  else
    let s := { s with tb := { s.tb with state := st, goodSyncs := 0, badSyncs := 0, missed := 0 } }
    let s := s.setBit tbEvt 0
    let s := if st.holdover then
        { s.setBit tbEvt 1 with tb := { s.tb with holdSince := if old.holdover then s.tb.holdSince else s.now } }
      else s
    let s := if st.holdover || old.holdover then s.causeAll 9 else s
    if st = .holdRef then (s.setBit tbEvt 2).record { block := 0x03, code := 0x0090, sev := 3 } else s

/-- R57: a rate limited to ±500 ppm. -/
def clampRate (r : Int) : Int := clampInt (-2147483) 2147483 r

/-- SYNC_RECEIVED. R59, R60: a valid Sync of a gPTP domain with its measured offset in ns. R60 does not say when OFFSET_LARGE
clears: that each valid Sync of the active domain sets or clears it by its own offset, and nothing else does, is the model's
choice (DESIGN CHOICE, log entry 104). -/
def doSyncReceived (domain : Nat) (offset : Int) (s : State) : State :=
  let tb := s.tb
  let off := clampInt (-2147483648) 2147483647 offset
  if !s.ohmythUp || s.mode == .boot then s
  else if tb.actConfigured && tb.running && domain == tb.actDomain then
    let s := { s with tb := { tb with offset := off, missed := 0 } }
    let good := if off.natAbs < 100 then tb.goodSyncs + 1 else 0
    let bad := if 1000 < off.natAbs then tb.badSyncs + 1 else 0
    let s := match tb.state with
      | .free | .holdSync =>
        let s := s.tbEnter .acquire
        { s with tb := { s.tb with goodSyncs := if off.natAbs < 100 then 1 else 0 } }
      | .acquire =>
        if 16 ≤ good then s.tbEnter .locked else { s with tb := { s.tb with goodSyncs := good } }
      | .locked =>
        if 4 ≤ bad then s.tbEnter .acquire else { s with tb := { s.tb with badSyncs := bad } }
      | .holdRef => s
    { s with tb := { s.tb with offsetLarge := s.tb.state != .free && s.tb.state != .holdRef && decide (1000000 < off.natAbs) } }
  else if domain == tb.monDomain then { s with tb := { tb with monOffset := off, monValid := true } }
  else s

/-- R61: the mean of the last 16 rates, to the nearest TB_RATE, so that what the rounding adds stays within 0.12 ppb. Which
values count while fewer than 16 rates have been written since reset is not said: the model takes the written ones alone, not
the reset value 0 nor the rates that a freeze or the return to FREE sets (DESIGN CHOICE, log entry 105). -/
def State.meanRate (s : State) : Int :=
  let l := s.tb.rates.take 16
  let n : Int := l.length
  if l.isEmpty then s.tb.rate
  else
    let sum := l.foldl (· + ·) 0
    let twice := 2 * (sum % n)
    if n < twice || (twice == n && Config.meanRoundsUp s.fresh) then sum / n + 1 else sum / n

/-- SYNC_LOSS. R59, R61: three Sync intervals have passed without a valid Sync. -/
def doSyncLoss (s : State) : State :=
  if s.tb.state = .acquire ∨ s.tb.state = .locked then
    let r := s.meanRate
    let s := (s.tick).tbEnter .holdSync
    { s with tb := { s.tb with rate := r } }
  else s

/-- Entry to HOLD_REF: the backup oscillator takes over with a forward phase step (R62). -/
def State.enterHoldRef (s : State) : State :=
  let s := { s with tb := { s.tb with count := s.tb.count + Config.phaseStep s.fresh % 3 } }
  s.tick.tbEnter .holdRef

/-- REF_LOST. R59, R62, R70: five missing reference periods. -/
def doRefLost (s : State) : State :=
  if s.tb.everRan && s.tb.state != .holdRef then
    let s := s.enterHoldRef
    { s with tb := { s.tb with refOk := false, pllLock := false } }
  else { s with tb := { s.tb with refOk := false, pllLock := false } }

/-- PLL_LOCK_LOST. R69: handled as HOLD_REF while the reference is present. -/
def doPllLockLost (s : State) : State :=
  if s.tb.everRan && s.tb.refOk && s.tb.pllLock then
    let s := if s.tb.state = .holdRef then s else s.enterHoldRef
    { s with tb := { s.tb with pllLock := false } }
  else s

/-- REF_RESTORED. R62, R69: the reference has run 100 ms without a missing period. R69 does not say whether the return from a
HOLD_REF that the loss of PLL lock caused waits for a new lock: that the return itself shows the PLL locked is the model's
choice (DESIGN CHOICE, log entry 106). -/
def doRefRestored (s : State) : State :=
  if s.tb.state = .holdRef then
    let s := { s with tb := { s.tb with refOk := true, pllLock := true } }
    if s.tb.actConfigured then s.tbEnter .acquire
    else
      let s := s.tbEnter .free
      { s with tb := { s.tb with rate := 0 } }
  else { s with tb := { s.tb with refOk := true } }

/-- PLL_LOCK. R70: the PLL locks on a present reference, and at the first lock the counter starts. -/
def doPllLock (s : State) : State :=
  if s.tb.running then
    if s.tb.refOk then { s with tb := { s.tb with pllLock := true } } else s
  else { s with tb := { s.tb with refOk := true, pllLock := true, running := true, everRan := true } }

/-- The Weir holds a cell with CF.HAS_REL set (R60). -/
def State.weirTimed (s : State) : Bool :=
  s.weir.any fun e => match e.item with | .cell h _ _ => h.hasRel | _ => false

/-- R60: the Timebase steps to a count, where the mode and the Weir allow it and the count is not below 0; otherwise no
step is made. -/
def State.stepTo (s : State) (count : Int) : State :=
  if (s.mode = .boot ∨ s.mode = .commission ∨ s.mode = .hold) ∧ s.weirTimed = false ∧ 0 ≤ count then
    ({ s with tb := { s.tb with count := count.toNat } } : State).setBit tbEvt 3
  else s

/-- TB_STEP. R60: Ohmyth steps the Timebase. -/
def doTbStep (delta : Int) (s : State) : State := if s.ohmythUp then s.stepTo (s.tb.count + delta) else s

/-- R458: Ohmyth steers the Timebase to the lead's. -/
def State.alignsToLead (s : State) : Bool := s.mode == .shadow || s.ford.role == .syncing

/-- TB_RATE_WRITE. R57, R59, R61: in HOLD_SYNC the rate stays frozen, and FREE runs at TB_RATE 0. -/
def doTbRateWrite (rate : Int) (s : State) : State :=
  if s.tb.state = .holdSync || (s.tb.state == .free && !s.alignsToLead) || !s.ohmythUp then s
  else { s with tb := { s.tb with rate := clampRate rate, rates := (clampRate rate :: s.tb.rates).take 16 } }

/-- One tick of the 1 GHz clock: the accumulator adds 1 ns plus TB_RATE × 2^-32 ns (R56, R57); in
HOLD_REF the backup oscillator's own rate, at most 20 ppm off, counts (R62). -/
def State.tbTick (s : State) : State :=
  if s.tb.running then
    let hold := s.tb.state == .holdRef
    let r := if hold then clampInt (-85899) 85899 (Config.backupRate s.fresh) else s.tb.rate
    let acc := ((s.tb.count * 2 ^ 32 + s.tb.frac : Nat) : Int) + 2 ^ 32 + r
    let s := if hold then s.tick else s
    { s with tb := { s.tb with count := acc.toNat / 2 ^ 32, frac := acc.toNat % 2 ^ 32 } }
  else s

/-- DROOP. R66: an excursion of VDD_CORE below 0.74 V; DEV_HEALTH answers Ohmyth's sum of the counter. -/
def doDroop (s : State) : State :=
  { s.bump 0x003D0020 with sup := { s.sup with droops := satAdd 0xFFFFFFFF s.sup.droops 1 } }

/-! ## The margin monitor -/

/-- The lead at arrival: (REL - now) mod 2^48 read as signed, limited to 32 bits. -/
def State.leadOf (s : State) (rel : Nat) : Int :=
  clampInt (-2147483648) 2147483647 (signedOf 48 (sub48 rel s.tb.count))

/-- R64, R65: a cell with CF.HAS_REL reaches the Weir and is not replaced for FAR_REL. -/
def State.monitor (s : State) (h : Header) : State :=
  let ctl := s.regW 0x00130020
  if !h.hasRel || !bitAt ctl 0 || (bitAt ctl 2 && bitsOf ctl 16 12 != h.stream) then s
  else
    let lead := s.leadOf h.rel
    let s := if lead < s.tb.mmMin then
        { s with tb := { s.tb with mmMin := lead, mmCand := h.stream % 4096 + 4096 * (h.inst % 16) } }
      else s
    if lead < (s.fld 0x00130024 0 24 : Nat) || lead ≤ 0 then
      let s := s.bump 0x00130030
      if s.bit tbEvt 4 then s
      else
        let s := s.setBit tbEvt 4
        if bitAt ctl 1 then s.cause 0 9 else s
    else s

/-- R65: what a read of TB_MM_MIN does beside returning the minimum. -/
def State.mmReload (s : State) : State :=
  { s with tb := { s.tb with mmLatched := s.tb.mmCand, mmCand := 0, mmMin := 2147483647 } }

/-- TB_MM_MIN_READ. R65. -/
def doTbMmMinRead (s : State) : State :=
  (s.emit .regData 0 0x00130028 (leBytes 4 (wrapTo 32 s.tb.mmMin))).mmReload

/-- SYNC_RECEIVED. -/
def execSyncReceived (domain : Byte) (offset : Int) (s : State) : Host.Outcome State Fault Refusal :=
  .next (doSyncReceived domain.toNat offset s)
/-- SYNC_LOSS. -/
def execSyncLoss (s : State) : Host.Outcome State Fault Refusal := .next (doSyncLoss s)
/-- REF_LOST. -/
def execRefLost (s : State) : Host.Outcome State Fault Refusal := .next (doRefLost s)
/-- REF_RESTORED. -/
def execRefRestored (s : State) : Host.Outcome State Fault Refusal := .next (doRefRestored s)
/-- PLL_LOCK. -/
def execPllLock (s : State) : Host.Outcome State Fault Refusal := .next (doPllLock s)
/-- PLL_LOCK_LOST. -/
def execPllLockLost (s : State) : Host.Outcome State Fault Refusal := .next (doPllLockLost s)
/-- TB_STEP. -/
def execTbStep (delta : Int) (s : State) : Host.Outcome State Fault Refusal := .next (doTbStep delta s)
/-- TB_RATE_WRITE. -/
def execTbRateWrite (rate : Int) (s : State) : Host.Outcome State Fault Refusal := .next (doTbRateWrite rate s)
/-- DROOP. -/
def execDroop (s : State) : Host.Outcome State Fault Refusal := .next (doDroop s)
/-- TB_MM_MIN_READ. -/
def execTbMmMinRead (s : State) : Host.Outcome State Fault Refusal := .next (doTbMmMinRead s)

/-- One nanosecond of real time passes: the Timebase counts (R57). -/
def State.elapse (s : State) : State := { s.tbTick with now := s.now + 1 }

end Sys2Proof.Machine
end

