-- ==== Sys2Proof/Machine/WeirOps.lean ====
section
/-! DEFINITION. The Weir: entries, arrival, the release rule, HOLEs, completion and faults of cells, as shared
operations (spec/01 R17 to R49; spec/14 R454, R457; spec/18 R550, R551). -/
namespace Sys2Proof.Machine

/-! ## Cells and the horizon -/

/-- The cell has been classified. -/
def Cell.classifiedYet (c : Cell) : Bool :=
  match c.stage with
  | .waiting | .parsing _ | .held _ _ => false
  | _ => true

/-- R27: the cell is open. -/
def Cell.isOpen (c : Cell) : Bool := c.stage == .classified || c.stage == .opened

/-- H: the lowest GSEQ not yet classified (R29). -/
def State.horizon (s : State) : Nat :=
  match s.cells.find? fun c => !c.classifiedYet with
  | some c => c.hdr.gseq
  | none => s.nextGseq

/-- The cell with a GSEQ. -/
def State.cellAt (s : State) (g : Nat) : Option Cell := s.cells.find? fun c => c.hdr.gseq == g

/-- Changes the cell with a GSEQ. -/
def State.modCell (s : State) (g : Nat) (f : Cell → Cell) : State :=
  { s with cells := s.cells.map fun c => if c.hdr.gseq == g then f c else c }

/-- Bittern still needs the cells that complete (R481, R498). -/
def State.records (s : State) : Bool :=
  s.bit 0x003B0000 0 && (s.mode == .lead || s.mode == .commission || s.mode == .shadow)

/-- Forgets completed cells that need no record. -/
def State.reap (s : State) : State :=
  let keep (c : Cell) : Bool := c.stage != .done || (s.records && !c.recorded)
  { s with cells := s.cells.filter keep }

/-- The Stream Table entry of `stream` in a cell's epoch (R245); entry 0 is ignored (R122). -/
def State.streamEntry (s : State) (epoch stream : Nat) : Nat :=
  if stream = 0 then 0 else NatMap.get 0 (s.tablesAt epoch).stream stream

/-! ## Entries (R27, R36) -/

/-- Puts an entry in its place in key order. -/
def insertEntry (e : WeirEntry) : List WeirEntry → List WeirEntry
  | [] => [e]
  | d :: ds => if keyBefore e.gseq e.sub d.gseq d.sub then e :: d :: ds else d :: insertEntry e ds

/-- The lowest free entry index (R600). -/
def State.weirSlot (s : State) : Nat :=
  (lowest (s.weir.length + 1) fun k => !s.weir.any fun e => e.slot == k).getD 0

/-- Makes an entry; WE_OCC.PEAK follows INUSE. -/
def State.weirAdd (s : State) (stream gseq sub entry granules : Nat) (item : WeirItem) : State :=
  let e : WeirEntry := { slot := s.weirSlot, stream, gseq := mod48 gseq, sub, entry, granules, item }
  let s := { s with weir := insertEntry e s.weir }
  let k := 0x00120008
  s.setFld k 16 15 (max (s.fld k 16 15) (min 0x7FFF s.weir.length))

/-- Frees packet-buffer granules. -/
def State.pbufFree (s : State) (n : Nat) : State := { s with pbufUsed := s.pbufUsed - n }

/-- Removes the entry of a stream at a key. -/
def State.weirDel (s : State) (stream gseq sub : Nat) : State :=
  let hit (e : WeirEntry) : Bool := e.stream == stream && e.gseq == gseq && e.sub == sub
  let freed := (s.weir.filter hit).foldl (fun a e => a + e.granules) 0
  ({ s with weir := s.weir.filter fun e => !hit e }).pbufFree freed

/-- R36: an entry is free to cell `g`: 256 of the 16384 are kept for the lowest open cell. -/
def State.weirRoom (s : State) (g : Nat) : Bool :=
  let lower := s.cells.any fun c => c.isOpen && before48 c.hdr.gseq g
  decide (s.weir.length < if lower then 16384 - 256 else 16384)

/-! ## HOLEs (R44) -/

/-- The header of a HOLE in place of a cell of header `h`, at SUB `sub` of `stream`. R44 does not say whether a HOLE carries
CF.RERUN: that it is copied from the lost cell is the model's choice (DESIGN CHOICE, log entry 102). -/
def holeHeader (h : Header) (stream sub inst egress reason : Nat) : Header :=
  { gseq := h.gseq, sub, kind := .hole, tstamp := h.tstamp, src := h.src, stream, action := h.action
    rflags := h.rflags, rerun := h.rerun, repoch := h.repoch, hreason := reason, inst, egress }

/-- A HOLE in place of a cell on its own stream. -/
def Header.hole (h : Header) (reason : Nat) : Header := holeHeader h h.stream h.sub h.inst h.egress reason

/-- R454: the lead's entry for an outcome of the cell (GSEQ, SUB) on a stream: 1 LATE, 2 FAR_REL. -/
def weirBody (gseq sub outcome stream : Nat) : List Byte :=
  leBytes 6 gseq ++ leBytes 1 sub ++ leBytes 1 outcome ++ leBytes 2 stream

/-- The entry is the one of Table 15.3 type WEIR for this cell and outcome. -/
def isWeirEntry (h : Header) (outcome : Nat) (e : DEntry) : Bool :=
  e.body.take 10 == weirBody h.gseq h.sub outcome h.stream

/-! ## Arrival (R32, R33, R64, R454) -/

/-- (REL - now) mod 2^48 shows that REL has passed (R31). -/
def State.relPassed (s : State) (rel : Nat) : Bool := decide (2 ^ 47 ≤ sub48 rel s.tb.count)

/-- R32: REL lies more than 1 s ahead. -/
def State.relFar (s : State) (rel : Nat) : Bool := !s.relPassed rel && decide (1000000000 < sub48 rel s.tb.count)

/-- A cell reaches the Weir at (GSEQ, SUB) of its stream: FAR_REL and NOREL replacements, the margin monitor,
and whether its lateness is fixed. -/
def State.weirArrive (s : State) (h : Header) (payload : List Byte) (entry granules : Nat) : State :=
  let put (s : State) (h : Header) (p : List Byte) (late : Bool) (n : Nat) : State :=
    s.weirAdd h.stream h.gseq h.sub entry n (.cell h p late)
  let far := if s.followsSite 0x0B (isWeirEntry h 2) then (s.siteNext 0x0B (isWeirEntry h 2)).isSome else s.relFar h.rel
  if h.hasRel && far then
    let s := s.bump 0x00120020
    let s := if s.followsSite 0x0B (isWeirEntry h 2) then s.siteTake 0x0B (isWeirEntry h 2)
      else s.decision 0x0B 0xFFFF (weirBody h.gseq h.sub 2 h.stream)
    put (s.pbufFree granules) (h.hole 5) [] false 0
  else if h.hasRel then
    let s := s.monitor h
    let late := s.relPassed h.rel
    let s := if late && s.mode == .shadow then s.bump 0x003A004C else s
    put s h payload late granules
  else if seTimed entry && h.kind != .hole then
    put ((s.bump 0x0012001C).pbufFree granules) (h.hole 4) [] false 0
  else put s h payload false granules

/-! ## Release -/

/-- R330, R331: errors that a payload in the packet buffer meets; whether one is uncorrectable. -/
def State.payloadUe (s : State) (h : Header) : State × Bool :=
  if h.len = 0 then (s, false)
  else match s.rdChk (pbufBase + 64 * h.pbuf) h.len { gseq := some h.gseq } with
    | (s, some _) => (s, false)
    | (s, none) => (s, true)

/-- R19: an egress of class 0x0, 0x2, 0x3 or 0x5 whose index is reserved, or a class that takes no releases. -/
def badEgress (eg : Nat) : Bool :=
  let i := eg % 0x1000
  match eg / 0x1000 with
  | 0 => !tidewayIndex i
  | 1 => false
  | 2 => bitsOf i 3 5 != 0
  | 3 => i != 0
  | 5 => i != 0
  | _ => true

/-- R20: a release to the Supervisor input queue. -/
def State.supRelease (s : State) (h : Header) (payload : List Byte) : State :=
  if 64 ≤ s.supQueue.length then s.bump 0x00120030
  else { s with supQueue := s.supQueue ++ [(h, payload)] }

/-- Sends a released cell to its egress (R18, R19, R71). -/
def State.route (s : State) (entry : Nat) (h : Header) (payload : List Byte) (perr : Bool) : State :=
  let i := h.egress % 0x1000
  if badEgress h.egress then s.bump 0x0012002C
  else match h.egress / 0x1000 with
    | 0 => s.tidewayRelease h payload
    | 1 => s.ethRelease i entry h payload
    | 2 => s.cqRelease (i / 0x100) (i % 8) h payload perr
    | 3 => s.fordRelease h payload
    | _ => s.supRelease h payload

/-- R24, R44, R46, R48: releases the head entry `e` with header `h`. -/
def State.weirRelease (s : State) (e : WeirEntry) (h : Header) (payload : List Byte) : State :=
  let host := h.egress / 0x1000 == 2 && !badEgress h.egress
  let (s, ue) := if h.kind == .hole then (s, false) else s.payloadUe h
  let (h, payload) := if ue && !host then (h.hole 1, []) else (h, payload)
  let q := NatMap.get {} s.seqs e.stream
  let h := { h with eseq := q.eseq, eepoch := q.epoch }
  let s := s.weirDel e.stream e.gseq e.sub
  let s := { s with seqs := NatMap.put {} s.seqs e.stream { q with eseq := (q.eseq + 1) % 0x10000 } }
  let s := s.modCell h.gseq fun c => { c with released := (e.stream, h.sub) :: c.released }
  let s := if h.kind == .hole then (s.bump 0x00120018).bump (instKey h.inst 0x4004) else s
  let s := (s.blackBox h (seTimed e.entry)).digestAdd h payload
  s.route e.entry h payload ue

/-- R48: a stream restarts at ESEQ 0 with the epoch bit inverted once its old-epoch entries have left. -/
def State.weirRestart (s : State) (stream : Nat) : State :=
  let q := NatMap.get {} s.seqs stream
  match q.restart with
  | none => s
  | some k =>
    if s.weir.any fun e => e.stream == stream && !keyBefore k.1 k.2 e.gseq e.sub then s
    else { s with seqs := NatMap.put {} s.seqs stream ⟨0, !q.epoch, none⟩ }

/-- Replaces the item of entry `e`. -/
def State.weirSet (s : State) (e : WeirEntry) : State :=
  { s with weir := s.weir.map fun x => if x.stream == e.stream && x.gseq == e.gseq && x.sub == e.sub then e else x }

/-- R30, R34, R454: the head of a stream becomes eligible: its late policy applies, and the frames it waits
for are noted. -/
def State.becomeEligible (s : State) (e : WeirEntry) (h : Header) (payload : List Byte) (lateArr : Bool) : State :=
  let late := h.hasRel && h.kind != .hole &&
    (if s.followsSite 0x0B (isWeirEntry h 1) then (s.siteNext 0x0B (isWeirEntry h 1)).isSome
     else s.relPassed h.rel)
  let mark := s.gateMark
  if late then
    let s := (s.bump (if lateArr then 0x00120010 else 0x00120014)).bump (instKey h.inst 0x4000)
    let s := if s.followsSite 0x0B (isWeirEntry h 1) then s.siteTake 0x0B (isWeirEntry h 1)
      else s.decision 0x0B 0xFFFF (weirBody h.gseq h.sub 1 h.stream)
    if seHoldLast e.entry then
      (s.pbufFree e.granules).weirSet { e with granules := 0, gate := some mark, item := .cell (h.hole 3) [] lateArr }
    else s.weirSet { e with gate := some mark, item := .cell { h with late := true } payload lateArr }
  else s.weirSet { e with gate := some mark }

/-- R30, R493: an eligible head may be released now. -/
def State.mayRelease (s : State) (e : WeirEntry) (h : Header) : Bool :=
  let due := !h.hasRel || h.late || s.relPassed h.rel || sub48 h.rel s.tb.count == 0 ||
    (s.mode == .replay && !s.bit 0x003B0080 0)
  (match e.gate with | some m => s.gateOpen m | none => false) && due

/-- R29: the head of a stream. -/
def State.weirHead (s : State) (stream : Nat) : Option WeirEntry := s.weir.find? fun e => e.stream == stream

/-- The Weir's work for one stream, as far as it goes, for at most `n` heads. -/
def State.weirStream (stream : Nat) : Nat → State → State
  | 0, s => s.weirRestart stream
  | n + 1, s =>
    let s := s.weirRestart stream
    match s.weirHead stream with
    | none => s
    | some e =>
      match e.item with
      | .pending | .tail => s
      | .cell h _ _ =>
        if !before48 e.gseq s.horizon then s
        else
          -- R178: a held cell whose Stream Table entry is lost becomes a HOLE
          let (s, lost) := if h.kind == .hole then (s, false)
            else s.entryChk (s.epochOf h.repoch) (streamAddr stream) (some h.gseq)
          let s := if lost then
              (s.pbufFree e.granules).weirSet { e with granules := 0, item := .cell (h.hole 1) [] false }
            else s
          match s.weirHead stream with
          | none => s
          | some e =>
            let s := if e.gate.isNone then
                (match e.item with
                 | .cell h p l => s.becomeEligible e h p l
                 | _ => s)
              else s
            match s.weirHead stream with
            | none => s
            | some e =>
              match e.item with
              | .cell h p _ => if s.mayRelease e h then State.weirStream stream n (s.weirRelease e h p) else s
              | _ => s

/-- One stream's heads. -/
def State.weirEval (s : State) (stream : Nat) : State :=
  s.weirStream stream (s.weir.filter fun e => e.stream == stream).length

/-- The distinct streams that hold entries, or wait to restart, in rising order (R41). -/
def State.weirStreams (s : State) : List Nat :=
  rising (s.weir.map (·.stream) ++ (s.seqs.filter fun q => q.2.restart.isSome).map (·.1))

/-- R160: probes whose cell H has passed are offered to the learning queue, in GSEQ order. -/
def State.flushProbes (s : State) : State :=
  let hz := s.horizon
  let (go, stay) := s.learn.held.partition fun x => before48 x.1 hz
  let s := { s with learn := { s.learn with held := stay } }
  go.foldl (fun s x => s.probeIn x.2) s

/-- Runs every stream: after H, a queue or a placeholder has changed (R29, R30). -/
def State.weirRun (s : State) : State :=
  let s := s.flushProbes
  s.weirStreams.foldl (fun s st => s.weirEval st) s

/-! ## Completion and faults of cells (R27, R28, R45, R46) -/

/-- The streams on which an open cell holds a tail placeholder: its own and those of its emit list. -/
def Cell.tails (c : Cell) : List Nat :=
  ((c.hdr.stream :: c.emitList).filter (· != 0)).eraseDups

/-- R28: consumes (g, 0). -/
def State.consume (s : State) (c : Cell) : State :=
  if c.disposed then s
  else (s.weirDel c.hdr.stream c.hdr.gseq 0).modCell c.hdr.gseq fun c => { c with disposed := true }

/-- The payload's granules: an entry at (g, 0) that still holds the payload frees them when it leaves. -/
def State.freeCell (s : State) (c : Cell) : State :=
  let held := s.weir.find? fun e => e.stream == c.hdr.stream && e.gseq == c.hdr.gseq && e.sub == 0 &&
    (match e.item with | .cell h _ _ => h.kind != .hole && h.len != 0 | _ => false)
  let s := match held with
    | some e => s.weirSet { e with granules := e.granules + c.granules }
    | none => s.pbufFree c.granules
  s.modCell c.hdr.gseq fun c => { c with granules := 0 }

/-- R27: the cell completes: it consumes (g, 0) if nothing else disposed of it, its tails go, and previous
table entries that only it kept are released (R245). -/
def State.completeCell (s : State) (g : Nat) : State :=
  match s.cellAt g with
  | none => s
  | some c =>
    if !c.isOpen then s
    else
      let s := s.consume c
      let s := c.tails.foldl (fun s st => s.weirDel st g 256) s
      let s := s.freeCell c
      let s := s.modCell g fun c => { c with stage := .done }
      (s.reap.trimOld).weirRun

/-- R36, R45: a HOLE takes the Weir entry of the tail placeholder that it makes superfluous. -/
def State.holeForTail (s : State) (stream gseq sub entry : Nat) (h : Header) : State :=
  (s.weirDel stream gseq 256).weirAdd stream gseq sub entry 0 (.cell h [] false)

/-- R45, R48: an open cell is abandoned: HOLEs of a reason on its own and its emit-list streams. -/
def State.abandonCell (s : State) (g reason : Nat) : State :=
  match s.cellAt g with
  | none => s
  | some c =>
    let h := c.hdr
    let se (st : Nat) : Nat := s.streamEntry c.epoch st
    let put (s : State) (st sub inst egress : Nat) : State :=
      s.holeForTail st g sub (se st) (holeHeader h st sub inst egress reason)
    let s := if h.stream = 0 then s
      else if c.disposed then put s h.stream 255 h.inst h.egress
      else put (s.weirDel h.stream g 0) h.stream 0 h.inst h.egress
    let s := s.modCell g fun c => { c with disposed := true }
    let s := (c.tails.filter (· != h.stream)).foldl (fun s st => put s st 255 (seInst (se st)) (seEgress (se st))) s
    s.completeCell g

/-- R27: the pending entry at (g, 0) of an open cell that has not disposed of it stands in the Weir, or is not needed. -/
def State.pendingStands (s : State) (c : Cell) : Bool :=
  c.disposed || c.hdr.stream == 0 ||
    s.weir.any fun e => e.stream == c.hdr.stream && e.gseq == c.hdr.gseq && e.sub == 0

/-- R27, R36: puts the pending entry of a cell that is dispatched again back, once the Weir has an entry for it. -/
def State.restorePending (s : State) (c : Cell) : State :=
  if s.pendingStands c || !s.weirRoom c.hdr.gseq then s
  else s.weirAdd c.hdr.stream c.hdr.gseq 0 (s.streamEntry c.epoch c.hdr.stream) 0 .pending

/-- R46: discards the cell's unreleased emits and forwards, and readies it for a second dispatch. A (g, 0) that was
released in the first run stays disposed of. -/
def State.rerunCell (s : State) (g : Nat) : State :=
  match s.cellAt g with
  | none => s
  | some c =>
    let mine := s.weir.filter fun e => e.gseq == g && (match e.item with | .cell _ _ _ => true | _ => false)
    let s := mine.foldl (fun s e => s.weirDel e.stream e.gseq e.sub) s
    let fwd := c.released.contains (c.hdr.stream, 0)
    let (rel, hasRel, len, m) := c.orig
    let c' := { c with
      hdr := { c.hdr with rel := rel, hasRel := hasRel, len := len, metaBytes := m, rerun := true }
      stage := .classified, disposed := fwd, emits := [], place := none }
    (s.modCell g fun _ => c').restorePending c'

/-- R45, R46: the fault disposition of an open cell's action. -/
def State.faultCell (s : State) (g : Nat) : State :=
  match s.cellAt g with
  | none => s
  | some c => if c.replayDisp && !c.hdr.rerun then s.rerunCell g else s.abandonCell g 1

/-! ## Disposal by a thread (R22, R23, R28, R36, R37, R46) -/

/-- R28: forwards (g, 0); none where it waits for an entry (R36). -/
def State.forward (s : State) (g : Nat) : Option State :=
  match s.cellAt g with
  | none => some s
  | some c =>
    let gone (s : State) : State := s.modCell g fun c => { c with disposed := true }
    if c.disposed then some s
    else if c.hdr.stream = 0 || (c.hdr.rerun && c.released.contains (c.hdr.stream, 0)) then
      some ((gone (s.weirDel c.hdr.stream g 0)).weirRun)
    else if !s.weirRoom g then none
    else
      let s := gone (s.weirDel c.hdr.stream g 0)
      some ((s.weirArrive c.hdr (c.payload.take c.hdr.len) (s.streamEntry c.epoch c.hdr.stream) 0).weirRun)

/-- R22, R23, R26, R37, R46, Table 7.7: the status of an emit of the cell: 0 OK, 1 SUB_ORDER, 2 STREAM,
3 LEN; 4 stands for an emit that the re-run discards silently. -/
def emitStatus (c : Cell) (stream sub len : Nat) : Nat :=
  if stream = 0 || !(stream == c.hdr.stream || c.emitList.contains stream) then 2
  else if sub < 1 || 254 < sub then 1
  else if 9216 < len then 3
  else if c.emits.any fun e => e.1 == stream && decide (sub ≤ e.2) then 1
  else if c.hdr.rerun && c.released.contains (stream, sub) then 4
  else 0

/-- Granules of 64 bytes that a payload holds. -/
def granulesOf (len : Nat) : Nat := (len + 63) / 64

/-- The Weir takes an accepted emit: a DERIVED cell of the parent `g` (R18, R250). -/
def State.emitCell (s : State) (g stream sub : Nat) (rel : Option Nat) (mb payload : List Byte) : State :=
  match s.cellAt g with
  | none => s
  | some c =>
    let se := s.streamEntry c.epoch stream
    let n := granulesOf payload.length
    let place := s.pbufPick payload.length
    let h : Header := {
      gseq := g, sub, kind := .derived, tstamp := c.hdr.tstamp, src := c.hdr.src
      rel := rel.getD 0, hasRel := rel.isSome, stream, action := c.hdr.action, rflags := c.hdr.rflags
      rerun := c.hdr.rerun, len := payload.length, pbuf := place, repoch := c.hdr.repoch
      inst := seInst se, egress := seEgress se, metaBytes := padTo 16 mb }
    let s := { s.tick.pbufStore place payload with pbufUsed := s.pbufUsed + n }
    let s := s.modCell g fun c => { c with emits := (stream, sub) :: c.emits }
    (s.weirArrive h payload se n).weirRun

end Sys2Proof.Machine
end

