-- ==== Sys2Proof/Machine/Classify.lean ====
section
/-! DEFINITION. Classification of cells and the takeover of commits (spec/05 R154 to R180; spec/04 R122,
R123, R142, R146). -/
namespace Sys2Proof.Machine

/-- HN_CTL. -/
abbrev hnCtl : Nat := 0x001A0000
/-- HN_ERR. -/
abbrev hnErr : Nat := 0x001A0004

/-- The block is neither withdrawn nor draining. -/
def State.runningBlock (s : State) (kind index : Nat) : Bool := s.wdState kind index == .running

/-- Classified cells that wait for dispatch (R223). -/
def State.inHolding (s : State) : Nat := (s.cells.filter fun c => c.stage == .classified).length

/-- A cell whose result is held: on which Heron, and its key. -/
def Cell.heldKey (c : Cell) : Option (Nat × HeldKey) :=
  match c.stage with
  | .held k key => some (k, key)
  | _ => none

/-- R175, R180: a Heron that held a cell's key is free again. -/
def State.freeHeron (s : State) (k : Nat) : State :=
  { s with eg := { s.eg with herons := NatMap.del s.eg.herons k } }

/-- R122, R123, R142, R146: the stream of a classified cell, after the checks that may move it to the null
stream; whether it stays. -/
def State.streamStays (s : State) (c : Cell) (stream : Nat) : State × Bool :=
  if stream = 0 then (s, true)
  else
    let se := s.streamEntry c.epoch stream
    let (s, lost) := if seValid se then s.entryChk c.epoch (streamAddr stream) (some c.hdr.gseq) else (s, false)
    if lost || !seValid se then (s.bump 0x00160818, false)
    else
      let (s, ok) := if c.hdr.kind == .data && c.hdr.src / 0x1000 == 1 then
          s.qci (c.hdr.src % 0x1000) (seFilter se) c.hdr.tstamp c.hdr.len else (s, true)
      if !ok then (s, false)
      else if c.hdr.kind == .data && seRcvyEn se then
        let (x, pass) := (NatMap.get {} s.frer (seRcvy se)).run (rtagOf c.payload) (s.fullTime c.hdr.tstamp)
        ({ s with frer := NatMap.put {} s.frer (seRcvy se) x }, pass)
      else (s, true)

/-- The header fields that classification fills (R167, R177). -/
def Header.classify (h : Header) (stream action flags epoch entry : Nat) : Header :=
  { h with
    stream := stream, action := action, rflags := flags, repoch := epoch % 0x10000
    inst := seInst entry, egress := seEgress entry }

/-- R169: the direct action forwards a cell and completes it, once the Weir has an entry for it (R36). -/
def State.directForward (s : State) (g : Nat) : State :=
  match s.cellAt g with
  | none => s
  | some c =>
    let k := (c.heldKey.getD (16, .null)).1
    if !s.weirRoom g then
      let s := if c.fullWait then s else s.bump 0x00120028
      s.modCell g fun c => { c with stage := .held k .direct, fullWait := true }
    else
      let s := s.weirArrive c.hdr (c.payload.take c.hdr.len) (s.streamEntry c.epoch c.hdr.stream) c.granules
      (s.modCell g fun c => { c with stage := .done, disposed := true, granules := 0 }).freeHeron k

/-- The emit list of a cell's action (R23, R168). -/
def State.emitListOf (s : State) (c : Cell) : List Nat :=
  let ae := NatMap.get 0 (s.tablesAt c.epoch).action c.hdr.action
  if aeValid ae then (aeEmit ae).eraseDups else []

/-- R27, R36: the Weir has entries for the placeholders of a cell that opens: its pending entry and its tails. -/
def State.openRoom (s : State) (c : Cell) : Bool :=
  let need := ({ c with emitList := s.emitListOf c } : Cell).tails.length + b2n (c.hdr.stream != 0)
  let lower := s.cells.any fun d => d.isOpen && before48 d.hdr.gseq c.hdr.gseq
  decide (s.weir.length + need ≤ if lower then 16384 - 256 else 16384)

/-- A cell classified to an action: its place in its stream's order, its tail placeholders and its emit list
(R23, R27, R28, R168). Until the Weir has entries for them, its classification waits by handshake (R36; log entry 103). -/
def State.toAction (s : State) (g : Nat) : State :=
  match s.cellAt g with
  | none => s
  | some c =>
    if !s.openRoom c then s.modCell g fun x => { x with stage := .held (c.heldKey.getD (16, .null)).1 .action }
    else
    let ae := NatMap.get 0 (s.tablesAt c.epoch).action c.hdr.action
    let list := s.emitListOf c
    let h := c.hdr
    let c' := { c with
      stage := .classified, emitList := list, replayDisp := aeReplay ae
      orig := (h.rel, h.hasRel, h.len, h.metaBytes) }
    let s := s.modCell g fun _ => c'
    let s := if h.stream = 0 then s else s.weirAdd h.stream g 0 (s.streamEntry c.epoch h.stream) 0 .pending
    let s := c'.tails.foldl (fun s st => s.weirAdd st g 256 (s.streamEntry c.epoch st) 0 .tail) s
    s.freeHeron ((c.heldKey.getD (16, .null)).1)

/-- A cell classified to the null stream with the direct action completes (R26, R169). -/
def State.toNull (s : State) (g : Nat) : State :=
  match s.cellAt g with
  | none => s
  | some c =>
    ((s.pbufFree c.granules).modCell g fun c => { c with stage := .done, disposed := true, granules := 0 }).freeHeron
      ((c.heldKey.getD (16, .null)).1)

/-- R157, R159, R161, R166, R167, R169: classifies a held cell. -/
def State.classifyKey (s : State) (c : Cell) (key : HeldKey) : State :=
  let g := c.hdr.gseq
  let (s, r) := match key with
    | .key k => s.shoalLookup (some k)
    | .noMatch => s.shoalLookup none
    | _ => (s, 0)
  let (s, ok) := s.streamStays c (bitsOf r 12 12)
  let stream := if ok then bitsOf r 12 12 else 0
  let action := if ok then bitsOf r 0 12 else 0
  let entry := s.streamEntry c.epoch stream
  let s := s.modCell g fun c => { c with hdr := c.hdr.classify stream action (bitsOf r 24 8) c.epoch entry }
  if action ≠ 0 then s.toAction g else if stream ≠ 0 then s.directForward g else s.toNull g

/-- Classifies the cell with GSEQ `g` if its epoch is in force (R175) and dispatch holding has room (R223). -/
def State.classifyCell (s : State) (g : Nat) : State :=
  match s.cellAt g with
  | none => s
  | some c =>
    match c.heldKey with
    | none => s
    | some (_, key) =>
      if c.epoch ≠ s.epoch || 512 ≤ s.inHolding then s
      else if key = .direct then s.directForward g
      else if key = .action then s.toAction g
      else s.classifyKey c key

/-- Classifies every held cell that can be, in GSEQ order, and lets the Weir follow. -/
def State.classifyReady (s : State) : State :=
  let held := (s.cells.filter fun c => c.heldKey.isSome).map fun c => c.hdr.gseq
  ((held.foldl (fun s g => s.classifyCell g) s).reap.trimOld).weirRun

/-- R174, R175: a commit's tables at its takeover: the HIT and AGED flags of stations that it does not change
stay as they are now. -/
def State.takeoverTables (s : State) (t : Tables) : Tables :=
  let flags (e : Nat) : Nat := putBits e 74 2 0
  { t with station := t.station.map fun x =>
      let now := NatMap.get 0 s.tables.station x.1
      (x.1, if flags now = flags x.2 then now else x.2) }

/-- COMMIT_TAKEOVER. R174 to R178: once every cell before the marker is classified. -/
def doCommitTakeover (s : State) : State :=
  match s.commits.find? fun c => !c.takenOver with
  | none => s
  | some x =>
    if s.cells.any fun c => before48 c.hdr.gseq x.gseq && !c.classifiedYet then s
    else
      let mark (c : Commit) : Commit := if c.gseq == x.gseq then { c with takenOver := true } else c
      let s := (s.keepMarks x.edited).rewritten x.edited
      let t := s.takeoverTables x.tables
      let s := { s with
        oldTables := s.oldTables ++ [(s.epoch, s.tables)], tables := t, epoch := x.epoch
        commits := s.commits.map mark }
      let s := x.regs.foldl (fun s r => s.setReg r.1 (putMask (s.regW r.1) r.2.1 r.2.2)) s
      s.trimOld.classifyReady

/-- R178, R179: the scrubber visits entry `e` of both copies; `u` is the upset found in its granule `g`, 0 to 7 of the active
copy and 8 to 15 of the staged copy. -/
def State.shoalVisit (s : State) (e g u : Nat) : State :=
  let staged := shoalBase + 0x40000 + 64 * e
  let a := if g < 8 then shoalBase + 64 * e + 8 * g else staged + 8 * (g - 8)
  let s := s.setEcc a (max u (s.eccAt a))
  let s := s.shoalChk e
  let bad := s.badGranules staged 64
  let fix (s : State) (b : Nat × Nat) : State := (s.eccNote 1 b.1).setEcc b.1 0
  match NatMap.get none s.staged.shoal e, bad.filter fun b => b.2 != 1 with
  | some (i, v), x :: xs =>
    let s := (bad.filter fun b => b.2 == 1).foldl fix s
    let s := (x :: xs).foldl (fun s b => s.setEcc b.1 0) (s.eccNote x.2 x.1)
    { s with staged := { s.staged with shoal := NatMap.put none s.staged.shoal e (some (i, putBits v 416 1 0)) } }
  | _, _ => bad.foldl fix s

/-- SHOAL_SCRUB_VISIT. R178: a pass visits every entry of both copies in rising order, once in 10 ms. -/
def doShoalScrubVisit (e g u : Nat) (s : State) : State :=
  match s.scrubTurn shoalBase 4096 10000000 e with
  | some s => s.shoalVisit e g u
  | none => s

/-- COMMIT_TAKEOVER. -/
def execCommitTakeover (s : State) : Host.Outcome State Fault Refusal := .next (doCommitTakeover s)
/-- SHOAL_SCRUB_VISIT. -/
def execShoalScrubVisit (e : Fin 4096) (g : Fin 16) (found : Upset) (s : State) : Host.Outcome State Fault Refusal :=
  .next (doShoalScrubVisit e g (upsetBits found) s)

end Sys2Proof.Machine
end

