-- ==== Sys2Proof/Machine/EgretCore.lean ====
section
/-! DEFINITION. What an Egret or Heron word computes within its core: registers, flags, the ALU, short
operations, conditions and decoding (spec/06 R183 to R197). -/
namespace Sys2Proof.Machine

/-! ## Registers (R184). Names 0 to 15 are w0 to w7 and g0 to g7, 16 to 19 are p0 to p3 -/

/-- A byte register. -/
def EgCore.reg (x : EgCore) (r : Nat) : Nat :=
  if r < 8 then NatMap.get 0 x.win (8 * x.cwp + r) else NatMap.get 0 x.g (r % 8)

/-- A pointer. -/
def EgCore.ptr (x : EgCore) (k : Nat) : Nat := NatMap.get 0 x.p (k % 4)

/-- Writes a register or pointer by its name. -/
def EgCore.put (x : EgCore) (name v : Nat) : EgCore :=
  if name < 8 then { x with win := NatMap.put 0 x.win (8 * x.cwp + name) (v % 256) }
  else if name < 16 then { x with g := NatMap.put 0 x.g (name % 8) (v % 256) }
  else { x with p := NatMap.put 0 x.p (name % 4) (v % 0x10000) }

/-- Writes several. -/
def EgCore.putAll (x : EgCore) (l : List (Nat × Nat)) : EgCore := l.foldl (fun x e => x.put e.1 e.2) x

/-- The next word. -/
def EgCore.next (x : EgCore) : EgCore := { x with pc := (x.pc + 1) % 0x10000 }

/-- A taken branch (R195). -/
def EgCore.branch (x : EgCore) (w off : Nat) : EgCore :=
  { x with pc := wrapTo 16 ((x.pc : Int) + 1 + signedOf w off) }

/-- The saved flags of TSTATE and FLAGS. -/
def EgCore.flagBits (x : EgCore) : Nat := b2n x.c + 2 * b2n x.z + 4 * b2n x.n + 8 * b2n x.v

/-- All four flags, from a byte. -/
def EgCore.setFlagBits (x : EgCore) (n : Nat) : EgCore :=
  { x with c := bitAt n 0, z := bitAt n 1, n := bitAt n 2, v := bitAt n 3 }

/-! ## Flags (R192, Table 6.5) -/

/-- The flags that a word writes. -/
structure FlagW where
  c : Option Bool := none
  z : Option Bool := none
  n : Option Bool := none
  v : Option Bool := none

/-- Writes flags. -/
def EgCore.setFlags (x : EgCore) (f : FlagW) : EgCore :=
  { x with c := f.c.getD x.c, z := f.z.getD x.z, n := f.n.getD x.n, v := f.v.getD x.v }

/-- Both slots write some flag. -/
def FlagW.none? (f : FlagW) : Bool := f.c.isNone && f.z.isNone && f.n.isNone && f.v.isNone

/-- An arithmetic result's flags: all four in FL mode, C in CB mode. -/
def arithFlags (bm : Bool) (r : Nat) (c v : Bool) : FlagW :=
  if bm then { c := some c, z := some (r == 0), n := some (bitAt r 7), v := some v } else { c := some c }

/-- A comparison's flags, in both modes. -/
def cmpFlags (r : Nat) (c v : Bool) : FlagW :=
  { c := some c, z := some (r == 0), n := some (bitAt r 7), v := some v }

/-- TST's flags, in both modes. -/
def tstFlags (r : Nat) : FlagW := { z := some (r == 0), n := some (bitAt r 7), v := some false }

/-- A logical result's flags: FL mode only. -/
def logicFlags (bm : Bool) (r : Nat) : FlagW := if bm then tstFlags r else {}

/-! ## Arithmetic (Table 6.4, R190) -/

/-- a + b + carry on `w` bits: result, C and V. -/
def addW (w a b k : Nat) : Nat × Bool × Bool :=
  let s := signedOf w a + signedOf w b + (k : Int)
  ((a + b + k) % 2 ^ w, decide (2 ^ w ≤ a + b + k), decide (s < -(2 ^ (w - 1) : Nat) ∨ ((2 ^ (w - 1) : Nat) : Int) ≤ s))

/-- a − b − borrow on `w` bits: result, C (1 when no borrow occurs) and V. -/
def subW (w a b k : Nat) : Nat × Bool × Bool :=
  let s := signedOf w a - signedOf w b - (k : Int)
  (wrapTo w ((a : Int) - b - k), decide (b + k ≤ a), decide (s < -(2 ^ (w - 1) : Nat) ∨ ((2 ^ (w - 1) : Nat) : Int) ≤ s))

/-- Table 6.4: the result, none where rd is not written, and the flags; none for a reserved function. -/
def aluFn (fn a b : Nat) (c bm : Bool) : Option (Option Nat × FlagW) :=
  let arith (r : Nat × Bool × Bool) : Option (Option Nat × FlagW) := some (some r.1, arithFlags bm r.1 r.2.1 r.2.2)
  let logic (r : Nat) : Option (Option Nat × FlagW) := some (some r, logicFlags bm r)
  match fn with
  | 0 => arith (addW 8 a b 0)
  | 1 => arith (addW 8 a b (b2n c))
  | 2 => arith (subW 8 a b 0)
  | 3 => arith (subW 8 a b (1 - b2n c))
  | 4 => logic (a &&& b)
  | 5 => logic (a ||| b)
  | 6 => logic (a ^^^ b)
  | 7 => logic (a &&& (255 - b))
  | 8 => let r := subW 8 a b 0; some (none, cmpFlags r.1 r.2.1 r.2.2)
  | 9 => some (none, tstFlags (a &&& b))
  | _ => none

/-- R190: a shift of `a` by `n`: 0 SHL, 1 SHR, 2 SAR, 3 ROL; the result and C. -/
def shiftFn (k a n : Nat) : Nat × Option Bool :=
  if n = 0 then (a, none)
  else match k with
    | 0 => (a * 2 ^ n % 256, some (decide (n ≤ 8) && bitAt a (8 - n)))
    | 1 => (a / 2 ^ n, some (bitAt a (n - 1)))
    | 2 => (wrapTo 8 (signedOf 8 a / 2 ^ n), some (if n ≤ 8 then bitAt a (n - 1) else bitAt a 7))
    | _ =>
      let m := n % 8
      let r := (a * 2 ^ m) % 256 + a / 2 ^ (8 - m)
      (r, some (bitAt r 0))

/-- Table 6.5: a shift's flags. -/
def shiftFlags (bm : Bool) (r : Nat × Option Bool) : FlagW :=
  match r.2 with
  | none => if bm then { z := some (r.1 == 0), n := some (bitAt r.1 7) } else {}
  | some c => if bm then { tstFlags r.1 with c := some c } else { c := some c }

/-- Table 6.6: a condition on flags; none for the reserved code. -/
def condOf (k : Nat) (c z n v : Bool) : Option Bool :=
  match k with
  | 0 => some z | 1 => some (!z) | 2 => some c | 3 => some (!c)
  | 4 => some n | 5 => some (!n) | 6 => some v | 7 => some (!v)
  | 8 => some (c && !z) | 9 => some (!c || z) | 10 => some (n == v) | 11 => some (n != v)
  | 12 => some (!z && n == v) | 13 => some (z || n != v) | 14 => some true | _ => none

/-- R194: a condition of a − b on `w` bits. -/
def condCmp (k w a b : Nat) : Option Bool :=
  let r := subW w a b 0
  condOf k r.2.1 (r.1 == 0) (bitAt r.1 (w - 1)) r.2.2

/-! ## Short operations (R186 to R188, Table 6.2) -/

/-- A slot's memory access: a load to a register, or a store of a value. -/
inductive SlotMem
  | load (rd addr : Nat)
  | store (v addr : Nat)

/-- What a slot reads and writes. -/
structure Slot where
  reads : List Nat := []
  writes : List (Nat × Nat) := []
  flags : FlagW := {}
  readsC : Bool := false
  mem : Option SlotMem := none

/-- The names that a slot writes, its load's destination among them. -/
def Slot.names (a : Slot) : List Nat :=
  a.writes.map (·.1) ++ (match a.mem with | some (.load rd _) => [rd] | _ => [])

/-- p + a signed or unsigned offset, modulo 2^16 (R191). -/
def ptrAdd (p : Nat) (off : Int) : Nat := wrapTo 16 ((p : Int) + off)

/-- One short operation on a core; none for a reserved one. -/
def shortOp (x : EgCore) (o : Nat) : Option Slot :=
  let rd := bitsOf o 6 4
  let rs := bitsOf o 2 4
  let a := x.reg rd
  let b := x.reg rs
  let s6 := wrapTo 8 (signedOf 6 (bitsOf o 0 6))
  let pn := bitsOf o 4 2
  let pd := bitsOf o 8 2
  let rq := bitsOf o 4 4
  let ofAlu (fn b : Nat) (reads : List Nat) : Option Slot :=
    (aluFn fn a b x.c x.bm).map fun r =>
      { reads, writes := (match r.1 with | some v => [(rd, v)] | none => []), flags := r.2, readsC := fn == 1 || fn == 3 }
  match bitsOf o 10 5 with
  | 0x00 => some {}
  | 0x01 => some { reads := [rs], writes := [(rd, b)] }
  | 0x02 => ofAlu 0 b [rd, rs]
  | 0x03 => ofAlu 1 b [rd, rs]
  | 0x04 => ofAlu 2 b [rd, rs]
  | 0x05 => ofAlu 3 b [rd, rs]
  | 0x06 => ofAlu 4 b [rd, rs]
  | 0x07 => ofAlu 5 b [rd, rs]
  | 0x08 => ofAlu 6 b [rd, rs]
  | 0x09 => ofAlu 8 b [rd, rs]
  | 0x0A => ofAlu 9 b [rd, rs]
  | 0x0B => some { writes := [(rd, s6)] }
  | 0x0C => ofAlu 0 s6 [rd]
  | 0x0D => ofAlu 8 s6 [rd]
  | 0x0E =>
    let r := shiftFn (bitsOf o 4 2) a (bitsOf o 1 3 + 1)
    some { reads := [rd], writes := [(rd, r.1)], flags := shiftFlags x.bm r }
  | 0x0F =>
    match bitsOf o 4 2 with
    | 0 => some { reads := [rd], writes := [(rd, 255 - a)], flags := logicFlags x.bm (255 - a) }
    | 1 =>
      let r := subW 8 0 a 0
      some { reads := [rd], writes := [(rd, r.1)], flags := arithFlags x.bm r.1 r.2.1 r.2.2 }
    | 2 =>
      let r := a % 16 * 16 + a / 16
      some { reads := [rd], writes := [(rd, r)], flags := logicFlags x.bm r }
    | _ => none
  | 0x10 => some { reads := [16 + pn], mem := some (.load rd (ptrAdd (x.ptr pn) (bitsOf o 0 4))) }
  | 0x11 => some { reads := [rd, 16 + pn], mem := some (.store a (ptrAdd (x.ptr pn) (bitsOf o 0 4))) }
  | 0x12 => some { reads := [16 + pn], writes := [(16 + pn, ptrAdd (x.ptr pn) 1)], mem := some (.load rd (x.ptr pn)) }
  | 0x13 => some { reads := [rd, 16 + pn], writes := [(16 + pn, ptrAdd (x.ptr pn) 1)], mem := some (.store a (x.ptr pn)) }
  | 0x14 => some { reads := [16 + pd], writes := [(16 + pd, ptrAdd (x.ptr pd) (signedOf 8 (bitsOf o 0 8)))] }
  | 0x15 => some { reads := [16 + pd, rq], writes := [(16 + pd, ptrAdd (x.ptr pd) (x.reg rq))] }
  | 0x16 => some { reads := [16 + pn], writes := [(rd, x.ptr pn / (if bitAt o 3 then 256 else 1))] }
  | 0x17 =>
    some { reads := [rq, 16 + pd], writes := [(16 + pd, putBits (x.ptr pd) (if bitAt o 3 then 8 else 0) 8 (x.reg rq))] }
  | _ => none

/-- R187: the pair is hazardous. -/
def pairHazard (a b : Slot) : Bool :=
  let meets (l m : List Nat) : Bool := l.any m.contains
  meets a.names b.names || meets a.reads b.names || meets b.reads a.names ||
    (a.readsC && b.flags.c.isSome) || (b.readsC && a.flags.c.isSome) || (a.mem.isSome && b.mem.isSome)

/-! ## Decoding (R185, R189, R196) -/

/-- The words of the Egret instruction set and of Heron's profile. -/
inductive EgOp
  | illegal
  | pair | alu | alui | shift | ldi | ld | ldp | st | stp | ldx | stx | paddi16 | paddr | mul
  | bcc | cbr | cbi | cbp | jmp | call | ret
  | fork | forkq | join | exit | trap | rett | mode | fence | mfsr | mtsr
  | send | recv | sendq | recvq | fault | bkpt | fwd | consume | emit
  | kmov | kput | kend
  deriving DecidableEq, Repr

/-- Table 6.7: SYS sub-operations. -/
def sysOp (w : Nat) : EgOp :=
  match bitsOf w 20 5 with
  | 0x00 => .fork | 0x01 => .forkq | 0x02 => .join | 0x03 => .exit | 0x04 => .trap | 0x05 => .rett
  | 0x06 => .mode | 0x07 => .fence | 0x08 => .mfsr | 0x09 => .mtsr | 0x0A => .send | 0x0B => .recv
  | 0x0C => .sendq | 0x0D => .recvq | 0x0E => .fault | 0x0F => .bkpt | 0x10 => .fwd | 0x11 => .consume
  | 0x12 => .emit | _ => .illegal

/-- The operation of a word, on a thread or on a Heron (Table 5.1, R189). -/
def egOp (heron : Bool) (w : Nat) : EgOp :=
  if bitAt w 31 then .pair
  else match bitsOf w 25 6 with
    | 0x01 => .alu | 0x02 => .alui | 0x03 => .shift | 0x04 => .ldi
    | 0x05 => if bitsOf w 16 2 = 1 then .ldp else .ld
    | 0x06 => if bitsOf w 16 2 = 1 then .stp else .st
    | 0x07 => if bitAt w 14 then .stx else .ldx
    | 0x08 => .paddi16 | 0x09 => .paddr | 0x0A => .mul
    | 0x10 => .bcc | 0x11 => .cbr | 0x12 => .cbi | 0x13 => .cbp
    | 0x14 => if bitAt w 24 then (if heron then .illegal else .call) else .jmp
    | 0x15 => if heron then .illegal else .ret
    | 0x3C => if heron then .kmov else .illegal
    | 0x3D => if heron then .kput else .illegal
    | 0x3E => if heron then .kend else .illegal
    | 0x3F => if heron then .illegal else sysOp w
    | _ => .illegal

/-! ## Windows (R206, R215) -/

/-- Ring successor and predecessor of windows 1 to 5. -/
def winNext (w : Nat) : Nat := if w = 5 then 1 else w + 1
def winPrev (w : Nat) : Nat := if w = 1 then 5 else w - 1

/-- The saved CWP of TSTATE. -/
def EgCore.savedCwp (x : EgCore) : Nat := bitsOf x.tstate 5 3

/-- The window on which the next call opens: the current one, or the interrupted one in window 0. -/
def EgCore.base (x : EgCore) : Nat := if x.cwp = 0 then x.savedCwp else x.cwp

/-- Clears w0 to w7 of window `k`. -/
def EgCore.clearWin (x : EgCore) (k : Nat) : EgCore :=
  { x with win := NatMap.keep (fun i => i / 8 != k) x.win }

/-- The oldest resident window. -/
def EgCore.oldest (x : EgCore) : Nat := (x.base + 9 - x.residents + 1) % 5 + 1

/-- R208: a spill record of window `k`. -/
def EgCore.record (x : EgCore) (k : Nat) : List Byte :=
  (upTo 8).map (fun i => BitVec.ofNat 8 (NatMap.get 0 x.win (8 * k + i))) ++
    leBytes 2 (NatMap.get 0 x.ra k) ++ List.replicate 6 0

/-- R208: a record read back into window `k`. -/
def EgCore.unrecord (x : EgCore) (k : Nat) (l : List Byte) : EgCore :=
  { x with
    win := (upTo 8).foldl (fun m i => NatMap.put 0 m (8 * k + i) (leAt l i 1)) x.win
    ra := NatMap.put 0 x.ra k (leAt l 8 2) }

/-- The frame that a call opens, once the ring has room. -/
def EgCore.enter (x : EgCore) (target : Nat) : EgCore :=
  let k := winNext x.base
  { x.clearWin k with
    cwp := k, depth := x.depth + 1, residents := min 5 (x.residents + 1)
    ra := NatMap.put 0 x.ra k ((x.pc + 1) % 0x10000), pc := target }

/-- The window to which a RET returns, and whether it is a handler's window 0 (R215). -/
def EgCore.retTo (x : EgCore) : Nat × Bool :=
  if x.ts && x.depth = x.trapDepth + 1 then (x.savedCwp, true) else (winPrev x.cwp, false)

/-- R212: the core after a trap is vectored to `target`. -/
def EgCore.enterTrap (x : EgCore) (vec tpc slot tinfo target : Nat) (pair : Bool) : EgCore :=
  { x with
    tstate := x.flagBits + 16 * b2n x.bm + 32 * x.cwp + 256 * slot + 512 * b2n pair
    tpc := tpc, tcode := vec, tinfo := tinfo, ts := true, bm := false, cwp := 0
    trapDepth := x.depth, pc := target }

/-- R214: RETT. -/
def EgCore.leaveTrap (x : EgCore) : EgCore :=
  { x.setFlagBits (bitsOf x.tstate 0 4) with
    bm := bitAt x.tstate 4, cwp := x.savedCwp, ts := false, pc := x.tpc }

/-! ## Special registers (R211, Table 6.9) -/

/-- Reads a special register: its width in bits and its value. -/
def EgCore.sr (x : EgCore) (k : Nat) : Option (Nat × Nat) :=
  match k with
  | 0x00 => some (8, x.flagBits)
  | 0x01 => some (8, b2n x.bm + 2 * b2n x.ts + 4 * x.cwp)
  | 0x02 => some (8, x.sbank)
  | 0x03 => some (8, x.tcode)
  | 0x04 => some (8, x.tinfo)
  | 0x05 => some (8, min 255 x.depth)
  | 0x10 => some (16, x.spp)
  | 0x11 => some (16, x.spl)
  | 0x12 => some (16, x.tpc)
  | 0x13 => some (16, x.tstate)
  | 0x14 => some (16, x.farbl)
  | 0x15 => some (16, x.farbh)
  | 0x16 => some (16, x.taddr)
  | _ => none

/-- Writes a special register; none where it is read-only, or TSTATE would name a window outside the ring. -/
def EgCore.setSr (x : EgCore) (k v : Nat) : Option EgCore :=
  match k with
  | 0x00 => some (x.setFlagBits v)
  | 0x02 => some { x with sbank := v }
  | 0x10 => some { x with spp := v }
  | 0x11 => some { x with spl := v }
  | 0x12 => some { x with tpc := v }
  | 0x13 => if bitsOf v 5 3 = 0 || 6 ≤ bitsOf v 5 3 then none else some { x with tstate := v % 0x400 }
  | 0x14 => some { x with farbl := v }
  | 0x15 => some { x with farbh := v % 0x1000 + v / 0x8000 * 0x8000 }
  | _ => none

end Sys2Proof.Machine
end

