-- ==== Sys2Proof/Machine/ThreadOps.lean ====
section
/-! DEFINITION. Threads, contexts, grants, completions and the decision log's sites of threads, as shared
operations (spec/06; spec/07 R222 to R243; spec/13 R420, R421). -/
namespace Sys2Proof.Machine

/-! ## Threads and contexts -/

/-- The key of thread `t` of cluster `c`, which is its master ID too (R343). -/
def egId (c t : Nat) : Nat := 32 * c + t

/-- The thread in a context, running or stopped. -/
def State.threadAt (s : State) (c t : Nat) : Option Thread :=
  (s.eg.threads.find? fun e => e.1 == egId c t).map (·.2)

/-- Puts a thread into its context. -/
def State.setThread (s : State) (c t : Nat) (x : Thread) : State :=
  { s with eg := { s.eg with threads := NatMap.ins s.eg.threads (egId c t) x } }

/-- Changes the thread of a context. -/
def State.modThread (s : State) (c t : Nat) (f : Thread → Thread) : State :=
  match s.threadAt c t with
  | some x => s.setThread c t (f x)
  | none => s

/-- The context is free again. -/
def State.freeContext (s : State) (c t : Nat) : State :=
  { s with eg := { s.eg with threads := NatMap.del s.eg.threads (egId c t) } }

/-- The threads of a cluster, by thread ID. -/
def State.threadsOf (s : State) (c : Nat) : List (Nat × Thread) :=
  (s.eg.threads.filter fun e => e.1 / 32 == c).map fun e => (e.1 % 32, e.2)

/-- Free contexts of a cluster. -/
def State.freeOf (s : State) (c : Nat) : List Nat := (upTo 32).filter fun t => (s.threadAt c t).isNone

/-- R222, R229: a thread that may issue. -/
def Thread.runnable (x : Thread) : Bool := x.wait.isNone && !x.stopped

/-- R222: the free context on the core with the fewest runnable threads, lowest thread ID first. -/
def State.pickContext (s : State) (c : Nat) : Option Nat :=
  let load (t : Nat) : Nat := ((s.threadsOf c).filter fun e => e.1 / 4 == t / 4 && e.2.runnable).length
  (s.freeOf c).foldl (fun best t =>
    match best with
    | none => some t
    | some b => if load t < load b then some t else some b) none

/-- R222, R417: the most threads that instance `i`'s actions may hold on cluster `c`. -/
def State.threadQuota (s : State) (i c : Nat) : Nat :=
  if i = 0 then
    32 - (s.inst.filter fun e => e.1 != 0 && e.2.state != .absent).foldl (fun a e => a + e.2.q c 1) 0
  else (s.instAt i).q c 1

/-- Threads of instance `i`'s actions on cluster `c`. -/
def State.threadsFor (s : State) (i c : Nat) : Nat := ((s.threadsOf c).filter fun e => e.2.inst == i).length

/-- EG_Cc register `off`. -/
abbrev egKey (c off : Nat) : Nat := 0x00200000 + 0x10000 * c + off

/-- A context's frame reads as zero at thread start (R219). -/
def State.clearMem (s : State) (a n : Nat) : State :=
  { s with
    mem := NatMap.keep (fun k => k < a || a + n ≤ k) s.mem
    ecc := NatMap.keep (fun k => k < a / 8 || (a + n) / 8 ≤ k) s.ecc }

/-! ## Claims over hints (R440, R441) -/

/-- R440: a block of the IN_HINT layout holds a privileged claim: its bit in IN_CLAIM, or a thread or kernel of I0. -/
def State.blockClaimed (s : State) (b : Nat) : Bool :=
  s.bit 0x00380040 b || (decide (b < 6) && (s.threadsOf b).any fun e => e.2.inst == 0) ||
    (decide (8 ≤ b) && decide (b < 16) && s.ca.groups.any fun e => e.1 == b - 8 && e.2.launch.req.inst == 0)

/-- R440: a claim arises over the hints that stand for a block: each is counted once. -/
def State.claimOver (s : State) (b : Nat) : State :=
  (upTo 16).foldl (fun s i => if s.bit (instKey i 0x5000) b then s.bump (instKey i 0x4014) else s) s

/-- A block takes an item for instance `i`: it is awake, and an item of I0 is a claim on it. -/
def State.blockTakes (s : State) (b i : Nat) : State :=
  let s := if i = 0 && !s.blockClaimed b then s.claimOver b else s
  { s with dozing := putBits s.dozing b 1 0 }

/-- R11, R12: the TRAPEN and WAITLIM that hold for a thread: of a child its parent's, of a cell thread the registers'. -/
def State.threadLimits (s : State) (c : Nat) (isCell : Bool) (parent parentUid : Nat) : Nat × Nat :=
  let own := (s.fld (egKey c 0x0C) 0 12, s.fld (egKey c 0x44) 0 16)
  match s.threadAt c parent with
  | some p => if !isCell && p.uid == parentUid then (p.trapen, p.waitlim) else own
  | none => own

/-- R219: starts a thread in a context. -/
def State.startThread (s : State) (c t : Nat) (core : EgCore) (gseq inst : Nat) (isCell : Bool) (parent parentUid : Nat) : State :=
  let wsa := zeroAs 1 (s.fld (egKey c 0x10) 0 8)
  let core := { core with spp := 0x1000, spl := 0x1000 - 16 * wsa }
  let lim := s.threadLimits c isCell parent parentUid
  let x : Thread := {
    core, gseq, inst, isCell, parent, parentUid, uid := s.eg.nextUid, since := s.now, trapen := lim.1, waitlim := lim.2 }
  let s := (s.blockTakes c inst).clearMem (frameAddr c t) 0x1000
  ({ s with eg := { s.eg with nextUid := s.eg.nextUid + 1 } }).setThread c t x

/-- Table 6.13: a cell thread's core at `entry`. -/
def cellCore (entry : Nat) : EgCore :=
  { pc := entry, p := [(0, 0x1040), (1, 0x1000), (3, 0x4000)] }

/-- Table 6.13: a forked child's core. -/
def EgCore.child (x : EgCore) (target : Nat) : EgCore :=
  { pc := target, bm := x.bm, g := x.g, p := x.p, sbank := x.sbank, farbl := x.farbl, farbh := x.farbh }

/-- The live threads of cell `g`, as (cluster, thread ID). -/
def State.cellThreads (s : State) (g : Nat) : List (Nat × Nat) :=
  (s.eg.threads.filter fun e => e.2.gseq == g && !e.2.stopped).map fun e => (e.1 / 32, e.1 % 32)

/-- Whom an error of a thread concerns: a tenant by name, I0 as shared (R547). -/
def Thread.who (x : Thread) (c t : Nat) : Who :=
  { inst := if x.inst = 0 then none else some x.inst, master := egId c t, gseq := some x.gseq }

/-- The INST of the thread's cell (R234). -/
def State.cellInst (s : State) (g : Nat) : Nat :=
  match s.cellAt g with
  | some c => c.hdr.inst
  | none => 0

/-! ## Grants (R420 to R422) -/

/-- A grant range holds a page with the rights asked for. -/
def Grant.gives (g : Grant) (page : Nat) (rd wr : Bool) : Bool :=
  decide (g.page ≤ page) && decide (page < g.page + g.pages) && (!rd || g.canRead) && (!wr || g.canWrite)

/-- The grants of an instance allow bytes `a` to `a + n - 1`, which lie in one region of the map. -/
def State.granted (s : State) (i a n : Nat) (rd wr : Bool) : Bool :=
  let x := s.instAt i
  if i = 0 then true
  else if a < 0x800000000 then
    (List.range ((a + n - 1) / 4096 - a / 4096 + 1)).all fun k => x.grants.any fun g => g.gives (a / 4096 + k) rd wr
  else if a < 0x1001000000 then false
  else if a < 0x1002000000 then
    let c := (a - 0x1001000000) / 0x100000
    let o := (a - 0x1001000000) % 0x100000
    (List.range ((o + n - 1) / 0x8000 - o / 0x8000 + 1)).all fun k => bitAt (x.q (6 + c) 1) (o / 0x8000 + k)
  else bitAt (x.q 0x19 1) ((a - 0x1002000000) / 0x40000)

/-! ## The decision log's sites (R485) -/

/-- A DECISION of a master: in SHADOW and REPLAY the next entry of TYPE `type` for it, else nothing. -/
def State.masterNext (s : State) (type m : Nat) : Option DEntry := s.siteNext type fun e => e.master == m

/-- Takes it. -/
def State.masterTake (s : State) (type m : Nat) : State := s.siteTake type fun e => e.master == m

/-- The WAITLIM that holds for the thread of a context. -/
def State.waitLimit (s : State) (c t : Nat) : Nat := match s.threadAt c t with | some x => x.waitlim | none => 0

/-- R239, Table 15.3 WAIT: whether the end of a thread's wait with outcome `k` may take place now: WAITLIM is
0, or the site's next entry names it. -/
def State.waitMay (s : State) (c t k : Nat) : Bool :=
  s.waitLimit c t == 0 || !s.followsSite 0x0A (fun e => e.master == egId c t) ||
    (match s.masterNext 0x0A (egId c t) with | some e => leAt e.body 0 1 == k | none => false)

/-- Records or takes that outcome. -/
def State.waitEnds (s : State) (c t k : Nat) : State :=
  if s.waitLimit c t = 0 then s
  else if s.followsSite 0x0A (fun e => e.master == egId c t) then s.masterTake 0x0A (egId c t)
  else s.decision 0x0A (egId c t) (leBytes 1 k)

/-! ## Loads that have waited -/

/-- The data of a waiting load arrive and the thread goes on. -/
def State.finishLoad (s : State) (c t : Nat) (l : EgLoad) (v : Nat) : State :=
  s.modThread c t fun x => { x with
    wait := none
    core := match l.dest with
      | .reg r => l.post.put r v
      | .ptr k => l.post.put (16 + k) v }

/-! ## Completions (R240, R241, R253) -/

/-- R241: one request fewer is outstanding; a stopped context whose last one this was is free (R253). -/
def State.requestDone (s : State) (c t svc : Nat) : State :=
  match s.threadAt c t with
  | none => s
  | some x =>
    let o := NatMap.put 0 x.outst svc (NatMap.get 0 x.outst svc - 1)
    if x.stopped && o.isEmpty then s.freeContext c t else s.setThread c t { x with outst := o }

/-- R241: requests outstanding. -/
def Thread.outstanding (x : Thread) : Nat := x.outst.foldl (fun a e => a + e.2) 0

/-- EG_Cc_SVCERR_CNT: a completion with a status other than OK or PAST; Belfry's lock outcomes are none. -/
def State.svcErr (s : State) (c svc status : Nat) : State :=
  if status = 0 || status = 6 || (svc = 5 && 0x20 ≤ status) then s else s.bump (egKey c 0x5C)

/-- A service answers a thread's request on its reply channel, or the completion is discarded (R253). -/
def State.complete (s : State) (r : HelpReq) (svc status : Nat) : State :=
  let s := s.svcErr r.c svc status
  match s.threadAt r.c r.t with
  | none => s
  | some x =>
    if x.uid ≠ r.uid then s
    else if x.stopped then s.requestDone r.c r.t svc
    else s.setThread r.c r.t { x with replies := x.replies ++ [(svc, r.tag + 256 * svc + 65536 * status)] }

/-! ## Request blocks (R240) -/

/-- The place of a local data address: the thread frame or the shared window. -/
def blockAddr (c t sbank a : Nat) : Nat :=
  if a < 0x1000 then frameAddr c t + a else sharedAddr c + 0x8000 * sbank + (a - 0x4000)

/-- R200, R421: bank `k` of cluster `c` may be used for instance `i`. -/
def State.bankOk (s : State) (i c k : Nat) : Bool := decide (k < 8) && (i == 0 || bitAt ((s.instAt i).q (6 + c) 1) k)

/-- R240: a request block of `n` bytes is aligned and lies wholly in the thread frame or the shared window. -/
def State.blockOk (s : State) (r : HelpReq) (n : Nat) : Bool :=
  r.blk % 8 == 0 &&
    (decide (r.blk + n ≤ 0x1000) ||
      (decide (0x4000 ≤ r.blk) && decide (r.blk + n ≤ 0xC000) && s.bankOk r.inst r.c r.sbank))

/-- Reads bytes of a request's block. -/
def State.blockRead (s : State) (r : HelpReq) (off n : Nat) : State × Option (List Byte) :=
  s.rdMem (blockAddr r.c r.t r.sbank (r.blk + off)) n
    { inst := if r.inst = 0 then none else some r.inst, master := egId r.c r.t, gseq := some r.gseq }

/-- Writes bytes of a request's block. -/
def State.blockWrite (s : State) (r : HelpReq) (off : Nat) (l : List Byte) : State :=
  (s.wrMem (blockAddr r.c r.t r.sbank (r.blk + off)) l
    { inst := if r.inst = 0 then none else some r.inst, master := egId r.c r.t, gseq := some r.gseq }).1

end Sys2Proof.Machine
end

