-- ==== Sys2Proof/Machine/BelfryOps.lean ====
section
/-! DEFINITION. Belfry: the directory, grants, abandonment and atomics, as shared operations (spec/10). -/
namespace Sys2Proof.Machine

/-- BF_STAT, BF_ERR and BF_IQi. -/
abbrev bfStat : Nat := 0x00350000
abbrev bfErr : Nat := 0x00350004
abbrev bfIq (i : Nat) : Nat := 0x00350040 + 4 * i

/-- Table 10.2: lock operations and atomics. -/
def bfIsLock (op : Nat) : Bool := decide (1 ≤ op) && decide (op ≤ 4)
def bfIsAtomic (op : Nat) : Bool := decide (0x10 ≤ op) && decide (op ≤ 0x13)

/-- R347, R348: the status with which a request ends at once, if any. A lock's address
lies in any region of Table 9.1; a tenant's lock needs a grant of either right, its READ a grant to read, and another
atomic both. -/
def State.bfCheck (s : State) (r : BfReq) : State × Option Nat :=
  let a := r.addr
  let free := r.master = 0x300 || r.inst = 0
  if !bfIsLock r.op && !bfIsAtomic r.op then (s, some 1)
  else if a % 8 ≠ 0 then (s, some 2)
  else if !s.mapOk (if r.master = 0x300 || bfIsLock r.op then .sup else .inst) a 8 then (s.mapErr, some 2)
  else
    let word := decide (a < 0x800000000) || (decide (0x1001000000 ≤ a) && decide (a < 0x1002200000))
    let right := if bfIsLock r.op then s.granted r.inst a 8 true false || s.granted r.inst a 8 false true
      else s.granted r.inst a 8 true (r.op != 0x13)
    if (bfIsAtomic r.op && !word) || !(free || right) then (s, some 2) else (s, none)

/-! ## Completions -/

/-- R380: a Belfry status as a mailbox status. -/
def bfMbStatus (b : Nat) : Nat :=
  match b with
  | 0 => 0 | 1 => 0x0103 | 2 => 0x0105 | 4 => 0x0301 | b => 0x0500 + b

/-- R360, R485: whether the end of a port-form wait may take place now: in SHADOW and REPLAY, once the log says that the wait
completed. -/
def State.bfReady (s : State) (r : BfReq) : Bool :=
  match r.form with
  | .port c t uid =>
    (match s.threadAt c t with
     | some x => x.uid != uid || x.stopped || s.waitMay c t 0
     | none => true)
  | _ => true

/-- R345, R348, R380: a request completes, or waits until the log lets its port-form wait end. -/
def State.bfComplete (s : State) (r : BfReq) (status : Nat) (result : Option Nat) : State :=
  if !s.bfReady r then { s with bf := { s.bf with queue := s.bf.queue ++ [{ r with done := some (status, result) }] } }
  else match r.form with
  | .chan q =>
    let s := match result with
      | some v => s.blockWrite q 0x18 (leBytes 8 v)
      | none => s
    s.complete q 5 status
  | .port c t uid =>
    let s := s.svcErr c 5 status
    match s.threadAt c t with
    | none => s
    | some x =>
      if x.uid ≠ uid then s
      else if x.stopped then s.requestDone c t 5
      else
        let w := match result with
          | some v => putAt x.window 0x18 (leBytes 8 v)
          | none => x.window
        let s := (s.setThread c t { x with window := w }).requestDone c t 5
        match x.wait with
        | some (.belfry l two) =>
          let hi := if two then 256 * (Config.wideBelfry s.fresh).toNat else 0
          (s.waitEnds c t 0).tick.finishLoad c t l (status + hi)
        | _ => s
  | .host m =>
    let body := match result with
      | some v => if bfIsAtomic r.op then leBytes 8 v else if r.op = 1 && status = 0 then leBytes 2 v else []
      | none => []
    s.mbAnswer m (bfMbStatus status) body
  | .log => s

/-! ## The directory (R349, R350, R352, R361) -/

/-- The entry for an address. -/
def State.bfEntry (s : State) (a : Nat) : Option BfEntry := s.bf.dir.find? fun e => e.addr == a

/-- Puts an entry back; it is freed with no owner, no waiting ticket and no mark (R349). -/
def State.bfPut (s : State) (e : BfEntry) : State :=
  let rest := s.bf.dir.filter fun x => x.addr != e.addr
  let keep := e.owner.isSome || !e.waiters.isEmpty || e.marked || e.lost
  { s with bf := { s.bf with dir := if keep then e :: rest else rest } }

/-- BELFRY detail of Table 18.2. -/
def bfDetail (e : BfEntry) (ended : Nat) : List Byte :=
  leBytes 5 e.addr ++ [0] ++ leBytes 2 ended ++ leBytes 2 e.serve ++ leBytes 2 e.next ++ leBytes 4 0

/-- R361: an access to an entry meets its errors; an uncorrectable one, which has the record of R361 and no other, loses
the lock's state. -/
def State.bfChk (s : State) (e : BfEntry) : State :=
  let a := belfryBase + 8 * e.slot
  let k := s.eccAt a
  if k = 0 then s
  else if k = 1 then (s.eccNote 1 a).setEcc a 0
  else
    let s := ((s.eccCount k a).setEcc a 0).setBit bfErr 1
    let s := s.record { block := 0x0E, code := 0x0031, sev := 3, dkind := 4, detail := bfDetail e 0xFFFF }
    let s := s.bfPut { e with owner := none, waiters := [], marked := false, lost := true }
    e.waiters.foldl (fun s w => s.bfComplete w.req 4 none) s

/-- R350, R356: SERVE passes over withdrawn tickets. -/
def BfEntry.pass : Nat → BfEntry → BfEntry
  | 0, e => e
  | n + 1, e =>
    if e.gone.contains e.serve then
      BfEntry.pass n { e with serve := (e.serve + 1) % 0x10000, gone := e.gone.filter (· != e.serve) }
    else e

/-- R350, R355: a lock without owner is granted to the holder of ticket SERVE, once the log lets its wait end (R360). -/
def State.bfGrant (s : State) (e : BfEntry) : State :=
  let e := e.pass e.gone.length
  if e.owner.isSome then s.bfPut e
  else match e.waiters.find? fun w => w.num == e.serve with
    | none => s.bfPut e
    | some w =>
      if !s.bfReady w.req then s.bfPut e else
      let s := s.bfPut { e with owner := some w.req.master, waiters := e.waiters.filter fun x => x.num != w.num }
      s.bfComplete w.req (if e.marked then 0x20 else 0) (some w.num)

/-- The owner gives up: SERVE moves on and the next ticket is served. -/
def State.bfLeave (s : State) (e : BfEntry) (marked : Bool) : State :=
  s.bfGrant { e with owner := none, serve := (e.serve + 1) % 0x10000, marked := marked }

/-- R354: the owner has ended; the record holds SERVE and NEXT as the abandonment leaves them. -/
def State.bfAbandon (s : State) (e : BfEntry) (master inst : Nat) : State :=
  let next := { e with owner := none, serve := (e.serve + 1) % 0x10000, marked := true }
  let s := (s.bump 0x00350018).record {
    block := 0x0E, code := 0x0030, sev := 2, dkind := 4, inst := if inst = 0 then none else some inst
    master := master, detail := bfDetail (next.pass next.gone.length) master }
  s.bfLeave e true

/-- R352: allocates an entry; none answers BUSY_FULL. -/
def State.bfAlloc (s : State) (r : BfReq) : State × Option BfEntry :=
  let used := (s.bf.dir.filter fun e => e.inst == r.inst).length
  if 2048 ≤ s.bf.dir.length then ((s.bump 0x00350010).setBit bfErr 2, none)
  else if s.fld (bfIq r.inst) 16 12 ≤ used then ((s.bump 0x00350014).setBit bfErr 2, none)
  else
    let slot := (lowest 2048 fun k => !s.bf.dir.any fun e => e.slot == k).getD 0
    let e : BfEntry := { slot, addr := r.addr, inst := r.inst }
    -- the new entry is a write of its whole granule (R334)
    let s := { s with bf := { s.bf with dir := e :: s.bf.dir } }.setEcc (belfryBase + 8 * slot) 0
    (s.setFld bfStat 16 12 (max (s.fld bfStat 16 12) (min 0xFFF s.bf.dir.length)), some e)

/-- R360, Table 15.3 LOCK: the entry of a lock operation. -/
def bfBody (addr op ticket status : Nat) : List Byte :=
  leBytes 5 addr ++ leBytes 1 op ++ leBytes 2 ticket ++ leBytes 1 status

/-- R360, R485: a LOCK (0x03) or ATOMIC (0x04) entry of an address, its master and its OP. -/
def isBfEntry (addr : Nat) (e : DEntry) : Bool := leAt e.body 0 5 == addr

/-- R360: whether the log lets a request take place now. -/
def State.bfMay (s : State) (r : BfReq) : Bool :=
  let type := if bfIsLock r.op then 0x03 else 0x04
  !s.followsSite type (isBfEntry r.addr) ||
    (match s.siteNext type (isBfEntry r.addr) with
     | some e => e.master == r.master && leAt e.body 5 1 == r.op
     | none => false)

/-- R360: records or takes a request's entry. -/
def State.bfLog (s : State) (r : BfReq) (ticket status : Nat) : State :=
  let type := if bfIsLock r.op then 0x03 else 0x04
  if s.followsSite type (isBfEntry r.addr) then s.siteTake type (isBfEntry r.addr)
  else s.decision type r.master (if bfIsLock r.op then bfBody r.addr r.op ticket status else leBytes 5 r.addr ++ leBytes 1 r.op)

/-! ## Lock operations (R350 to R356) -/

/-- A lock operation ends at once. -/
def State.bfEnds (s : State) (r : BfReq) (status ticket : Nat) (result : Option Nat) : State :=
  (s.bfLog r ticket status).bfComplete r status result

/-- ACQUIRE and TRYACQ take ticket NEXT. -/
def State.bfTicket (s : State) (r : BfReq) (e : BfEntry) : State :=
  let s := s.bfLog r e.next (if e.owner.isNone && e.marked then 0x20 else 0)
  s.bfGrant { e with next := (e.next + 1) % 0x10000, waiters := e.waiters ++ [⟨e.next, r⟩] }

/-- R344, R349 to R355: the arbiter performs a lock operation. -/
def State.bfLock (s : State) (r : BfReq) : State :=
  let s := match s.bfEntry r.addr with
    | some e => if e.lost then s else s.bfChk e
    | none => s
  match s.bfEntry r.addr with
  | none =>
    if r.op = 1 || r.op = 2 then
      match s.bfAlloc r with
      | (s, some e) => s.bfTicket r e
      | (s, none) => s.bfEnds r 0x21 0 none
    else s.bfEnds r 0x24 0 none
  | some e =>
    if e.lost then s.bfEnds r 4 0 none
    else if r.op = 1 || r.op = 2 then
      if e.owner = some r.master then s.bfEnds r 0x26 0 none
      else if r.op = 2 && (e.owner.isSome || !e.waiters.isEmpty) then s.bfEnds r 0x22 0 none
      else s.bfTicket r e
    else if e.owner.isNone then s.bfEnds r 0x24 0 none
    else if e.owner ≠ some r.master then (s.bump 0x0035001C).bfEnds r 0x23 0 none
    else (s.bfEnds r 0 e.serve none).bfLeave e (e.marked && r.op != 4)

/-! ## Atomics (R344, R358, R359) -/

/-- The new word, the status and the old word. -/
def bfCompute (op old opa opb : Nat) : Option Nat × Nat :=
  match op with
  | 0x10 => (some ((old + opa) % 2 ^ 64), 0)
  | 0x11 => (some opa, 0)
  | 0x12 => if old = opa then (some opb, 0) else (none, 0x25)
  | _ => (none, 0)

/-- The requester as an error record names it. -/
def BfReq.who (r : BfReq) : Who :=
  { inst := if r.inst = 0 then none else some r.inst, master := r.master, gseq := r.gseq
    mbox := match r.form with | .host m => m | _ => 0xFF }

/-- Performs an atomic; its status and result. An address whose lock is lost answers ECC_UE (R361). -/
def State.bfAtomic (s : State) (r : BfReq) : State × Nat × Option Nat :=
  let s := s.bfLog r 0 0
  if (s.bfEntry r.addr).any (·.lost) then (s, 4, none)
  else match s.rdMem r.addr 8 r.who 4 with
  | (s, none) => (s, 4, none)
  | (s, some l) =>
    let old := ofLe l
    let (new, status) := bfCompute r.op old r.opa r.opb
    let s := if status = 0x25 then s.bump 0x00350020 else s
    match new with
    | none => (s, status, some old)
    | some v =>
      match s.wrMem r.addr (leBytes 8 v) r.who 4 with
      | (s, true) => (s, 4, none)
      | (s, false) => (s, status, some old)

/-! ## Arrival and order -/

/-- R350, R358: the order of arrival; of one instant, the order of master IDs. -/
def bfInsert (r : BfReq) : List BfReq → List BfReq
  | [] => [r]
  | q :: qs => if q.at_ = r.at_ && q.done.isNone && r.master < q.master then r :: q :: qs else q :: bfInsert r qs

/-- A request reaches Belfry: refused at once, or queued in order of arrival. -/
def State.bfOffer (s : State) (r : BfReq) : State :=
  match s.bfCheck r with
  | (s, some st) => s.bfComplete r st none
  | (s, none) =>
    let r := { r with at_ := s.now, num := s.bf.nextNum }
    { s with bf := { s.bf with queue := bfInsert r s.bf.queue, nextNum := s.bf.nextNum + 1 } }

/-- Removes the first request equal to `r`. -/
def State.bfPop (s : State) (r : BfReq) : State := { s with bf := { s.bf with queue := s.bf.queue.erase r } }

/-- R360, R381: operations of host masters, whose requests reach only the lead, are done as the log names them. The log does
not hold the operands of an atomic: they are free values. -/
def State.bfHosts : Nat → State → State
  | 0, s => s
  | n + 1, s =>
    let isNext (e : DEntry) : Bool :=
      (e.type == 0x03 || e.type == 0x04) && 0x200 ≤ e.master && s.siteNext e.type (isBfEntry (leAt e.body 0 5)) == some e
    match s.dlogIn.find? isNext with
    | none => s
    | some e =>
      let a := leAt e.body 0 5
      let r : BfReq := {
        master := e.master, inst := if e.master < 0x210 then e.master - 0x200 else 0, op := leAt e.body 5 1, addr := a
        opa := (Config.hostOperand s.fresh).toNat, opb := (Config.hostOperand s.tick.fresh).toNat, form := .log, gseq := none }
      State.bfHosts n (if e.type = 0x04 then (s.tick.tick.bfAtomic r).1 else s.bfLock r)

/-- R360: locks whose grant waited for the log are granted. -/
def State.bfRetry (s : State) : State :=
  if !s.followsLog then s
  else (s.bf.dir.map (·.addr)).foldl (fun s a =>
    match s.bfEntry a with
    | some e => if e.owner.isNone && !e.waiters.isEmpty then s.bfGrant e else s
    | none => s) s

/-- Withdraws the waiting tickets on one lock that satisfy `p`. -/
def State.bfWithdraw (s : State) (e : BfEntry) (p : BfReq → Bool) : State :=
  let (mine, rest) := e.waiters.partition fun w => p w.req
  if mine.isEmpty then s
  else
    let s := mine.foldl (fun s w =>
      match w.req.form with
      | .port c t _ => s.requestDone c t 5
      | .chan q => s.requestDone q.c q.t 5
      | _ => s) s
    s.bfGrant { e with waiters := rest, gone := e.gone ++ mine.map (·.num) }

/-- R354, R356: a master has ended. Once none of its requests waits any more, its waiting tickets are withdrawn and its locks
abandoned. -/
def State.bfFinish (s : State) (master inst : Nat) : State :=
  if s.bf.queue.any fun q => q.master == master then s
  else
    let s := (s.bf.dir.map (·.addr)).foldl (fun s a =>
      match s.bfEntry a with
      | some e => s.bfWithdraw e fun r => r.master == master
      | none => s) s
    (s.bf.dir.map (·.addr)).foldl (fun s a =>
      match s.bfEntry a with
      | some e => if e.owner = some master then s.bfAbandon e master inst else s
      | none => s) s

/-- Performs a request that waits, and completes it. -/
def State.bfPerform (s : State) (r : BfReq) : State :=
  let s := s.bfPop r
  if let some d := r.done then s.bfComplete r d.1 d.2
  else if bfIsLock r.op then s.bfLock r
  else
    let (s, st, res) := s.bfAtomic r
    s.bfComplete r st res

/-- R350: the arbiter takes `r` if it is the first lock request that waits. In SHADOW and REPLAY the log orders
the requests of each lock instead (R360). -/
def State.bfTakeLock (s : State) (r : BfReq) : State :=
  let s := (s.bfHosts s.dlogIn.length).bfRetry
  let first := s.bf.queue.find? fun q =>
    bfIsLock q.op && q.done.isNone && (!s.followsLog || q.addr == r.addr) && s.bfMay q
  if first ≠ some r then s
  else if r.ended then (s.bfPerform r).bfFinish r.master r.inst
  else (s.bfPop r).bfLock r

/-- R358: performs `r` if no earlier atomic on its word waits and fewer than 16 are in flight. -/
def State.bfTakeAtomic (s : State) (r : BfReq) : State :=
  let s := (s.bfHosts s.dlogIn.length).bfRetry
  let first := s.bf.queue.find? fun q => bfIsAtomic q.op && q.done.isNone && q.addr == r.addr && s.bfMay q
  let flight := (s.bf.queue.filter fun q => bfIsAtomic q.op && q.done.isSome).length
  if first ≠ some r || 16 ≤ flight then s
  else if r.ended then (s.bfPerform r).bfFinish r.master r.inst
  else
    let (s, status, result) := s.bfAtomic r
    let done := some (status, result)
    { s with bf := { s.bf with queue := s.bf.queue.map fun q => if q = r then { q with done := done } else q } }

/-- R345: a thread's oldest request of operation `op` that has not been taken. -/
def State.bfOf (s : State) (master op : Nat) : Option BfReq :=
  s.bf.queue.find? fun q => q.master == master && q.op == op && q.done.isNone

/-! ## A master ends (R354, R356) -/

/-- R380, R534: the request that mailbox `m` has made at Belfry is given up. -/
def State.bfHostEnd (s : State) (m : Nat) : State :=
  let s : State := { s with bf := { s.bf with queue := s.bf.queue.filter fun r => r.form != BfForm.host m } }
  (s.bf.dir.map (·.addr)).foldl (fun s a =>
    match s.bfEntry a with
    | some e => s.bfWithdraw e fun r => r.form == BfForm.host m
    | none => s) s

/-- The first request that waits which must be taken before a master's last one is: its own, and an earlier lock request, or
earlier atomic on the same word, of another master. In SHADOW and REPLAY the log must name it (R360). -/
def State.bfNeeded (s : State) (master : Nat) : List BfReq → Option BfReq
  | [] => none
  | q :: qs =>
    let ahead := q.done.isNone && qs.any fun p => p.master == master && p.done.isNone &&
      (bfIsLock q.op && bfIsLock p.op || bfIsAtomic q.op && bfIsAtomic p.op && q.addr == p.addr)
    if (q.master == master || ahead) && (q.done.isSome || s.bfMay q) then some q else s.bfNeeded master qs

/-- Takes them in order of arrival. -/
def State.bfDrain : Nat → Nat → State → State
  | 0, _, s => s
  | n + 1, master, s =>
    let s := s.bfHosts s.dlogIn.length
    match s.bfNeeded master s.bf.queue with
    | some r => State.bfDrain n master (s.bfPerform r)
    | none => s

/-- R354, R356: a master ends: its requests that arrived earlier are taken first, in their order among all requests; then its
waiting tickets are withdrawn and its locks abandoned. A request that the log does not name yet holds the end back. -/
def State.bfEnd (s : State) (master inst : Nat) : State :=
  let mark (q : BfReq) : BfReq := if q.master = master then { q with ended := true } else q
  let s := { s with bf := { s.bf with queue := s.bf.queue.map mark } }
  (State.bfDrain s.bf.queue.length master s).bfFinish master inst

end Sys2Proof.Machine
end

