-- ==== Sys2Proof/Machine/EgretOps.lean ====
section
/-! DEFINITION. Traps, parking, stopping and the data address maps of Egret threads and Herons, as shared
operations (spec/05 R155, R161; spec/06 R198 to R218; spec/07 R237, R241, R249, R253). -/
namespace Sys2Proof.Machine

/-! ## Posted far stores (R202) -/

/-- A posted store completes; the error record names the thread's cell. -/
def State.postedDone (s : State) (c t : Nat) (p : Posted) : State :=
  match s.threadAt c t with
  | none => s
  | some x =>
    let w := x.who c t
    let (s, err) := match p.acc with
      | some id => s.dramEndWrite id
      | none => s.wrMem p.dev p.bytes w
    let s := s.modThread c t fun x => { x with posted := x.posted.erase p, postErr := x.postErr || err }
    if err then
      let (gr, flags) := s.failedGranule p.dev p.bytes.length
      let (memid, _, addr) := memInfo gr
      let syn := s.eccSyn 5
      s.tick.record { w.src 0x0A 0x0010 2 with
        dkind := 1, unit := c, detail := memDetail addr memid syn flags (if memid = 0xF0 then c / 3 else 0xF) }
    else s

/-- Completes every posted store of a thread. -/
def State.postedAll (s : State) (c t : Nat) : State :=
  match s.threadAt c t with
  | some x => x.posted.foldl (fun s p => s.postedDone c t p) s
  | none => s

/-! ## Slot tables (R229 to R232) -/

/-- EG_Cc_SLOTk_CTL of core `k` of cluster `c`; EG_Cc_SLOTk_TAB follows it. -/
abbrev slotKey (c k : Nat) : Nat := 0x00200100 + 0x10000 * c + 8 * k

/-- R229: slots per round of a core. -/
def State.slotsPerRound (s : State) (c k : Nat) : Nat := clampNat 4 16 (s.fld (slotKey c k) 0 5)

/-- R229: the context that slot `j` names. -/
def State.slotNames (s : State) (c k j : Nat) : Nat :=
  if j < 4 then j else s.fld (slotKey c k + 4) (2 * (j - 4)) 2

/-- Context `x` of core `k` is runnable. -/
def State.ctxRuns (s : State) (c k x : Nat) : Bool := (s.threadAt c (4 * k + x)).any Thread.runnable

/-- R230: the context to which slot `j` goes in WEIGHTED mode: the named one, or the next runnable one in cyclic order. -/
def State.slotWeighted (s : State) (c k j : Nat) : Option Nat :=
  ((upTo 4).map fun i => (s.slotNames c k j + i) % 4).find? (s.ctxRuns c k)

/-- R231: the context to which slot `j` goes in GREEDY mode. The first slot that names context x is slot x. -/
def State.slotGreedy (s : State) (c k j : Nat) : Option Nat :=
  let g := s.fld (slotKey c k) 9 2
  if j < 4 && j != g && s.ctxRuns c k j then some j
  else if s.ctxRuns c k g then some g
  else s.slotWeighted c k j

/-- R229: the slot at which the core stands. -/
def State.slotAt (s : State) (c k : Nat) : Nat := NatMap.get 0 s.eg.slots (8 * c + k) % s.slotsPerRound c k

/-- R229 to R231: the context that issues in the core's slot; none where no context is runnable. -/
def State.slotGives (s : State) (c k : Nat) : Option Nat :=
  if s.bit (slotKey c k) 8 then s.slotGreedy c k (s.slotAt c k) else s.slotWeighted c k (s.slotAt c k)

/-- Whether the unit issues now: a thread in its core's slot; a Heron, which has one parse, always. -/
def State.slotTurn (s : State) (u : EgUnit) : Bool :=
  match u with
  | .thread c t => s.slotGives c (t.val / 4) == some (t.val % 4)
  | .heron _ => true

/-- The core goes on to its next slot. -/
def State.slotNext (s : State) (u : EgUnit) : State :=
  match u with
  | .thread c t =>
    let p := (s.slotAt c (t.val / 4) + 1) % s.slotsPerRound c (t.val / 4)
    { s with eg := { s.eg with slots := NatMap.put 0 s.eg.slots (8 * c + t.val / 4) p } }
  | .heron _ => s

/-- R229: while no context of a core is runnable its slots pass and issue nothing, so that the slot at which it stands when one
is again is a free value. -/
def State.coreIdle (s : State) (c k : Nat) : State :=
  if (upTo 4).any (s.ctxRuns c k) then s
  else { s with eg := { s.eg with slots := NatMap.put 0 s.eg.slots (8 * c + k) (Config.idleSlot s.fresh) } }.tick

/-- The unit's core after its word. -/
def State.slotIdle (s : State) (u : EgUnit) : State :=
  match u with
  | .thread c t => s.coreIdle c (t.val / 4)
  | .heron _ => s

/-! ## Stopping and parking (R218, R253) -/

/-- R253, R354: a thread stops: the operation it waits in does not take place, its completions are discarded, its
locks are abandoned, and its context is free after its last outstanding request. -/
def State.stopThread (s : State) (c t : Nat) : State :=
  let s := s.postedAll c t
  match s.threadAt c t with
  | none => s
  | some x =>
    if x.stopped then s
    else
      let o := x.replies.foldl (fun o r => NatMap.put 0 o r.1 (NatMap.get 0 o r.1 - 1)) x.outst
      let s := match x.wait with
        | some (.far _ (some id) _ _) => s.dramTake id
        | _ => s
      let s := s.setThread c t { x with stopped := true, wait := none, replies := [], outst := o }
      let s := s.bfEnd (egId c t) x.inst
      match s.threadAt c t with
      | some y => (if y.uid = x.uid && y.outst.isEmpty then s.freeContext c t else s).coreIdle c (t / 4)
      | none => s.coreIdle c (t / 4)

/-- Every live thread of a cell stops. -/
def State.stopCell (s : State) (g : Nat) : State :=
  (s.cellThreads g).foldl (fun s e => s.stopThread e.1 e.2) s

/-- EGRET detail of Table 18.2. -/
def egDetail (core : EgCore) (cause t chf action stream : Nat) : List Byte :=
  leBytes 1 cause ++ leBytes 1 t ++ leBytes 2 core.pc ++ leBytes 2 core.taddr ++ leBytes 2 core.tstate ++
    leBytes 1 (core.flagBits + 16 * b2n core.bm + 32 * b2n core.ts) ++ leBytes 1 core.cwp ++
    leBytes 1 (min 255 core.depth) ++ leBytes 1 core.residents ++ leBytes 2 core.spp ++ leBytes 2 core.spl ++
    (upTo 4).flatMap (fun k => leBytes 2 (core.ptr k)) ++
    (upTo 8).map (fun k => BitVec.ofNat 8 (NatMap.get 0 core.g k)) ++
    (upTo 48).map (fun k => BitVec.ofNat 8 (NatMap.get 0 core.win k)) ++
    leBytes 4 chf ++ leBytes 2 action ++ leBytes 2 stream ++ List.replicate 8 0

/-- R218: parks a thread with a cause; its cell takes its action's fault disposition (R45, R46). -/
def State.park (s : State) (c t cause : Nat) (core : EgCore) : State :=
  match s.threadAt c t with
  | none => s
  | some x =>
    let (action, stream) := match s.cellAt x.gseq with
      | some k => (k.hdr.action, k.hdr.stream)
      | none => (0, 0)
    let s := s.record { (x.who c t).src 0x0A 0x0020 2 with
      dkind := 2, unit := c, detail := egDetail core cause t (s.regW (egKey c 0x48)) action stream }
    let s := (s.bump (egKey c 0x24)).setBit (egKey c 0x04) 1
    let s := if cause = 0x1F then (s.bump (egKey c 0x28)).setBit (egKey c 0x04) 2 else s
    (s.stopCell x.gseq).faultCell x.gseq

/-! ## Traps (R212 to R217) and parse faults (R161) -/

/-- R161: a parse is aborted: bit 1 ABORT at the step limit, bit 2 FAULT. -/
def State.abortParse (s : State) (k bit : Nat) : State :=
  match s.eg.herons.find? fun e => e.1 == k with
  | none => s
  | some e =>
    let s := (s.bump (if bit = 1 then 0x001A0030 else 0x001A0034)).setBit hnErr bit
    ((s.modCell e.2.gseq fun c => { c with stage := .held k .null }).classifyCell e.2.gseq).reap.trimOld.weirRun

/-- A cause of Table 6.11. -/
structure Trap where
  vec : Nat
  /-- the resume address is the next word -/
  nextWord : Bool := false
  slot : Nat := 0
  pair : Bool := false
  tinfo : Nat := 0
  taddr : Option Nat := none

/-- R212, R213, R216, R217: a thread's word raises a trap. -/
def State.thTrap (s : State) (c t : Nat) (x : EgCore) (tr : Trap) : State :=
  let x := { x with taddr := tr.taddr.getD x.taddr }
  if x.ts then s.park c t 0x1F x
  else if !(s.threadAt c t).any fun y => bitAt y.trapen tr.vec then s.park c t tr.vec x
  else
    let tpc := if tr.nextWord then (x.pc + 1) % 0x10000 else x.pc
    let target := (s.fld (egKey c 0x08) 6 10 * 64 + 4 * tr.vec) % 0x10000
    let x := x.enterTrap tr.vec tpc tr.slot tr.tinfo target tr.pair
    (s.modThread c t fun y => { y with core := x, wait := none }).bump (egKey c 0x20)

/-- A word raises a cause of Table 6.11: a trap of a thread, or the abort of a Heron's parse. -/
def State.egTrap (s : State) (u : EgUnit) (x : EgCore) (tr : Trap) : State :=
  match u with
  | .heron k => s.abortParse k 2
  | .thread c t => s.thTrap c t x tr

/-- R238: CHANNEL_FAULT with a cause and a channel. -/
def State.chanFault (s : State) (c t : Nat) (x : EgCore) (cause chan : Nat) (slot : Nat := 0) (pair : Bool := false) : State :=
  let s := (s.setReg (egKey c 0x48) (chan % 1024 + 1024 * cause + 65536 * t)).bump (egKey c 0x58)
  s.thTrap c t x { vec := 9, slot, pair }

/-! ## Issue -/

/-- A parse in a Heron. -/
def State.heronAt (s : State) (k : Nat) : Option HeronRun := (s.eg.herons.find? fun e => e.1 == k).map (·.2)

/-- The core of a unit that may issue a word: a runnable thread, or a parse below the step limit (R161). -/
def State.unitCore (s : State) (u : EgUnit) : Option EgCore :=
  match u with
  | .thread c t =>
    match s.threadAt c t with
    | some x => if x.runnable then some x.core else none
    | none => none
  | .heron k =>
    match s.heronAt k with
    | some r =>
      let parsing := match s.cellAt r.gseq with
        | some c => c.stage == .parsing k
        | none => false
      if parsing && r.steps < r.limit then some r.core else none
    | none => none

/-- A word is done: the core after it; a Heron counts a step. -/
def State.setCore (s : State) (u : EgUnit) (x : EgCore) : State :=
  match u with
  | .thread c t => s.modThread c t fun y => { y with core := x }
  | .heron k =>
    match s.heronAt k with
    | some r => { s with eg := { s.eg with herons := NatMap.ins s.eg.herons k { r with core := x, steps := r.steps + 1 } } }
    | none => s


/-- Runs out of words: what a fetch answers. -/
inductive Fetch
  | word (w : Nat)
  | trap (tr : Trap)

/-- R155, R195, R203, R302: the word at the PC. -/
def State.egFetch (s : State) (u : EgUnit) (x : EgCore) : State × Fetch :=
  match u with
  | .thread c t =>
    if 0x4000 ≤ x.pc then (s, .trap { vec := 3 })
    else
      let who := match s.threadAt c t with | some y => y.who c t | none => {}
      match s.rdChk (progAddr c + 4 * x.pc) 4 who with
      | (s, some l) => (s, .word (ofLe l))
      | (s, none) => (s, .trap { vec := 8, taddr := some x.pc })
  | .heron k =>
    if 0x1000 ≤ x.pc then (s, .trap { vec := 3 })
    else
      let (g, ep) := match s.heronAt k with
        | some r => (r.gseq, match s.cellAt r.gseq with | some c => c.epoch | none => s.epoch)
        | none => (0, s.epoch)
      match s.rdChk (parseBase + 4 * x.pc) 4 { gseq := some g } with
      | (s, some _) => (s, .word (NatMap.get 0 (s.tablesAt ep).parse x.pc))
      | (s, none) => (s, .trap { vec := 8 })

/-- Whether a unit is a Heron. -/
def isHeron : EgUnit → Bool
  | .heron _ => true
  | .thread _ _ => false

/-- One row of the instruction set: in the unit's slot (R229), the unit fetches the word at its PC and, where it is the row's
word, runs it. A fetch fault or a reserved word traps whichever row asks (R185); a word of another row leaves the unit as it
is. -/
def State.egRow (s : State) (u : EgUnit) (op : EgOp) (body : EgCore → Nat → State → State) : State :=
  match s.unitCore u with
  | none => s
  | some x =>
    if !s.slotTurn u then s
    else match s.egFetch u x with
    | (s', .trap tr) => ((s'.slotNext u).egTrap u x tr).slotIdle u
    | (s', .word w) =>
      let o := egOp (isHeron u) w
      if o = .illegal then ((s'.slotNext u).egTrap u x { vec := 0 }).slotIdle u
      else if o = op then (body x w (s'.slotNext u)).slotIdle u
      else s

/-- A word that works within its core: the core after it, or the vector of its trap. -/
def State.egPure (s : State) (u : EgUnit) (op : EgOp) (f : Nat → EgCore → Except Nat EgCore) : State :=
  s.egRow u op fun x w s =>
    match f w x with
    | .ok y => s.setCore u y
    | .error v => s.egTrap u x { vec := v }

/-! ## The data address map (Table 6.8, Table 5.2) -/

/-- The region of Table 6.8 that holds a data address. -/
def egRegion (a : Nat) : Nat :=
  if a < 0x1000 then 0 else if a < 0x1040 then 1 else if a < 0x3640 then 2 else if a < 0x4000 then 3
  else if a < 0xC000 then 4 else if a < 0xF000 then 5 else if a < 0xF400 then 6 else if a < 0xF800 then 7
  else if a < 0xFC00 then 8 else if a < 0xFD00 then 9 else if a < 0xFFF0 then 10 else 11

/-- `n` data addresses from `a`, modulo 2^16. -/
def dataAddrs (a n : Nat) : List Nat := (upTo n).map fun i => (a + i) % 0x10000

/-- R201: the device address that a far-window address reaches. -/
def EgCore.farAddr (x : EgCore) (a : Nat) : Nat := x.farbl * 2 ^ 12 + x.farbh % 0x1000 * 2 ^ 28 + (a - 0xC000)

/-- R201, R299, R420: a far access is allowed at issue. -/
def State.farOk (s : State) (inst : Nat) (x : EgCore) (dev n : Nat) (rd wr : Bool) : State × Bool :=
  if !bitAt x.farbh 15 then (s, false)
  else if !s.mapOk .inst dev n then (s.mapErr, false)
  else (s, s.granted inst dev n rd wr)

/-- R16, R198, R203: what a payload byte of the current cell reads as. -/
def Cell.payloadByte (c : Cell) (off : Nat) : Byte := if off < c.hdr.len then c.payload.getD off 0 else 0

/-- R17, R304: the payload's place in the packet buffer. -/
def Cell.pbufAddr (c : Cell) (off : Nat) : Nat := pbufBase + 64 * c.hdr.pbuf + off

/-- R203: reads payload bytes; none where an uncorrectable error is met. -/
def State.payloadRead (s : State) (g off n : Nat) : State × Option (List Byte) :=
  match s.cellAt g with
  | none => (s, some (List.replicate n 0))
  | some c =>
    let m := min n (c.hdr.len - off)
    let (s, ok) := if m = 0 then (s, true) else
      match s.rdChk (c.pbufAddr off) m { gseq := some g } with
      | (s, some _) => (s, true)
      | (s, none) => (s, false)
    (s, if ok then some ((upTo n).map fun i => c.payloadByte (off + i)) else none)

/-- R203, R333: writes payload bytes below LEN; whether some granule was poisoned. -/
def State.payloadWrite (s : State) (g off : Nat) (l : List Byte) : State × Bool :=
  match s.cellAt g with
  | none => (s, false)
  | some c =>
    let a := c.pbufAddr off
    let bad := (s.badGranules a l.length).filter fun e => !covers a l.length e.1
    let s := (s.badGranules a l.length).foldl (fun s e =>
      if covers a l.length e.1 then s.setEcc e.1 0
      else if e.2 = 1 then (s.eccNote 1 e.1 { gseq := some g }).setEcc e.1 0
      else (s.eccNote (2 + e.2) e.1 { gseq := some g }).setEcc e.1 3) s
    let lost (i : Nat) : Bool := bad.any fun e => e.2 != 1 && e.1 / 8 == (a + i) / 8
    let p := (l.zipIdx).foldl (fun p b => if lost b.2 then p else setNth p (off + b.2) b.1) c.payload
    let s := (l.zipIdx).foldl (fun s b => if lost b.2 then s else s.wr8 (a + b.2) b.1) s
    (s.modCell g fun c => { c with payload := p }, bad.any fun e => e.2 != 1)

/-- R202, R204: the thread's own posted bytes over what memory holds. -/
def overlay (posted : List Posted) (dev : Nat) (l : List Byte) : List Byte :=
  posted.foldl (fun l p =>
    (p.bytes.zipIdx).foldl (fun l b =>
      let k := p.dev + b.2
      if dev ≤ k && k < dev + l.length then setNth l (k - dev) b.1 else l) l) l

/-- R199: the header after bytes are written at offset `off`; only REL, CF.HAS_REL, META and a lower LEN change. -/
def Header.write (h : Header) (off : Nat) (l : List Byte) : Header :=
  let at_ (o n v : Nat) : Nat :=
    (l.zipIdx).foldl (fun v b =>
      let k := off + b.2
      if o ≤ k && k < o + n then putBits v (8 * (k - o)) 8 b.1.toNat else v) v
  let len := at_ 0x1C 2 h.len
  { h with
    rel := at_ 0x10 6 h.rel, hasRel := bitAt (at_ 0x1B 1 (b2n h.hasRel)) 0
    len := if len < h.len then len else h.len
    metaBytes := leBytes 16 (at_ 0x30 16 (ofLe (padTo 16 h.metaBytes))) }

/-- R17, R199: a thread writes header bytes. A cell whose LEN becomes 0 gives up its packet-buffer space, unless it has been
forwarded, or may yet be re-run with its header as classified (R46). -/
def State.headerWrite (s : State) (g off : Nat) (l : List Byte) : State :=
  match s.cellAt g with
  | none => s
  | some c =>
    let h := c.hdr.write off l
    if h.len = 0 && !c.disposed && !(c.replayDisp && !c.hdr.rerun) then
      (s.pbufFree c.granules).modCell g fun c => { c with hdr := { h with pbuf := 0 }, granules := 0 }
    else s.modCell g fun c => { c with hdr := h }

/-- R237, R241, R345, R249, Table 6.10: one byte of a port or identity window, read without starting anything. -/
def State.portByte (s : State) (c t : Nat) (x : Thread) (a : Nat) : Nat :=
  let chan := a - 0xF000
  let usable (id : Nat) : Bool :=
    if id < 0x300 then
      let r := s.regW (0x00201000 + 0x10000 * c + 4 * id)
      bitAt r 0 && bitsOf r 1 4 == s.cellInst x.gseq
    else if id < 0x3C0 then
      let r := s.regW (0x00260000 + 4 * (id - 0x300))
      bitAt r 0 && bitAt r (8 + c) && bitsOf r 1 4 == s.cellInst x.gseq
    else (0x3F0 ≤ id && id ≤ 0x3F5) || id == 0x3FF
  match egRegion a with
  | 6 => b2n (usable chan) + 2 * b2n (0x3F0 ≤ chan && chan ≤ 0x3F5) + 4 * b2n (chan == 0x3FF)
  | 7 => if a < 0xF406 then NatMap.get 0 x.outst (a - 0xF400) else 0
  | 8 => if a < 0xF820 then leAt x.window (a - 0xF800) 1 else if a < 0xF860 then 1 else 0
  | 9 => if a = 0xFC00 then s.tb.count % 256 else if a < 0xFC08 then leAt x.sample (a - 0xFC01) 1 else 0
  | _ =>
    match a with
    | 0xFFF0 => t | 0xFFF1 => t / 4 | 0xFFF2 => c | 0xFFF3 => x.inst | 0xFFF4 => x.parent | _ => 0

/-- What an access answers. -/
inductive MemAns
  | data (l : List Byte)
  | trap (vec taddr : Nat)

/-- R198 to R203: reads `n` bytes from one region of the map other than the far window. -/
def State.regionRead (s : State) (c t : Nat) (x : Thread) (a n : Nat) : State × MemAns :=
  let who := x.who c t
  let ans (r : State × Option (List Byte)) : State × MemAns :=
    match r with
    | (s, some l) => (s, .data l)
    | (s, none) => (s, .trap 8 a)
  match egRegion a with
  | 0 => ans (s.rdChk (frameAddr c t + a) n who)
  | 1 =>
    let h := match s.cellAt x.gseq with | some k => k.hdr.toBytes | none => []
    (s, .data (padTo n ((h.drop (a - 0x1000)).take n)))
  | 2 => ans (s.payloadRead x.gseq (a - 0x1040) n)
  | 4 =>
    let dev := sharedAddr c + 0x8000 * x.core.sbank + (a - 0x4000)
    if !s.bankOk x.inst c x.core.sbank then (s, .trap 6 a)
    else match s.rdChk dev n who with
      | (s, some l) => (s, .data (overlay x.posted dev l))
      | (s, none) => (s, .trap 8 a)
  | 3 | 10 => (s, .trap 6 a)
  | _ => (s, .data ((dataAddrs a n).map fun b => BitVec.ofNat 8 (s.portByte c t x b)))

/-- Reads of words that take several bytes as one operand: bytes of one region, the far window among them, read at
once. -/
def State.thRead (s : State) (c t : Nat) (x : Thread) (a n : Nat) : State × MemAns :=
  if egRegion a = 5 then
    let dev := x.core.farAddr a
    match s.farOk x.inst x.core dev n true false with
    | (s, false) => (s, .trap 7 a)
    | (s, true) =>
      match s.rdMem dev n (x.who c t) (c / 3) with
      | (s, some l) => (s, .data l)
      | (s, none) => (s, .trap 8 a)
  else s.regionRead c t x a n

/-- R198, R199, R201: the cause with which a store of one byte at `a` faults, if it does. -/
def State.storeFault (s : State) (c : Nat) (x : Thread) (a : Nat) : Option (Nat × Nat) :=
  let len := match s.cellAt x.gseq with | some k => k.hdr.len | none => 0
  match egRegion a with
  | 0 | 1 => none
  | 2 => if a - 0x1040 < len then none else some (6, a)
  | 4 => if s.bankOk x.inst c x.core.sbank then none else some (6, a)
  | 5 => none
  | 8 => if a < 0xF820 then none else some (6, a)
  | _ => some (6, a)

/-- The bytes of an access that lie in region `r`, with the address of the first. -/
def regionPart (a : Nat) (l : List Byte) (r : Nat) : Option (Nat × List Byte) :=
  match ((dataAddrs a l.length).zip l).filter fun e => egRegion e.1 == r with
  | [] => none
  | e :: es => some (e.1, (e :: es).map (·.2))

/-- R198, R199, R201, R213: the cause with which a store of `n` bytes from `a` faults at its issue, if it does. -/
def State.storeCheck (s : State) (c : Nat) (x : Thread) (a n : Nat) : State × Option (Nat × Nat) :=
  let addrs := dataAddrs a n
  match addrs.findSome? (s.storeFault c x) with
  | some f => (s, some f)
  | none =>
    match addrs.filter fun b => egRegion b == 5 with
    | [] => (s, none)
    | b :: bs =>
      match s.farOk x.inst x.core (x.core.farAddr b) (bs.length + 1) false true with
      | (s, true) => (s, none)
      | (s, false) => (s, some (7, a))

/-- R202, R204: posted stores of the thread that overlap bytes `dev` to `dev + n - 1` complete: a later store of its own
stands. -/
def State.postedBefore (s : State) (c t : Nat) (x : Thread) (dev n : Nat) : State :=
  (x.posted.filter fun p => p.dev < dev + n && dev < p.dev + p.bytes.length).foldl (fun s p => s.postedDone c t p) s

/-- R202: a far store is posted. -/
def State.postStore (s : State) (c t dev : Nat) (l : List Byte) (who : Who) : State :=
  let (s, acc) := if dev < 0x800000000 then
      let (s, id) := s.dramOffer { port := c / 3, write := true, addr := dev, data := l, who := who }
      (s, some id)
    else (s, none)
  s.modThread c t fun y => { y with posted := y.posted ++ [⟨dev, l, acc⟩] }

/-- R198 to R202: stores bytes whose checks have passed; a far store is posted. Whether a partial write left poison (R333). -/
def State.thPut (s : State) (c t : Nat) (x : Thread) (a : Nat) (l : List Byte) : State × Bool :=
  let who := x.who c t
  let (s, p₀) := match regionPart a l 0 with
    | some f => s.wrChk (frameAddr c t + f.1) f.2 who
    | none => (s, false)
  let s := match regionPart a l 1 with
    | some f => s.headerWrite x.gseq (f.1 - 0x1000) f.2
    | none => s
  let (s, p₂) := match regionPart a l 2 with
    | some f => s.payloadWrite x.gseq (f.1 - 0x1040) f.2
    | none => (s, false)
  let (s, p₄) := match regionPart a l 4 with
    | some f =>
      let dev := sharedAddr c + 0x8000 * x.core.sbank + (f.1 - 0x4000)
      (s.postedBefore c t x dev f.2.length).wrChk dev f.2 who
    | none => (s, false)
  let s := match regionPart a l 8 with
    | some f => s.modThread c t fun y => { y with window := putAt y.window (f.1 - 0xF800) f.2 }
    | none => s
  let s := match regionPart a l 5 with
    | none => s
    | some f => s.postStore c t (x.core.farAddr f.1) f.2 who
  (s, p₀ || p₂ || p₄)

/-- R198 to R203: a store of one or two bytes: what it does, or the cause of its trap. -/
def State.thStore (s : State) (c t : Nat) (x : Thread) (a : Nat) (l : List Byte) : State × Option (Nat × Nat) :=
  if (dataAddrs a l.length).any fun b => egRegion b != egRegion a then (s, some (6, a))
  else match s.storeCheck c x a l.length with
    | (s, some f) => (s, some f)
    | (s, none) => ((s.thPut c t x a l).1, none)

/-- R155: a Heron's read of `n` bytes: scratch, header or payload. -/
def State.hnRead (s : State) (r : HeronRun) (a n : Nat) : State × Option (List Byte) :=
  let addrs := dataAddrs a n
  if !addrs.all fun b => b < 0x100 || (0x1000 ≤ b && b < 0x3640) then (s, none)
  else
    let hdr := match s.cellAt r.gseq with | some c => c.hdr.toBytes | none => []
    addrs.foldl (fun acc b =>
      match acc with
      | (s, none) => (s, none)
      | (s, some l) =>
        if b < 0x100 then (s, some (l ++ [BitVec.ofNat 8 (NatMap.get 0 r.scratch b)]))
        else if b < 0x1040 then (s, some (l ++ [hdr.getD (b - 0x1000) 0]))
        else match s.payloadRead r.gseq (b - 0x1040) 1 with
          | (s, some m) => (s, some (l ++ m))
          | (s, none) => (s, none)) (s, some [])

end Sys2Proof.Machine
end

