-- ==== Sys2Proof/Machine/Egret.lean ====
section
/-! DEFINITION. The words of the Egret instruction set that Egret threads and Herons share, and the calls and
special registers of threads (spec/06 R186 to R215). -/
namespace Sys2Proof.Machine

/-! ## Words within the core -/

/-- A register write, its flags, and the next word. -/
def EgCore.result (x : EgCore) (writes : List (Nat × Nat)) (f : FlagW) : EgCore := ((x.putAll writes).setFlags f).next

/-- ALU. R189, Table 6.4. -/
def aluWord (w : Nat) (x : EgCore) : Except Nat EgCore :=
  match aluFn (bitsOf w 9 4) (x.reg (bitsOf w 17 4)) (x.reg (bitsOf w 13 4)) x.c x.bm with
  | none => .error 0
  | some (r, f) => .ok (x.result (match r with | some v => [(bitsOf w 21 4, v)] | none => []) f)

/-- ALUI. R189. -/
def aluiWord (w : Nat) (x : EgCore) : Except Nat EgCore :=
  match aluFn (bitsOf w 13 4) (x.reg (bitsOf w 17 4)) (bitsOf w 0 8) x.c x.bm with
  | none => .error 0
  | some (r, f) => .ok (x.result (match r with | some v => [(bitsOf w 21 4, v)] | none => []) f)

/-- SHIFT. R190. -/
def shiftWord (w : Nat) (x : EgCore) : Except Nat EgCore :=
  let n := if bitAt w 14 then x.reg (bitsOf w 10 4) % 16 else bitsOf w 0 4
  let r := shiftFn (bitsOf w 15 2) (x.reg (bitsOf w 17 4)) n
  .ok (x.result [(bitsOf w 21 4, r.1)] (shiftFlags x.bm r))

/-- LDI. R189. -/
def ldiWord (w : Nat) (x : EgCore) : Except Nat EgCore :=
  .ok (x.result [if bitAt w 24 then (16 + bitsOf w 22 2, bitsOf w 0 16) else (bitsOf w 20 4, bitsOf w 0 8)] {})

/-- PADDI16. R189, R191. -/
def paddi16Word (w : Nat) (x : EgCore) : Except Nat EgCore :=
  .ok (x.result [(16 + bitsOf w 23 2, ptrAdd (x.ptr (bitsOf w 21 2)) (signedOf 16 (bitsOf w 0 16)))] {})

/-- PADDR. R189, R191. -/
def paddrWord (w : Nat) (x : EgCore) : Except Nat EgCore :=
  .ok (x.result [(16 + bitsOf w 23 2, ptrAdd (x.ptr (bitsOf w 21 2)) (x.reg (bitsOf w 17 4)))] {})

/-- MUL. R191, Table 6.5. -/
def mulWord (w : Nat) (x : EgCore) : Except Nat EgCore :=
  let rd := bitsOf w 21 4
  let a := x.reg (bitsOf w 17 4)
  let b := x.reg (bitsOf w 13 4)
  let r := if bitAt w 12 then wrapTo 16 (signedOf 8 a * signedOf 8 b) else a * b
  let f : FlagW := if x.bm then
      { z := some (r == 0), n := some (bitAt r 15), c := some (r / 256 != 0), v := some false }
    else {}
  if rd % 2 = 1 then .error 0 else .ok (x.result [(rd, r % 256), (rd + 1, r / 256)] f)

/-- A branch on a condition: none is the reserved code. -/
def EgCore.branchIf (x : EgCore) (c : Option Bool) (wid off : Nat) : Except Nat EgCore :=
  match c with
  | none => .error 0
  | some true => .ok (x.branch wid off)
  | some false => .ok x.next

/-- BCC. R193, R194. -/
def bccWord (w : Nat) (x : EgCore) : Except Nat EgCore :=
  if bitsOf w 21 4 = 15 then .error 0
  else if !x.bm then .error 1
  else x.branchIf (condOf (bitsOf w 21 4) x.c x.z x.n x.v) 16 (bitsOf w 0 16)

/-- CBR. R194. -/
def cbrWord (w : Nat) (x : EgCore) : Except Nat EgCore :=
  x.branchIf (condCmp (bitsOf w 21 4) 8 (x.reg (bitsOf w 17 4)) (x.reg (bitsOf w 13 4))) 13 (bitsOf w 0 13)

/-- CBI. R194. -/
def cbiWord (w : Nat) (x : EgCore) : Except Nat EgCore :=
  x.branchIf (condCmp (bitsOf w 21 4) 8 (x.reg (bitsOf w 17 4)) (bitsOf w 9 8)) 9 (bitsOf w 0 9)

/-- CBP. R194. -/
def cbpWord (w : Nat) (x : EgCore) : Except Nat EgCore :=
  x.branchIf (condCmp (bitsOf w 21 4) 16 (x.ptr (bitsOf w 19 2)) (x.ptr (bitsOf w 17 2))) 14 (bitsOf w 0 14)

/-- R195: the target of JMP and CALL. -/
def jumpTarget (w : Nat) (x : EgCore) : Nat := if bitAt w 23 then x.ptr (bitsOf w 21 2) else bitsOf w 0 16

/-- JMP. R195. -/
def jmpWord (w : Nat) (x : EgCore) : Except Nat EgCore := .ok { x with pc := jumpTarget w x }

/-- MODE. R193. -/
def modeWord (w : Nat) (x : EgCore) : Except Nat EgCore := .ok { x.next with bm := bitAt w 0 }

/-- RETT. R213, R214. -/
def rettWord (_ : Nat) (x : EgCore) : Except Nat EgCore := if x.ts then .ok x.leaveTrap else .error 0

/-- MFSR. R211. -/
def mfsrWord (w : Nat) (x : EgCore) : Except Nat EgCore :=
  match x.sr (bitsOf w 0 8) with
  | some (8, v) => if bitAt w 15 then .error 0 else .ok (x.result [(bitsOf w 16 4, v)] {})
  | some (_, v) => if bitAt w 15 then .ok (x.result [(16 + bitsOf w 18 2, v)] {}) else .error 0
  | none => .error 0

/-- MTSR. R211. -/
def mtsrWord (w : Nat) (x : EgCore) : Except Nat EgCore :=
  match x.sr (bitsOf w 0 8) with
  | some (wid, _) =>
    if (wid == 16) != bitAt w 15 then .error 0
    else match x.setSr (bitsOf w 0 8) (if bitAt w 15 then x.ptr (bitsOf w 18 2) else x.reg (bitsOf w 16 4)) with
      | some y => .ok y.next
      | none => .error 0
  | none => .error 0

/-! ## Loads and stores (R198 to R203) -/

/-- A thread's load of `n` bytes, 1 or 2: the data come at once, or the thread waits for them. -/
def State.thLoad (s : State) (c t : Nat) (l : EgLoad) (n : Nat) : State :=
  match s.threadAt c t with
  | none => s
  | some x =>
    let a := l.addr
    let trap (s : State) (vec ta : Nat) : State :=
      s.thTrap c t x.core { vec, slot := l.slot, pair := l.pair, taddr := some ta }
    let wait (s : State) (w : EgWait) : State := s.setThread c t { x with wait := some w, since := s.now }
    if (dataAddrs a n).any fun b => egRegion b != egRegion a then trap s 6 a
    else if egRegion a = 5 then
      let dev := x.core.farAddr a
      match s.farOk x.inst x.core dev n true false with
      | (s, false) => trap s 7 a
      | (s, true) =>
        if dev < 0x800000000 then
          let (s, id) := s.dramOffer { port := c / 3, write := false, addr := dev, data := List.replicate n 0, who := x.who c t }
          wait s (.far l (some id) dev n)
        else wait s (.far l none dev n)
    else if a = 0xFC00 then wait s (.sample l (n == 2))
    else if 0xF820 ≤ a && a < 0xF860 then
      -- R345, R346: the port form of a Belfry operation, after an implied FENCE
      if !x.posted.isEmpty then s
      else if 8 ≤ x.outstanding then s.chanFault c t x.core 4 0x3F5 l.slot l.pair
      else
        let wn := x.window
        let r : BfReq := {
          master := egId c t, inst := x.inst, op := a - 0xF820, addr := leAt wn 0 5
          opa := leAt wn 8 8, opb := leAt wn 16 8, form := .port c t x.uid, gseq := some x.gseq }
        let s := s.setThread c t { x with
          wait := some (.belfry l (n == 2)), since := s.now
          outst := NatMap.put 0 x.outst 5 (NatMap.get 0 x.outst 5 + 1) }
        if leAt wn 5 3 ≠ 0 then s.bfComplete r 1 none else s.bfOffer r
    else
      match s.regionRead c t x a n with
      | (s, .data d) => s.finishLoad c t l (ofLe d)
      | (s, .trap v ta) => trap s v ta

/-- A load of either unit. -/
def State.egLoad (s : State) (u : EgUnit) (l : EgLoad) (n : Nat) : State :=
  match u with
  | .thread c t => s.thLoad c t l n
  | .heron k =>
    match s.heronAt k with
    | none => s
    | some r =>
      if (dataAddrs l.addr n).any fun b => egRegion b != egRegion l.addr then s.abortParse k 2
      else match s.hnRead r l.addr n with
        | (s, none) => s.abortParse k 2
        | (s, some d) => s.setCore u (match l.dest with
          | .reg rd => l.post.put rd (ofLe d)
          | .ptr p => l.post.put (16 + p) (ofLe d))

/-- A store of either unit; `post` is the core after the word. -/
def State.egStore (s : State) (u : EgUnit) (x post : EgCore) (a : Nat) (bytes : List Byte) (slot : Nat) (pair : Bool) : State :=
  match u with
  | .thread c t =>
    match s.threadAt c t with
    | none => s
    | some y =>
      match s.thStore c t y a bytes with
      | (s, some (v, ta)) => s.thTrap c t x { vec := v, slot, pair, taddr := some ta }
      | (s, none) => s.setCore u post
  | .heron k =>
    match s.heronAt k with
    | none => s
    | some r =>
      if (dataAddrs a bytes.length).all fun b => b < 0x100 then
        let sc := ((dataAddrs a bytes.length).zip bytes).foldl (fun m e => NatMap.put 0 m e.1 e.2.toNat) r.scratch
        ({ s with eg := { s.eg with herons := NatMap.ins s.eg.herons k { r with scratch := sc } } }).setCore u post
      else s.abortParse k 2

/-- PAIR_WORD. R186, R187. -/
def doPairWord (u : EgUnit) (s : State) : State :=
  s.egRow u .pair fun x w s =>
    match shortOp x (bitsOf w 15 15), shortOp x (bitsOf w 0 15) with
    | none, _ => s.egTrap u x { vec := 0, pair := true }
    | some _, none => s.egTrap u x { vec := 0, slot := 1, pair := true }
    | some a, some b =>
      if pairHazard a b then s.egTrap u x { vec := 2, pair := true }
      else
        let post := (((x.putAll a.writes).putAll b.writes).setFlags a.flags).setFlags b.flags
        let slot := if a.mem.isSome then 0 else 1
        match (if a.mem.isSome then a.mem else b.mem) with
        | none => s.setCore u post.next
        | some (.load rd addr) => s.egLoad u ⟨.reg rd, post.next, addr, slot, true⟩ 1
        | some (.store v addr) => s.egStore u x post.next addr [BitVec.ofNat 8 v] slot true

/-- The effective address pN + s16 of LD and ST, and the core after the write-back (R191). -/
def ldAddr (w : Nat) (x : EgCore) : Nat × EgCore :=
  let n := bitsOf w 19 2
  let a := ptrAdd (x.ptr n) (signedOf 16 (bitsOf w 0 16))
  (a, if bitAt w 18 then (x.put (16 + n) a).next else x.next)

/-- LD. R191. -/
def doLd (u : EgUnit) (s : State) : State :=
  s.egRow u .ld fun x w s =>
    if bitsOf w 16 2 ≠ 0 then s.egTrap u x { vec := 0 }
    else s.egLoad u ⟨.reg (bitsOf w 21 4), (ldAddr w x).2, (ldAddr w x).1, 0, false⟩ 1

/-- LDP. R191: with W = 1 and K = N it is illegal. -/
def doLdp (u : EgUnit) (s : State) : State :=
  s.egRow u .ldp fun x w s =>
    if bitAt w 18 && bitsOf w 23 2 = bitsOf w 19 2 then s.egTrap u x { vec := 0 }
    else s.egLoad u ⟨.ptr (bitsOf w 23 2), (ldAddr w x).2, (ldAddr w x).1, 0, false⟩ 2

/-- ST. R191. -/
def doSt (u : EgUnit) (s : State) : State :=
  s.egRow u .st fun x w s =>
    if bitsOf w 16 2 ≠ 0 then s.egTrap u x { vec := 0 }
    else s.egStore u x (ldAddr w x).2 (ldAddr w x).1 [BitVec.ofNat 8 (x.reg (bitsOf w 21 4))] 0 false

/-- STP. R191. -/
def doStp (u : EgUnit) (s : State) : State :=
  s.egRow u .stp fun x w s =>
    s.egStore u x (ldAddr w x).2 (ldAddr w x).1 (leBytes 2 (x.ptr (bitsOf w 23 2))) 0 false

/-- The address pN + ri of LDX and STX. -/
def ldxAddr (w : Nat) (x : EgCore) : Nat := ptrAdd (x.ptr (bitsOf w 19 2)) (x.reg (bitsOf w 15 4))

/-- LDX. R189. -/
def doLdx (u : EgUnit) (s : State) : State :=
  s.egRow u .ldx fun x w s => s.egLoad u ⟨.reg (bitsOf w 21 4), x.next, ldxAddr w x, 0, false⟩ 1

/-- STX. R189. -/
def doStx (u : EgUnit) (s : State) : State :=
  s.egRow u .stx fun x w s => s.egStore u x x.next (ldxAddr w x) [BitVec.ofNat 8 (x.reg (bitsOf w 21 4))] 0 false

/-! ## Windows (R206 to R208, R215) -/

/-- CALL. R206, R207, R215. -/
def doCall (u : EgUnit) (s : State) : State :=
  s.egRow u .call fun x w s =>
    match u with
    | .heron k => s.abortParse k 2
    | .thread c t =>
      let target := jumpTarget w x
      if x.residents < 5 then s.setCore u (x.enter target)
      else
        let a := (x.spp + 0xFFF0) % 0x10000
        if a < x.spl then s.thTrap c t x { vec := 4 }
        else if 0x1000 < a + 16 then s.thTrap c t x { vec := 6, taddr := some a }
        else
          let who := match s.threadAt c t with | some y => y.who c t | none => {}
          let s := (s.wrChk (frameAddr c t + a) (x.record x.oldest) who).1.bump (egKey c 0x2C)
          s.setCore u { x.enter target with spp := a }

/-- RET. R206, R207, R215. -/
def doRet (u : EgUnit) (s : State) : State :=
  s.egRow u .ret fun x _ s =>
    match u with
    | .heron k => s.abortParse k 2
    | .thread c t =>
      if x.cwp = 0 then s.thTrap c t x { vec := 0 }
      else if x.depth = 0 then s.thTrap c t x { vec := 5 }
      else
        let (win, handler) := x.retTo
        let y := { x with
          cwp := if handler then 0 else win, depth := x.depth - 1, residents := x.residents - 1
          pc := NatMap.get 0 x.ra x.cwp }
        if 1 < x.residents then s.setCore u y
        else if 0x1000 < x.spp + 16 then s.thTrap c t x { vec := 6, taddr := some x.spp }
        else
          let who := match s.threadAt c t with | some y => y.who c t | none => {}
          match s.rdChk (frameAddr c t + x.spp) 16 who with
          | (s, none) => s.thTrap c t x { vec := 8, taddr := some x.spp }
          | (s, some l) =>
            (s.bump (egKey c 0x2C)).setCore u { y.unrecord win l with residents := 1, spp := (x.spp + 16) % 0x10000 }

/-- PAIR_WORD. -/
def execPairWord (u : EgUnit) (s : State) : Host.Outcome State Fault Refusal := .next (doPairWord u s)
/-- ALU. -/
def execAlu (u : EgUnit) (s : State) : Host.Outcome State Fault Refusal := .next (s.egPure u .alu aluWord)
/-- ALUI. -/
def execAlui (u : EgUnit) (s : State) : Host.Outcome State Fault Refusal := .next (s.egPure u .alui aluiWord)
/-- SHIFT. -/
def execShift (u : EgUnit) (s : State) : Host.Outcome State Fault Refusal := .next (s.egPure u .shift shiftWord)
/-- LDI. -/
def execLdi (u : EgUnit) (s : State) : Host.Outcome State Fault Refusal := .next (s.egPure u .ldi ldiWord)
/-- LD. -/
def execLd (u : EgUnit) (s : State) : Host.Outcome State Fault Refusal := .next (doLd u s)
/-- LDP. -/
def execLdp (u : EgUnit) (s : State) : Host.Outcome State Fault Refusal := .next (doLdp u s)
/-- ST. -/
def execSt (u : EgUnit) (s : State) : Host.Outcome State Fault Refusal := .next (doSt u s)
/-- STP. -/
def execStp (u : EgUnit) (s : State) : Host.Outcome State Fault Refusal := .next (doStp u s)
/-- LDX. -/
def execLdx (u : EgUnit) (s : State) : Host.Outcome State Fault Refusal := .next (doLdx u s)
/-- STX. -/
def execStx (u : EgUnit) (s : State) : Host.Outcome State Fault Refusal := .next (doStx u s)
/-- PADDI16. -/
def execPaddi16 (u : EgUnit) (s : State) : Host.Outcome State Fault Refusal := .next (s.egPure u .paddi16 paddi16Word)
/-- PADDR. -/
def execPaddr (u : EgUnit) (s : State) : Host.Outcome State Fault Refusal := .next (s.egPure u .paddr paddrWord)
/-- MUL. -/
def execMul (u : EgUnit) (s : State) : Host.Outcome State Fault Refusal := .next (s.egPure u .mul mulWord)
/-- BCC. -/
def execBcc (u : EgUnit) (s : State) : Host.Outcome State Fault Refusal := .next (s.egPure u .bcc bccWord)
/-- CBR. -/
def execCbr (u : EgUnit) (s : State) : Host.Outcome State Fault Refusal := .next (s.egPure u .cbr cbrWord)
/-- CBI. -/
def execCbi (u : EgUnit) (s : State) : Host.Outcome State Fault Refusal := .next (s.egPure u .cbi cbiWord)
/-- CBP. -/
def execCbp (u : EgUnit) (s : State) : Host.Outcome State Fault Refusal := .next (s.egPure u .cbp cbpWord)
/-- JMP. -/
def execJmp (u : EgUnit) (s : State) : Host.Outcome State Fault Refusal := .next (s.egPure u .jmp jmpWord)
/-- CALL. -/
def execCall (u : EgUnit) (s : State) : Host.Outcome State Fault Refusal := .next (doCall u s)
/-- RET. -/
def execRet (u : EgUnit) (s : State) : Host.Outcome State Fault Refusal := .next (doRet u s)
/-- MODE. -/
def execMode (u : EgUnit) (s : State) : Host.Outcome State Fault Refusal := .next (s.egPure u .mode modeWord)
/-- MFSR. -/
def execMfsr (u : EgUnit) (s : State) : Host.Outcome State Fault Refusal := .next (s.egPure u .mfsr mfsrWord)
/-- MTSR. -/
def execMtsr (u : EgUnit) (s : State) : Host.Outcome State Fault Refusal := .next (s.egPure u .mtsr mtsrWord)

end Sys2Proof.Machine
end

