-- ==== Sys2Proof/Machine/EgretSys.lean ====
section
/-! DEFINITION. System words of Egret threads: forks and joins, traps, channels, disposal and emits, and the
events that end a thread's waits (spec/06 R196, R197, R213; spec/07 R222 to R241, R249 to R253; spec/01 R28, R36). -/
namespace Sys2Proof.Machine

/-- A row of a thread's system word: `body` gets the thread, and the cluster and thread ID. -/
def State.sysRow (s : State) (c : Fin 6) (t : Fin 32) (op : EgOp) (body : Thread → Nat → State → State) : State :=
  s.egRow (.thread c t) op fun _ w s =>
    match s.threadAt c t with
    | some x => body x w s
    | none => s

/-- The thread's word is done. -/
def State.thDone (s : State) (c t : Nat) (core : EgCore) : State :=
  s.modThread c t fun x => { x with core := core, wait := none }

/-- The thread waits. -/
def State.thWait (s : State) (c t : Nat) (w : EgWait) : State :=
  s.modThread c t fun x => { x with wait := some w, since := s.now }

/-! ## FORK, JOIN, EXIT (R225, R226, R228) -/

/-- R225: a child starts, where a context and the quota allow, and the log where it is followed. -/
def State.forkTry (s : State) (c t : Nat) (x : Thread) (rd target : Nat) : Option State :=
  let start (s : State) (k : Nat) : State :=
    (s.startThread c k (x.core.child target) x.gseq x.inst false t x.uid).thDone c t (x.core.put rd k).next
  if s.followsSite 0x02 fun e => e.master == egId c t then
    match s.masterNext 0x02 (egId c t) with
    | none => none
    | some e =>
      let k := leAt e.body 0 1
      if k < 32 && (s.threadAt c k).isNone then some (start (s.masterTake 0x02 (egId c t)) k) else none
  else if s.threadQuota x.inst c ≤ s.threadsFor x.inst c then none
  else match s.pickContext c with
    | none => none
    | some k => some (start (s.decision 0x02 (egId c t) (leBytes 1 k)) k)

/-- FORK. R197, R225. -/
def doFork (c : Fin 6) (t : Fin 32) (s : State) : State :=
  s.sysRow c t .fork fun x w s =>
    if !x.posted.isEmpty then s
    else match s.forkTry c t x (bitsOf w 16 4) (bitsOf w 0 16) with
      | some s => s
      | none => (s.bump (egKey c 0x50)).thWait c t (.fork (bitsOf w 16 4) (bitsOf w 0 16))

/-- FORK_UNBLOCK. R225. -/
def doForkUnblock (c : Fin 6) (t : Fin 32) (s : State) : State :=
  match s.threadAt c t with
  | some x =>
    match x.wait with
    | some (.fork rd target) => (s.forkTry c t x rd target).getD s
    | _ => s
  | none => s

/-- FORKQ. R197, R225. -/
def doForkq (c : Fin 6) (t : Fin 32) (s : State) : State :=
  s.sysRow c t .forkq fun x w s =>
    let rd := bitsOf w 16 4
    let ok (s : State) : State := s.modThread c t fun y => { y with core := { y.core with z := false } }
    let fail (s : State) : State := (s.bump (egKey c 0x54)).thDone c t { (x.core.put rd 0xFF).next with z := true }
    let m := egId c t
    if !x.posted.isEmpty then s
    else if s.followsSite 0x02 fun e => e.master == m then
      match s.masterNext 0x02 m with
      | none => s
      | some e =>
        if leAt e.body 0 1 = 0xFF then fail (s.masterTake 0x02 m)
        else match s.forkTry c t x rd (bitsOf w 0 16) with
          | some s => ok s
          | none => s
    else match s.forkTry c t x rd (bitsOf w 0 16) with
      | some s => ok s
      | none => fail (s.decision 0x02 m (leBytes 1 0xFF))

/-- R226: a direct child of the thread runs. -/
def State.hasChild (s : State) (c : Nat) (x : Thread) : Bool :=
  (s.threadsOf c).any fun e => !e.2.isCell && e.2.parentUid == x.uid && !e.2.stopped

/-- JOIN. R226. -/
def doJoin (c : Fin 6) (t : Fin 32) (s : State) : State :=
  s.sysRow c t .join fun x _ s => if s.hasChild c x then s.thWait c t .join else s.thDone c t x.core.next

/-- JOIN_RETURN. R226. -/
def doJoinReturn (c : Fin 6) (t : Fin 32) (s : State) : State :=
  match s.threadAt c t with
  | some x =>
    if x.wait = some .join && !s.hasChild c x && s.waitMay c t 0 then (s.waitEnds c t 0).thDone c t x.core.next else s
  | none => s

/-- R227: the thread may dispose of its cell. -/
def State.mayDispose (s : State) (x : Thread) : Bool :=
  x.isCell && (match s.cellAt x.gseq with | some c => !c.disposed | none => false)

/-- R28: a cell thread that exits without forwarding has consumed its cell, whether or not a child still runs. -/
def State.exitConsumes (s : State) (x : Thread) : State :=
  if !s.mayDispose x then s
  else match s.cellAt x.gseq with
    | some k => (s.consume k).weirRun
    | none => s

/-- EXIT. R27, R28, R197, R226, R354. -/
def doExit (c : Fin 6) (t : Fin 32) (s : State) : State :=
  s.sysRow c t .exit fun x _ s =>
    if !x.posted.isEmpty then s
    else
      let s := s.stopThread c t
      if (s.cellThreads x.gseq).isEmpty then s.completeCell x.gseq else s.exitConsumes x

/-! ## Traps and fences -/

/-- TRAP. R213. -/
def doTrap (c : Fin 6) (t : Fin 32) (s : State) : State :=
  s.sysRow c t .trap fun x w s => s.thTrap c t x.core { vec := 0xA, nextWord := true, tinfo := bitsOf w 0 8 }

/-- BKPT. R213. -/
def doBkpt (c : Fin 6) (t : Fin 32) (s : State) : State :=
  s.sysRow c t .bkpt fun x w s => s.thTrap c t x.core { vec := 0xB, nextWord := true, tinfo := bitsOf w 0 8 }

/-- FAULT. R218. -/
def doFault (c : Fin 6) (t : Fin 32) (s : State) : State :=
  s.sysRow c t .fault fun x _ s => s.park c t 0x1E x.core

/-- FENCE. R202, R204: waits for posted stores; rd is 1 if any completed in error since the last FENCE. -/
def doFence (c : Fin 6) (t : Fin 32) (s : State) : State :=
  s.sysRow c t .fence fun x w s =>
    if !x.posted.isEmpty then s
    else s.setThread c t { x with core := (x.core.put (bitsOf w 16 4) (b2n x.postErr)).next, postErr := false }

/-! ## Channels (R233 to R236) -/

/-- R233, R234, R238: the cause with which a send or receive on a channel faults, if it does. -/
def State.chanCheck (s : State) (c : Nat) (x : Thread) (id : Nat) (send : Bool) : Option Nat :=
  let i := s.cellInst x.gseq
  if id < 0x300 then
    let r := s.regW (0x00201000 + 0x10000 * c + 4 * id)
    if !bitAt r 0 then some 1 else if bitsOf r 1 4 ≠ i then some 2 else none
  else if id < 0x3C0 then
    let r := s.regW (0x00260000 + 4 * (id - 0x300))
    if !bitAt r 0 || !bitAt r (8 + c) then some 1 else if bitsOf r 1 4 ≠ i then some 2 else none
  else if 0x3F0 ≤ id && id ≤ 0x3F5 then (if send then none else some 3)
  else if id = 0x3FF then (if send then some 3 else none)
  else some 1

/-- The key of a cluster or device channel. -/
def chanKey (c id : Nat) : Nat := (if id < 0x300 then 0x400 * c else 0x1C00) + id

/-- Entries in a channel. -/
def State.chanAt (s : State) (c id : Nat) : List ChanEntry := NatMap.get [] s.eg.chans (chanKey c id)

/-- Table 15.3 CHANNEL: the channel's word. A cluster's helpers have request channels of their own. -/
def chanWord (c id : Nat) : Nat := id + 1024 * (if id < 0x300 || id = 0x3FF || (0x3F0 ≤ id && id ≤ 0x3F3) then c else 7)

/-- An entry of a channel's site: the channel's, or for 0x3FF the receiving context's. -/
def isChanEntry (c t id : Nat) (e : DEntry) : Bool := leAt e.body 0 2 == chanWord c id && (id != 0x3FF || e.master == egId c t)

/-- The site's next entry. -/
def State.chanNext (s : State) (c t id : Nat) : Option DEntry := s.siteNext 0x05 (isChanEntry c t id)

/-- The site follows the log. -/
def State.chanFollows (s : State) (c t id : Nat) : Bool := s.followsSite 0x05 (isChanEntry c t id)

/-- R236, R485: whether the log lets the thread's send or receive take place now, and with which outcome: true
failed. -/
def State.chanMay (s : State) (c t id : Nat) (send : Bool) : Option Bool :=
  if !s.chanFollows c t id then some false
  else match s.chanNext c t id with
    | some e => if e.master = egId c t && bitAt (leAt e.body 4 1) 0 = send then some (bitAt (leAt e.body 4 1) 1) else none
    | none => none

/-- Records or takes a channel's entry. -/
def State.chanMark (s : State) (c t id sender : Nat) (send failed : Bool) : State :=
  if s.chanFollows c t id then s.siteTake 0x05 (isChanEntry c t id)
  else s.decision 0x05 (egId c t) (leBytes 2 (chanWord c id) ++ leBytes 2 sender ++ leBytes 1 (b2n send + 2 * b2n failed))

/-- R240, R248: the Time helper receives a request. -/
def State.timeReceive (s : State) (r : HelpReq) : State :=
  let add (s : State) (target : Nat) (status : Option Nat) : State :=
    { s with eg := { s.eg with times := s.eg.times ++ [⟨r, target, s.now, status⟩] } }
  if !s.blockOk r 8 then add s 0 (some 2)
  else if 1 < r.op then add s 0 (some 1)
  else match s.blockRead r 0 8 with
    | (s, none) => add s 0 (some 4)
    | (s, some l) =>
      if r.op = 0 then add s (ofLe l) (if ofLe l ≤ s.tb.count then some 6 else none)
      else add s (ofLe l % 2 ^ 32) (if ofLe l % 2 ^ 32 = 0 then some 6 else none)

/-- R345, R348: Belfry receives a request on channel 0x3F5. -/
def State.belfryReceive (s : State) (r : HelpReq) : State :=
  if !s.blockOk r 32 then s.complete r 5 2
  else match s.blockRead r 0 32 with
    | (s, none) => s.complete r 5 4
    | (s, some l) =>
      let q : BfReq := {
        master := egId r.c r.t, inst := r.inst, op := r.op, addr := leAt l 0 5
        opa := leAt l 8 8, opb := leAt l 16 8, form := .chan r, gseq := some r.gseq }
      if leAt l 5 3 ≠ 0 then s.bfComplete q 1 none else s.bfOffer q

/-- R240, R241: a request entry reaches its service. -/
def State.serviceSend (s : State) (c t : Nat) (x : Thread) (svc v : Nat) : State :=
  let r : HelpReq := {
    c, t, uid := x.uid, op := bitsOf v 24 8, tag := bitsOf v 16 8, blk := bitsOf v 0 16
    gseq := x.gseq, inst := x.inst, sbank := x.core.sbank }
  let s := s.modThread c t fun y => { y with outst := NatMap.put 0 y.outst svc (NatMap.get 0 y.outst svc + 1) }
  match svc with
  | 3 => s.timeReceive r
  | 4 => { s with eg := { s.eg with launchReqs := s.eg.launchReqs ++ [r] } }
  | 5 => s.belfryReceive r
  | k =>
    let key := 4 * c + k
    { s with eg := { s.eg with helpers := NatMap.put [] s.eg.helpers key (NatMap.get [] s.eg.helpers key ++ [r]) } }

/-- The channel ID and the other fields of SEND and its kin: ID, address pN, rd. -/
def chanFields (w : Nat) (x : EgCore) : Nat × Nat × Nat :=
  (if bitAt w 17 then x.ptr (bitsOf w 15 2) % 1024 else bitsOf w 0 10, x.ptr (bitsOf w 18 2), bitsOf w 11 4)

/-- R198, R200, R213: the cause with which a read of `n` bytes from `a` faults at its issue, if it does: an ACCESS_FAULT of any
byte ranks before a FAR_FAULT. -/
def State.readCheck (s : State) (c : Nat) (x : Thread) (a n : Nat) : State × Option (Nat × Nat) :=
  let addrs := dataAddrs a n
  let bad (b : Nat) : Bool := egRegion b == 3 || egRegion b == 10 || (egRegion b == 4 && !s.bankOk x.inst c x.core.sbank)
  match addrs.find? bad with
  | some b => (s, some (6, b))
  | none =>
    match addrs.filter fun b => egRegion b == 5 with
    | [] => (s, none)
    | b :: bs =>
      match s.farOk x.inst x.core (x.core.farAddr b) (bs.length + 1) true false with
      | (s, true) => (s, none)
      | (s, false) => (s, some (7, a))

/-- Reads bytes that may lie in several regions: the causes of R213 by priority, then byte by byte. -/
def State.thReadAny (s : State) (c t : Nat) (x : Thread) (a n : Nat) : State × MemAns :=
  if (dataAddrs a n).all fun b => egRegion b == egRegion a && a ≤ b then s.thRead c t x a n
  else match s.readCheck c x a n with
    | (s, some (v, ta)) => (s, .trap v ta)
    | (s, none) =>
      (dataAddrs a n).foldl (fun acc b =>
        match acc with
        | (s, .data l) =>
          match s.thRead c t x b 1 with
          | (s, .data m) => (s, .data (l ++ m))
          | r => r
        | r => r) (s, .data [])

/-- SEND and SENDQ: the value read from pN, then the channel's checks; `go` has the channel and the value. -/
def State.sendRow (s : State) (c : Fin 6) (t : Fin 32) (op : EgOp) (go : Thread → Nat → Nat → Nat → State → State) : State :=
  s.sysRow c t op fun x w s =>
    let (id, a, rd) := chanFields w x.core
    if !x.posted.isEmpty then s
    else match s.thReadAny c t x a 4 with
      | (s, .trap v ta) => s.thTrap c t x.core { vec := v, taddr := some ta }
      | (s, .data l) =>
        match s.chanCheck c x id true with
        | some cause => s.chanFault c t x.core cause id
        | none =>
          if 0x3F0 ≤ id && 8 ≤ x.outstanding then s.chanFault c t x.core 4 id
          else go x id (ofLe l) rd s

/-- The entry enters its channel. -/
def State.chanPut (s : State) (c t id v : Nat) : State :=
  { s with eg := { s.eg with chans := NatMap.put [] s.eg.chans (chanKey c id) (s.chanAt c id ++ [⟨v, egId c t⟩]) } }

/-- R235, R243, R272: the entries in a channel: of a request channel, the requests that its service has not yet taken. The Time
helper takes a request as it arrives. -/
def State.chanLoad (s : State) (c id : Nat) : Nat :=
  if id < 0x3F0 then (s.chanAt c id).length
  else if id < 0x3F3 then (NatMap.get [] s.eg.helpers (4 * c + (id - 0x3F0))).length
  else if id = 0x3F4 then s.eg.launchReqs.length
  else if id = 0x3F5 then
    (s.bf.queue.filter fun r => r.done.isNone && (match r.form with | .chan _ => true | _ => false)).length
  else 0

/-- R235: a send takes place if the channel has room and the log allows it. -/
def State.sendTry (s : State) (c t : Nat) (x : Thread) (id v : Nat) : Option State :=
  if 8 ≤ s.chanLoad c id || s.chanMay c t id true ≠ some false then none
  else
    let s := s.chanMark c t id 0xFFFF true false
    some (if 0x3F0 ≤ id then s.serviceSend c t x (id - 0x3F0) v else s.chanPut c t id v)

/-- SEND. R235, R241. -/
def doSend (c : Fin 6) (t : Fin 32) (s : State) : State :=
  s.sendRow c t .send fun x id v _ s =>
    match s.sendTry c t x id v with
    | some s => s.thDone c t x.core.next
    | none => s.thWait c t (.send id v)

/-- SEND_UNBLOCK. R235. -/
def doSendUnblock (c : Fin 6) (t : Fin 32) (s : State) : State :=
  match s.threadAt c t with
  | some x =>
    match x.wait with
    | some (.send id v) =>
      if !s.waitMay c t 0 then s
      else match s.sendTry c t x id v with
        | some s => (s.waitEnds c t 0).thDone c t x.core.next
        | none => s
    | _ => s
  | none => s

/-- The result of SENDQ and RECVQ: rd and Z. -/
def EgCore.quick (x : EgCore) (rd : Nat) (failed : Bool) : EgCore := { (x.put rd (b2n failed)).next with z := failed }

/-- SENDQ. R196, R235. -/
def doSendq (c : Fin 6) (t : Fin 32) (s : State) : State :=
  s.sendRow c t .sendq fun x id v rd s =>
    let fail (s : State) : State := (s.chanMark c t id 0xFFFF true true).thDone c t (x.core.quick rd true)
    match s.chanMay c t id true with
    | none => s
    | some true => fail s
    | some false =>
      match s.sendTry c t x id v with
      | some s => s.thDone c t (x.core.quick rd false)
      | none => if s.chanFollows c t id then s else fail s

/-- The entry that a receive takes: a channel's oldest, or on the reply channel the oldest, in SHADOW and REPLAY
the oldest from the sender that the log names. -/
def State.chanTake (s : State) (c t : Nat) (x : Thread) (id : Nat) : Option (State × Nat × Nat) :=
  if id = 0x3FF then
    let want := if s.chanFollows c t id then (s.chanNext c t id).map fun e => leAt e.body 2 2 else none
    match x.replies.find? fun r => match want with | some k => k == 0xF00 + r.1 | none => true with
    | none => none
    | some r =>
      let s := (s.setThread c t { x with replies := x.replies.erase r }).requestDone c t r.1
      some (s, r.2, 0xF00 + r.1)
  else match s.chanAt c id with
    | [] => none
    | e :: es => some ({ s with eg := { s.eg with chans := NatMap.put [] s.eg.chans (chanKey c id) es } }, e.value, e.sender)

/-- R235: a receive takes place if there is an entry and the log allows it; the entry is stored at `a`. -/
def State.recvTry (s : State) (c t : Nat) (x : Thread) (id a : Nat) (core : EgCore) : Option State :=
  if s.chanMay c t id false ≠ some false then none
  else match s.chanTake c t x id with
    | none => none
    | some (s, v, sender) =>
      let s := s.chanMark c t id sender false false
      match s.threadAt c t with
      | none => some s
      | some y => some ((s.thPut c t y a (leBytes 4 v)).1.thDone c t core)

/-- RECV and RECVQ: checks of the destination, then of the channel. -/
def State.recvRow (s : State) (c : Fin 6) (t : Fin 32) (op : EgOp) (go : Thread → Nat → Nat → Nat → State → State) : State :=
  s.sysRow c t op fun x w s =>
    let (id, a, rd) := chanFields w x.core
    match s.storeCheck c x a 4 with
    | (s, some (v, ta)) => s.thTrap c t x.core { vec := v, taddr := some ta }
    | (s, none) =>
      match s.chanCheck c x id false with
      | some cause => s.chanFault c t x.core cause id
      | none => go x id a rd s

/-- RECV. R235. -/
def doRecv (c : Fin 6) (t : Fin 32) (s : State) : State :=
  s.recvRow c t .recv fun x id a _ s =>
    match s.recvTry c t x id a x.core.next with
    | some s => s
    | none => s.thWait c t (.recv id a)

/-- RECV_UNBLOCK. R235. A destination that has meanwhile come to fault as R198 and R200 have it, by a lower LEN, traps at the
word, and no entry is taken; the checks of a far destination were those of its issue (R201, R422). -/
def doRecvUnblock (c : Fin 6) (t : Fin 32) (s : State) : State :=
  match s.threadAt c t with
  | some x =>
    match x.wait with
    | some (.recv id a) =>
      if !s.waitMay c t 0 then s
      else match s.recvTry c t x id a x.core.next, (dataAddrs a 4).findSome? (s.storeFault c x) with
        | some _, some (v, ta) => (s.waitEnds c t 0).thTrap c t x.core { vec := v, taddr := some ta }
        | some s, none => s.waitEnds c t 0
        | none, _ => s
    | _ => s
  | none => s

/-- RECVQ. R196, R235. -/
def doRecvq (c : Fin 6) (t : Fin 32) (s : State) : State :=
  s.recvRow c t .recvq fun x id a rd s =>
    let fail (s : State) : State := (s.chanMark c t id 0xFFFF false true).thDone c t (x.core.quick rd true)
    match s.chanMay c t id false with
    | none => s
    | some true => fail s
    | some false =>
      match s.recvTry c t x id a (x.core.quick rd false) with
      | some s => s
      | none => if s.chanFollows c t id then s else fail s

/-! ## Disposal and emits (R28, R36, R227, R250, R251) -/

/-- FWD. R28, R36, R197, R227. -/
def doFwd (c : Fin 6) (t : Fin 32) (s : State) : State :=
  s.sysRow c t .fwd fun x _ s =>
    if !s.mayDispose x then s.chanFault c t x.core 5 0
    else if !x.posted.isEmpty then s
    else match s.forward x.gseq with
      | some s => s.thDone c t x.core.next
      | none => (s.bump 0x00120028).thWait c t .forward

/-- CONSUME. R28, R227. -/
def doConsume (c : Fin 6) (t : Fin 32) (s : State) : State :=
  s.sysRow c t .consume fun x _ s =>
    if !s.mayDispose x then s.chanFault c t x.core 5 0
    else match s.cellAt x.gseq with
      | some k => ((s.thDone c t x.core.next).consume k).weirRun
      | none => s

/-- R17, R36: the emit finds a Weir entry and packet-buffer space. -/
def State.emitRoom (s : State) (g : Nat) (e : Emit) : Bool :=
  s.weirRoom g && decide (s.pbufUsed + granulesOf e.payload.length ≤ 131072)

/-- The accepted emit is made, and rd is 0. -/
def State.emitGo (s : State) (c t : Nat) (x : Thread) (rd : Nat) (e : Emit) : State :=
  (s.thDone c t (x.core.put rd 0).next).emitCell x.gseq e.stream e.sub e.rel e.metaBytes e.payload

/-- Bytes `a` to `a + n - 1` lie in one readable region (R250). -/
def oneRegion (a n : Nat) : Bool :=
  decide (a + n ≤ 0x10000) && (dataAddrs a n).all fun b => egRegion b == egRegion a && egRegion b != 3 && egRegion b != 10

/-- R17, R18: the statuses of a thread's emit (Table 7.7), and what it does. R36 counts each wait of an emit for a Weir entry in
WE_FULL_CNT; that a wait for packet-buffer space alone counts there too is the model's choice (DESIGN CHOICE, log entry 110). -/
def State.emitWord (s : State) (c t : Nat) (x : Thread) (rd : Nat) (d : List Byte) : State :=
  match s.cellAt x.gseq with
  | none => s
  | some k =>
    let len := leAt d 0x0A 2
    let src := leAt d 0x0C 2
    let stream := leAt d 0 2 % 0x1000
    let sub := leAt d 2 1
    let status := emitStatus k stream sub len
    let done (s : State) (st : Nat) : State := s.thDone c t (x.core.put rd st).next
    if 0 < len && !oneRegion src len then s.thTrap c t x.core { vec := 6, taddr := some src }
    else if status = 4 then (done s 0).modCell x.gseq fun k => { k with emits := (stream, sub) :: k.emits }
    else if status ≠ 0 then done (s.bump 0x00120024) status
    else match (if len = 0 then (s, .data []) else s.thRead c t x src len) with
      | (s, .trap v ta) => s.thTrap c t x.core { vec := v, taddr := some ta }
      | (s, .data p) =>
        let e : Emit := {
          stream, sub, rel := if bitAt (leAt d 3 1) 0 then some (leAt d 4 6) else none
          metaBytes := (d.drop 0x10).take 16, payload := p }
        if s.emitRoom x.gseq e then s.emitGo c t x rd e
        else (s.bump 0x00120028).thWait c t (.emit rd e)

/-- EMIT. R197, R250, R251. -/
def doEmit (c : Fin 6) (t : Fin 32) (s : State) : State :=
  s.sysRow c t .emit fun x w s =>
    let a := x.core.ptr (bitsOf w 14 2)
    if !x.posted.isEmpty then s
    else if !oneRegion a 32 then s.thTrap c t x.core { vec := 6, taddr := some a }
    else match s.thRead c t x a 32 with
      | (s, .trap v ta) => s.thTrap c t x.core { vec := v, taddr := some ta }
      | (s, .data d) => s.emitWord c t x (bitsOf w 16 4) d

/-- R22, R252: an emit that has waited meets the status that holds then: another thread of its cell may have emitted a SUB that
is not below its own. -/
def State.emitAgain (s : State) (c t : Nat) (x : Thread) (rd : Nat) (e : Emit) : State :=
  match s.cellAt x.gseq with
  | none => s
  | some k =>
    let status := emitStatus k e.stream e.sub e.payload.length
    if status = 0 || status = 4 then if s.emitRoom x.gseq e then s.emitGo c t x rd e else s
    else (s.bump 0x00120024).thDone c t (x.core.put rd status).next

/-- WEIR_WAIT_END. R36, R169: a waiting forward, emit or direct-action cell goes on once an entry is free to it. -/
def doWeirWaitEnd (w : WeirWaiter) (s : State) : State :=
  match w with
  | .cell g => ((s.classifyCell g).reap.trimOld).weirRun
  | .thread c t =>
    match s.threadAt c t with
    | none => s
    | some x =>
      match x.wait with
      | some .forward =>
        match s.forward x.gseq with
        | some s => s.thDone c t x.core.next
        | none => s
      | some (.emit rd e) => s.emitAgain c t x rd e
      | _ => s

/-- WEIR_RELEASE_DUE. R30: the head of a stream is released when its REL is reached. -/
def doWeirReleaseDue (stream : Nat) (s : State) : State := s.weirEval stream

/-! ## The ends of waits -/

/-- FAR_LOAD_DATA. R202, R203. -/
def doFarLoadData (c t : Nat) (s : State) : State :=
  match s.threadAt c t with
  | none => s
  | some x =>
    match x.wait with
    | some (.far l acc dev n) =>
      let bad (s : State) : State :=
        s.thTrap c t x.core { vec := 8, slot := l.slot, pair := l.pair, taddr := some l.addr }
      let good (s : State) (d : List Byte) : State := s.finishLoad c t l (ofLe (overlay x.posted dev d))
      match acc with
      | none =>
        match s.rdMem dev n (x.who c t) with
        | (s, some d) => good s d
        | (s, none) => bad s
      | some id =>
        match s.accAt id with
        | some a => if !a.done then s else if a.bad then bad (s.dramTake id) else good (s.dramTake id) a.data
        | none => bad s
    | _ => s

/-- POSTED_STORE_COMPLETE. R202: the thread's oldest posted store that can complete does. -/
def doPostedStoreComplete (c t : Nat) (s : State) : State :=
  match s.threadAt c t with
  | none => s
  | some x =>
    let ready (p : Posted) : Bool :=
      match p.acc with
      | none => true
      | some id => match s.accAt id with | some a => a.done | none => true
    match x.posted.find? ready with
    | some p => s.postedDone c t p
    | none => s

/-- R239: WAITLIM has passed, or in SHADOW and REPLAY the log says that the limit ended the wait. -/
def State.limitDue (s : State) (c t : Nat) (x : Thread) : Bool :=
  let lim := x.waitlim
  lim != 0 && (if s.followsSite 0x0A (fun e => e.master == egId c t) then s.waitMay c t 1 else decide (x.since + 1000 * lim < s.now))

/-- WAIT_LIMIT_EXPIRY. R239. -/
def doWaitLimitExpiry (c t : Nat) (s : State) : State :=
  match s.threadAt c t with
  | none => s
  | some x =>
    let chan := match x.wait with
      | some (.send id _) => some id
      | some (.recv id _) => some id
      | some .join => some 0
      | _ => none
    match chan with
    | some id => if s.limitDue c t x then (s.waitEnds c t 1).chanFault c t x.core 6 id else s
    | none => s

/-- BELFRY_WAIT_LIMIT. R357: the request or its ticket is withdrawn. -/
def doBelfryWaitLimit (c t : Nat) (s : State) : State :=
  match s.threadAt c t with
  | none => s
  | some x =>
    match x.wait with
    | some (.belfry l _) =>
      if !s.limitDue c t x then s
      else
        let port (r : BfReq) : Bool := r.form == .port c t x.uid
        let queued := s.bf.queue.any port
        let s := s.waitEnds c t 1
        let s := { s with bf := { s.bf with queue := s.bf.queue.filter fun r => !port r } }
        let s := if queued then s.requestDone c t 5
          else (s.bf.dir.map (·.addr)).foldl (fun s a =>
            match s.bfEntry a with
            | some e => s.bfWithdraw e port
            | none => s) s
        s.chanFault c t x.core 6 0x3F5 l.slot l.pair
    | _ => s

/-- TIME_PORT_SAMPLE. R249: the Timebase is sampled for a load from 0xFC00; the sample is a decision. -/
def doTimePortSample (c t : Nat) (s : State) : State :=
  match s.threadAt c t with
  | none => s
  | some x =>
    match x.wait with
    | some (.sample l two) =>
      let m := egId c t
      let isSample (e : DEntry) : Bool := e.master == m && leAt e.body 0 1 == 0
      let go (s : State) (v : Nat) : State :=
        (s.setThread c t { x with sample := (leBytes 8 v).drop 1 }).finishLoad c t l (v % (if two then 0x10000 else 256))
      if s.followsSite 0x06 isSample then
        match s.siteNext 0x06 isSample with
        | some e => go (s.siteTake 0x06 isSample) (leAt e.body 4 8)
        | none => s
      else go (s.decision 0x06 m (leBytes 4 0 ++ leBytes 8 s.tb.count)) s.tb.count
    | _ => s

/-! ## The rows -/

/-- FORK. -/
def execFork (c : Fin 6) (t : Fin 32) (s : State) : Host.Outcome State Fault Refusal := .next (doFork c t s)
/-- FORK_UNBLOCK. -/
def execForkUnblock (c : Fin 6) (t : Fin 32) (s : State) : Host.Outcome State Fault Refusal := .next (doForkUnblock c t s)
/-- FORKQ. -/
def execForkq (c : Fin 6) (t : Fin 32) (s : State) : Host.Outcome State Fault Refusal := .next (doForkq c t s)
/-- JOIN. -/
def execJoin (c : Fin 6) (t : Fin 32) (s : State) : Host.Outcome State Fault Refusal := .next (doJoin c t s)
/-- JOIN_RETURN. -/
def execJoinReturn (c : Fin 6) (t : Fin 32) (s : State) : Host.Outcome State Fault Refusal := .next (doJoinReturn c t s)
/-- EXIT. -/
def execExit (c : Fin 6) (t : Fin 32) (s : State) : Host.Outcome State Fault Refusal := .next (doExit c t s)
/-- TRAP. -/
def execTrap (c : Fin 6) (t : Fin 32) (s : State) : Host.Outcome State Fault Refusal := .next (doTrap c t s)
/-- RETT. -/
def execRett (c : Fin 6) (t : Fin 32) (s : State) : Host.Outcome State Fault Refusal :=
  .next (s.egPure (.thread c t) .rett rettWord)
/-- FENCE. -/
def execFence (c : Fin 6) (t : Fin 32) (s : State) : Host.Outcome State Fault Refusal := .next (doFence c t s)
/-- SEND. -/
def execSend (c : Fin 6) (t : Fin 32) (s : State) : Host.Outcome State Fault Refusal := .next (doSend c t s)
/-- SEND_UNBLOCK. -/
def execSendUnblock (c : Fin 6) (t : Fin 32) (s : State) : Host.Outcome State Fault Refusal := .next (doSendUnblock c t s)
/-- RECV. -/
def execRecv (c : Fin 6) (t : Fin 32) (s : State) : Host.Outcome State Fault Refusal := .next (doRecv c t s)
/-- RECV_UNBLOCK. -/
def execRecvUnblock (c : Fin 6) (t : Fin 32) (s : State) : Host.Outcome State Fault Refusal := .next (doRecvUnblock c t s)
/-- SENDQ. -/
def execSendq (c : Fin 6) (t : Fin 32) (s : State) : Host.Outcome State Fault Refusal := .next (doSendq c t s)
/-- RECVQ. -/
def execRecvq (c : Fin 6) (t : Fin 32) (s : State) : Host.Outcome State Fault Refusal := .next (doRecvq c t s)
/-- FAULT. -/
def execFault (c : Fin 6) (t : Fin 32) (s : State) : Host.Outcome State Fault Refusal := .next (doFault c t s)
/-- BKPT. -/
def execBkpt (c : Fin 6) (t : Fin 32) (s : State) : Host.Outcome State Fault Refusal := .next (doBkpt c t s)
/-- FWD. -/
def execFwd (c : Fin 6) (t : Fin 32) (s : State) : Host.Outcome State Fault Refusal := .next (doFwd c t s)
/-- CONSUME. -/
def execConsume (c : Fin 6) (t : Fin 32) (s : State) : Host.Outcome State Fault Refusal := .next (doConsume c t s)
/-- EMIT. -/
def execEmit (c : Fin 6) (t : Fin 32) (s : State) : Host.Outcome State Fault Refusal := .next (doEmit c t s)
/-- WEIR_WAIT_END. -/
def execWeirWaitEnd (w : WeirWaiter) (s : State) : Host.Outcome State Fault Refusal := .next (doWeirWaitEnd w s)
/-- WEIR_RELEASE_DUE. -/
def execWeirReleaseDue (stream : Fin 4096) (s : State) : Host.Outcome State Fault Refusal := .next (doWeirReleaseDue stream s)
/-- FAR_LOAD_DATA. -/
def execFarLoadData (c : Fin 6) (t : Fin 32) (s : State) : Host.Outcome State Fault Refusal := .next (doFarLoadData c t s)
/-- POSTED_STORE_COMPLETE. -/
def execPostedStoreComplete (c : Fin 6) (t : Fin 32) (s : State) : Host.Outcome State Fault Refusal :=
  .next (doPostedStoreComplete c t s)
/-- WAIT_LIMIT_EXPIRY. -/
def execWaitLimitExpiry (c : Fin 6) (t : Fin 32) (s : State) : Host.Outcome State Fault Refusal := .next (doWaitLimitExpiry c t s)
/-- BELFRY_WAIT_LIMIT. -/
def execBelfryWaitLimit (c : Fin 6) (t : Fin 32) (s : State) : Host.Outcome State Fault Refusal := .next (doBelfryWaitLimit c t s)
/-- TIME_PORT_SAMPLE. -/
def execTimePortSample (c : Fin 6) (t : Fin 32) (s : State) : Host.Outcome State Fault Refusal := .next (doTimePortSample c t s)

end Sys2Proof.Machine
end

