-- ==== Sys2Proof/Machine/Helpers.lean ====
section
/-! DEFINITION. Heron parses, dispatch, the helpers and Belfry's requests from threads (spec/05 R154 to R161, R170;
spec/07 R222 to R224, R240 to R248; spec/10). -/
namespace Sys2Proof.Machine

/-! ## Heron (R156 to R161) -/

/-- Changes a parse. -/
def State.modHeron (s : State) (k : Nat) (f : HeronRun → HeronRun) : State :=
  match s.heronAt k with
  | some r => { s with eg := { s.eg with herons := NatMap.ins s.eg.herons k (f r) } }
  | none => s

/-- R125: the VLAN and the priority that the port gives the frame of a cell: those of its C-tag, else the port's PVID for an
untagged frame or VID 0, and PCP_DEF for an untagged frame; none for a cell that no port made. -/
def State.frameVlan (s : State) (c : Cell) : Option (Nat × Nat) :=
  if c.hdr.src / 0x1000 ≠ 1 then none
  else
    let k := 0x00160000 + 0x100 * (c.hdr.src % 0x1000)
    let tci := beAt c.payload 14 2
    if beAt c.payload 12 2 = 0x8100 then
      some (if tci % 0x1000 = 0 then s.fld k 4 12 else tci % 0x1000, tci / 0x2000)
    else some (s.fld k 4 12, s.fld k 16 3)

/-- HERON_PARSE_START. R125, R156: a free Heron takes the oldest cell that waits, under the step limit of now (R11, R12). -/
def doHeronParseStart (k : Nat) (s : State) : State :=
  if (s.heronAt k).isSome || !s.runningBlock 3 k then s
  else match s.cells.find? fun c => c.stage == .waiting with
    | none => s
    | some c =>
      let pc := s.regAtEpoch c.epoch (0x001A0010 + 4 * (c.hdr.src / 0x1000)) % 0x1000
      let r : HeronRun := {
        gseq := c.hdr.gseq, core := { pc := pc, p := [(0, 0x1040), (1, 0x1000)] }
        limit := max 64 (s.fld hnCtl 16 12), vlan := s.frameVlan c }
      let s := { s with eg := { s.eg with herons := NatMap.ins s.eg.herons k r } }
      s.modCell c.hdr.gseq fun c => { c with stage := .parsing k }

/-- A word of a Heron's own; `body` gets the parse. -/
def State.hnRow (s : State) (k : Fin 16) (op : EgOp) (body : HeronRun → EgCore → Nat → State → State) : State :=
  s.egRow (.heron k) op fun x w s =>
    match s.heronAt k with
    | some r => body r x w s
    | none => s

/-- KMOV. R158. -/
def doKmov (k : Fin 16) (s : State) : State :=
  s.hnRow k .kmov fun r x w s =>
    let i := bitsOf w 20 5
    let n := bitsOf w 16 4 + 1
    if 24 < i + n then s.abortParse k 2
    else match s.hnRead r (ptrAdd (x.ptr (bitsOf w 14 2)) (bitsOf w 0 12)) n with
      | (s, none) => s.abortParse k 2
      | (s, some l) =>
        (s.modHeron k fun r => { r with key := putBits r.key (8 * i) (8 * n) (ofLe l) }).setCore (.heron k) x.next

/-- KPUT. R158. -/
def doKput (k : Fin 16) (s : State) : State :=
  s.hnRow k .kput fun _ x w s =>
    let i := bitsOf w 20 5
    let src := if bitAt w 19 then bitsOf w 0 8 else x.reg (bitsOf w 16 3)
    if 24 ≤ i then s.abortParse k 2
    else (s.modHeron k fun r =>
      { r with key := putBits r.key (8 * i) 8 (putMask (bitsOf r.key (8 * i) 8) (bitsOf w 8 8) src) }).setCore (.heron k) x.next

/-- R160: the probe that a KEND issues, if it does. -/
def State.probeOf (s : State) (r : HeronRun) (smac : Nat) : Option Probe :=
  match s.cellAt r.gseq with
  | none => none
  | some c =>
    let port := c.hdr.src % 0x1000
    if bitsOf r.key 0 8 = 1 && c.hdr.src / 0x1000 = 1 && s.bit (0x00160000 + 0x100 * port) 1 then
      some ⟨bitsOf r.key 16 12, smac, port⟩
    else none

/-- KEND. R159, R160: the parse ends, and its result is classified or held (R175). -/
def doKend (k : Fin 16) (s : State) : State :=
  s.hnRow k .kend fun r x w s =>
    let probe := bitAt w 23
    match (if probe then s.hnRead r (ptrAdd (x.ptr (bitsOf w 14 2)) (bitsOf w 0 12)) 6 else (s, some [])) with
    | (s, none) => s.abortParse k 2
    | (s, some l) =>
      let s := match (if probe then s.probeOf r (ofLe l) else none) with
        | some p =>
          let (before, after) := s.learn.held.span fun (x : Nat × Probe) => before48 x.1 r.gseq
          { s with learn := { s.learn with held := before ++ (r.gseq, p) :: after } }
        | none => s
      let key : HeldKey := if bitAt w 24 then .null else .key r.key
      let s := s.modCell r.gseq fun c => { c with stage := .held k key }
      ((s.classifyCell r.gseq).reap.trimOld).weirRun

/-- STEP_LIMIT_ABORT. R161. -/
def doStepLimitAbort (k : Nat) (s : State) : State :=
  match s.heronAt k with
  | none => s
  | some r =>
    let parsing := match s.cellAt r.gseq with
      | some c => c.stage == .parsing k
      | none => false
    if parsing && r.limit ≤ r.steps then s.abortParse k 1 else s

/-! ## Dispatch (R170, R222, R223) -/

/-- R222: a cluster can take a cell of instance `i`'s action. -/
def State.clusterTakes (s : State) (c i : Nat) : Bool :=
  s.runningBlock 1 c && !(s.freeOf c).isEmpty &&
    decide (((s.threadsOf c).filter fun e => e.2.isCell && !e.2.stopped).length < clampNat 1 32 (s.fld (egKey c 0x40) 0 6)) &&
    decide (s.threadsFor i c < s.threadQuota i c)

/-- The Action Table entry of a cell in its epoch. -/
def State.actionOf (s : State) (c : Cell) : Nat := NatMap.get 0 (s.tablesAt c.epoch).action c.hdr.action

/-- R222, R485: where a waiting cell goes: the lowest cluster that takes it and the context chosen there, or in
SHADOW and REPLAY what its DISPATCH entry names. -/
def State.placeOf (s : State) (c : Cell) : Option (Nat × Nat) :=
  let ae := s.actionOf c
  if s.followsSite 0x01 (fun e => leAt e.body 0 6 == c.hdr.gseq) then
    match s.siteNext 0x01 fun e => leAt e.body 0 6 == c.hdr.gseq with
    | none => none
    | some e =>
      let k := leAt e.body 6 1 % 6
      let t := leAt e.body 7 1 % 32
      if (s.threadAt k t).isNone then some (k, t) else none
  else match lowest 6 fun k => bitAt (aeClusters ae) k && s.clusterTakes k (aeInst ae) with
    | none => none
    | some k => (s.pickContext k).map fun t => (k, t)

/-- R170: the cell may not run its action. -/
def State.actionBad (s : State) (c : Cell) : Bool :=
  let ae := s.actionOf c
  !aeValid ae || aeClusters ae == 0 || (aeInst ae != 0 && aeInst ae != c.hdr.inst)

/-- R170: the cell moves to the null stream with the direct action and completes. -/
def State.actionMove (s : State) (g : Nat) : State :=
  ((s.bump 0x0016081C).completeCell g).modCell g fun c =>
    { c with hdr := { c.hdr with stream := 0, action := 0, inst := 0, egress := 0 } }

/-- R178: errors in the Action Table entry of a cell's epoch. -/
def State.actionChk (s : State) (c : Cell) : State :=
  (s.entryChk c.epoch (actionAddr c.hdr.action) (some c.hdr.gseq)).1

/-- DISPATCH. R170, R222, R223: the first waiting cell, in GSEQ order, that is moved or can be taken. A cell that runs again
waits for the Weir entry of its place (R36, R46). -/
def doDispatch (s : State) : State :=
  let waiting := s.cells.filter fun c => c.stage == .classified
  let s := waiting.foldl (fun s c => (s.actionChk c).restorePending c) s
  match waiting.find? fun c => s.actionBad c || (s.pendingStands c && (s.placeOf c).isSome) with
  | none => s
  | some c =>
    let g := c.hdr.gseq
    let s :=
      if s.actionBad c then s.actionMove g
      else match s.placeOf c with
        | none => s
        | some (k, t) =>
          let ae := s.actionOf c
          let s := if s.followsSite 0x01 (fun e => leAt e.body 0 6 == g) then s.siteTake 0x01 fun e => leAt e.body 0 6 == g
            else s.decision 0x01 0xFFFF (leBytes 6 g ++ leBytes 1 k ++ leBytes 1 t)
          let s := s.startThread k t (cellCore (aeEntry ae)) g (aeInst ae) true 0xFF 0
          s.modCell g fun c => { c with stage := .opened, place := some (k, t) }
    s.classifyReady

/-! ## Helpers (R240 to R248) -/

/-- R243: takes the next request of a helper. -/
def State.helperTake (s : State) (c k : Nat) : Option (State × HelpReq) :=
  match NatMap.get [] s.eg.helpers (4 * c + k) with
  | [] => none
  | r :: rs => some ({ s with eg := { s.eg with helpers := NatMap.put [] s.eg.helpers (4 * c + k) rs } }, r)

/-- R244: the range of Stream (0) or Action (1) indices that an instance reaches. -/
def State.inRange (s : State) (inst table i : Nat) : Bool :=
  let off := if table = 0 then 0x24 else 0x28
  let own (x : Instance) : Bool :=
    decide (x.q off 4 % 0x1000 ≤ i) && decide (i < x.q off 4 % 0x1000 + bitsOf (x.q off 4) 16 12)
  if inst = 0 then !s.inst.any fun e => e.1 != 0 && e.2.state != .absent && own e.2
  else own (s.instAt inst)

/-- LOOKUP. R244, R245: an entry as it stood in the epoch of the thread's cell. -/
def doLookup (c : Nat) (s : State) : State :=
  match s.helperTake c 0 with
  | none => s
  | some (s, r) =>
    if !s.blockOk r 0x18 then s.complete r 0 2
    else if 2 < r.op then s.complete r 0 1
    else match s.blockRead r 0 2 with
      | (s, none) => s.complete r 0 4
      | (s, some l) =>
        let i := ofLe l
        if r.op = 2 && 1024 ≤ i then s.complete r 0 1
        else if r.op ≠ 2 && (4096 ≤ i || !s.inRange r.inst r.op i) then s.complete r 0 3
        else
          let ep := match s.cellAt r.gseq with | some k => k.epoch | none => s.epoch
          let t := s.tablesAt ep
          let (a, v) := match r.op with
            | 0 => (streamAddr i, NatMap.get 0 t.stream i)
            | 1 => (actionAddr i, NatMap.get 0 t.action i)
            | _ => (stationAddr i, NatMap.get 0 t.station i)
          match s.rdChk (s.tableAddr ep a) 16 { gseq := some r.gseq, master := egId r.c r.t } with
          | (s, none) => s.complete r 0 4
          | (s, some _) => (s.blockWrite r 8 (leBytes 16 v)).complete r 0 0

/-- R246: one end of a copy: local bytes, or bytes at a device address. -/
inductive CopyEnd
  | local_ (a : Nat)
  | device (a : Nat)

/-- R246: bit 63 tells a local data address from a device address. -/
def copyEnd (v : Nat) : CopyEnd := if bitAt v 63 then .local_ (v % 0x10000) else .device (v % 2 ^ 40)

/-- R246: local bytes lie in the thread frame, the cell window or the shared window. -/
def localOk (a n : Nat) : Bool :=
  let bad := [(0x3640, 0x4000), (0xC000, 0x10000)]
  decide (a + n ≤ 0x10000) && !bad.any fun b => decide (a < b.2) && decide (b.1 < a + n)

/-- The parts of `n` data addresses from `a` that lie in one region each. -/
def regionParts (a n : Nat) : List (Nat × Nat) :=
  [(0, 0x1000), (0x1000, 0x1040), (0x1040, 0x3640), (0x4000, 0xC000)].filterMap fun r =>
    let lo := max a r.1
    let hi := min (a + n) r.2
    if lo < hi then some (lo, hi - lo) else none

/-- R246: reads one end; the status where it fails. -/
def State.copyRead (s : State) (r : HelpReq) (x : Thread) (e : CopyEnd) (n : Nat) : State × Except Nat (List Byte) :=
  match e with
  | .device a =>
    if !s.mapOk .inst a n then (s.mapErr, .error 2)
    else if !s.granted r.inst a n true false then (s, .error 2)
    else match s.rdMem a n (x.who r.c r.t) 2 with
      | (s, some l) => (s, .ok l)
      | (s, none) => (s, .error 5)
  | .local_ a =>
    if !localOk a n then (s, .error 2)
    else (regionParts a n).foldl (fun acc p =>
      match acc with
      | (s, .error k) => (s, .error k)
      | (s, .ok l) =>
        match s.regionRead r.c r.t x p.1 p.2 with
        | (s, .data m) => (s, .ok (l ++ m))
        | (s, .trap v _) => (s, .error (if v = 8 then 4 else 2))) (s, .ok [])

/-- R246: whether a destination may be written, and the write; its status. -/
def State.copyOk (s : State) (r : HelpReq) (x : Thread) (e : CopyEnd) (n : Nat) : State × Bool :=
  match e with
  | .device a => if !s.mapOk .inst a n then (s.mapErr, false) else (s, s.granted r.inst a n false true)
  | .local_ a => (s, localOk a n && ((dataAddrs a n).findSome? (s.storeFault r.c x)).isNone)

/-- R246: writes the destination; its status (Table 9.9). -/
def State.copyWrite (s : State) (r : HelpReq) (x : Thread) (e : CopyEnd) (l : List Byte) : State × Nat :=
  match e with
  | .device a =>
    match s.wrMem a l (x.who r.c r.t) 2 with
    | (s, true) => (s, 5)
    | (s, false) => (s, 0)
  | .local_ a =>
    match s.thPut r.c r.t x a l with
    | (s, true) => (s, 5)
    | (s, false) => (s, 0)

/-- R246: the copy of one request. -/
def State.copyGo (s : State) (r : HelpReq) (x : Thread) (src dst : CopyEnd) (n : Nat) : State :=
  match s.copyOk r x dst n with
  | (s, false) => s.complete r 1 2
  | (s, true) =>
    match s.copyRead r x src n with
    | (s, .error st) => s.complete r 1 st
    | (s, .ok l) =>
      let (s, st) := s.copyWrite r x dst l
      s.complete r 1 st

/-- COPY. R246. -/
def doCopy (c : Nat) (s : State) : State :=
  match s.helperTake c 1 with
  | none => s
  | some (s, r) =>
    match s.threadAt r.c r.t with
    | none => s
    | some x =>
      let x := { x with core := { x.core with sbank := r.sbank } }
      if !s.blockOk r 0x18 then s.complete r 1 2
      else if r.op ≠ 0 then s.complete r 1 1
      else match s.blockRead r 0 0x14 with
        | (s, none) => s.complete r 1 4
        | (s, some l) =>
          let n := leAt l 0x10 4
          if 65536 < n then s.complete r 1 1
          else if n = 0 then s.complete r 1 0
          else s.copyGo r x (copyEnd (leAt l 0 8)) (copyEnd (leAt l 8 8)) n

/-- R247: the CRC that OP selects, over bytes. -/
def crcOp (op seed : Nat) (l : List Byte) : Nat :=
  let cont := bitAt op 7
  match op % 128 with
  | 0 => crc32From (if cont then seed else 0) l
  | 1 => crcCcitt (if cont then seed % 0x10000 else 0xFFFF) l
  | _ => crcModbus (if cont then seed % 0x10000 else 0xFFFF) l

/-- CRC. R247. -/
def doCrc (c : Nat) (s : State) : State :=
  match s.helperTake c 2 with
  | none => s
  | some (s, r) =>
    match s.threadAt r.c r.t with
    | none => s
    | some x =>
      let x := { x with core := { x.core with sbank := r.sbank } }
      if !s.blockOk r 12 then s.complete r 2 2
      else if 2 < r.op % 128 then s.complete r 2 1
      else match s.blockRead r 0 8 with
        | (s, none) => s.complete r 2 4
        | (s, some l) =>
          let a := leAt l 0 2
          let n := leAt l 2 2
          let seed := leAt l 4 4
          if n ≠ 0 && !(localOk a n && oneRegion a n) then s.complete r 2 2
          else match (if n = 0 then (s, .data []) else s.regionRead r.c r.t x a n) with
            | (s, .trap v _) => s.complete r 2 (if v = 8 then 4 else 2)
            | (s, .data d) => (s.blockWrite r 8 (leBytes 4 (crcOp r.op seed d))).complete r 2 0

/-- R248: a Time request completes now with its status, which is a decision. -/
def State.timeDone (s : State) (q : TimeReq) (status : Nat) : State :=
  let m := egId q.req.c q.req.t
  let isStatus (e : DEntry) : Bool := e.master == m && leAt e.body 0 1 == 1
  let s' := { s with eg := { s.eg with times := s.eg.times.erase q } }
  if s.followsSite 0x06 isStatus then
    match s.siteNext 0x06 isStatus with
    | some e => (s'.siteTake 0x06 isStatus).complete q.req 3 (leAt e.body 4 8 % 256)
    | none => s
  else (s'.decision 0x06 m (leBytes 4 1 ++ leBytes 8 status)).complete q.req 3 status

/-- R248: a request may complete: it ends at once, the Timebase has reached TARGET, or TARGET ns have passed since the helper
received it. -/
def State.timeDue (s : State) (q : TimeReq) : Bool :=
  q.status.isSome || if q.req.op = 1 then decide (q.since + q.target ≤ s.now) else decide (q.target ≤ s.tb.count)

/-- The first Time request of a thread that may complete: of those with OP 1 (`for_`), or of the others. -/
def State.timeOf (s : State) (c t : Nat) (for_ : Bool) : Option TimeReq :=
  s.eg.times.find? fun q => q.req.c == c && q.req.t == t && (q.req.op == 1) == for_ && s.timeDue q

/-- A Time request of the thread completes. -/
def State.timeEnd (s : State) (c t : Nat) (for_ : Bool) : State :=
  match s.timeOf c t for_ with
  | none => s
  | some q => s.timeDone q (q.status.getD 0)

/-- WAIT_UNTIL. R248: the Timebase has reached TARGET, or the request ends at once. -/
def doWaitUntil (c t : Nat) (s : State) : State := s.timeEnd c t false

/-- WAIT_FOR. R248: TARGET ns have passed since the helper received the request, or it ends at once. -/
def doWaitFor (c t : Nat) (s : State) : State := s.timeEnd c t true

/-! ## Belfry's requests from threads -/

/-- The lock operation `op` of a thread's oldest request for it. -/
def State.bfThreadLock (s : State) (c t op : Nat) : State :=
  match s.bfOf (egId c t) op with
  | some r => s.bfTakeLock r
  | none => s

/-- The atomic `op` of a thread's oldest request for it. -/
def State.bfThreadAtomic (s : State) (c t op : Nat) : State :=
  match s.bfOf (egId c t) op with
  | some r => s.bfTakeAtomic r
  | none => s

/-- ATOMIC_DONE. R358: the oldest atomic of a master that has been performed delivers its result and status. -/
def doAtomicDone (master : Nat) (s : State) : State :=
  let s := s.bfRetry
  match s.bf.queue.find? fun r => r.master == master && r.done.isSome && s.bfReady r with
  | none => s
  | some r => if r.ended then (s.bfPerform r).bfFinish r.master r.inst else s.bfPerform r

/-! ## The rows -/

/-- HERON_PARSE_START. -/
def execHeronParseStart (k : Fin 16) (s : State) : Host.Outcome State Fault Refusal := .next (doHeronParseStart k s)
/-- KMOV. -/
def execKmov (k : Fin 16) (s : State) : Host.Outcome State Fault Refusal := .next (doKmov k s)
/-- KPUT. -/
def execKput (k : Fin 16) (s : State) : Host.Outcome State Fault Refusal := .next (doKput k s)
/-- KEND. -/
def execKend (k : Fin 16) (s : State) : Host.Outcome State Fault Refusal := .next (doKend k s)
/-- STEP_LIMIT_ABORT. -/
def execStepLimitAbort (k : Fin 16) (s : State) : Host.Outcome State Fault Refusal := .next (doStepLimitAbort k s)
/-- DISPATCH. -/
def execDispatch (s : State) : Host.Outcome State Fault Refusal := .next (doDispatch s)
/-- LOOKUP. -/
def execLookup (c : Fin 6) (s : State) : Host.Outcome State Fault Refusal := .next (doLookup c s)
/-- COPY. -/
def execCopy (c : Fin 6) (s : State) : Host.Outcome State Fault Refusal := .next (doCopy c s)
/-- CRC. -/
def execCrc (c : Fin 6) (s : State) : Host.Outcome State Fault Refusal := .next (doCrc c s)
/-- WAIT_UNTIL. -/
def execWaitUntil (c : Fin 6) (t : Fin 32) (s : State) : Host.Outcome State Fault Refusal := .next (doWaitUntil c t s)
/-- WAIT_FOR. -/
def execWaitFor (c : Fin 6) (t : Fin 32) (s : State) : Host.Outcome State Fault Refusal := .next (doWaitFor c t s)
/-- ACQUIRE. -/
def execAcquire (c : Fin 6) (t : Fin 32) (s : State) : Host.Outcome State Fault Refusal := .next (s.bfThreadLock c t 1)
/-- TRYACQ. -/
def execTryacq (c : Fin 6) (t : Fin 32) (s : State) : Host.Outcome State Fault Refusal := .next (s.bfThreadLock c t 2)
/-- RELEASE. -/
def execRelease (c : Fin 6) (t : Fin 32) (s : State) : Host.Outcome State Fault Refusal := .next (s.bfThreadLock c t 3)
/-- RELEASE_REPAIRED. -/
def execReleaseRepaired (c : Fin 6) (t : Fin 32) (s : State) : Host.Outcome State Fault Refusal := .next (s.bfThreadLock c t 4)
/-- FADD. -/
def execFadd (c : Fin 6) (t : Fin 32) (s : State) : Host.Outcome State Fault Refusal := .next (s.bfThreadAtomic c t 0x10)
/-- SWAP. -/
def execSwap (c : Fin 6) (t : Fin 32) (s : State) : Host.Outcome State Fault Refusal := .next (s.bfThreadAtomic c t 0x11)
/-- CAS. -/
def execCas (c : Fin 6) (t : Fin 32) (s : State) : Host.Outcome State Fault Refusal := .next (s.bfThreadAtomic c t 0x12)
/-- READ. -/
def execRead (c : Fin 6) (t : Fin 32) (s : State) : Host.Outcome State Fault Refusal := .next (s.bfThreadAtomic c t 0x13)
/-- ATOMIC_DONE. -/
def execAtomicDone (master : BitVec 12) (s : State) : Host.Outcome State Fault Refusal := .next (doAtomicDone master.toNat s)

end Sys2Proof.Machine
end

