-- ==== Sys2Proof/Machine/Floats.lean ====
section
/-! DEFINITION. IEEE 754 binary32 and binary64 on their bit patterns, rounding to nearest even, with canonical
NaNs (spec/08 R257, R258). -/
namespace Sys2Proof.Machine

/-- A binary format: its width, exponent bits and fraction bits. -/
structure FpFmt where
  width : Nat
  eb : Nat
  mb : Nat

/-- binary32 and binary64. -/
def fp32 : FpFmt := ⟨32, 8, 23⟩
def fp64 : FpFmt := ⟨64, 11, 52⟩

/-- A value: not a number, an infinity, or ±m·2^e. -/
inductive Fp
  | nan
  | inf (neg : Bool)
  | fin (neg : Bool) (m : Nat) (e : Int)

/-- The exponent of the last place of the subnormals. -/
def FpFmt.emin (f : FpFmt) : Int := 2 - (2 ^ (f.eb - 1) : Nat) - f.mb

/-- The value of a bit pattern. -/
def FpFmt.decode (f : FpFmt) (n : Nat) : Fp :=
  let neg := bitAt n (f.width - 1)
  let e := bitsOf n f.mb f.eb
  let m := bitsOf n 0 f.mb
  if e = 2 ^ f.eb - 1 then (if m = 0 then .inf neg else .nan)
  else if e = 0 then .fin neg m f.emin
  else .fin neg (2 ^ f.mb + m) (f.emin + e - 1)

/-- The pattern of a sign. -/
def FpFmt.sign (f : FpFmt) (neg : Bool) : Nat := b2n neg * 2 ^ (f.width - 1)

/-- The pattern of an infinity. -/
def FpFmt.infBits (f : FpFmt) (neg : Bool) : Nat := f.sign neg + (2 ^ f.eb - 1) * 2 ^ f.mb

/-- R257: the canonical quiet NaN. -/
def FpFmt.nanBits (f : FpFmt) : Nat := (2 ^ f.eb - 1) * 2 ^ f.mb + 2 ^ (f.mb - 1)

/-- m·2^e, and with `sticky` a remainder below one unit of `m`, rounded to nearest even. With `sticky`, `m` has more
bits than the format keeps. -/
def FpFmt.round (f : FpFmt) (neg : Bool) (m : Nat) (e : Int) (sticky : Bool) : Nat :=
  if m = 0 then f.sign neg
  else
    let q := max (e + Nat.log2 m - f.mb) f.emin
    let k :=
      if q ≤ e then m * 2 ^ (e - q).toNat
      else
        let sh := (q - e).toNat
        let k := m / 2 ^ sh
        let r := m % 2 ^ sh
        let half := 2 ^ (sh - 1)
        if half < r || (r == half && (sticky || k % 2 == 1)) then k + 1 else k
    let bits := (q - f.emin).toNat * 2 ^ f.mb + k
    if (2 ^ f.eb - 1) * 2 ^ f.mb ≤ bits then f.infBits neg else f.sign neg + bits

/-- The pattern of a value. -/
def FpFmt.encode (f : FpFmt) : Fp → Nat
  | .nan => f.nanBits
  | .inf neg => f.infBits neg
  | .fin neg m e => f.round neg m e false

/-- −x. -/
def Fp.neg : Fp → Fp
  | .nan => .nan
  | .inf n => .inf !n
  | .fin n m e => .fin (!n) m e

/-- |x|. -/
def Fp.abs : Fp → Fp
  | .nan => .nan
  | .inf _ => .inf false
  | .fin _ m e => .fin false m e

/-- ±m as an integer at exponent `at_`, which is no higher than `e`. -/
def fpInt (neg : Bool) (m : Nat) (e at_ : Int) : Int :=
  let k := m * 2 ^ (e - at_).toNat
  if neg then -(k : Int) else k

/-- The exact sum; a sum of zero is −0 only where both terms are negative. -/
def Fp.add : Fp → Fp → Fp
  | .nan, _ => .nan
  | _, .nan => .nan
  | .inf a, .inf b => if a = b then .inf a else .nan
  | .inf a, _ => .inf a
  | _, .inf b => .inf b
  | .fin a m e, .fin b n d =>
    let q := min e d
    let i := fpInt a m e q + fpInt b n d q
    if i = 0 then .fin (a && b) 0 q else .fin (decide (i < 0)) i.natAbs q

/-- The exact product. -/
def Fp.mul : Fp → Fp → Fp
  | .nan, _ => .nan
  | _, .nan => .nan
  | .inf a, .inf b => .inf (a != b)
  | .inf a, .fin b n _ => if n = 0 then .nan else .inf (a != b)
  | .fin a m _, .inf b => if m = 0 then .nan else .inf (a != b)
  | .fin a m e, .fin b n d => .fin (a != b) (m * n) (e + d)

/-- The integer part of a square root, bit by bit from bit `k - 1`. -/
def isqrtFrom (n : Nat) : Nat → Nat → Nat
  | 0, r => r
  | k + 1, r => isqrtFrom n k (if (r + 2 ^ k) * (r + 2 ^ k) ≤ n then r + 2 ^ k else r)

/-- The integer part of a square root. -/
def isqrt (n : Nat) : Nat := isqrtFrom n (Nat.log2 n / 2 + 1) 0

/-- (m, e) with an even exponent. -/
def evenExp (m : Nat) (e : Int) : Nat × Int := if e % 2 = 0 then (m, e) else (2 * m, e - 1)

/-- R257: SQRT. -/
def FpFmt.sqrt (f : FpFmt) : Fp → Nat
  | .nan => f.nanBits
  | .inf neg => if neg then f.nanBits else f.infBits false
  | .fin neg m e =>
    if m = 0 then f.sign neg
    else if neg then f.nanBits
    else
      let (m, e) := evenExp m e
      let n := m * 2 ^ 120
      let r := isqrt n
      f.round false r ((e - 120) / 2) (r * r != n)

/-- R257: RCP, 1 ÷ x. -/
def FpFmt.rcp (f : FpFmt) : Fp → Nat
  | .nan => f.nanBits
  | .inf neg => f.sign neg
  | .fin neg m e =>
    if m = 0 then f.infBits neg
    else
      let k := Nat.log2 m + 64
      f.round neg (2 ^ k / m) (-(k : Int) - e) (2 ^ k % m != 0)

/-- R257: RSQRT, 1 ÷ √x. -/
def FpFmt.rsqrt (f : FpFmt) : Fp → Nat
  | .nan => f.nanBits
  | .inf neg => if neg then f.nanBits else f.sign false
  | .fin neg m e =>
    if m = 0 then f.infBits neg
    else if neg then f.nanBits
    else
      let (m, e) := evenExp m e
      let r := isqrt (2 ^ 240 / m)
      f.round false r (-120 - e / 2) (r * r * m != 2 ^ 240)

/-- The integer that FLOOR (`near` false) or rounding to nearest even (`near` true) makes of a magnitude. -/
def roundInt (near neg : Bool) (m : Nat) (e : Int) : Nat :=
  if 0 ≤ e then m * 2 ^ e.toNat
  else
    let d := 2 ^ (-e).toNat
    let k := m / d
    let r := m % d
    if near then (if d < 2 * r || (2 * r == d && k % 2 == 1) then k + 1 else k)
    else if neg && r != 0 then k + 1 else k

/-- FLOOR and ROUND: the sign stays, also that of a zero. -/
def FpFmt.toInteger (f : FpFmt) (near : Bool) : Fp → Nat
  | .nan => f.nanBits
  | .inf neg => f.infBits neg
  | .fin neg m e => f.round neg (roundInt near neg m e) 0 false

/-- R258: F2I and D2I. -/
def Fp.toI32 : Fp → Nat
  | .nan => 0
  | .inf neg => if neg then 0x80000000 else 0x7FFFFFFF
  | .fin neg m e =>
    let k := roundInt true neg m e
    if neg then (if 0x80000000 ≤ k then 0x80000000 else wrapTo 32 (-(k : Int)))
    else min k 0x7FFFFFFF

/-- I2F and I2D. -/
def FpFmt.ofInt (f : FpFmt) (i : Int) : Nat := f.round (decide (i < 0)) i.natAbs 0 false

/-- x < y, false where either is NaN. -/
def Fp.lt : Fp → Fp → Bool
  | .nan, _ => false
  | _, .nan => false
  | .inf a, .inf b => a && !b
  | .inf a, _ => a
  | _, .inf b => !b
  | .fin a m e, .fin b n d =>
    let q := min e d
    decide (fpInt a m e q < fpInt b n d q)

/-- x = y, false where either is NaN; the zeros are equal. -/
def Fp.eq : Fp → Fp → Bool
  | .nan, _ => false
  | _, .nan => false
  | .inf a, .inf b => a == b
  | .inf _, _ => false
  | _, .inf _ => false
  | .fin a m e, .fin b n d =>
    let q := min e d
    decide (fpInt a m e q = fpInt b n d q)

/-- Not a number. -/
def Fp.isNan : Fp → Bool
  | .nan => true
  | _ => false

/-- MIN (`max` false) and MAX of two patterns. With a NaN, and of two zeros of unlike sign, R257's standard leaves
the result open, and so does this model. -/
def FpFmt.minMax (f : FpFmt) (max : Bool) (a b : Nat) : Nat :=
  let x := f.decode a
  let y := f.decode b
  let pick := Config.fpMinMax max (BitVec.ofNat 64 a) (BitVec.ofNat 64 b)
  if x.isNan && y.isNan then f.nanBits
  else if x.isNan then (if pick then b else f.nanBits)
  else if y.isNan then (if pick then a else f.nanBits)
  else if x.eq y then (if a = b || pick then a else b)
  else if x.lt y = max then b else a

/-- R257: A × B + C, rounded once. -/
def FpFmt.fma (f : FpFmt) (a b c : Nat) : Nat := f.encode (((f.decode a).mul (f.decode b)).add (f.decode c))

/-- The functions of FALU (Table 8.2). -/
def FpFmt.alu (f : FpFmt) (fn a b d : Nat) : Nat :=
  let x := f.decode a
  let y := f.decode b
  match fn with
  | 0 => f.encode (x.add y)
  | 1 => f.encode (x.add y.neg)
  | 2 => f.encode (x.mul y)
  | 3 => f.fma a b d
  | 4 => f.minMax false a b
  | 5 => f.minMax true a b
  | 6 => f.encode x.abs
  | _ => f.encode x.neg

/-- The functions of FSPEC (Table 8.2). -/
def FpFmt.spec (f : FpFmt) (fn a : Nat) : Nat :=
  let x := f.decode a
  match fn with
  | 0 => f.sqrt x
  | 1 => f.rcp x
  | 2 => f.rsqrt x
  | 3 => f.toInteger false x
  | _ => f.toInteger true x

end Sys2Proof.Machine
end

