-- ==== Sys2Proof/Machine/CarillonCore.lean ====
section
/-! DEFINITION. What a Carillon word computes on lane and uniform registers: formats, decoding, legality and the
arithmetic of Table 8.2 (spec/08 R255 to R263). -/
namespace Sys2Proof.Machine

/-- The words of Table 8.2 and Table 8.4. -/
inductive CaOp
  | illegal
  | ialu | imul | falu | fspec | cvt | set | sel | shfl | vote | mfs
  | ldw | stw | ldd | std | movi | movh | addi
  | if_ | else_ | endif_ | loop | brk | endloop | bru | jmp | exit | bkpt
  | kstart | kwait | fence
  deriving DecidableEq, Repr

/-- R259: the operation of a word. -/
def caOp (w : Nat) : CaOp :=
  match bitsOf w 26 6 with
  | 0x01 => .ialu | 0x02 => .imul | 0x03 => .falu | 0x04 => .fspec | 0x05 => .cvt | 0x06 => .set | 0x07 => .sel
  | 0x08 => .shfl | 0x09 => .vote | 0x0A => .mfs | 0x10 => .ldw | 0x11 => .stw | 0x12 => .ldd | 0x13 => .std
  | 0x18 => .movi | 0x19 => .movh | 0x1A => .addi | 0x20 => .if_ | 0x21 => .else_ | 0x22 => .endif_ | 0x23 => .loop
  | 0x24 => .brk | 0x25 => .endloop | 0x26 => .bru | 0x27 => .jmp | 0x28 => .exit | 0x29 => .bkpt
  | 0x30 => .kstart | 0x31 => .kwait | 0x32 => .fence | _ => .illegal

/-! ## Operands (R259, R260) -/

/-- A register operand: uniform or per lane, and its number. -/
structure CaReg where
  uni : Bool
  num : Nat

/-- Fields of formats R and I. -/
def rD (w : Nat) : CaReg := ⟨bitAt w 5, bitsOf w 20 6⟩
def rA (w : Nat) : CaReg := ⟨bitAt w 4, bitsOf w 14 6⟩
def rB (w : Nat) : CaReg := ⟨bitAt w 3, bitsOf w 8 6⟩
def rT (w : Nat) : Nat := bitsOf w 6 2
def rFn (w : Nat) : Nat := bitsOf w 0 3
def iD (w : Nat) : CaReg := ⟨bitAt w 13, bitsOf w 20 6⟩
def iA (w : Nat) : CaReg := ⟨bitAt w 12, bitsOf w 14 6⟩

/-- R259: a uniform operand names u0 to u15. -/
def CaReg.ok (r : CaReg) : Bool := !r.uni || decide (r.num < 16)

/-- An fp64 or 64-bit pair names an even register. -/
def CaReg.even (r : CaReg) : Bool := r.num % 2 == 0

/-- R259, R260: a destination and the sources that an operation uses. -/
def caUses (d : CaReg) (srcs : List CaReg) : Bool := d.ok && srcs.all (·.ok) && (!d.uni || srcs.all (·.uni))

/-- R260: with T = 3 every operand is an even v register. -/
def caPairs (rs : List CaReg) : Bool := rs.all fun r => !r.uni && r.even

/-- R259, R260: a word of format R is legal: its T, its FN, the operands it uses, and those that are fp64. -/
def caLegal (w : Nat) : Bool :=
  let d := rD w
  let a := rA w
  let b := rB w
  let t := rT w
  let fn := rFn w
  match caOp w with
  | .ialu | .imul => decide (t ≤ 1) && caUses d [a, b]
  | .falu =>
    let src := if 6 ≤ fn then [a] else [a, b]
    decide (2 ≤ t) && caUses d src && (t == 2 || caPairs (d :: src))
  | .fspec => decide (2 ≤ t) && decide (fn ≤ 4) && caUses d [a] && (t == 2 || caPairs [d, a])
  | .cvt =>
    t == 0 && caUses d (if 6 ≤ fn then [a, b] else [a]) &&
      (if fn = 2 || fn = 4 then caPairs [d] else if fn = 3 || fn = 5 then caPairs [a] else true)
  | .set => caUses d [a, b] && (decide (t ≤ 1) || decide (fn ≤ 5)) && (t != 3 || caPairs [d, a, b])
  | .sel => t == 0 && caUses d [a, b]
  | .shfl => t == 0 && decide (fn ≤ 3) && caUses d [a, b]
  | .vote => t == 0 && decide (fn ≤ 3) && caUses d [a]
  | .mfs => t == 0 && d.ok
  | .kstart => t == 0 && d.uni && a.uni && caUses d [a]
  | .kwait => t == 0 && a.uni && a.ok
  | .fence => t == 0 && d.uni && d.ok
  | _ => true

/-- Register `r` as lane `l` reads it. -/
def Kernel.rd (k : Kernel) (l : Nat) (r : CaReg) : Nat :=
  if r.uni then NatMap.get 0 k.u (r.num % 16) else NatMap.get 0 k.v (64 * l + r.num % 64)

/-- A pair, low word in the even register. -/
def Kernel.rd2 (k : Kernel) (l : Nat) (r : CaReg) : Nat := k.rd l r + 2 ^ 32 * k.rd l ⟨r.uni, r.num + 1⟩

/-- The active lanes, in rising order. -/
def Kernel.lanes (k : Kernel) : List Nat := (upTo 32).filter (bitAt k.exec ·)

/-- Writes one register of one lane, or a uniform one. -/
def Kernel.put1 (k : Kernel) (l : Nat) (r : CaReg) (v : Nat) : Kernel :=
  if r.uni then { k with u := NatMap.put 0 k.u (r.num % 16) (v % 2 ^ 32) }
  else { k with v := NatMap.put 0 k.v (64 * l + r.num % 64) (v % 2 ^ 32) }

/-- Writes a pair. -/
def Kernel.put2 (k : Kernel) (l : Nat) (r : CaReg) (v : Nat) : Kernel :=
  (k.put1 l r v).put1 l ⟨r.uni, r.num + 1⟩ (v / 2 ^ 32)

/-- R255: writes a result to every active lane, or once to a uniform register. -/
def Kernel.wr (k : Kernel) (d : CaReg) (f : Nat → Nat) : Kernel :=
  if d.uni then k.put1 0 d (f 0) else k.lanes.foldl (fun k l => k.put1 l d (f l)) k

/-- The same for pairs. -/
def Kernel.wr2 (k : Kernel) (d : CaReg) (f : Nat → Nat) : Kernel :=
  if d.uni then k.put2 0 d (f 0) else k.lanes.foldl (fun k l => k.put2 l d (f l)) k

/-! ## Arithmetic (Table 8.2) -/

/-- IALU on `w` bits. -/
def caIalu (w fn a b : Nat) : Nat :=
  let n := b % w
  match fn with
  | 0 => (a + b) % 2 ^ w
  | 1 => (a + 2 ^ w - b) % 2 ^ w
  | 2 => a &&& b
  | 3 => a ||| b
  | 4 => a ^^^ b
  | 5 => a * 2 ^ n % 2 ^ w
  | 6 => a / 2 ^ n
  | _ => wrapTo w (signedOf w a / ((2 ^ n : Nat) : Int))

/-- IMUL on `w` bits; `d` is the old destination. -/
def caImul (w fn a b d : Nat) : Nat :=
  let x := signedOf w a
  let y := signedOf w b
  match fn with
  | 0 => a * b % 2 ^ w
  | 1 => wrapTo w (x * y / ((2 ^ w : Nat) : Int))
  | 2 => a * b / 2 ^ w
  | 3 => if x ≤ y then a else b
  | 4 => if x ≤ y then b else a
  | 5 => min a b
  | 6 => max a b
  | _ => (a * b + d) % 2 ^ w

/-- Applies a function to a word, or with T = 1 to each half (R258). -/
def caHalves (t : Nat) (f : Nat → Nat → Nat → Nat → Nat) (a b d : Nat) : Nat :=
  if t = 1 then
    f 16 (a % 0x10000) (b % 0x10000) (d % 0x10000) + 0x10000 * f 16 (a / 0x10000) (b / 0x10000) (d / 0x10000)
  else f 32 a b d

/-- CVT. -/
def caCvt (fn a b : Nat) : Nat :=
  match fn with
  | 0 => fp32.ofInt (signedOf 32 a)
  | 1 => (fp32.decode a).toI32
  | 2 => fp64.encode (fp32.decode a)
  | 3 => fp32.encode (fp64.decode a)
  | 4 => fp64.ofInt (signedOf 32 a)
  | 5 => (fp64.decode a).toI32
  | 6 => a % 0x10000 + 0x10000 * (b % 0x10000)
  | _ => wrapTo 32 (signedOf 16 (a / 2 ^ (16 * (b % 2))))

/-- SET: a condition on integers of `w` bits. -/
def caCondI (w k a b : Nat) : Bool :=
  let x := signedOf w a
  let y := signedOf w b
  match k with
  | 0 => a == b | 1 => a != b | 2 => decide (x < y) | 3 => decide (x ≤ y) | 4 => decide (y < x)
  | 5 => decide (y ≤ x) | 6 => decide (a < b) | _ => decide (b ≤ a)

/-- SET: a condition on floating-point values. -/
def caCondF (k : Nat) (x y : Fp) : Bool :=
  match k with
  | 0 => x.eq y | 1 => !x.eq y | 2 => x.lt y | 3 => x.lt y || x.eq y | 4 => y.lt x | _ => y.lt x || x.eq y

/-- SET: the value of D. -/
def caSet (t k a b : Nat) : Nat :=
  match t with
  | 0 => if caCondI 32 k a b then 2 ^ 32 - 1 else 0
  | 1 => caHalves 1 (fun w a b _ => if caCondI w k a b then 2 ^ w - 1 else 0) a b 0
  | 2 => if caCondF k (fp32.decode a) (fp32.decode b) then 2 ^ 32 - 1 else 0
  | _ => if caCondF k (fp64.decode a) (fp64.decode b) then 2 ^ 64 - 1 else 0

/-- R261: the source lane of SHFL. -/
def shflLane (fn l b : Nat) : Nat :=
  let src : Int := match fn with
    | 0 => b
    | 1 => (l : Int) - b
    | 2 => l + b
    | _ => ((l ^^^ b : Nat) : Int)
  if 0 ≤ src && src < 32 then src.toNat else l

/-- R261: the result of VOTE. -/
def Kernel.vote (k : Kernel) (fn : Nat) (a : CaReg) : Nat :=
  let ls := k.lanes
  match fn with
  | 0 => b2n (ls.all fun l => k.rd l a != 0)
  | 1 => b2n (ls.any fun l => k.rd l a != 0)
  | 2 => ls.foldl (fun n l => if k.rd l a != 0 then n + 2 ^ l else n) 0
  | _ => b2n (ls.all fun l => ls.all fun m => k.rd l a == k.rd m a)

/-- The next word, and a target (R262). -/
def Kernel.next (k : Kernel) : Kernel := { k with pc := (k.pc + 1) % 0x4000 }
def Kernel.goto (k : Kernel) (w : Nat) : Kernel := { k with pc := wrapTo 14 ((k.pc : Int) + 1 + signedOf 16 w) }

/-- The active lanes whose A is not 0. -/
def Kernel.cond (k : Kernel) (r : Nat) : Nat :=
  k.lanes.foldl (fun n l => if k.rd l ⟨false, r⟩ != 0 then n + 2 ^ l else n) 0

/-- The top entry of the mask stack is of a kind. -/
def Kernel.top (k : Kernel) (loop : Bool) : Bool := decide (0 < k.depth) && bitAt k.mkind (k.depth - 1) == loop

/-- Its masks. -/
def Kernel.topSaved (k : Kernel) : Nat := NatMap.get 0 k.saved (k.depth - 1)
def Kernel.topAlt (k : Kernel) : Nat := NatMap.get 0 k.alt (k.depth - 1)

/-- Pushes an entry. -/
def Kernel.push (k : Kernel) (loop : Bool) (alt : Nat) : Kernel :=
  { k with
    saved := NatMap.put 0 k.saved k.depth k.exec, alt := NatMap.put 0 k.alt k.depth alt
    mkind := putBits k.mkind k.depth 1 (b2n loop), depth := k.depth + 1 }

/-- Pops the top entry, whose slot reads 0 from then on. -/
def Kernel.pop (k : Kernel) : Kernel :=
  let e := k.depth - 1
  { k with saved := NatMap.put 0 k.saved e 0, alt := NatMap.put 0 k.alt e 0, mkind := putBits k.mkind e 1 0, depth := e }

/-- A token. -/
def Kernel.tok (k : Kernel) (t : Nat) : Option CaToken := k.toks.find? fun x => x.num == t

/-- Some held operation has not ended. -/
def Kernel.unfinished (k : Kernel) : Bool := k.toks.any fun x => x.status == .waiting

/-- CA_Gg_KTOK. -/
def Kernel.ktok (k : Kernel) : Nat :=
  k.toks.foldl (fun n x => n + 2 ^ x.num + (match x.status with
    | .waiting => 0 | .done => 2 ^ (8 + x.num) | _ => 2 ^ (16 + x.num))) 0

/-- What a word does: the kernel goes on, waits at the word, or parks with a cause, token, SUB and address. -/
inductive CaRes
  | go (k : Kernel)
  | wait
  | park (cause tok sub : Nat) (addr : Option Nat)

/-- A fault of Table 8.9 with a cause alone. -/
def CaRes.bad (cause : Nat) : CaRes := .park cause 0 0 none

/-- The words of format R and L that work on registers alone, ADDI among them. -/
def Kernel.alu (k : Kernel) (g : Nat) (w : Nat) : Kernel :=
  let d := rD w
  let a := rA w
  let b := rB w
  let t := rT w
  let fn := rFn w
  match caOp w with
  | .ialu => k.wr d fun l => caHalves t (fun n a b _ => caIalu n fn a b) (k.rd l a) (k.rd l b) 0
  | .imul => k.wr d fun l => caHalves t (fun n => caImul n fn) (k.rd l a) (k.rd l b) (k.rd l d)
  | .falu =>
    if t = 2 then k.wr d fun l => fp32.alu fn (k.rd l a) (k.rd l b) (k.rd l d)
    else k.wr2 d fun l => fp64.alu fn (k.rd2 l a) (k.rd2 l b) (k.rd2 l d)
  | .fspec =>
    if t = 2 then k.wr d fun l => fp32.spec fn (k.rd l a) else k.wr2 d fun l => fp64.spec fn (k.rd2 l a)
  | .cvt =>
    let src (l : Nat) : Nat := if fn = 3 || fn = 5 then k.rd2 l a else k.rd l a
    if fn = 2 || fn = 4 then k.wr2 d fun l => caCvt fn (src l) 0 else k.wr d fun l => caCvt fn (src l) (k.rd l b)
  | .set =>
    if t = 3 then k.wr2 d fun l => caSet t fn (k.rd2 l a) (k.rd2 l b)
    else k.wr d fun l => caSet t fn (k.rd l a) (k.rd l b)
  | .sel => k.wr d fun l => if k.rd l d != 0 then k.rd l a else k.rd l b
  | .shfl => k.wr d fun l => k.rd (shflLane fn l (k.rd l b % 32)) a
  | .vote => k.wr d fun _ => k.vote fn a
  | .mfs =>
    k.wr d fun l =>
      match bitsOf w 14 6 with
      | 0 => if d.uni then (Config.mfsOther 0).toNat else l
      | 1 => g
      | 2 => k.exec
      | 3 => k.lnum
      | 4 => k.launch.req.inst
      | n => (Config.mfsOther n).toNat
  | .movi => k.wr ⟨bitAt w 19, bitsOf w 20 6⟩ fun _ => wrapTo 32 (signedOf 19 w)
  | .movh =>
    let d : CaReg := ⟨bitAt w 19, bitsOf w 20 6⟩
    k.wr d fun l => k.rd l d % 0x2000 + bitsOf w 0 19 * 0x2000
  | .addi => k.wr (iD w) fun l => wrapTo 32 ((k.rd l (iA w) : Int) + signedOf 12 w)
  | _ => k

/-- R256, R262, R263: the control words of Table 8.4, but for EXIT and BKPT. -/
def Kernel.control (k : Kernel) (w : Nat) : CaRes :=
  let c := k.cond (bitsOf w 20 6)
  let at_ (k' : Kernel) : CaRes := if k'.exec = 0 then .go { k' with pc := (k.goto w).pc } else .go k'.next
  match caOp w with
  | .if_ =>
    if 16 ≤ k.depth then .bad 6
    else at_ { k.push false (k.exec - c) with exec := c }
  | .else_ => if k.top false then at_ { k with exec := k.topAlt } else .bad 1
  | .endif_ => if k.top false then .go { k.pop with exec := k.topSaved }.next else .bad 1
  | .loop => if 16 ≤ k.depth then .bad 6 else .go (k.push true 0).next
  | .brk =>
    if !k.top true then .bad 1
    else if k.exec - c = 0 then .go { k.pop with exec := k.topSaved, pc := (k.goto w).pc }
    else .go { k with exec := k.exec - c }.next
  | .bru =>
    let a : CaReg := ⟨true, bitsOf w 20 6⟩
    let n := bitsOf w 16 4
    if !a.ok || 4 ≤ n then .bad 1
    else
      let x := signedOf 32 (k.rd 0 a)
      let yes := match n with
        | 0 => decide (x = 0) | 1 => decide (x ≠ 0) | 2 => decide (x < 0) | _ => decide (0 ≤ x)
      .go (if yes then k.goto w else k.next)
  | _ => .go (k.goto w)

end Sys2Proof.Machine
end

