-- ==== Sys2Proof/Machine/CarillonOps.lean ====
section
/-! DEFINITION. Carillon groups over the whole state: ownership, memory, parking, ending, and one step (spec/08 R263 to
R274, R286 to R297). -/
namespace Sys2Proof.Machine

/-- CA_Gg register `off`. -/
abbrev caKey (g off : Nat) : Nat := 0x00280000 + 0x10000 * g + off

/-- The kernel on a group. -/
def State.kernel (s : State) (g : Nat) : Option Kernel := (s.ca.groups.find? fun e => e.1 == g).map (·.2)

/-- Puts a kernel on a group. -/
def State.setKernel (s : State) (g : Nat) (k : Kernel) : State :=
  { s with ca := { s.ca with groups := NatMap.ins s.ca.groups g k } }

/-- The group runs no kernel. -/
def State.freeGroup (s : State) (g : Nat) : State := { s with ca := { s.ca with groups := NatMap.del s.ca.groups g } }

/-! ## Ownership (R417) -/

/-- The tenant that is not ABSENT for which `p` holds, or I0. -/
def State.ownerBy (s : State) (p : Instance → Bool) : Nat :=
  match s.inst.find? fun e => e.1 != 0 && e.2.state != .absent && p e.2 with
  | some e => e.1
  | none => 0

/-- The owner of group `g`. -/
def State.groupOwner (s : State) (g : Nat) : Nat := s.ownerBy fun x => bitAt (x.q 0x19 1) g

/-- A region of 256-word blocks, as PSTORE and CODE give it, holds word `w`. -/
def regionHas (q w : Nat) : Bool :=
  decide (bitsOf q 0 6 ≤ w / 256) && decide (w / 256 < bitsOf q 0 6 + bitsOf q 8 6)

/-- R263, R419: word `w` of the code store lies in an instance's code region. -/
def State.codeOk (s : State) (i w : Nat) : Bool :=
  decide (w < 16384) &&
    (if i = 0 then s.ownerBy (fun x => regionHas (x.q 0x36 2) w) == 0 else regionHas ((s.instAt i).q 0x36 2) w)

/-- Whom an error of a kernel concerns (R547). -/
def Kernel.who (k : Kernel) : Who :=
  let i := k.launch.req.inst
  { inst := if i = 0 then none else some i, gseq := some k.launch.req.gseq }

/-! ## Lane addresses (R265) -/

/-- The device address of a far lane address. -/
def Kernel.farDev (k : Kernel) (a : Nat) : Nat := k.launch.farBase + (a - 0x80000000)

/-- R265, R299: the cause with which a lane access of `n` bytes at `a` faults. -/
def State.laneFault (s : State) (k : Kernel) (a n : Nat) (wr : Bool) : Option Nat :=
  if a % n ≠ 0 then some 3
  else if a < 0x40000 then none
  else if a < 0x80000000 then some 3
  else if !k.launch.farEn then some 4
  else
    let dev := k.farDev a
    if s.mapOk .inst dev n && s.granted k.launch.req.inst dev n (!wr) wr then none else some 4

/-- R265: the lowest cause that the lanes of an access raise, with the address of its first lane; a far address
outside the map counts as a refused access. -/
def State.lanesFault (s : State) (k : Kernel) (l : List (Nat × Nat)) (n : Nat) (wr : Bool) : State × Option (Nat × Nat) :=
  let f := l.filterMap fun e => (s.laneFault k e.2 n wr).map fun c => (c, e.2)
  let s := l.foldl (fun s e =>
    if e.2 % n = 0 && 0x80000000 ≤ e.2 && k.launch.farEn && !s.mapOk .inst (k.farDev e.2) n then s.mapErr else s) s
  (s, match f.find? fun e => e.1 == 3 with | some e => some e | none => f.head?)

/-- The lanes of an access with their addresses: the active ones, or one for a uniform destination. -/
def Kernel.lanesAt (k : Kernel) (w : Nat) : List (Nat × Nat) :=
  let ls := if (iD w).uni then [0] else k.lanes
  ls.map fun l => (l, wrapTo 32 ((k.rd l (iA w) : Int) + signedOf 12 w))

/-! ## Loads (R265 to R269) -/

/-- The bytes of a DRAM granule of 64 that lanes address, as (first, count). -/
def granuleSpan (devs : List Nat) (n b : Nat) : Nat × Nat :=
  let mine := devs.filter fun d => d / 64 == b
  let lo := mine.foldl min (64 * b + 64)
  let hi := mine.foldl (fun m d => max m (d + n)) lo
  (lo, hi - lo)

/-- Offers one access for each distinct 64-byte granule of DRAM that the lanes address; the lanes with their places. -/
def State.loadOffer (s : State) (k : Kernel) (l : List (Nat × Nat)) (n : Nat) :
    State × List (Nat × Nat × Option (Nat × Nat)) :=
  let dram := (l.filter fun e => 0x80000000 ≤ e.2 && k.farDev e.2 < 0x800000000).map fun e => k.farDev e.2
  let blocks := (dram.map (· / 64)).eraseDups
  let (s, accs) := blocks.foldl (fun (acc : State × List (Nat × Nat × Nat)) b =>
    let (lo, cnt) := granuleSpan dram n b
    let (s, id) := acc.1.dramOffer { port := 3, write := false, addr := lo, data := List.replicate cnt 0, who := k.who }
    (s, acc.2 ++ [(b, id, lo)])) (s, [])
  (s, l.map fun e =>
    if e.2 < 0x80000000 then (e.1, e.2, none)
    else
      let d := k.farDev e.2
      (e.1, e.2, if d < 0x800000000 then
        (accs.find? fun a => a.1 == d / 64).map fun a => (a.2.1, d - a.2.2) else none))

/-- The data of one lane; none where an uncorrectable error is met (R269). -/
def State.laneData (s : State) (g : Nat) (k : Kernel) (n : Nat) (e : Nat × Nat × Option (Nat × Nat)) :
    State × Option (List Byte) :=
  let a := e.2.1
  if a < 0x80000000 then s.rdChk (localAddr g + a) n k.who
  else
    let dev := k.farDev a
    let (s, d) := match e.2.2 with
      | some (id, off) =>
        match s.accAt id with
        | some x => (s, if x.bad then none else some ((x.data.drop off).take n))
        | none => (s, none)
      | none => s.rdMem dev n k.who
    (s, d.map (overlay k.posted dev))

/-- Fills the destination from the lanes' data, or gives the address that met an uncorrectable error. -/
def State.loadFill (s : State) (g : Nat) (k : Kernel) (x : CaLoad) : State × Except Nat Kernel :=
  let n := if x.pair then 8 else 4
  x.lanes.foldl (fun acc e =>
    match acc with
    | (s, .error a) => (s, .error a)
    | (s, .ok y) =>
      match s.laneData g k n e with
      | (s, none) => (s, .error e.2.1)
      | (s, some d) =>
        let r : CaReg := ⟨x.uni, x.dest⟩
        (s, .ok (if x.pair then y.put2 e.1 r (ofLe d) else y.put1 e.1 r (ofLe d)))) (s, .ok k)

/-- LDW and LDD: at once from local memory, after a wait with far lanes. -/
def State.caLoad (s : State) (g : Nat) (k : Kernel) (w : Nat) (pair : Bool) : State × CaRes :=
  let d := iD w
  let n := if pair then 8 else 4
  if !caUses d [iA w] || (pair && !d.even) then (s, .bad 1)
  else
    let l := k.lanesAt w
    match s.lanesFault k l n false with
    | (s, some f) => (s, .park f.1 0 0 (some f.2))
    | (s, none) =>
      if l.any fun e => 0x80000000 ≤ e.2 then
        let (s, places) := s.loadOffer k l n
        (s, .go { k with load := some ⟨d.num, d.uni, pair, places⟩ })
      else match s.loadFill g k ⟨d.num, d.uni, pair, l.map fun e => (e.1, e.2, none)⟩ with
        | (s, .error a) => (s, .park 5 0 0 (some a))
        | (s, .ok k) => (s, .go k.next)

/-! ## Stores (R268) -/

/-- STW and STD: where lanes name one address, the highest lane's data is kept; far stores are posted. -/
def State.caStore (s : State) (g : Nat) (k : Kernel) (w : Nat) (pair : Bool) : State × CaRes :=
  let d := iD w
  let n := if pair then 8 else 4
  if !caUses d [iA w] || (pair && !d.even) then (s, .bad 1)
  else
    let l := k.lanesAt w
    match s.lanesFault k l n true with
    | (s, some f) => (s, .park f.1 0 0 (some f.2))
    | (s, none) =>
      let keep := l.filter fun e => !l.any fun f => f.2 == e.2 && decide (e.1 < f.1)
      let (s, k) := keep.foldl (fun (acc : State × Kernel) e =>
        let (s, k) := acc
        let v := leBytes n (if pair then k.rd2 e.1 d else k.rd e.1 d)
        if e.2 < 0x80000000 then ((s.wrChk (localAddr g + e.2) v k.who).1, k)
        else
          let dev := k.farDev e.2
          let (s, acc) := if dev < 0x800000000 then
              let (s, id) := s.dramOffer { port := 3, write := true, addr := dev, data := v, who := k.who }
              (s, some id)
            else (s, none)
          (s, { k with posted := k.posted ++ [(⟨dev, v, acc⟩ : Posted)] })) (s, k)
      (s, .go k.next)

/-- R268: a kernel's posted far store completes. -/
def State.caPostedDone (s : State) (g : Nat) (k : Kernel) (p : Posted) : State × Kernel :=
  let (s, err) := match p.acc with
    | some id => s.dramEndWrite id
    | none => s.wrMem p.dev p.bytes k.who
  let s := if err then
      let (gr, flags) := s.failedGranule p.dev p.bytes.length
      let (memid, _, addr) := memInfo gr
      let syn := s.eccSyn 5
      s.tick.record { k.who.src 0x0B 0x0010 2 with
        dkind := 1, unit := g, detail := memDetail addr memid syn flags (if memid = 0xF0 then 3 else 0xF) }
    else s
  (s, { k with posted := k.posted.erase p, postErr := k.postErr || err })

/-- Completes every posted store of a kernel. -/
def State.caPostedAll (s : State) (g : Nat) (k : Kernel) : State × Kernel :=
  k.posted.foldl (fun acc p => acc.1.caPostedDone g acc.2 p) (s, k)

/-- A far load that waits takes its accesses away. -/
def State.dropLoad (s : State) (k : Kernel) : State :=
  match k.load with
  | some x => (x.lanes.filterMap fun e => e.2.2.map (·.1)).eraseDups.foldl (fun s id => s.dramTake id) s
  | none => s

/-! ## Ending (R274, R289) -/

/-- STAT of the launch block. -/
def caStat (g cause : Nat) : Nat := g + 8 + 0x100 * cause

/-- R274: the kernel ends as abandoned: STAT and the completion are sent, tokens and the group are free. -/
def State.abandonKernel (s : State) (g : Nat) (k : Kernel) (cause : Nat) : State :=
  let r := k.launch.req
  let s := (s.dropLoad k).blockWrite r 4 (leBytes 4 (caStat g cause))
  ((s.bump (caKey g 0x38)).freeGroup g).complete r 4 0x10

/-! ## The park's outcome (R290) -/

/-- Table 15.3 PARK: the next entry of a group. -/
def State.parkNext (s : State) (g : Nat) : Option DEntry := s.siteNext 0x08 fun e => leAt e.body 0 1 == g

/-- The spaces of a parked group's state (Table 11.9): whether bytes `off` to `off + n - 1` lie in one. -/
def spaceOk (space lane off n : Nat) : Bool :=
  off % 4 == 0 && n % 4 == 0 && decide (0 < n) &&
    (match space with
     | 1 => decide (off + n ≤ 64)
     | 2 => decide (off + n ≤ 256) && decide (lane < 32)
     | 3 => decide (off + n ≤ 128)
     | 4 => decide (off + n ≤ 0x40000)
     | 5 => off == 0 && n == 4
     | _ => false)

/-- R287: a word of a parked kernel's registers. -/
def Kernel.word (k : Kernel) (space lane off : Nat) : Nat :=
  let i := off / 4
  match space with
  | 1 => NatMap.get 0 k.u i
  | 2 => NatMap.get 0 k.v (64 * lane + i)
  | 3 => if i % 2 = 0 then NatMap.get 0 k.saved (i / 2) else NatMap.get 0 k.alt (i / 2)
  | 5 => k.pc
  | _ => 0

/-- R287: writes a word of a parked kernel's registers. -/
def Kernel.setWord (k : Kernel) (space lane off v : Nat) : Kernel :=
  let i := off / 4
  let v := v % 2 ^ 32
  match space with
  | 1 => { k with u := NatMap.put 0 k.u i v }
  | 2 => { k with v := NatMap.put 0 k.v (64 * lane + i) v }
  | 3 =>
    if i % 2 = 0 then { k with saved := NatMap.put 0 k.saved (i / 2) v }
    else { k with alt := NatMap.put 0 k.alt (i / 2) v }
  | 5 => { k with pc := v % 0x4000 }
  | _ => k

/-- R287, R378: writes bytes of a parked group's state or local memory; whether a granule was poisoned. -/
def State.parkWrite (s : State) (g : Nat) (k : Kernel) (space lane off : Nat) (l : List Byte) (w : Who := {}) : State × Bool :=
  if space = 4 then s.wrChk (localAddr g + off) l w
  else
    let words := (upTo (l.length / 4)).map fun j => (off + 4 * j, leAt l (4 * j) 4)
    (s.setKernel g (words.foldl (fun k e => k.setWord space lane e.1 e.2) k), false)

/-- Table 15.3 PARKWR: the entries of one write, 16 bytes each. -/
def parkEntries (g space lane off : Nat) (l : List Byte) : List DEntry :=
  (upTo ((l.length + 15) / 16)).map fun j =>
    let d := (l.drop (16 * j)).take 16
    ⟨0x09, 32, 0xFFFF, leBytes 1 g ++ leBytes 1 space ++ leBytes 1 lane ++ leBytes 1 d.length ++
      leBytes 4 (off + 16 * j) ++ leBytes 4 0 ++ padTo 16 d⟩

/-- R290: applies the next PARKWR entry of a group. -/
def State.parkApply (s : State) (g : Nat) : State :=
  let mine (e : DEntry) : Bool := leAt e.body 0 1 == g
  match s.siteNext 0x09 mine, s.kernel g with
  | some e, some k =>
    let n := leAt e.body 3 1
    let s := (s.parkWrite g k (leAt e.body 1 1) (leAt e.body 2 1) (leAt e.body 4 4) ((e.body.drop 12).take n)).1
    s.siteTake 0x09 mine
  | _, _ => s

/-- R290: records a park's outcome with its writes, or takes the lead's and applies its writes; none where the log
does not allow the outcome now. -/
def State.parkOutcome (s : State) (g : Nat) (k : Kernel) (outcome : Nat) : Option State :=
  if s.followsSite 0x08 fun e => leAt e.body 0 1 == g then
    match s.parkNext g with
    | some e =>
      if leAt e.body 1 1 ≠ outcome then none
      else
        let s := s.siteTake 0x08 fun e => leAt e.body 0 1 == g
        some ((upTo (leAt e.body 8 2)).foldl (fun s _ => s.parkApply g) s)
    | none => none
  else
    let s := s.decision 0x08 0xFFFF
      (leBytes 1 g ++ leBytes 1 outcome ++ leBytes 2 0 ++ leBytes 4 k.lnum ++ leBytes 2 k.writes.length)
    some (k.writes.foldl (fun s e => s.decision e.type e.master e.body 32) s)

/-- R289: ABANDON of a parked group. -/
def State.abandonParked (s : State) (g : Nat) : State :=
  match s.kernel g with
  | none => s
  | some k =>
    match k.park with
    | none => s
    | some p =>
      if p.since.isNone then s
      else match s.parkOutcome g k 2 with
        | none => s
        | some s => s.abandonKernel g k p.cause

/-! ## Parking (R286) -/

/-- CARILLON detail of Table 18.2. -/
def caDetail (g : Nat) (k : Kernel) (p : CaPark) (addr : Nat) : List Byte :=
  leBytes 1 g ++ leBytes 1 p.cause ++ leBytes 1 p.sub ++ leBytes 1 p.tok ++ leBytes 2 k.pc ++ leBytes 1 k.depth ++ [0] ++
    leBytes 4 k.exec ++ leBytes 4 k.ktok ++ leBytes 4 addr ++ leBytes 4 k.lnum ++ List.replicate 8 0

/-- R286, step 4: the held operations have ended and the group is parked. -/
def State.parkFinish (s : State) (g : Nat) : State :=
  match s.kernel g with
  | none => s
  | some k =>
    match k.park with
    | none => s
    | some p =>
      if p.since.isSome || k.unfinished then s
      else
        let s := s.setKernel g { k with park := some { p with since := some s.now } }
        let s := s.record { k.who.src 0x0B 0x0020 2 with
          dkind := 3, unit := g, detail := caDetail g k p (s.regW (caKey g 0x20)) }
        let s := s.setReg (caKey g 0x0C) (p.cause + 0x20 * p.tok + 0x100 * p.sub + 0x10000 * k.pc)
        let s := (s.setBit (caKey g 0x08) 1).bump (caKey g 0x34)
        let s := (s.cause (s.groupOwner g) 10).cause 0 10
        if k.launch.autoAb && !s.followsSite 0x08 (fun e => leAt e.body 0 1 == g) then s.abandonParked g else s

/-- R286: the group parks at its word. -/
def State.caPark (s : State) (g : Nat) (k : Kernel) (cause tok sub : Nat) (addr : Option Nat) : State :=
  let (s, k) := s.caPostedAll g k
  let s := match addr with
    | some a => s.setReg (caKey g 0x20) a
    | none => s
  (s.setKernel g { k with park := some ⟨cause, tok, sub, none⟩ }).parkFinish g

/-! ## Kettle units -/

/-- Kettle unit `n`. -/
def State.kettleAt (s : State) (n : Nat) : Kettle := NatMap.get {} s.ca.kettle n
/-- Changes a unit. -/
def State.modKettle (s : State) (n : Nat) (f : Kettle → Kettle) : State :=
  { s with ca := { s.ca with kettle := NatMap.mod {} s.ca.kettle n f } }

/-- Queues an operation on the unit of group `g`. -/
def State.ktQueue (s : State) (g : Nat) (k : Kernel) (tok addr : Nat) : State :=
  s.modKettle (g / 2) fun u => { u with queue := u.queue ++ [(⟨g, k.uid, tok, addr⟩ : KtOp)] }

/-- R277: KSTART. -/
def State.caKstart (s : State) (g : Nat) (k : Kernel) (w : Nat) : State × CaRes :=
  let a := k.rd 0 (rA w)
  if a % 64 ≠ 0 || 0x40000 < a + 64 then (s, .park 3 0 0 (some a))
  else match lowest 8 fun t => (k.tok t).isNone with
    | none => (s, .bad 9)
    | some t =>
      let k := (k.put1 0 (rD w) t).next
      (s.ktQueue g k t a, .go { k with toks := k.toks ++ [⟨t, a, .waiting⟩] })

/-- The cause and SUB of an operation that faulted. -/
def KtStatus.fault : KtStatus → Option (Nat × Nat)
  | .desc sub => some (7, sub)
  | .ecc => some (8, 0)
  | _ => none

/-- R278: KWAIT. -/
def Kernel.kwait (k : Kernel) (w : Nat) : CaRes :=
  let t := k.rd 0 (rA w) % 8
  match k.tok t with
  | none => .bad 10
  | some x =>
    match x.status with
    | .waiting => .wait
    | .done => .go { k with toks := k.toks.filter fun y => y.num != t }.next
    | st => let f := st.fault.getD (7, 0); .park f.1 t f.2 none

/-- The held operation whose fault EXIT delivers: of the lowest cause, of the lowest token. -/
def Kernel.exitFault (k : Kernel) : Option (Nat × Nat × Nat) :=
  let of (cause : Nat) : Option (Nat × Nat × Nat) :=
    (upTo 8).findSome? fun t =>
      match (k.tok t).bind fun x => x.status.fault with
      | some (c, sub) => if c = cause then some (c, t, sub) else none
      | none => none
  match of 7 with
  | some f => some f
  | none => of 8

/-- R264: EXIT. -/
def Kernel.exit (k : Kernel) : CaRes :=
  if k.depth ≠ 0 then .bad 1
  else if k.unfinished || !k.posted.isEmpty then .wait
  else match k.exitFault with
    | some (c, t, sub) => .park c t sub none
    | none => .go { k with exiting := true }

/-- R268: FENCE. -/
def Kernel.fence (k : Kernel) (w : Nat) : CaRes :=
  if !k.posted.isEmpty then .wait
  else .go { (k.put1 0 (rD w) (b2n k.postErr)) with postErr := false }.next

/-! ## One step (R255, R286) -/

/-- What a word does. -/
def State.caBody (s : State) (g : Nat) (k : Kernel) (w : Nat) : State × CaRes :=
  match caOp w with
  | .illegal => (s, .bad 1)
  | .ldw => s.caLoad g k w false
  | .ldd => s.caLoad g k w true
  | .stw => s.caStore g k w false
  | .std => s.caStore g k w true
  | .if_ | .else_ | .endif_ | .loop | .brk | .endloop | .bru | .jmp => (s, k.control w)
  | .exit => (s, k.exit)
  | .bkpt => (s, .bad 12)
  | .kstart => if caLegal w then s.caKstart g k w else (s, .bad 1)
  | .kwait => (s, if caLegal w then k.kwait w else .bad 1)
  | .fence => (s, if caLegal w then k.fence w else .bad 1)
  | .movi | .movh =>
    (s, if caUses ⟨bitAt w 19, bitsOf w 20 6⟩ [] then .go (k.alu g w).next else .bad 1)
  | .addi => (s, if caUses (iD w) [iA w] then .go (k.alu g w).next else .bad 1)
  | _ => (s, if caLegal w then .go (k.alu g w).next else .bad 1)

/-- R263, R269: the word at a kernel's PC, or the cause and address of its fetch fault. -/
def State.caFetch (s : State) (k : Kernel) : State × Except (Nat × Option Nat) Nat :=
  if !s.codeOk k.launch.req.inst k.pc then (s, .error (2, none))
  else match s.rdChk (codeAddr + 4 * k.pc) 4 k.who with
    | (s, some l) => (s, .ok (ofLe l))
    | (s, none) => (s, .error (5, some k.pc))

/-- The kernel may issue a word. -/
def Kernel.issues (k : Kernel) : Bool := k.park.isNone && k.load.isNone && !k.exiting

/-- The kernel has taken the steps that CA_Gg_ILIM allows. -/
def Kernel.atLimit (k : Kernel) : Bool := k.ilim != 0 && decide (k.ilim ≤ k.steps)

/-- One step of group `g` at a word that satisfies `p`: a fetch fault parks whichever row asks, and so does a reserved
word; past the step limit the word raises ILIMIT, or a lower cause of its own (R286). -/
def State.caStep (s : State) (g : Nat) (p : CaOp → Bool) : State :=
  match s.kernel g with
  | none => s
  | some k =>
    if !k.issues then s
    else match s.caFetch k with
      | (s', .error (c, a)) => s'.caPark g k c 0 0 a
      | (s', .ok w) =>
        if !(p (caOp w) || caOp w == .illegal) then s
        else
          match s'.caBody g k w with
          | (s₁, .park c t sub a) =>
            if k.atLimit && 11 < c then s'.caPark g k 11 0 0 none else s₁.caPark g k c t sub a
          | (s₁, .wait) => if k.atLimit then s₁.caPark g k 11 0 0 none else s
          | (s₁, .go k') =>
            if k.atLimit then s'.caPark g k 11 0 0 none
            else s₁.setKernel g { k' with steps := k.steps + 1 }

/-- One step of group `g` at a word of one row. -/
def State.caRow (s : State) (g : Nat) (op : CaOp) : State := s.caStep g (· == op)

end Sys2Proof.Machine
end

