-- ==== Sys2Proof/Machine/Carillon.lean ====
section
/-! DEFINITION. The commands of the Carillon groups, the launch service and the Kettle units (spec/08). -/
namespace Sys2Proof.Machine

/-! ## The launch service (R271 to R275) -/

/-- R271: the status with which the checks refuse a launch block, if they do. -/
def State.launchCheck (s : State) (r : HelpReq) (b : List Byte) : Option Nat :=
  let farBase := leAt b 8 8
  let i := r.inst
  if r.op ≠ 0 || bitsOf (leAt b 0 2) 14 2 != 0 || leAt b 3 1 / 4 != 0 || farBase % 4096 != 0 || 2 ^ 40 ≤ farBase then some 1
  else if !(upTo 8).any fun g => bitAt (leAt b 2 1) g && s.groupOwner g == i then some 3
  else if !s.codeOk i (leAt b 0 2) then some 2
  else none

/-- LAUNCH_REQUEST. R271, R272: the service takes the next entry of 0x3F4 while the launch queue has room. -/
def doLaunchRequest (s : State) : State :=
  match s.eg.launchReqs with
  | [] => s
  | r :: rs =>
    if 32 ≤ s.ca.queue.length then s
    else
      let s := { s with eg := { s.eg with launchReqs := rs } }
      let refuse (s : State) (status : Nat) : State := (s.bump 0x00310814).complete r 4 status
      if !s.blockOk r 64 then refuse s 2
      else match s.blockRead r 0 64 with
        | (s, none) => refuse s 4
        | (s, some b) =>
          match s.launchCheck r b with
          | some st => refuse s st
          | none =>
            let f := leAt b 3 1
            let x : Launch := {
              req := r, entry := leAt b 0 2, groups := leAt b 2 1, farEn := bitAt f 0, autoAb := bitAt f 1
              farBase := leAt b 8 8, arg := (b.drop 0x10).take 32 }
            { s with ca := { s.ca with queue := s.ca.queue ++ [x] } }

/-- R272: group `g` can take a launch. -/
def State.groupTakes (s : State) (x : Launch) (g : Nat) : Bool :=
  bitAt x.groups g && s.groupOwner g == x.req.inst && s.runningBlock 2 g && (s.kernel g).isNone

/-- R273: a launch starts on a group. -/
def State.startKernel (s : State) (x : Launch) (g : Nat) : State :=
  let u := (upTo 8).foldl (fun m i => NatMap.put 0 m i (leAt x.arg (4 * i) 4)) []
  let k : Kernel := {
    launch := x, lnum := s.ca.lnum, uid := s.ca.nextUid, pc := x.entry, u
    ilim := s.regW (caKey g 0x10), pto := s.fld (caKey g 0x14) 0 16 }
  let s := { s with ca := { s.ca with
    queue := s.ca.queue.erase x, lnum := (s.ca.lnum + 1) % 2 ^ 32, nextUid := s.ca.nextUid + 1 } }
  ((s.blockTakes (8 + g) x.req.inst).bump 0x00310810).setKernel g k

/-- The master of a launch: the thread that asked. -/
def Launch.master (x : Launch) : Nat := egId x.req.c x.req.t

/-- KERNEL_START. R272, R275: the first launch in the queue that can start does so on the lowest group; in SHADOW
and REPLAY the launch and the group that the log names next. -/
def doKernelStart (s : State) : State :=
  if s.followsSite 0x07 fun _ => true then
    match s.siteNext 0x07 fun _ => true with
    | none => s
    | some e =>
      let g := leAt e.body 0 1 % 8
      match s.ca.queue.find? fun x => x.master == e.master with
      | some x => if s.groupTakes x g then (s.siteTake 0x07 fun _ => true).startKernel x g else s
      | none => s
  else
    match s.ca.queue.findSome? fun x => (lowest 8 (s.groupTakes x)).map fun g => (x, g) with
    | none => s
    | some (x, g) =>
      (s.decision 0x07 x.master (leBytes 1 g ++ leBytes 3 0 ++ leBytes 4 s.ca.lnum)).startKernel x g

/-- KERNEL_END. R274: after EXIT, RET and STAT are written and the completion is sent. -/
def doKernelEnd (g : Nat) (s : State) : State :=
  match s.kernel g with
  | none => s
  | some k =>
    if !k.exiting then s
    else
      let r := k.launch.req
      let s := s.blockWrite r 0x30 ((upTo 4).flatMap fun i => leBytes 4 (NatMap.get 0 k.u i))
      let s := s.blockWrite r 4 (leBytes 4 (caStat g 0))
      ((s.bump (caKey g 0x30)).freeGroup g).complete r 4 (if k.postErr then 5 else 0)

/-! ## Waits and limits -/

/-- ILIMIT. R286: a kernel that has taken CA_Gg_ILIM steps parks at its next word, whichever it is. -/
def doIlimit (g : Nat) (s : State) : State :=
  match s.kernel g with
  | none => s
  | some k => if k.atLimit then s.caStep g fun _ => true else s

/-- CA_FAR_LOAD_DATA. R268, R269: once every access of the load is done, its data arrive. -/
def doCaFarLoadData (g : Nat) (s : State) : State :=
  match s.kernel g with
  | none => s
  | some k =>
    match k.load with
    | none => s
    | some x =>
      let ready := x.lanes.all fun e =>
        match e.2.2 with
        | none => true
        | some (id, _) => match s.accAt id with | some a => a.done | none => true
      if !ready then s
      else
        let (s, r) := s.loadFill g { k with load := none } x
        let s := s.dropLoad k
        match r with
        | .ok k => s.setKernel g k.next
        | .error a => s.caPark g { k with load := none } 5 0 0 (some a)

/-- CA_POSTED_STORE_COMPLETE. R268: the kernel's oldest posted store that can complete does. -/
def doCaPostedStoreComplete (g : Nat) (s : State) : State :=
  match s.kernel g with
  | none => s
  | some k =>
    let ready (p : Posted) : Bool :=
      match p.acc with
      | none => true
      | some id => match s.accAt id with | some a => a.done | none => true
    match k.posted.find? ready with
    | none => s
    | some p =>
      let (s, k) := s.caPostedDone g k p
      s.setKernel g k

/-! ## Park outcomes (R287 to R290) -/

/-- R288: at a KWAIT or an EXIT whose held operation faulted, that operation is queued again. -/
def State.requeue (s : State) (g : Nat) (k : Kernel) : State :=
  let again (t : Nat) : State :=
    match k.tok t with
    | some x =>
      if x.status.fault.isNone then s.setKernel g k
      else
        let k := { k with toks := k.toks.map fun y => if y.num == t then { y with status := .waiting } else y }
        (s.ktQueue g k t x.addr).setKernel g k
    | none => s.setKernel g k
  match (s.caFetch k).2 with
  | .ok w =>
    if caOp w = .kwait && caLegal w then again (k.rd 0 (rA w) % 8)
    else if caOp w = .exit then
      match k.exitFault with
      | some f => again f.2.1
      | none => s.setKernel g k
    else s.setKernel g k
  | .error _ => s.setKernel g k

/-- R288: RESUME of a parked group. -/
def State.resumeParked (s : State) (g : Nat) : State :=
  match s.kernel g with
  | none => s
  | some k =>
    match k.park.bind (·.since) with
    | none => s
    | some _ =>
      match s.parkOutcome g k 1 with
      | none => s
      | some s =>
        match s.kernel g with
        | some k => s.requeue g { k with park := none, writes := [] }
        | none => s

/-- RESUME. -/
def doResume (g : Nat) (s : State) : State := s.resumeParked g
/-- ABANDON. -/
def doAbandon (g : Nat) (s : State) : State := s.abandonParked g

/-- PARK_TIMEOUT. R289. -/
def doParkTimeout (g : Nat) (s : State) : State :=
  match s.kernel g with
  | none => s
  | some k =>
    match k.park.bind (·.since) with
    | some t => if k.pto ≠ 0 && t + 1000000 * k.pto < s.now then s.abandonParked g else s
    | none => s

/-- The space, lane and offset of a word of a group's state by its offset in the group block; EXEC is 6, the kinds of
the mask stack 7. -/
def caWindow (off : Nat) : Option (Nat × Nat × Nat) :=
  if off = 0x18 then some (6, 0, 0)
  else if off = 0x1C then some (5, 0, 0)
  else if off = 0x24 then some (7, 0, 0)
  else if 0x800 ≤ off && off < 0x840 then some (1, 0, off - 0x800)
  else if 0x900 ≤ off && off < 0x980 then some (3, 0, off - 0x900)
  else if 0x1000 ≤ off && off < 0x3000 then some (2, (off - 0x1000) / 0x100, (off - 0x1000) % 0x100)
  else none

/-- R287: what a word of a group's state reads as. -/
def State.caRead (s : State) (g off : Nat) : Nat :=
  match s.kernel g, caWindow off with
  | some k, some (sp, lane, o) =>
    if (k.park.bind (·.since)).isNone then 0
    else if sp = 6 then k.exec else if sp = 7 then k.mkind else k.word sp lane o
  | _, _ => 0

/-- CA_STATE_WRITE. R287. -/
def doCaStateWrite (g off v : Nat) (s : State) : State :=
  match caWindow off with
  | none => s
  | some (sp, lane, o) =>
    match s.kernel g with
    | some k =>
      if (k.park.bind (·.since)).isNone then s.setBit (caKey g 0x08) 2
      else
        s.setKernel g (if sp = 6 then { k with exec := v % 2 ^ 32 }
          else if sp = 7 then { k with mkind := v % 0x10000 } else k.setWord sp lane o v)
    | none => s.setBit (caKey g 0x08) 2

/-! ## Kettle (R279 to R285) -/

/-- A descriptor's fields (Table 8.7). -/
def ktOp (d : List Byte) : Nat := leAt d 0 1
def ktInt (d : List Byte) : Bool := leAt d 1 1 == 1
def ktM (d : List Byte) : Nat := leAt d 4 2
def ktN (d : List Byte) : Nat := leAt d 6 2
def ktK (d : List Byte) : Nat := leAt d 8 2
def ktFlag (d : List Byte) (i : Nat) : Bool := bitAt (leAt d 2 1) i

/-- An operand in local memory: its address, row stride, rows, columns and element size. -/
structure KtMat where
  addr : Nat
  ld : Nat
  rows : Nat
  cols : Nat
  size : Nat

/-- The matrices A, B, C and D of a descriptor (R280). -/
def ktMat (d : List Byte) (i rows cols size : Nat) : KtMat :=
  ⟨leAt d (0x0C + 4 * i) 4, leAt d (0x1C + 4 * i) 4, rows, cols, size⟩

/-- R280: the source operands that OP uses. -/
def ktSrcs (d : List Byte) : List KtMat :=
  let e := if ktInt d then 2 else 4
  let m := ktM d
  let n := ktN d
  let k := ktK d
  if ktOp d = 3 then [ktMat d 0 n m e]
  else
    [if ktFlag d 0 then ktMat d 0 k m e else ktMat d 0 m k e, if ktFlag d 1 then ktMat d 1 n k e else ktMat d 1 k n e]

/-- C, where OP uses it, and D. -/
def ktC (d : List Byte) : KtMat := ktMat d 2 (ktM d) (ktN d) 4
def ktD (d : List Byte) : KtMat := ktMat d 3 (ktM d) (ktN d) 4

/-- The address after an operand's last element. -/
def KtMat.last (x : KtMat) : Nat := x.addr + (x.rows - 1) * x.ld + x.cols * x.size

/-- Two operands' extents meet. -/
def KtMat.meets (x y : KtMat) : Bool := decide (x.addr < y.last) && decide (y.addr < x.last)

/-- R282, Table 8.10: the first failing check. -/
def ktCheck (d : List Byte) : Option Nat :=
  let op := ktOp d
  let dim (n : Nat) : Bool := decide (16 ≤ n) && decide (n ≤ 256) && n % 16 == 0
  let srcs := ktSrcs d
  let withC := if op = 2 then srcs ++ [ktC d] else srcs
  let all := withC ++ [ktD d]
  let c := ktC d
  let x := ktD d
  if op = 0 || 3 < op || 1 < leAt d 1 1 || leAt d 2 1 / 8 != 0 || leAt d 3 1 != 0 || leAt d 0x0A 2 != 0 ||
      leAt d 0x2C 20 != 0 then some 1
  else if !(dim (ktM d) && dim (ktN d) && (op == 3 || dim (ktK d))) then some 2
  else if all.any fun y => y.addr % 4 != 0 || y.ld % 4 != 0 then some 3
  else if all.any fun y => 0x40000 < y.last then some 4
  else if srcs.any x.meets || (op == 2 && x.meets c && !(x.addr == c.addr && x.ld == c.ld)) then some 5
  else none

/-- Reads an operand row by row; none where an uncorrectable error is met. -/
def State.ktRead (s : State) (g : Nat) (w : Who) (x : KtMat) : State × Option (List (List Nat)) :=
  (upTo x.rows).foldl (fun acc r =>
    match acc with
    | (s, none) => (s, none)
    | (s, some m) =>
      match s.rdChk (localAddr g + x.addr + r * x.ld) (x.cols * x.size) w with
      | (s, none) => (s, none)
      | (s, some l) => (s, some (m ++ [(upTo x.cols).map fun c => leAt l (c * x.size) x.size]))) (s, some [])

/-- Element (r, c). -/
def elem (m : List (List Nat)) (r c : Nat) : Nat := (m.getD r []).getD c 0

/-- R281: an element of D. -/
def ktElem (d : List Byte) (a b : List (List Nat)) (c : Nat) (i j : Nat) : Nat :=
  let at_ (k : Nat) : Nat := if ktFlag d 0 then elem a k i else elem a i k
  let bt (k : Nat) : Nat := if ktFlag d 1 then elem b j k else elem b k j
  if ktInt d then
    let sum := (upTo (ktK d)).foldl (fun (acc : Int) k => acc + signedOf 16 (at_ k) * signedOf 16 (bt k)) (signedOf 32 c)
    wrapTo 32 (if ktFlag d 2 then clampInt (-0x80000000) 0x7FFFFFFF sum else sum)
  else (upTo (ktK d)).foldl (fun acc k => fp32.fma (at_ k) (bt k) acc) c

/-- R280, R281: the rows of D. -/
def ktResult (d : List Byte) (a b c : List (List Nat)) : List (List Nat) :=
  (upTo (ktM d)).map fun i => (upTo (ktN d)).map fun j =>
    if ktOp d = 3 then (if ktInt d then wrapTo 32 (signedOf 16 (elem a j i)) else elem a j i)
    else ktElem d a b (elem c i j) i j

/-- R285: tile steps. -/
def ktSteps (d : List Byte) : Nat := ktM d / 16 * (ktN d / 16) * (if ktOp d = 3 then 1 else ktK d / 16)

/-- Whether the rows of a matrix together cover the whole granule at local address `a`. -/
def KtMat.coversGranule (x : KtMat) (a : Nat) : Bool :=
  (upTo 8).all fun b => (upTo x.rows).any fun r =>
    decide (x.addr + r * x.ld ≤ a + b) && decide (a + b < x.addr + r * x.ld + x.cols * x.size)

/-- R336: no granule that D covers only in part holds an uncorrectable error. -/
def State.ktPartial (s : State) (g : Nat) (w : Who) (x : KtMat) : State × Bool :=
  (upTo x.rows).foldl (fun acc r =>
    let a := localAddr g + x.addr + r * x.ld
    let n := x.cols * x.size
    ((acc.1.badGranules a n).filter fun e => !covers a n e.1 && !x.coversGranule (e.1 - localAddr g)).foldl (fun acc e =>
      match acc.1.rdChk e.1 8 w with
      | (s, some _) => (s, acc.2)
      | (s, none) => (s, false)) acc) (s, true)

/-- R280, R281, R336: the operation's work: its token's status after it. -/
def State.ktWork (s : State) (g : Nat) (w : Who) (d : List Byte) (live : Bool) : State × KtStatus :=
  let srcs := ktSrcs d
  let need := if ktOp d = 2 then srcs ++ [ktC d] else srcs
  let (s, ms) := need.foldl (fun (acc : State × Option (List (List (List Nat)))) x =>
    match acc with
    | (s, none) => (s, none)
    | (s, some l) =>
      match s.ktRead g w x with
      | (s, none) => (s, none)
      | (s, some m) => (s, some (l ++ [m]))) (s, some [])
  match ms with
  | none => (s, .ecc)
  | some l =>
    let x := ktD d
    match s.ktPartial g w x with
    | (s, false) => (s, .ecc)
    | (s, true) =>
      if !live then (s, .done)
      else
        let rows := ktResult d (l.getD 0 []) (l.getD 1 []) (l.getD 2 [])
        (rows.zipIdx.foldl (fun s r =>
          (s.wrChk (localAddr g + x.addr + r.2 * x.ld) (r.1.flatMap fun v => leBytes 4 v) w).1) s, .done)

/-- R283: the operation that a unit starts next: the other group's than the last one's where both wait. -/
def Kettle.pick (u : Kettle) : Option KtOp :=
  let of (odd : Bool) : Option KtOp := u.queue.find? fun o => (o.g % 2 == 1) == odd
  let first := match u.last with | some odd => !odd | none => false
  match of first with
  | some o => some o
  | none => of !first

/-- The kernel that an operation belongs to, while it runs. -/
def State.ktKernel (s : State) (o : KtOp) : Option Kernel :=
  match s.kernel o.g with
  | some k => if k.uid = o.uid then some k else none
  | none => none

/-- KETTLE_OP_START. R279, R282, R283. -/
def doKettleOpStart (n : Nat) (s : State) : State :=
  let u := s.kettleAt n
  if u.run.isSome then s
  else match u.pick with
    | none => s
    | some o =>
      let w : Who := match s.ktKernel o with | some k => k.who | none => {}
      let (s, d, st) : State × List Byte × KtStatus := match s.rdChk (localAddr o.g + o.addr) 64 w with
        | (s, none) => (s, [], .ecc)
        | (s, some d) => (s, d, match ktCheck d with | some sub => .desc sub | none => .waiting)
      { s with dozing := putBits s.dozing (16 + n) 1 0 }.modKettle n fun u =>
        { u with queue := u.queue.erase o, run := some (o, d, st) }

/-- KETTLE_OP_END. R281 to R283, R286. -/
def doKettleOpEnd (n : Nat) (s : State) : State :=
  match (s.kettleAt n).run with
  | none => s
  | some (o, d, st) =>
    let live := (s.ktKernel o).isSome
    let w : Who := match s.ktKernel o with | some k => k.who | none => {}
    let (s, st') := if st = .waiting then s.ktWork o.g w d live else (s, st)
    let key := 0x00310000 + 0x100 * n
    let s := match st' with
      | .desc _ => s.setBit (key + 4) 1
      | .ecc => s.setBit (key + 4) 2
      | _ => (s.bump (key + 0x10)).bumpBy (key + 0x14) (ktSteps d)
    let s := s.modKettle n fun u =>
      { u with run := none, last := if u.queue.isEmpty then none else some (o.g % 2 == 1) }
    match s.ktKernel o with
    | none => s
    | some k =>
      (s.setKernel o.g { k with toks := k.toks.map fun t =>
        if t.num == o.tok then { t with status := st' } else t }).parkFinish o.g

/-! ## The commands -/

/-- LAUNCH_REQUEST. -/
def execLaunchRequest (s : State) : Host.Outcome State Fault Refusal := .next (doLaunchRequest s)
/-- KERNEL_START. -/
def execKernelStart (s : State) : Host.Outcome State Fault Refusal := .next (doKernelStart s)
/-- IALU. R258. -/
def execIalu (g : Fin 8) (s : State) : Host.Outcome State Fault Refusal := .next (s.caRow g .ialu)
/-- IMUL. R258. -/
def execImul (g : Fin 8) (s : State) : Host.Outcome State Fault Refusal := .next (s.caRow g .imul)
/-- FALU. R257. -/
def execFalu (g : Fin 8) (s : State) : Host.Outcome State Fault Refusal := .next (s.caRow g .falu)
/-- FSPEC. R257. -/
def execFspec (g : Fin 8) (s : State) : Host.Outcome State Fault Refusal := .next (s.caRow g .fspec)
/-- CVT. R258. -/
def execCvt (g : Fin 8) (s : State) : Host.Outcome State Fault Refusal := .next (s.caRow g .cvt)
/-- SET. R260. -/
def execSet (g : Fin 8) (s : State) : Host.Outcome State Fault Refusal := .next (s.caRow g .set)
/-- SEL. R255. -/
def execSel (g : Fin 8) (s : State) : Host.Outcome State Fault Refusal := .next (s.caRow g .sel)
/-- SHFL. R261. -/
def execShfl (g : Fin 8) (s : State) : Host.Outcome State Fault Refusal := .next (s.caRow g .shfl)
/-- VOTE. R261. -/
def execVote (g : Fin 8) (s : State) : Host.Outcome State Fault Refusal := .next (s.caRow g .vote)
/-- MFS. R273. -/
def execMfs (g : Fin 8) (s : State) : Host.Outcome State Fault Refusal := .next (s.caRow g .mfs)
/-- LDW. R265. -/
def execLdw (g : Fin 8) (s : State) : Host.Outcome State Fault Refusal := .next (s.caRow g .ldw)
/-- STW. R268. -/
def execStw (g : Fin 8) (s : State) : Host.Outcome State Fault Refusal := .next (s.caRow g .stw)
/-- LDD. R265. -/
def execLdd (g : Fin 8) (s : State) : Host.Outcome State Fault Refusal := .next (s.caRow g .ldd)
/-- STD. R268. -/
def execStd (g : Fin 8) (s : State) : Host.Outcome State Fault Refusal := .next (s.caRow g .std)
/-- CA_MOVI. R259. -/
def execCaMovi (g : Fin 8) (s : State) : Host.Outcome State Fault Refusal := .next (s.caRow g .movi)
/-- MOVH. R259. -/
def execMovh (g : Fin 8) (s : State) : Host.Outcome State Fault Refusal := .next (s.caRow g .movh)
/-- CA_ADDI. R258. -/
def execCaAddi (g : Fin 8) (s : State) : Host.Outcome State Fault Refusal := .next (s.caRow g .addi)
/-- IF. R262. -/
def execIfWord (g : Fin 8) (s : State) : Host.Outcome State Fault Refusal := .next (s.caRow g .if_)
/-- ELSE. R262. -/
def execElseWord (g : Fin 8) (s : State) : Host.Outcome State Fault Refusal := .next (s.caRow g .else_)
/-- ENDIF. R262. -/
def execEndifWord (g : Fin 8) (s : State) : Host.Outcome State Fault Refusal := .next (s.caRow g .endif_)
/-- LOOP. R262. -/
def execLoop (g : Fin 8) (s : State) : Host.Outcome State Fault Refusal := .next (s.caRow g .loop)
/-- BRK. R262. -/
def execBrk (g : Fin 8) (s : State) : Host.Outcome State Fault Refusal := .next (s.caRow g .brk)
/-- ENDLOOP. R262. -/
def execEndloop (g : Fin 8) (s : State) : Host.Outcome State Fault Refusal := .next (s.caRow g .endloop)
/-- BRU. R262. -/
def execBru (g : Fin 8) (s : State) : Host.Outcome State Fault Refusal := .next (s.caRow g .bru)
/-- CA_JMP. R263. -/
def execCaJmp (g : Fin 8) (s : State) : Host.Outcome State Fault Refusal := .next (s.caRow g .jmp)
/-- CA_EXIT. R264. -/
def execCaExit (g : Fin 8) (s : State) : Host.Outcome State Fault Refusal := .next (s.caRow g .exit)
/-- KERNEL_END. -/
def execKernelEnd (g : Fin 8) (s : State) : Host.Outcome State Fault Refusal := .next (doKernelEnd g s)
/-- CA_BKPT. R262. -/
def execCaBkpt (g : Fin 8) (s : State) : Host.Outcome State Fault Refusal := .next (s.caRow g .bkpt)
/-- ILIMIT. -/
def execIlimit (g : Fin 8) (s : State) : Host.Outcome State Fault Refusal := .next (doIlimit g s)
/-- KSTART. R277. -/
def execKstart (g : Fin 8) (s : State) : Host.Outcome State Fault Refusal := .next (s.caRow g .kstart)
/-- KWAIT. R278. -/
def execKwait (g : Fin 8) (s : State) : Host.Outcome State Fault Refusal := .next (s.caRow g .kwait)
/-- CA_FENCE. R268. -/
def execCaFence (g : Fin 8) (s : State) : Host.Outcome State Fault Refusal := .next (s.caRow g .fence)
/-- CA_FAR_LOAD_DATA. -/
def execCaFarLoadData (g : Fin 8) (s : State) : Host.Outcome State Fault Refusal := .next (doCaFarLoadData g s)
/-- CA_POSTED_STORE_COMPLETE. -/
def execCaPostedStoreComplete (g : Fin 8) (s : State) : Host.Outcome State Fault Refusal :=
  .next (doCaPostedStoreComplete g s)
/-- KETTLE_OP_START. -/
def execKettleOpStart (k : Fin 4) (s : State) : Host.Outcome State Fault Refusal := .next (doKettleOpStart k s)
/-- KETTLE_OP_END. -/
def execKettleOpEnd (k : Fin 4) (s : State) : Host.Outcome State Fault Refusal := .next (doKettleOpEnd k s)
/-- RESUME. -/
def execResume (g : Fin 8) (s : State) : Host.Outcome State Fault Refusal := .next (doResume g s)
/-- ABANDON. -/
def execAbandon (g : Fin 8) (s : State) : Host.Outcome State Fault Refusal := .next (doAbandon g s)
/-- PARK_TIMEOUT. -/
def execParkTimeout (g : Fin 8) (s : State) : Host.Outcome State Fault Refusal := .next (doParkTimeout g s)
/-- CA_STATE_WRITE. -/
def execCaStateWrite (g : Fin 8) (off : Nat) (val : Word) (s : State) : Host.Outcome State Fault Refusal :=
  .next (doCaStateWrite g off val.toNat s)

end Sys2Proof.Machine
end

