-- ==== Sys2Proof/Machine/Registers.lean ====
section
/-! DEFINITION. Reading registers: what each read-only field shows, the latches of 64-bit pairs, read-to-clear fields,
and the windows into tables and stores (spec/00 R5 to R9, R598; every chapter's register sections). -/
namespace Sys2Proof.Machine

/-! ## Read-only words that show other state -/

/-- Word `j` of a number. -/
def word32 (n j : Nat) : Nat := bitsOf n (32 * j) 32

/-- spec/01, spec/02: the Weir, the Timebase and the margin monitor. -/
def State.weirTimeWord (s : State) (off : Nat) : Option Nat :=
  if off = 0x00120000 then some (s.horizon % 2 ^ 32)
  else if off = 0x00120004 then some (bitsOf s.horizon 32 16)
  else if off = 0x00120008 then some (putBits (s.regW off) 0 15 s.weir.length)
  else if off = 0x00130000 then some (s.tb.count % 2 ^ 32)
  else if off = 0x00130004 then some (bitsOf s.tb.count 32 32)
  else if off = 0x00130008 then
    some (s.tb.state.code + 8 * b2n s.tb.refOk + 16 * b2n s.tb.pllLock + 32 * b2n s.tb.monValid +
      64 * b2n s.tb.offsetLarge + 2 ^ 8 * (s.tb.actDomain % 256) + 2 ^ 16 * (s.tb.monDomain % 256))
  else if off = 0x00130010 then some (wrapTo 32 s.tb.rate)
  else if off = 0x00130014 then some (wrapTo 32 s.tb.offset)
  else if off = 0x00130018 then some (wrapTo 32 s.tb.monOffset)
  else if off = 0x0013001C then
    some (if s.tb.state.holdover then min 0xFFFFFFFF ((s.now - s.tb.holdSince) / 1000000000) else 0)
  else if off = 0x00130028 then some (wrapTo 32 s.tb.mmMin)
  else if off = 0x0013002C then some (s.tb.mmLatched % 0x10000)
  else none

/-- spec/03: Tideway's pin stage and Gong's latches. -/
def State.tidewayWord (s : State) (off : Nat) : Option Nat :=
  let at_ (base stride n k : Nat) : Option Nat :=
    if base ≤ off && off < base + stride * n && (off - base) % stride == k then some ((off - base) / stride) else none
  match at_ 0x00140100 0x20 16 0x14, at_ 0x00140300 0x10 8 4, at_ 0x00140300 0x10 8 8, at_ 0x00140500 0x20 6 0x10,
      at_ 0x00140500 0x20 6 0x14 with
  | some n, _, _, _, _ => some ((s.encAt n).pos % 2 ^ 32)
  | _, some n, _, _, _ => some (wrapTo 32 ((s.sdAt n).pos s.now))
  | _, _, some n, _, _ => some (s.sdAt n).status
  | _, _, _, some b, _ => some (s.bankLevels b % 0x10000 + 0x10000 * (s.bankPads b (s.gpioAt b).raw % 0x10000))
  | _, _, _, _, some b => some ((s.gpioAt b).relval % 0x10000 + 0x10000 * ((s.forced b).1 % 0x10000))
  | _, _, _, _, _ =>
    if off = 0x00150004 then some (word32 s.td.fired 0)
    else if off = 0x00150008 then some (word32 s.td.fired 1) else none

/-- spec/04, spec/05: ports, gates, the epoch and Shoal's state. -/
def State.networkWord (s : State) (off : Nat) : Option Nat :=
  if 0x00160000 ≤ off && off < 0x00160600 then
    let x := s.ethAt ((off - 0x00160000) / 0x100)
    match off % 0x100 with
    | 0x04 => some x.stat
    | 0x20 => some (x.rxFrm % 2 ^ 32)
    | 0x24 => some (bitsOf x.rxFrm 32 16)
    | 0x28 => some (x.rxOct % 2 ^ 32)
    | 0x2C => some (bitsOf x.rxOct 32 16)
    | 0x30 => some (x.txFrm % 2 ^ 32)
    | 0x34 => some (bitsOf x.txFrm 32 16)
    | 0x38 => some (x.txOct % 2 ^ 32)
    | 0x3C => some (bitsOf x.txOct 32 16)
    | 0x60 => some (putBits (s.regW off) 8 1 (b2n x.sched.pending.isSome))
    | _ => none
  else if 0x0016E000 ≤ off && off < 0x0016E400 && off % 0x20 == 0 then
    some (2 ^ 8 * b2n (s.sgAt ((off - 0x0016E000) / 0x20)).pending.isSome)
  else if off = 0x001A0020 then
    some ((upTo 16).foldl (fun a k => a + b2n (s.wdState 3 k == .withdrawn || s.wdState 3 k == .testing) * 2 ^ k) 0)
  else if off = 0x001B0000 then some (s.epoch % 2 ^ 32)
  else if off = 0x001B0004 then some (bitsOf s.epoch 32 16)
  else if off = 0x001B0008 then
    some (min 256 s.staged.shoal.length + 2 ^ 9 * b2n (!s.commits.isEmpty) + 2 ^ 16 * min 256 s.learn.set_.length)
  else none

/-- spec/07, spec/08, spec/10: clusters, groups, Kettle units and Belfry. -/
def State.computeWord (s : State) (off : Nat) : Option Nat :=
  if 0x00200000 ≤ off && off < 0x00260000 && off % 0x10000 == 0x40 then
    let c := (off - 0x00200000) / 0x10000
    let cells := ((s.threadsOf c).filter (·.2.isCell)).length
    some (putBits (putBits (s.regW off) 16 6 (s.freeOf c).length) 24 6 cells)
  else if 0x00280000 ≤ off && off < 0x00300000 then
    let g := (off - 0x00280000) / 0x10000
    let o := off % 0x10000
    let wd := s.wdState 2 g == .withdrawn || s.wdState 2 g == .testing
    if o = 0 then
      match s.kernel g with
      | none => some (4 * b2n wd + 16 * s.groupOwner g)
      | some k =>
        some (1 + 2 * b2n (k.park.bind (·.since)).isSome + 4 * b2n wd + 16 * s.groupOwner g + 2 ^ 8 * k.depth +
          2 ^ 16 * (k.ktok % 256))
    else if o = 0x28 then some (match s.kernel g with | some k => k.ktok | none => 0)
    else if (caWindow o).isSome then some (s.caRead g o)
    else none
  else if 0x00310000 ≤ off && off < 0x00310400 && off % 0x100 == 0 then
    let n := (off - 0x00310000) / 0x100
    let k := s.kettleAt n
    let odd := match k.run with | some (o, _, _) => o.g % 2 == 1 | none => false
    let q (p : Nat) : Nat := min 15 (k.queue.filter fun o => o.g % 2 == p).length
    some (b2n k.run.isSome + 2 * b2n odd + 4 * b2n (s.wdState 4 n == .withdrawn || s.wdState 4 n == .testing) +
      16 * q 0 + 2 ^ 8 * q 1)
  else if off = 0x00310800 then some s.ca.queue.length
  else if off = 0x00350000 then some (putBits (s.regW off) 0 12 s.bf.dir.length)
  else if 0x00350040 ≤ off && off < 0x00350080 then
    let i := (off - 0x00350040) / 4
    some (putBits (s.regW off) 0 12 (s.bf.dir.filter fun e => e.inst == i).length)
  else none

/-- spec/09: the Sluice. -/
def State.sluiceWord (s : State) (off : Nat) : Option Nat :=
  if off = slStat then
    let hot (c : Nat) : Nat := s.fld (slGeom c + 4) 0 1
    some (putBits (putBits (putBits (s.regW off) 4 1 (hot 0)) 5 1 (hot 1)) 8 8 (min 255 s.sl.inord.length))
  else if off = slGeom 0 || off = slGeom 1 then
    let c := if off = slGeom 0 then 0 else 1
    some (putBits (s.regW off) 8 5 (if s.chanUp c then s.chanLog c % 32 else 0))
  else if off = slGeom 0 + 4 || off = slGeom 1 + 4 then
    let c := if off = slGeom 0 + 4 then 0 else 1
    some (putBits (putBits (s.regW off) 8 4 (s.rankAt c 0).postponed) 12 4 (s.rankAt c 1).postponed)
  else none

/-- R443: a shadow that may take over. -/
def State.eligible (s : State) : Bool := s.ford.role == .shadow && (!s.ford.diverged || s.bit fdCtl 1)

/-- FD_STAT. -/
def State.fdStat (s : State) : Nat :=
  let f := s.ford
  f.role.code + 8 * f.seenRole.code + 64 * f.link + 2 ^ 8 * b2n f.holds + 2 ^ 9 * b2n f.peerLine + 2 ^ 10 * b2n f.talign +
    2 ^ 11 * b2n f.diverged + 2 ^ 12 * b2n s.eligible + 2 ^ 13 * (f.twinId % 2)

/-- A block is WITHDRAWN, under test or not. -/
def State.blockOut (s : State) (kind index : Nat) : Bool :=
  s.wdState kind index == .withdrawn || s.wdState kind index == .testing

/-- The mask of the withdrawn blocks among `n` of a kind from `first` on. -/
def State.outMask (s : State) (kind first n : Nat) : Nat :=
  (upTo n).foldl (fun a k => a + b2n (s.blockOut kind (first + k)) * 2 ^ k) 0

/-- HL_WD_STAT, HL_WD_MAP, HL_WD_TD0, HL_WD_TD1 and the last test (spec/16). -/
def State.withdrawWord (s : State) (off : Nat) : Option Nat :=
  let w := s.wd
  if off = 0x003D0104 then
    let st := s.wdState w.lastKind w.lastIndex
    some (b2n (st == .draining || st == .testing) + 2 * st.code + 8 * w.lastKind + 2 ^ 16 * w.lastIndex)
  else if off = 0x003D0108 then
    some (s.outMask 1 0 6 + 2 ^ 8 * s.outMask 2 0 8 + 2 ^ 16 * s.outMask 4 0 4 + 2 ^ 24 * s.outMask 5 0 6)
  else if off = 0x003D010C then some (s.outMask 6 0 16 + 2 ^ 16 * s.outMask 6 0x010 8 + 2 ^ 24 * s.outMask 6 0x020 8)
  else if off = 0x003D0110 then
    some (s.outMask 6 0x030 6 + 2 ^ 8 * s.outMask 6 0x040 4 + 2 ^ 12 * s.outMask 6 chPar 1 + 2 ^ 16 * s.outMask 6 0x060 4)
  else if off = 0x003D0114 then some (w.testKind + 2 ^ 16 * w.testIndex)
  else if off = 0x003D0118 then some w.testResult
  else none

/-- SV_STAT's count of valid match registers. -/
def State.matches_ (s : State) : Nat := ((upTo 32).filter fun m => s.bit (0x00370040 + 4 * m) 31).length

/-- spec/11 to spec/15, spec/17 to spec/19: the Supervisor, instances, Ford, Bittern, Viveram and health. -/
def State.systemWord (s : State) (off : Nat) : Option Nat :=
  if off = 0x00370004 then some (b2n s.sup.running + 2 * b2n s.sup.hold + 4 * b2n s.sup.halted + 2 ^ 8 * s.matches_)
  else if off = 0x00370020 then some (putBits (s.regW off) 0 3 s.mode.code)
  else if 0x00380000 ≤ off && off < 0x00380040 then
    let x := s.instAt ((off - 0x00380000) / 4)
    some (x.state.code + 4 * b2n x.direct)
  else if off = 0x00390000 then some (s.linkSpeed % 4 + 16 * (s.linkWidth % 8))
  else if off = 0x003A0004 then some s.fdStat
  else if off = 0x003A000C then
    some (putBits (s.regW off) 1 1 (b2n (s.ford.holds && decide (s.now < s.ford.keepAt + 50000))))
  else if off = 0x003A0010 then some (min 0xFFFFFFFF s.ford.lag)
  else if off = 0x003A0014 then some (min 0xFFFF s.ford.delay)
  else if off = 0x003A0018 then some (wrapTo 32 (clampInt (-2147483648) 2147483647 s.ford.tofs))
  else if off = 0x003B0010 then
    some (s.bt.ckpt + 4 * b2n s.bt.slot0.valid + 8 * b2n s.bt.slot1.valid + 16 * b2n s.bt.slot0.stale + 32 * b2n s.bt.slot1.stale)
  else if off = 0x003B0020 then some (s.bt.slot0.g0 % 2 ^ 32)
  else if off = 0x003B0024 then some (bitsOf s.bt.slot0.g0 32 16)
  else if off = 0x003B0030 then some (s.bt.slot1.g0 % 2 ^ 32)
  else if off = 0x003B0034 then some (bitsOf s.bt.slot1.g0 32 16)
  else if off = 0x003B0080 then some (s.fld off 0 1 + 2 * b2n s.replay.done + 4 * b2n s.replay.stuck)
  else if off = 0x003B0084 then some (s.replay.first.getD 0 % 2 ^ 32)
  else if off = 0x003B0088 then some (bitsOf (s.replay.first.getD 0) 32 16)
  else if off = 0x003B008C then some (s.replay.site % 2 ^ 32)
  else if off = 0x003C0004 then some s.viv.bbxNext
  else if off = 0x003C0008 then some (s.viv.flogNext + 2 ^ 8 * s.viv.kept)
  else if off = 0x003C000C then some (min 0xFFFFFFFF s.viv.boots)
  else if off = 0x003D0028 then some (word32 Config.devId 0)
  else if off = 0x003D002C then some (word32 Config.devId 1)
  else if off = 0x003D0204 then
    some (s.errors.lastSev + 16 * min 15 s.viv.streak + 2 ^ 8 * b2n s.errors.svwdExp + 2 ^ 9 * b2n s.errors.fatalHeld)
  else if off = 0x00F01000 then some (word32 (s.fnAt 0).pba 0)
  else if off = 0x00F01004 then some (word32 (s.fnAt 0).pba 1)
  else none

/-- Instance `i`'s own block (Table 13.3). -/
def State.blockWord (s : State) (i off : Nat) : Option Nat :=
  let x := s.instAt i
  if off < 0x200 && off % 0x40 == 0x10 then some (s.sqAt i (off / 0x40)).head
  else if 0x200 ≤ off && off < 0x400 && off % 0x40 == 0x10 then some (s.cqAt i ((off - 0x200) / 0x40)).tail
  else if off = 0x3008 then some (x.state.code + 4 * b2n x.direct)
  else if off = 0x300C then some (s.tb.state.code + 8 * b2n s.tb.state.holdover)
  else if off = 0x4020 then some (x.sqCells % 2 ^ 32)
  else if off = 0x4024 then some (bitsOf x.sqCells 32 16)
  else if off = 0x4028 then some (x.cqEntries % 2 ^ 32)
  else if off = 0x402C then some (bitsOf x.cqEntries 32 16)
  else if off = 0x31000 then some ((s.fnAt i).pba % 0x10000)
  else none

/-- MB_STATUS of mailbox `m` (R367, R379, R386). -/
def State.mbStatus (s : State) (m : Nat) : Nat :=
  let b := s.mbAt m
  let st := (s.instAt m).state
  putBits (s.regW (mbKey m + 0x204)) 0 2 (b2n s.mbReady + 2 * b2n b.cmd.isSome) +
    8 * b2n s.sup.hold + 16 * b2n (st == .resetting || st == .destroying) + 2 ^ 8 * b.lastSeq

/-- The computed word of a register, by key; none where the stored word stands. -/
def State.roWord (s : State) (key : Nat) : Option Nat :=
  let i := key / 0x01000000
  let off := key % 0x01000000
  if off = mbKey i % 0x01000000 + 0x204 then some (s.mbStatus i)
  else if i ≠ 0 || off < 0x6000 then s.blockWord i off
  else if off < 0x00140000 then s.weirTimeWord off
  else if off < 0x00160000 then s.tidewayWord off
  else if off < 0x00200000 then s.networkWord off
  else if off < 0x00340000 then s.computeWord off
  else if off < 0x00350000 then s.sluiceWord off
  else if off < 0x00360000 then s.computeWord off
  else if 0x003D0100 ≤ off && off < 0x003D0200 then s.withdrawWord off
  else s.systemWord off

/-! ## Reading -/

/-- The mask of a register's class H fields. -/
def RegDesc.mask (d : RegDesc) (p : RegField → Bool) : Nat :=
  d.fields.foldl (fun a f => if p f then a + (2 ^ f.w - 1) * 2 ^ f.lo else a) 0

/-- Table 0.3: the word that a register shows: a class H field shows what was written while its block is withdrawn. -/
def State.shownWord (s : State) (key : Nat) : Nat :=
  let w := (s.roWord key).getD (s.regW key)
  match regAt key with
  | none => 0
  | some d =>
    if NatMap.has s.heldRegs key then
      putMask w (d.mask fun f => f.cls == .held) (NatMap.get 0 s.heldRegs key)
    else w

/-- R6: the upper words that a read of a lower word latches. -/
def uppersOf (key : Nat) : List Nat :=
  let off := key % 0x01000000
  if off = 0x4020 || off = 0x4028 then [key + 4]
  else if key / 0x01000000 ≠ 0 then []
  else if off = slErr + 0x1F8 then [off + 4, off + 8]
  else if off = 0x00120000 || off = 0x00130000 || off = 0x001B0000 || off = 0x00150004 || off = 0x003B0020 ||
      off = 0x003B0030 || off = 0x003B0084 || off = 0x003D0028 then [off + 4]
  else if 0x00160000 ≤ off && off < 0x00160600 && 0x20 ≤ off % 0x100 && off % 0x100 < 0x40 && off % 8 == 0 then [off + 4]
  else []

/-- R6: the register reads as it was latched. -/
def isUpper (key : Nat) : Bool :=
  (uppersOf (key - 4)).contains key || (uppersOf (key - 8)).contains key

/-- What an upper word reads as before the first read of its lower word: its reset value. -/
def latchReset (key : Nat) : Nat := if key = 0x003D002C then word32 Config.devId 1 else regReset key

/-- A read of memory of a store's window: 0xFFFF_FFFF where an uncorrectable error is met (R434). -/
def State.windowRead (s : State) (a v : Nat) : State × Nat :=
  match s.rdChk a 4 with
  | (s, some _) => (s, v)
  | (s, none) => (s, 0xFFFFFFFF)

/-- The windows into tables and stores; none for another offset of the privileged view. -/
def State.tableRead (s : State) (off : Nat) : Option (State × Nat) :=
  let w (base size step : Nat) (t : NatMap Nat) (a : Nat → Nat) : Option (State × Nat) :=
    if base ≤ off && off < base + size then
      let i := (off - base) / step
      let o := (off - base) % step
      some (s.windowRead (a i + o) (word32 (NatMap.get 0 t i) (o / 4)))
    else none
  if 0x001C0000 ≤ off && off < 0x00200000 then
    let e := (off - 0x001C0000) / 64
    let bad := (s.badGranules (shoalBase + 64 * e) 64).any fun x => x.2 ≠ 1
    let s := s.shoalChk e
    some (s, if bad then 0xFFFFFFFF else word32 (NatMap.get 0 s.tables.shoal e) (off % 64 / 4))
  else if 0x00300000 ≤ off && off < 0x00310000 then
    some (match s.rdChk (codeAddr + (off - 0x00300000)) 4 with
      | (s, some l) => (s, ofLe l)
      | (s, none) => (s, 0xFFFFFFFF))
  else
    (w 0x00170000 0x10000 16 s.tables.stream streamAddr).orElse fun _ =>
    (w 0x00180000 0x4000 16 s.tables.station stationAddr).orElse fun _ =>
    (w 0x00190000 0x10000 16 s.tables.action actionAddr).orElse fun _ =>
    w 0x001A4000 0x4000 4 s.tables.parse (fun i => parseBase + 4 * i)

/-- What an RC field holds once read: 0 or the value its table gives. WE_OCC.PEAK and BF_STAT.PEAK, the highest INUSE
since the last read, start again at INUSE. -/
def State.rcStart (s : State) (key : Nat) (f : RegField) : Nat :=
  if key = 0x00120008 then min 0x7FFF s.weir.length
  else if key = 0x00350000 then min 0xFFF s.bf.dir.length
  else f.reset

/-- R9: read-to-clear fields take their reset values. -/
def State.clearRc (s : State) (key : Nat) (d : RegDesc) : State :=
  s.setReg key (d.fields.foldl (fun v f => if f.acc = .rc then putBits v f.lo f.w (s.rcStart key f) else v) (s.regW key))

/-- A read of the register with key `key`: its value, and what the read does (R6, R8, R9). -/
def State.readReg (s : State) (key : Nat) : State × Nat :=
  match (if key / 0x01000000 = 0 then s.tableRead key else none) with
  | some r => r
  | none =>
    match regAt key with
    | none => (s, 0)
    | some d =>
      if isUpper key then (s, NatMap.get (latchReset key) s.latches key)
      else
        let v := s.shownWord key
        let s := { s with latches := (uppersOf key).foldl (fun m u => NatMap.put (latchReset u) m u (s.shownWord u)) s.latches }
        if key = 0x00130028 then (s.mmReload, v)
        else if d.fields.any fun f => f.acc == .rc then (s.clearRc key d, v)
        else (s, v)

/-! ## The views (R5, R413 to R415, R526) -/

/-- A view's function. -/
def viewFn : View → Nat
  | .pf => 0
  | .vf n => n.val

/-- R413, R415: the offset is in the view's BAR, and the view is present. -/
def State.viewHas (s : State) (v : View) (off : Nat) : Bool :=
  match v with
  | .pf => decide (off < 0x01000000)
  | .vf n => decide (1 ≤ n.val) && decide (n.val ≤ s.numVfs) && decide (off < 0x40000)

/-- The range of a VF in which a DIRECT tenant has its mailbox block; a MEDIATED tenant's implements nothing there (R365). -/
def mailboxOff (off : Nat) : Bool := decide (0x2000 ≤ off) && decide (off < 0x2400)

/-- The mailbox area of a view: the mailbox and the offset in its block (R364, R365, R423). -/
def State.mailboxAt (s : State) (v : View) (off : Nat) : Option (Nat × Nat) :=
  match v with
  | .pf => if 0x00360000 ≤ off && off < 0x00360400 then some (0, off - 0x00360000) else none
  | .vf n =>
    if mailboxOff off && (s.instAt n.val).direct && (s.instAt n.val).state != .absent then
      some (n.val, off - 0x2000)
    else none

/-- R415: the view works in full: the PF's, or an ACTIVE instance's. -/
def State.viewOpen (s : State) (v : View) : Bool :=
  match v with
  | .pf => true
  | .vf n => s.active n.val

/-- R526: after a boot without a valid image the PF serves only the SV_ block. -/
def State.bootFailed (s : State) : Bool := s.bit 0x0037001C 2

/-- R364: a read in a mailbox block. -/
def State.mbRead (s : State) (m o : Nat) : State × Nat :=
  if o < 0x200 then
    match s.rdChk (mbArea m + o) 4 with
    | (s, some l) => (s, ofLe l)
    | (s, none) => (s, 0xFFFFFFFF)
  else s.readReg (mbKey m + o)

/-- A view's read of `bytes` bytes at `off`: its value, and what the read does. -/
def State.viewRead (s : State) (v : View) (off bytes : Nat) : State × Nat :=
  let i := (viewFn v)
  match s.mailboxAt v off with
  | some (m, o) =>
    if off % 4 ≠ 0 || bytes ≠ 4 then (s.bump (instKey i 0x4008), 0xFFFFFFFF)
    else if i = 0 && s.bootFailed then (s, 0) else s.mbRead m o
  | none =>
    if !s.viewOpen v then (s, if off = 0x3008 && bytes = 4 then s.shownWord (viewKey i off) else 0)
    else if off % 4 ≠ 0 || bytes ≠ 4 then (s.bump (instKey i 0x4008), 0xFFFFFFFF)
    else if i = 0 && s.bootFailed && !(decide (0x00370000 ≤ off) && decide (off < 0x003700C0)) then (s, 0)
    else if i = 0 then s.readReg off
    else if mailboxOff off then (s, 0)
    else s.readReg (viewKey i off)

/-- A host read, and the data that it returns. -/
def doViewRead (v : View) (off bytes : Nat) (s : State) : State :=
  if !s.viewHas v off then s
  else
    let (s, x) := s.viewRead v off bytes
    s.emit .regData (viewFn v) off (leBytes 4 x)

/-- RC_READ. -/
def execRcRead (v : View) (off bytes : Nat) (s : State) : Host.Outcome State Fault Refusal := .next (doViewRead v off bytes s)
/-- LOWER_WORD_READ. -/
def execLowerWordRead (v : View) (off : Nat) (s : State) : Host.Outcome State Fault Refusal := .next (doViewRead v off 4 s)

end Sys2Proof.Machine
end

