-- ==== Sys2Proof/Machine/Hints.lean ====
section
/-! DEFINITION. Idle hints, privileged claims and dozing blocks (spec/13 R439 to R441). A block's number is its bit in the
IN_HINT layout: 0 to 5 the clusters, 8 to 15 the groups, 16 to 19 the Kettle units. -/
namespace Sys2Proof.Machine

/-- IN_HINT of instance `i`. -/
abbrev hintKey (i : Nat) : Nat := instKey i 0x5000

/-- R439: a tenant has a share in a block. -/
def State.hasShare (s : State) (i b : Nat) : Bool :=
  let x := s.instAt i
  let g := x.q 0x19 1
  if i = 0 then false
  else if b < 6 then decide (0 < x.q b 1)
  else if b < 8 then false
  else if b < 16 then bitAt g (b - 8)
  else decide (b < 20) && (bitAt g (2 * (b - 16)) || bitAt g (2 * (b - 16) + 1))

/-- The blocks in which a tenant has a share, as a mask. -/
def State.shareMask (s : State) (i : Nat) : Nat := (upTo 20).foldl (fun a b => a + b2n (s.hasShare i b) * 2 ^ b) 0

/-- IN_HINT_WRITE. R439, R440: a hint written under a claim is counted. -/
def doInHintWrite (i val : Nat) (s : State) : State :=
  if !s.active i then s
  else
    let v := val &&& s.shareMask i
    let n := ((upTo 20).filter fun b => bitAt v b && s.blockClaimed b).length
    (s.setReg (hintKey i) v).bumpBy (instKey i 0x4014) n

/-- The blocks that a claim can name. -/
def claimMask : Nat := 0xFFF3F

/-- IN_CLAIM_WRITE. R440: a claim that arises over a standing hint is counted. -/
def doInClaimWrite (val : Nat) (s : State) : State :=
  let new := (upTo 20).filter fun b => bitAt (val &&& claimMask) b && !s.blockClaimed b
  (new.foldl (fun s b => s.claimOver b) s).setReg 0x00380040 (val &&& claimMask)

/-- The block has no work. -/
def State.blockIdle (s : State) (b : Nat) : Bool :=
  if b < 6 then (s.threadsOf b).isEmpty
  else if b < 8 then false
  else if b < 16 then (s.kernel (b - 8)).isNone
  else (s.kettleAt (b - 16)).run.isNone && (s.kettleAt (b - 16)).queue.isEmpty

/-- R441: the block may doze. -/
def State.mayDoze (s : State) (b : Nat) : Bool :=
  s.blockIdle b && !s.blockClaimed b && (upTo 16).all fun i => !s.hasShare i b || s.bit (hintKey i) b

/-- BLOCK_DOZE. R441. -/
def doBlockDoze (b : Nat) (s : State) : State := if s.mayDoze b then { s with dozing := putBits s.dozing b 1 1 } else s

/-- An item waits that the block could take: a classified cell whose action names the cluster, a launch that names
the group. -/
def State.offered (s : State) (b : Nat) : Bool :=
  if b < 6 then s.cells.any fun c => c.stage == .classified && bitAt (aeClusters (s.actionOf c)) b
  else if b < 16 then s.ca.queue.any fun x => bitAt x.groups (b - 8)
  else false

/-- BLOCK_WAKE. R441: a dozing block to which an item is offered, or which may no longer doze, wakes. -/
def doBlockWake (b : Nat) (s : State) : State :=
  if s.offered b || !s.mayDoze b then { s with dozing := putBits s.dozing b 1 0 } else s

/-- IN_HINT_WRITE. -/
def execInHintWrite (i : Fin 16) (val : Word) (s : State) : Host.Outcome State Fault Refusal :=
  .next (doInHintWrite i val.toNat s)
/-- IN_CLAIM_WRITE. -/
def execInClaimWrite (val : Word) (s : State) : Host.Outcome State Fault Refusal := .next (doInClaimWrite val.toNat s)
/-- BLOCK_DOZE. -/
def execBlockDoze (b : Fin 20) (s : State) : Host.Outcome State Fault Refusal := .next (doBlockDoze b s)
/-- BLOCK_WAKE. -/
def execBlockWake (b : Fin 20) (s : State) : Host.Outcome State Fault Refusal := .next (doBlockWake b s)

end Sys2Proof.Machine
end

