-- ==== Sys2Proof/Machine/Mailbox.lean ====
section
/-! DEFINITION. The mailboxes: doorbells, the request area, and the take-up of commands with its checks (spec/11 R364 to
R391). -/
namespace Sys2Proof.Machine

/-- The view that holds mailbox `i`. -/
def mbView (i : Nat) : View := if i = 0 then .pf else .vf (Fin.ofNat 16 i)
/-- Offset of its block in that view. -/
def mbBase (i : Nat) : Nat := if i = 0 then 0x00360000 else 0x2000

/-- R365, R415, R526: mailbox `i` can be written. -/
def State.mbReached (s : State) (i : Nat) : Bool :=
  s.viewHas (mbView i) (mbBase i) && (s.mailboxAt (mbView i) (mbBase i)).isSome && !(i == 0 && s.bootFailed)

/-- Tenant `i` is being reset or destroyed. -/
def State.resetting (s : State) (i : Nat) : Bool :=
  (s.instAt i).state == .resetting || (s.instAt i).state == .destroying

/-- DOORBELL. R367, R368, R370, R379, R386. The request area is latched; patch-hold, then an instance reset, then a SEQ
that is neither L nor L + 1 is answered by hardware. -/
def doDoorbell (i val : Nat) (s : State) : State :=
  let key := mbKey i
  let b := s.mbAt i
  let seq := val % 256
  if !s.mbReached i then s
  else if !s.mbReady || b.cmd.isSome then (s.setBit (key + 0x204) 5).bump (key + 0x20C)
  else
    let s := s.setFld (key + 0x204) 2 1 0
    let (s, l) := s.rdChk (mbArea i) 256 { mbox := i, seq }
    let x : MbCmd := { req := l.getD (s.rdBytes (mbArea i) 256), seq, bad := l.isNone }
    let s := s.modMb i fun b => { b with cmd := some x }
    if s.sup.hold then s.mbHardware i 0x0106
    else if s.resetting i then s.mbHardware i 0x0107
    else if seq ≠ b.lastSeq && seq ≠ (b.lastSeq + 1) % 256 then s.mbHardware i 0x010A
    else { s with mbQueue := s.mbQueue ++ [i] }

/-- REQUEST_AREA_WRITE. R383, R388: while BUSY it is ignored and sets WR_LOST. -/
def doRequestAreaWrite (i off val : Nat) (s : State) : State :=
  if !s.mbReached i || 0x100 ≤ off || off % 4 ≠ 0 then s
  else if (s.mbAt i).cmd.isSome then s.setBit (mbKey i + 0x204) 6
  else (s.wrChk (mbArea i + off) (leBytes 4 val) { mbox := i }).1

/-! ## The catalogue (R374, Tables 11.4 to 11.15) -/

/-- What an opcode's row gives: issuers (I0 alone), a bound of 20 µs or less, executed in SHADOW and REPLAY (R381), the
fields of its request, and a tail: where it starts, its bytes an item, and the offset and size of its COUNT. -/
structure MbOp where
  i0 : Bool := false
  quick : Bool := true
  shadow : Bool := false
  fields : List (Nat × Nat) := []
  tail : Option (Nat × Nat × Nat × Nat) := none

/-- Tables 11.5 to 11.15 and R381. -/
def mbOp (op : Nat) : Option MbOp :=
  match op with
  | 0x0101 => some { shadow := true }
  | 0x0102 => some { i0 := true, quick := false, shadow := true, fields := [(8, 1)] }
  | 0x0103 => some { shadow := true, fields := [(8, 4), (0x0C, 1)] }
  | 0x0104 => some { fields := [(8, 4), (0x0C, 4), (0x10, 4)] }
  | 0x0105 | 0x0106 | 0x0107 => some { i0 := true, quick := false, fields := [(8, 1), (9, 2)] }
  | 0x0108 => some { shadow := true }
  | 0x0109 => some { i0 := true, shadow := true, fields := [(8, 2)] }
  | 0x0201 => some { i0 := true, quick := false, fields := [(8, 1), (9, 1), (0x10, 64)] }
  | 0x0202 | 0x0203 => some { i0 := true, quick := false, fields := [(8, 1), (9, 1)] }
  | 0x0204 => some { shadow := true, fields := [(8, 1)] }
  | 0x0205 => some { i0 := true, quick := false, fields := [(8, 1), (9, 1), (0x0A, 1), (0x10, 5), (0x18, 4)] }
  | 0x0301 => some { fields := [(8, 1), (0x0A, 2), (0x0C, 1), (0x10, 56)] }
  | 0x0302 | 0x0303 => some { fields := [(8, 2), (0x10, 16)] }
  | 0x0304 => some { fields := [(8, 4), (0x0C, 4), (0x10, 4)] }
  | 0x0305 => some { i0 := true, quick := false, fields := [(8, 1), (9, 1), (0x0A, 2), (0x0C, 6)] }
  | 0x0306 => some { quick := false }
  | 0x0307 => some {}
  | 0x0308 => some { shadow := true, fields := [(8, 1), (9, 1), (0x0A, 2)] }
  | 0x0401 => some { quick := false, fields := [(8, 1), (0x0A, 2), (0x0C, 2)], tail := some (0x10, 4, 0x0C, 2) }
  | 0x0402 => some { i0 := true, fields := [(0x0A, 2), (0x0C, 2)], tail := some (0x10, 4, 0x0C, 2) }
  | 0x0403 => some { fields := [(8, 1), (9, 1), (0x0A, 2), (0x0C, 1), (0x0D, 1)] }
  | 0x0404 => some { shadow := true, fields := [(8, 1), (9, 1), (0x0A, 2), (0x0C, 2)] }
  | 0x0501 => some { quick := false, fields := [(0x0A, 2), (0x0C, 2)], tail := some (0x10, 4, 0x0C, 2) }
  | 0x0502 => some { shadow := true, fields := [(8, 1), (9, 1), (0x0A, 1), (0x0C, 4), (0x10, 2)] }
  | 0x0503 => some { quick := false, fields := [(8, 1), (9, 1), (0x0A, 1), (0x0C, 4), (0x10, 2)], tail := some (0x18, 1, 0x10, 2) }
  | 0x0504 | 0x0505 => some { fields := [(8, 1)] }
  | 0x0601 => some { shadow := true, fields := [(8, 1), (0x0A, 2)] }
  | 0x0602 => some { shadow := true, fields := [(8, 1)] }
  | 0x0603 => some { quick := false, tail := some (0x20, 8, 0x0A, 1),
                     fields := [(8, 1), (9, 1), (0x0A, 1), (0x0B, 1), (0x0C, 2), (0x10, 8), (0x18, 4), (0x1C, 4)] }
  | 0x0604 => some { i0 := true, fields := [(8, 1), (0x10, 64)] }
  | 0x0605 => some { i0 := true, fields := [(8, 8)] }
  | 0x0701 => some { shadow := true }
  | 0x0702 => some { i0 := true, quick := false, shadow := true, fields := [(8, 1)] }
  | 0x0703 | 0x0704 | 0x0705 => some { i0 := true, quick := false, shadow := true }
  | 0x0801 => some { i0 := true, quick := false, shadow := true, fields := [(8, 5), (0x10, 2), (0x12, 1), (0x13, 1)] }
  | 0x0802 => some { shadow := true }
  | 0x0803 => some { i0 := true, quick := false, shadow := true }
  | 0x0804 => some { i0 := true, quick := false, shadow := true, fields := [(8, 5), (0x10, 4)] }
  | 0x0805 => some { i0 := true, quick := false, shadow := true }
  | 0x0901 | 0x0903 | 0x0904 => some { i0 := true, quick := false, shadow := true, fields := [(8, 1)] }
  | 0x0902 => some { i0 := true, quick := false, shadow := true, fields := [(8, 1), (0x0C, 4)], tail := some (0x10, 1, 6, 2) }
  | 0x0905 => some { i0 := true, quick := false, shadow := true, fields := [(8, 5), (0x10, 4)] }
  | 0x0A01 => some { quick := false, fields := [(8, 5), (0x10, 4)] }
  | 0x0A02 | 0x0A03 | 0x0A04 => some { fields := [(8, 5)] }
  | 0x0A05 => some { quick := false, fields := [(8, 1), (0x10, 5), (0x18, 8), (0x20, 8)] }
  | 0x0B01 | 0x0B02 => some { shadow := true }
  | 0x0B03 => some { i0 := true, quick := false, shadow := true, fields := [(8, 1), (0x0A, 2)] }
  | _ => none

/-- Bytes of a command's tail. UPD_WRITE's is what LEN leaves. -/
def MbCmd.tailLen (x : MbCmd) (start item coff csize : Nat) : Nat :=
  if coff = 6 then x.len + 8 - start else item * x.f coff csize

/-- R372, check 2: LEN fits the layout: the body ends with its last field, or with its tail. -/
def MbCmd.lenOk (x : MbCmd) (o : MbOp) : Bool :=
  let last := o.fields.foldl (fun a f => max a (f.1 + f.2)) 8
  match o.tail with
  | none => x.len + 8 == last
  | some (start, item, coff, csize) =>
    decide (x.len ≤ 248) && decide (start ≤ x.len + 8) && x.len + 8 == start + x.tailLen start item coff csize

/-- R372, check 5: reserved fields and bytes are 0. -/
def MbCmd.reservedOk (x : MbCmd) (o : MbOp) : Bool :=
  let used (k : Nat) : Bool := o.fields.any (fun f => decide (f.1 ≤ k) && decide (k < f.1 + f.2)) ||
    (match o.tail with | some (start, _) => decide (start ≤ k) | none => false)
  x.f 2 1 == 0 && x.f 4 2 == 0 && x.f 3 1 < 16 &&
    (upTo x.len).all fun k => used (8 + k) || x.f (8 + k) 1 == 0

/-- Table 5.6: the reserved bits of an Action Table entry are 0. -/
def actionOk (e : Nat) : Bool :=
  bitsOf e 22 2 == 0 && bitsOf e 26 6 == 0 && bitsOf e 100 28 == 0 && (upTo 4).all fun k => bitsOf e (44 + 16 * k) 3 == 0

/-- R19, R115: an EGRESS that every release on it would be dropped for. -/
def egressBad (eg : Nat) : Bool :=
  let i := eg % 0x1000
  if eg / 0x1000 = 1 then !(decide (i < 6) || (decide (0x100 ≤ i) && decide (i < 0x140))) else badEgress eg

/-- Table 4.3: the reserved bits of a Stream Table entry are 0, and its fields are in range. -/
def streamOk (e : Nat) : Bool :=
  let f := seFilter e
  bitsOf e 27 5 == 0 && seRec e != 3 && bitsOf e 36 4 == 0 && (decide (f < 128) || f == 0xFF) && bitsOf e 54 74 == 0 &&
    !(seValid e && egressBad (seEgress e))

/-- Table 11.9: bytes of a parked group's state that CA_PARK_READ and CA_PARK_WRITE name lie in their space; the summary is
space 0. -/
def MbCmd.parkOk (x : MbCmd) : Bool :=
  let off := x.f 0x0C 4
  let n := x.f 0x10 2
  if x.f 9 1 = 0 then decide (off + n ≤ 24) else spaceOk (x.f 9 1) (x.f 0x0A 1) off n

/-- A block of DEV_WITHDRAW: KIND and INDEX (Table 11.5). -/
def blockOk (kind index : Nat) : Bool :=
  match kind with
  | 1 => decide (index < 6)
  | 2 => decide (index < 8)
  | 3 => decide (index < 16)
  | 4 => decide (index < 4)
  | 5 => decide (index < 6)
  | 6 => tidewayIndex index
  | _ => false

/-- R372, check 5: every field is in range. -/
def MbCmd.rangeOk (x : MbCmd) : Bool :=
  let b8 := x.f 8 1
  let b9 := x.f 9 1
  let ha := x.f 0x0A 2
  let hc := x.f 0x0C 2
  match x.op with
  | 0x0102 => decide (1 ≤ b8) && decide (b8 ≤ 5)
  | 0x0103 =>
    let n := x.f 0x0C 1
    x.f 8 4 % 4 == 0 && decide (1 ≤ n) && decide (n ≤ 62) && decide (x.f 8 4 + 4 * n ≤ 0x01000000)
  | 0x0104 | 0x0304 => x.f 8 4 % 4 == 0 && decide (x.f 8 4 < 0x01000000)
  | 0x0105 | 0x0106 | 0x0107 => blockOk b8 (x.f 9 2)
  | 0x0109 => x.f 8 2 == 0x5A5A
  | 0x0201 => decide (1 ≤ b8) && decide (b8 ≤ 15) && decide (b9 ≤ 1)
  | 0x0202 | 0x0203 => decide (1 ≤ b8) && decide (b8 ≤ 15) && decide (b9 ≤ 1)
  | 0x0204 => decide (b8 ≤ 15)
  | 0x0205 =>
    decide (1 ≤ b8) && decide (b8 ≤ 15) && (b9 == 1 || b9 == 2) && decide (x.f 0x0A 1 ≤ 3) && x.f 0x10 5 % 4096 == 0
  | 0x0301 => decide (b8 < 8) && decide (ha < 512) && decide (x.f 0x0C 1 < 16) && decide (x.f 0x44 4 ≤ 1)
  | 0x0302 => decide (x.f 8 2 < 4096) && actionOk (x.f 0x10 16)
  | 0x0303 => decide (x.f 8 2 < 4096) && streamOk (x.f 0x10 16)
  | 0x0305 => (b8 == 1 || b8 == 2) && decide (b9 ≤ 6) && decide (ha < 4096)
  | 0x0308 => decide (1 ≤ b8) && decide (b8 ≤ 4) && decide (b9 ≤ 1) && decide (ha < if b8 = 4 then 1024 else 4096)
  | 0x0401 => decide (b8 < 6) && decide (1 ≤ hc) && decide (hc ≤ 60) && decide (ha + hc ≤ 16384)
  | 0x0402 => decide (1 ≤ hc) && decide (hc ≤ 60) && decide (ha + hc ≤ 4096)
  | 0x0403 =>
    let span := x.f 0x0D 1
    decide (x.f 0x0C 1 ≤ 1) &&
      decide (span < 64) && ((b8 == 0 && decide (b9 < 6) && decide (ha < 0x300)) ||
        (b8 == 1 && decide (0x300 ≤ ha) && decide (ha < 0x3C0)))
  | 0x0404 =>
    decide (1 ≤ hc) && decide (hc ≤ 62) &&
      (if b8 = 0 then decide (b9 < 6) && decide (ha + hc ≤ 16384)
       else decide (b8 ≤ 2) && decide (ha + hc ≤ 4096))
  | 0x0501 => decide (1 ≤ hc) && decide (hc ≤ 60) && decide (ha + hc ≤ 16384)
  | 0x0502 | 0x0503 =>
    let n := x.f 0x10 2
    decide (b8 < 8) && decide (b9 ≤ if x.op = 0x0502 then 4 else 5) && (x.op == 0x0502 || b9 != 0) &&
      decide (x.f 0x0A 1 < 32) && x.f 0x0C 4 % 4 == 0 && n % 4 == 0 && decide (4 ≤ n) &&
      decide (n ≤ if x.op = 0x0502 then 240 else 232) && x.parkOk
  | 0x0504 | 0x0505 => decide (b8 < 8)
  | 0x0601 => (b8 == 0 && decide (ha < 6)) || (b8 == 1 && tidewayIndex ha)
  | 0x0602 => decide (b8 < 6)
  | 0x0603 =>
    let n := x.f 0x0A 1
    decide (b8 < 6) && decide (1 ≤ n) && decide (n ≤ 28) && decide (b9 + n ≤ 256) && decide (x.f 0x0B 1 ≤ 1)
  | 0x0604 =>
    decide (b8 < 64) && decide (x.f 0x30 4 < 64) && decide (bitsOf (x.f 0x30 4) 0 3 < 5) && decide (x.f 0x38 4 ≤ 1) &&
      x.f 0x3C 20 == 0
  | 0x0702 => decide (b8 ≤ 1)
  | 0x0801 =>
    x.f 8 5 % 0x100000 == 0 && decide (64 ≤ x.f 0x10 2) && decide (x.f 0x10 2 ≤ 4096) && decide (x.f 0x12 1 ≤ 1)
  | 0x0901 | 0x0903 | 0x0904 => decide (b8 ≤ 1)
  | 0x0902 => decide (b8 ≤ 1) && decide (x.f 0x0C 4 + (x.len - 8) ≤ 0x800000)
  | 0x0905 => decide (0x90 + 16 + 128 ≤ x.f 0x10 4) && decide (x.f 0x10 4 ≤ 0x90 + 16 * 512 + 128)
  | 0x0A05 => decide (0x10 ≤ b8) && decide (b8 ≤ 0x13)
  | 0x0B03 => ha % 128 == 0 && decide (ha ≤ 1920)
  | _ => true

/-- R381, Table 17.7: SHADOW, REPLAY and a device that synchronises. -/
def State.onlyShadowOps (s : State) : Bool := s.followsLog

/-- R438: the instance that INST_RESET or INST_DESTROY names. -/
def MbCmd.resetTarget (x : MbCmd) : Option Nat := if x.op = 0x0202 || x.op = 0x0203 then some (x.f 8 1) else none

/-- R372, R388, R374, R386: the status with which a command ends at its take-up, if any. -/
def State.mbCheck (s : State) (m : Nat) (x : MbCmd) : Option Nat :=
  if x.bad then some 0x0301
  else match mbOp x.op with
    | none => some 0x0101
    | some o =>
      if !x.lenOk o then some 0x0102
      else match x.for_ m with
        | none => some 0x0104
        | some i =>
          if m ≠ 0 && o.i0 then some 0x0104
          else if s.onlyShadowOps && !o.shadow then some 0x0109
          else if !x.reservedOk o || !x.rangeOk then some 0x0103
          else if (s.instAt i).state = .absent then some 0x0208
          else if s.resetting i && x.op ≠ 0x0204 then some 0x0107
          else match x.resetTarget with
            | some k => if s.resetting k then some 0x0107 else none
            | none => none

/-- Whether a command is quick (R373). -/
def MbCmd.quick (x : MbCmd) : Bool := match mbOp x.op with | some o => o.quick | none => true

/-- A quick command has been taken up and not yet answered. -/
def State.quickRuns (s : State) : Bool :=
  s.mbTaken.any fun m => match (s.mbAt m).cmd with | some x => x.quick | none => false

/-- The take-up of the oldest accepted doorbell (R369, R372, R373). -/
def State.mbTakeUp (s : State) : State :=
  match s.mbQueue with
  | [] => s
  | m :: rest =>
    let s := { s with mbQueue := rest }
    match (s.mbAt m).cmd with
    | none => s
    | some x =>
      if x.seq = (s.mbAt m).lastSeq then
        let copy := (s.mbAt m).copy
        if copy.isEmpty then s.tick.mbRespond m (Config.noResponse s.fresh) else s.mbRespond m copy
      else
        let s := s.modMb m fun b => { b with lastSeq := x.seq, cmd := some { x with taken := true, since := s.now } }
        match s.mbCheck m x with
        | some st => s.mbAnswer m st
        | none => { s with mbTaken := s.mbTaken ++ [m] }

/-- TAKE_UP. R373: one at a time, while Ohmyth serves and holds no patch window open (R379). -/
def doTakeUp (s : State) : State := if !s.serves || s.sup.hold || s.quickRuns then s else s.mbTakeUp

/-! ## Running a command -/

/-- R373: the resource that a long command acts on: 1 the software staged set, 2 the flash, 3 the recorder, 0x100 on a
cluster, 0x200 on a group, 0x300 on a port. -/
def MbCmd.resource (x : MbCmd) : Option Nat :=
  let b8 := x.f 8 1
  if x.op / 0x100 = 3 && x.op ≠ 0x0305 then some 1
  else if x.op / 0x100 = 9 then some 2
  else if x.op / 0x100 = 8 then some 3
  else if x.op = 0x0401 then some (0x100 + b8)
  else if x.op = 0x0503 then some (0x200 + b8)
  else if x.op = 0x0603 then some (0x300 + b8)
  else if x.op = 0x0105 || x.op = 0x0106 || x.op = 0x0107 then
    match b8 with
    | 1 => some (0x100 + x.f 9 2)
    | 2 => some (0x200 + x.f 9 2)
    | 5 => some (0x300 + x.f 9 2)
    | _ => none
  else none

/-- R373: a long command waits for each long command that was taken up before it and acts on the same resource. -/
def State.mbTurn (s : State) (m : Nat) (x : MbCmd) : Bool :=
  x.quick || (s.mbTaken.takeWhile (· != m)).all fun k =>
    match (s.mbAt k).cmd with
    | some y => x.quick || y.resource.isNone || y.resource != x.resource
    | none => true

/-- Runs mailbox `m`'s command if it has been taken up, has not begun, has opcode `op`, and it is its turn (R373, R379).
`body` gets the request and the instance that FOR names. -/
def State.mbRun (s : State) (m op : Nat) (body : MbCmd → Nat → State → State) : State :=
  match (s.mbAt m).cmd with
  | none => s
  | some x =>
    if x.taken && !x.begun && x.op == op && s.mbTaken.contains m && s.serves && !s.sup.hold && s.mbTurn m x then
      body x ((x.for_ m).getD m) s
    else s

/-- The command of mailbox `m` has begun and will be answered by a later event. -/
def State.mbBegin (s : State) (m : Nat) : State :=
  s.modMb m fun b => { b with cmd := b.cmd.map fun x => { x with begun := true } }

/-- The memory accesses of a command name its mailbox (R389). -/
def MbCmd.who (x : MbCmd) (m i : Nat) : Who :=
  { inst := if i = 0 then none else some i, master := 0x300, mbox := m, seq := x.seq, opcode := x.op }

/-- DOORBELL. -/
def execDoorbell (i : Fin 16) (val : Word) (s : State) : Host.Outcome State Fault Refusal := .next (doDoorbell i val.toNat s)
/-- REQUEST_AREA_WRITE. -/
def execRequestAreaWrite (i : Fin 16) (off : Nat) (val : Word) (s : State) : Host.Outcome State Fault Refusal :=
  .next (doRequestAreaWrite i off val.toNat s)
/-- TAKE_UP. -/
def execTakeUp (s : State) : Host.Outcome State Fault Refusal := .next (doTakeUp s)

end Sys2Proof.Machine
end

