-- ==== Sys2Proof/Machine/Access.lean ====
section
/-! DEFINITION. Writing registers: the change classes, where class H fields may be written, what the writes of single
registers do, and the views (spec/00 R5 to R16; spec/13 R413 to R415; spec/16 R502). -/
namespace Sys2Proof.Machine

/-! ## Where class H fields may be written (R502, Table 16.1) -/

/-- What meets a write that would change a class H field: it applies at once; it is kept and applies at the block's
return; or it is refused, and CFG_BUSY bits are set, each given by its register and its bit. -/
inductive Gate
  | opened
  | held
  | busy (bits : List (Nat × Nat))
  deriving DecidableEq, Repr

/-- The Tideway channel of a channel register. -/
def chanOfReg (off : Nat) : Option Nat :=
  if off < 0x00140100 then none
  else if off < 0x00140300 then some ((off - 0x00140100) / 0x20)
  else if off < 0x00140380 then some (chSd ((off - 0x00140300) / 0x10))
  else if off < 0x00140400 then none
  else if off < 0x00140500 then some (chSpi ((off - 0x00140400) / 0x20))
  else if off < 0x001405C0 then some (chGpio ((off - 0x00140500) / 0x20))
  else if off < 0x00140600 then none
  else if off < 0x00140640 then some (chUart ((off - 0x00140600) / 0x10))
  else if 0x00140700 ≤ off && off < 0x0014070C then some chPar
  else if 0x00140780 ≤ off && off < 0x00140790 then some (chPwm ((off - 0x00140780) / 4))
  else none

/-- R9: a class H write to the block is taken: it is WITHDRAWN. On a follower of the log the lead has taken the write
already, so it is also kept while this device's block is still DRAINING (R453, R510; log 125). -/
def State.wdHolds (s : State) (kind index : Nat) : Bool :=
  s.blockOut kind index || (s.followsLog && s.wdState kind index == .draining)

/-- The clusters of a SPAN that are not withdrawn. -/
def State.spanBusy (s : State) (span : Nat) : List Nat := (upTo 6).filter fun c => bitAt span c && !s.wdHolds 1 c

/-- Table 16.1, by key; the queue rings under R424. -/
def State.gateOf (s : State) (key : Nat) : Gate :=
  let i := key / 0x01000000
  let off := key % 0x01000000
  let out (kind index err : Nat) : Gate := if s.wdHolds kind index then .held else .busy [(err, 0)]
  if i ≠ 0 || off < 0x6000 then
    if s.bit (viewKey i (off / 0x40 * 0x40 + 0x0C)) 0 then .busy [(instKey i 0x3010, 0)] else .opened
  else if off = 0x00140000 then
    if tidewayChannels.all fun ch => s.wdHolds 6 ch then .held else .busy [(tdErr, 0)]
  else if off < 0x00150000 then
    match chanOfReg off with
    | some ch => out 6 ch tdErr
    | none => .opened
  else if off < 0x00160000 then
    if s.bit (off / 0x40 * 0x40 + 0x28) 0 then .busy [(tdErr, 0)] else .opened
  else if off < 0x00160600 then out 5 ((off - 0x00160000) / 0x100) enErr
  else if off = lrnCtl then if s.bit lrnCtl 0 then .busy [(enErr, 0)] else .opened
  else if 0x00200000 ≤ off && off < 0x00260000 then
    let c := (off - 0x00200000) / 0x10000
    out 1 c (egKey c 4)
  else if 0x00260000 ≤ off && off < 0x00260300 then
    let span := s.fld off 8 6
    if span = 0 then .opened
    else match s.spanBusy span with
      | [] => .held
      | l => .busy (l.map fun c => (egKey c 4, 0))
  else if 0x00340000 ≤ off && off < 0x00350000 then if s.mode = .boot then .opened else .busy [(slErr, 0)]
  else if 0x003A0000 ≤ off && off < 0x003B0000 then if s.ford.role = .none then .opened else .busy [(fdEvt, 9)]
  else if off = 0x003B0080 then if s.mode = .replay then .busy [(0x003B0014, 9)] else .opened
  else if 0x003B0000 ≤ off && off < 0x003C0000 then if s.bit 0x003B0000 0 then .busy [(0x003B0014, 9)] else .opened
  else .opened

/-! ## The change classes (R9 to R15, R598) -/

/-- Writes those bits of `val` under `mask` that lie in fields satisfying `p`, each field as R598 takes it. -/
def RegDesc.store (d : RegDesc) (p : RegField → Bool) (old mask val : Nat) : Nat :=
  d.fields.foldl (fun w f =>
    if p f && bitsOf mask f.lo f.w ≠ 0 then putBits w f.lo f.w (f.norm (bitsOf (putMask old mask val) f.lo f.w)) else w) old

/-- Class L fields. -/
def RegField.isL (f : RegField) : Bool := f.acc == .rw && f.cls == .live
/-- Class S fields. -/
def RegField.isS (f : RegField) : Bool := f.acc == .rw && f.cls == .staged
/-- Class H fields. -/
def RegField.isH (f : RegField) : Bool := f.acc == .rw && f.cls == .held

/-- R13: an edit of a register without the bits under `mask`, which a later edit replaces. -/
def RegEdit.without (e : RegEdit) (mask : Nat) : RegEdit := { e with mask := e.mask - (e.mask &&& mask) }

/-- R13, R16: stages class S bits as an edit of instance `i`; the other bits stay the edits of those who staged them. -/
def State.stageBits (s : State) (i key mask val : Nat) : State :=
  let edits := ((NatMap.get [] s.stagedRegs key).map fun e => e.without mask) ++ [{ inst := i, mask, val }]
  { s with stagedRegs := NatMap.ins s.stagedRegs key (edits.filter fun e => e.mask ≠ 0) }

/-- R175: a staging write waits while a commit is between its marker and the end of its reload. -/
def State.stageReg (s : State) (key mask val : Nat) : State :=
  if s.commits.isEmpty then s.stageBits 0 key mask val
  else { s with lateStages := s.lateStages ++ [(key, mask, val)] }

/-- Writes a register under `mask`, each field under its class; whether class H fields were refused. -/
def State.putReg (s : State) (key mask val : Nat) : State × Bool :=
  match regAt key with
  | none => (s, false)
  | some d =>
    let old := s.regW key
    -- class L and write-one-to-clear fields
    let w := d.store RegField.isL old mask val
    let clr := val &&& mask &&& d.mask fun f => f.acc == .w1c
    let s := s.setReg key (w - (w &&& clr))
    -- class S fields
    let sm := mask &&& d.mask RegField.isS
    let s := if sm = 0 then s else s.stageReg key sm (d.store RegField.isS old mask val)
    -- class H fields
    let hm := d.mask RegField.isH
    let cur := putMask old hm (NatMap.get old s.heldRegs key)
    let new := d.store RegField.isH cur mask val
    if new = cur then (s, false)
    else match s.gateOf key with
      | .opened => (((s.setReg key (putMask (s.regW key) hm new)).phaseNorm key).geometryWritten key, false)
      | .held => (({ s with heldRegs := NatMap.ins s.heldRegs key (new &&& hm) } : State).phaseNorm key, false)
      | .busy bits => (bits.foldl (fun s b => s.setBit b.1 b.2) s, true)

/-! ## Writes of single registers -/

/-- R479, R480, R483: recording starts as EN is set. -/
def State.recStart (s : State) : State :=
  { s with bt := { s.bt with chunks := [], shares := [], gap := none, closeAt := s.now, lastCkpt := s.now } }

/-- A write of BT_CTL. -/
def State.btCtlWrite (s : State) (mask val : Nat) : State :=
  let was := s.bit 0x003B0000 0
  let s := (s.putReg 0x003B0000 mask val).1
  if !was && s.bit 0x003B0000 0 then s.recStart else s

/-- XFER_GO. R491: a write of BT_XFER; as GO is set, a transfer starts. -/
def State.xferWrite (s : State) (mask val : Nat) : State :=
  let was := s.bit 0x003B00A0 0
  let s := (s.putReg 0x003B00A0 mask val).1
  if !was && s.bit 0x003B00A0 0 then { s.setFld 0x003B00A0 5 1 0 with bt := { s.bt with moved := 0 } } else s

/-- R592: a TJ_WARN above TJ_TRIP is taken as equal to it. -/
def State.almWrite (s : State) (mask val : Nat) : State :=
  let s := (s.putReg 0x003D0018 mask val).1
  s.setFld 0x003D0018 0 8 (min (s.fld 0x003D0018 0 8) (s.fld 0x003D0018 8 8))

/-- R444: as PAIR_EN is set, a link that is DOWN trains. -/
def State.fdCtlWrite (s : State) (mask val : Nat) : State × Bool :=
  let (s, b) := s.putReg fdCtl mask val
  (if s.bit fdCtl 0 && s.ford.link == 0 then { s with ford := { s.ford with link := 1 } }
   else if !s.bit fdCtl 0 && s.ford.link == 1 then { s with ford := { s.ford with link := 0 } } else s, b)

/-- R139, R144: a list entry or an ADMIN_ register whose change is pending. -/
def State.listPending (s : State) (off : Nat) : Bool :=
  if 0x00160000 ≤ off && off < 0x00160600 then
    decide (0x64 ≤ off % 0x100) && decide (off % 0x100 < 0x78) && (s.ethAt ((off - 0x00160000) / 0x100)).sched.pending.isSome
  else if 0x00164000 ≤ off && off < 0x00167000 then (s.ethAt ((off - 0x00164000) / 0x800)).sched.pending.isSome
  else if 0x00169000 ≤ off && off < 0x0016D000 then (s.sgAt ((off - 0x00169000) / 0x200)).pending.isSome
  else if 0x0016E000 ≤ off && off < 0x0016E400 then
    decide (4 ≤ off % 0x20) && decide (off % 0x20 < 0x18) && (s.sgAt ((off - 0x0016E000) / 0x20)).pending.isSome
  else false

/-- R297: the instance whose CODE region holds code-store word `w`; I0 for the rest. -/
def State.codeOwner (s : State) (w : Nat) : Nat := s.ownerBy fun x => regionHas (x.q 0x36 2) w

/-- R297: a code-store word of instance `i` may be written: every group that it holds is withdrawn. -/
def State.codeOpen (s : State) (i : Nat) : Bool := (upTo 8).all fun g => s.groupOwner g != i || s.wdHolds 2 g

/-- The groups of instance `i` whose code word cannot be written: CFG_BUSY. -/
def State.codeBusy (s : State) (i : Nat) : State :=
  (upTo 8).foldl (fun s g => if s.groupOwner g == i && !s.wdHolds 2 g then s.setBit (caKey g 8) 0 else s) s

/-- A write to the code store's window. -/
def State.codeWrite (s : State) (off mask val : Nat) : State × Bool :=
  let a := codeAddr + off
  let new := putMask (s.rdLe a 4) mask val
  let i := s.codeOwner (off / 4)
  if s.codeOpen i then ((s.wrChk a (leBytes 4 new) { master := 0x300 }).1, false)
  else if new = s.rdLe a 4 then (s, false)
  else (s.codeBusy i, true)

/-- A write of a register of the privileged view other than those of I0's own block: what it does, and whether class H
fields were refused. -/
def State.privWrite (s : State) (off mask val : Nat) : State × Bool :=
  let v := val &&& mask
  if s.listPending off then (s.setBit enErr 2, true)
  else if off = 0x0015000C then (s.gongRearm v, false)
  else if off = 0x00150010 then (s.gongRearm (v * 2 ^ 32), false)
  else if 0x00150000 ≤ off && off < 0x00152000 then
    let (s, b) := s.putReg off mask val
    (s.applyForces.gongRun, b)
  else if 0x00160000 ≤ off && off < 0x00160600 && off % 0x100 == 0x60 then
    (doConfigChange ((off - 0x00160000) / 0x100) (putMask (s.regW off) mask val) s, false)
  else if 0x0016E000 ≤ off && off < 0x0016E400 && off % 0x20 == 0 then
    (if bitAt v 0 then doSgConfigChange ((off - 0x0016E000) / 0x20) s else s, false)
  else if 0x00280000 ≤ off && off < 0x00300000 && off % 0x10000 == 4 then
    let g := (off - 0x00280000) / 0x10000
    (if bitAt v 1 then s.abandonParked g else if bitAt v 0 then s.resumeParked g else s, false)
  else if 0x00280000 ≤ off && off < 0x00300000 && (caWindow (off % 0x10000)).isSome then
    let g := (off - 0x00280000) / 0x10000
    (doCaStateWrite g (off % 0x10000) (putMask (s.caRead g (off % 0x10000)) mask val) s, false)
  else if 0x00300000 ≤ off && off < 0x00310000 then s.codeWrite (off - 0x00300000) mask val
  else if off = 0x00380040 then (doInClaimWrite (putMask (s.regW off) mask val) s, false)
  else if off = fdCtl then s.fdCtlWrite mask val
  else if off = 0x003B0000 then (s.btCtlWrite mask val, false)
  else if off = 0x003B00A0 then (s.xferWrite mask val, false)
  else if off = 0x003D0018 then (s.almWrite mask val, false)
  else if off = 0x003D0208 then (s, false)
  else if 0x00F00000 ≤ off && off < 0x00F00400 then (((s.putReg off mask val).1).msixFlush 0, false)
  else s.putReg off mask val

/-- A write in instance `i`'s own block, or in a VF's view. -/
def State.blockWriteReg (s : State) (i off val : Nat) : State :=
  let key := instKey i off
  if mailboxOff off then s
  else if 0x1000 ≤ off && off < 0x1040 then
    let q := (off - 0x1000) / 8
    if off % 8 = 0 then doSqTailDoorbell i q val s else doCqHeadDoorbell i q val s
  else if off < 0x200 && off % 0x40 == 0x0C then doQueueEnable i false (off / 0x40) val s
  else if 0x200 ≤ off && off < 0x400 && off % 0x40 == 0x0C then doQueueEnable i true ((off - 0x200) / 0x40) val s
  else if off = 0x3004 then doInIenWrite i val s
  else if off = 0x5000 then doInHintWrite i val s
  else if 0x30000 ≤ off && off < 0x30100 then ((s.putReg key 0xFFFFFFFF val).1).msixFlush i
  else (s.putReg key 0xFFFFFFFF val).1

/-! ## The views -/

/-- R452: an offset whose write through the privileged view makes a CONFIG entry: I0's own block, the mailbox and the
MSI-X table are left out (DEDUCED: log 123). -/
def configOff (off : Nat) : Bool :=
  decide (0x6000 ≤ off) && decide (off < 0x00F00000) && !(decide (0x00360000 ≤ off) && decide (off < 0x00360400))

/-- An accepted write through the privileged view, with its CONFIG entry; one where nothing is implemented is ignored (R8). -/
def State.pfWrite (s : State) (off mask val : Nat) : State × Bool :=
  if off < 0x6000 then (s.blockWriteReg 0 off val, false)
  else if (regAt off).isNone then (s, false)
  else
    let (s, busy) := s.privWrite off mask val
    let kept := match regAt off with
      | some d => if busy then mask &&& d.mask (fun f => !f.isH) else mask
      | none => 0
    (if configOff off && kept ≠ 0 then s.configEntry 1 off kept (val &&& kept) else s, busy)

/-- A write in a mailbox block. -/
def State.mbWrite (s : State) (m o val : Nat) : State :=
  if o < 0x100 then doRequestAreaWrite m o val s
  else if o < 0x200 then s
  else if o = 0x200 then doDoorbell m val s
  else (s.putReg (mbKey m + o) 0xFFFFFFFF val).1

/-- REG_WRITE. R5, R8, R9, R11, R415, R526: a host write of `bytes` bytes at `off` of a view. -/
def doRegWrite (v : View) (off bytes val : Nat) (s : State) : State :=
  let i := viewFn v
  let bad := off % 4 ≠ 0 || bytes ≠ 4
  if !s.viewHas v off then s
  else match s.mailboxAt v off with
    | some (m, o) =>
      if bad then s.bump (instKey i 0x4008)
      else if i = 0 && s.bootFailed then s else s.mbWrite m o val
    | none =>
      if !s.viewOpen v then s
      else if bad then s.bump (instKey i 0x4008)
      else if i = 0 then
        if s.bootFailed && !(decide (0x00370000 ≤ off) && decide (off < 0x003700C0)) then s
        else (s.pfWrite off 0xFFFFFFFF val).1
      else s.blockWriteReg i off val

/-- REG_WRITE. -/
def execRegWrite (v : View) (off bytes : Nat) (val : Word) (s : State) : Host.Outcome State Fault Refusal :=
  .next (doRegWrite v off bytes val.toNat s)
/-- XFER_GO. -/
def execXferGo (val : Word) (s : State) : Host.Outcome State Fault Refusal :=
  .next (s.xferWrite 0xFFFFFFFF val.toNat)

end Sys2Proof.Machine
end

