-- ==== Sys2Proof/Machine/StageOps.lean ====
section
/-! DEFINITION. The software staged set, the staged copies, and the making of commits, as shared operations (spec/00 R13,
R14; spec/05 R171 to R176; spec/11 R376). -/
namespace Sys2Proof.Machine

/-- The class S tables that software stages: 1 Shoal, 2 Action, 3 Stream, 5 the parse store; 4 is the Station Table. -/
def stagedTable (t : Nat) (x : Staged) : NatMap (Option (Nat × Nat)) :=
  match t with
  | 1 => x.shoal
  | 2 => x.action
  | 3 => x.stream
  | 5 => x.parse
  | _ => []

/-- Replaces the edits of one table. -/
def setStaged (t : Nat) (x : Staged) (m : NatMap (Option (Nat × Nat))) : Staged :=
  match t with
  | 1 => { x with shoal := m }
  | 2 => { x with action := m }
  | 3 => { x with stream := m }
  | 5 => { x with parse := m }
  | _ => x

/-- The entries of one table of a copy. -/
def tableOf (t : Nat) (x : Tables) : NatMap Nat :=
  match t with
  | 1 => x.shoal
  | 2 => x.action
  | 3 => x.stream
  | 4 => x.station
  | _ => x.parse

/-- Replaces the entries of one table of a copy. -/
def setTable (t : Nat) (x : Tables) (m : NatMap Nat) : Tables :=
  match t with
  | 1 => { x with shoal := m }
  | 2 => { x with action := m }
  | 3 => { x with stream := m }
  | 4 => { x with station := m }
  | _ => { x with parse := m }

/-- The tables from which the staged copy is reloaded: those of the newest accepted commit, or the active ones. -/
def State.baseTables (s : State) : Tables :=
  match s.commits.getLast? with
  | some c => if c.takenOver then s.tables else c.tables
  | none => s.tables

/-- What the staged copy holds at entry `i` of table `t`. -/
def State.stagedEntry (s : State) (t i : Nat) : Nat :=
  if t = 4 then
    match NatMap.get none s.learn.set_ i with
    | some e => e
    | none => NatMap.get 0 s.baseTables.station i
  else
    match NatMap.get none (stagedTable t s.staged) i with
    | some x => x.2
    | none => NatMap.get 0 (tableOf t s.baseTables) i

/-- Stages entry `i` of table `t` as an edit of instance `inst`. -/
def State.stageEntry (s : State) (t i inst v : Nat) : State :=
  { s with staged := setStaged t s.staged (NatMap.put none (stagedTable t s.staged) i (some (inst, v))) }

/-- Drops the edit of an entry: the staged copy shows the active entry again. -/
def State.unstage (s : State) (t i : Nat) : State :=
  { s with staged := setStaged t s.staged (NatMap.put none (stagedTable t s.staged) i none) }

/-- R175, R245: a staging write to entry `i` of table `t` waits. -/
def State.stageWaits (s : State) (t i : Nat) : Bool := !s.commits.isEmpty || (t != 5 && t != 1 && s.kept (tableOf t) i)

/-- Where word `j` of entry `i` of a table stands in the privileged view. -/
def tableOffset (t i j : Nat) : Nat :=
  match t with
  | 1 => 0x001C0000 + 64 * i + 4 * j
  | 2 => 0x00190000 + 16 * i + 4 * j
  | 3 => 0x00170000 + 16 * i + 4 * j
  | 4 => 0x00180000 + 16 * i + 4 * j
  | _ => 0x001A4000 + 4 * i

/-- The table, entry and word of an offset of the privileged view. -/
def tableAtOffset (off : Nat) : Option (Nat × Nat × Nat) :=
  if 0x001C0000 ≤ off && off < 0x00200000 then some (1, (off - 0x001C0000) / 64, off % 64 / 4)
  else if 0x00190000 ≤ off && off < 0x001A0000 then some (2, (off - 0x00190000) / 16, off % 16 / 4)
  else if 0x00170000 ≤ off && off < 0x00180000 then some (3, (off - 0x00170000) / 16, off % 16 / 4)
  else if 0x00180000 ≤ off && off < 0x00184000 then some (4, (off - 0x00180000) / 16, off % 16 / 4)
  else if 0x001A4000 ≤ off && off < 0x001A8000 then some (5, (off - 0x001A4000) / 4, 0)
  else none

/-- Words of an entry that a CONFIG entry may carry. -/
def tableWords (t : Nat) : Nat :=
  match t with
  | 1 => 14
  | 5 => 1
  | _ => 4

/-- R452: CONFIG entries of the words of a staged entry (KIND 2), or of a learning change (KIND 5). -/
def State.sendStaged (s : State) (kind t i v : Nat) : State :=
  (upTo (tableWords t)).foldl (fun s j => s.configEntry kind (tableOffset t i j) 0xFFFFFFFF (word32 v j)) s

/-- Stages an entry and tells the partner and the recorder. -/
def State.stage (s : State) (t i inst v : Nat) : State := (s.stageEntry t i inst v).sendStaged 2 t i v

/-- R14, R172: Shoal edits in the set, which SH_STAT.STAGED and the responses' STAGED count. -/
def State.shoalEdits (s : State) : Nat := s.staged.shoal.length

/-- Discards the edits for whose instance `p` holds (R16, R182, R376). -/
def State.discardEdits (s : State) (p : Nat → Bool) : State :=
  let s := [1, 2, 3, 5].foldl (fun s t =>
    let mine := (stagedTable t s.staged).filter fun e => match e.2 with | some x => p x.1 | none => false
    mine.foldl (fun s e =>
      (s.unstage t e.1).sendStaged 2 t e.1 (NatMap.get 0 (tableOf t s.baseTables) e.1)) s) s
  let others := s.stagedRegs.map fun r => (r.1, r.2.filter fun e => !p e.inst)
  let gone := s.stagedRegs.flatMap fun r => (r.2.filter fun e => p e.inst).map fun e => (r.1, e.mask)
  gone.foldl (fun s r => s.configEntry 2 r.1 r.2 (s.regW r.1 &&& r.2))
    { s with stagedRegs := others.filter fun r => !r.2.isEmpty }

/-- The tables after the software set is applied. -/
def State.applySet (s : State) (x : Tables) : Tables :=
  [1, 2, 3, 5].foldl (fun x t =>
    setTable t x ((stagedTable t s.staged).foldl (fun m e =>
      match e.2 with
      | some y => NatMap.put 0 m e.1 y.2
      | none => m) (tableOf t x))) x

/-- R178: where entry `i` of table `t` stands in its active copy, and its bytes. -/
def activePlace (t i : Nat) : Nat × Nat :=
  match t with
  | 1 => (shoalBase + 64 * i, 64)
  | 2 => (actionAddr i, 16)
  | 3 => (streamAddr i, 16)
  | 4 => (stationAddr i, 16)
  | _ => (parseBase + 4 * i, 4)

/-- What the software set writes in the active copies. -/
def State.editedPlaces (s : State) : List (Nat × Nat) :=
  [1, 2, 3, 5].flatMap fun t => ((stagedTable t s.staged).filter fun e => e.2.isSome).map fun e => activePlace t e.1

/-- The register edits of the set, each with its key, its bits and their values. -/
def State.regEdits (s : State) : List (Nat × Nat × Nat) :=
  s.stagedRegs.flatMap fun r => r.2.map fun e => (r.1, e.mask, e.val)

/-- R174, R176: the Intake accepts a commit marker with GSEQ `g`: the set that it carries is fixed. -/
def State.acceptCommit (s : State) (g : Nat) (learning : Bool) (askers : List (Nat × Nat)) : State :=
  let epoch := (s.intakeEpoch + 1) % 2 ^ 48
  if learning then
    let s := s.learn.set_.foldl (fun s e =>
      match e.2 with
      | some v => s.sendStaged 5 4 e.1 v
      | none => s) s
    let c : Commit := ⟨g, true, epoch, false, s.applyLearning s.baseTables, [], askers ++ s.learn.askers,
      (s.learn.set_.filter fun e => e.2.isSome).map fun e => activePlace 4 e.1⟩
    { s with commits := s.commits ++ [c], learn := { s.learn with set_ := [], askers := [] } }
  else
    let c : Commit := ⟨g, false, epoch, false, s.applySet s.baseTables, s.regEdits, askers,
      s.editedPlaces⟩
    { s with commits := s.commits ++ [c], staged := {}, stagedRegs := [] }

/-- R174: the payload of a commit marker. -/
def markerPayload (epoch : Nat) (learning : Bool) : List Byte := leBytes 6 epoch ++ leBytes 1 (b2n learning) ++ [0]

end Sys2Proof.Machine
end

