-- ==== Sys2Proof/Machine/WdOps.lean ====
section
/-! DEFINITION. Withdrawal, drains and return of blocks, as shared operations (spec/16 R502 to R510). -/
namespace Sys2Proof.Machine

/-- The HL_WD_ register, or HN_WD, and the bit that shows a block (R503, R510). -/
def wdReg (kind index : Nat) : Nat × Nat :=
  match kind with
  | 1 => (0x003D0108, index)
  | 2 => (0x003D0108, 8 + index)
  | 3 => (0x001A0020, index)
  | 4 => (0x003D0108, 16 + index)
  | 5 => (0x003D0108, 24 + index)
  | _ =>
    if index < 0x010 then (0x003D010C, index)
    else if index < 0x020 then (0x003D010C, 16 + (index - 0x010))
    else if index < 0x030 then (0x003D010C, 24 + (index - 0x020))
    else if index < 0x040 then (0x003D0110, index - 0x030)
    else if index < 0x050 then (0x003D0110, 8 + (index - 0x040))
    else if index = chPar then (0x003D0110, 12)
    else (0x003D0110, 16 + (index - 0x060))

/-- Every withdrawable block, as (KIND, INDEX). -/
def wdBlocks : List (Nat × Nat) :=
  [(1, 6), (2, 8), (3, 16), (4, 4), (5, 6)].flatMap (fun k => (upTo k.2).map fun i => (k.1, i)) ++
    tidewayChannels.map fun ch => (6, ch)

/-- The block that a bit of those registers shows. -/
def wdBlockAt (off bit : Nat) : Option (Nat × Nat) := wdBlocks.find? fun b => wdReg b.1 b.2 == (off, bit)

/-- Sets a block's state; HL_WD_STAT shows the block. -/
def State.wdSet (s : State) (kind index : Nat) (st : WdState) : State :=
  { s with wd := { s.wd with
      state := NatMap.put .running s.wd.state (blockKey kind index) st, lastKind := kind, lastIndex := index } }

/-- R510: the CONFIG entry of a withdrawal or a return. -/
def State.wdSend (s : State) (kind index v : Nat) : State :=
  let r := wdReg kind index
  s.configEntry 1 r.1 (2 ^ r.2) (v * 2 ^ r.2)

/-- Table 16.2: a Tideway channel starts nothing more. -/
def State.chanDrain (s : State) (ch : Nat) : State :=
  if 0x020 ≤ ch && ch < 0x028 then s.setSpi (ch - 0x020) { s.spiAt (ch - 0x020) with queue := [] }
  else if (0x010 ≤ ch && ch < 0x018) || (0x040 ≤ ch && ch ≤ 0x050) then s.chanSafe ch
  else s

/-- R297, R515: both groups of a Kettle unit are WITHDRAWN. -/
def State.kettleFree (s : State) (k : Nat) : Bool := s.blockOut 2 (2 * k) && s.blockOut 2 (2 * k + 1)

/-- Table 16.2: the drain of a block has ended. -/
def State.wdDrained (s : State) (kind index : Nat) : Bool :=
  match kind with
  | 1 => (s.threadsOf index).isEmpty
  | 2 => (s.kernel index).isNone
  | 3 => (s.heronAt index).isNone
  | 4 => s.kettleFree index
  | 5 => (s.ethAt index).ingress.isEmpty && (s.ethAt index).queues.isEmpty
  | _ =>
    s.buffered index == 0 &&
      (if index < 0x010 then true
       else if index < 0x018 then (s.sdAt (index - 0x010)).run.isNone
       else if index < 0x028 then (s.spiAt (index - 0x020)).run.isNone
       else if index < 0x036 then (s.gpioAt (index - 0x030)).cell.isNone
       else if index < 0x044 then (s.uartAt (index - 0x040)).sending.isNone
       else if index = chPar then s.td.par.sending.isNone else true)

/-- R503, R505: the block is WITHDRAWN, and the command that asked is answered. -/
def State.wdFinish (s : State) (kind index : Nat) : State :=
  let key := blockKey kind index
  let asker := NatMap.get 0 s.wd.asker key
  let s := s.wdSet kind index .withdrawn
  let s := { s with wd := { s.wd with since := NatMap.del s.wd.since key, asker := NatMap.del s.wd.asker key } }
  let s := if kind = 5 then s.ethLinkDown index else if kind = 6 then s.chansSafe [index] else s
  if asker = 0 then s else s.mbAnswer (asker - 1) 0

/-- R503, R510: a drain starts; `asker` is the mailbox that asked plus 1, or 0. A Kettle unit's ends at once where its groups are
WITHDRAWN (R297). -/
def State.wdStart (s : State) (kind index asker : Nat) : State :=
  let key := blockKey kind index
  let s := (s.wdSend kind index 1).wdSet kind index .draining
  let s := { s with wd := { s.wd with
    since := NatMap.ins s.wd.since key (s.now + 1000 * clampNat 10 50000 (s.fld 0x003D0100 0 16)), asker := NatMap.put 0 s.wd.asker key asker } }
  let s := if kind = 6 then s.chanDrain index else s
  if kind = 4 && s.kettleFree index then s.wdFinish kind index else s

/-- R506: class H writes that were kept for a block are in force once it has returned. -/
def State.applyHeld (s : State) : State :=
  s.heldRegs.foldl (fun s r =>
    if s.gateOf r.1 = .held then s
    else match regAt r.1 with
      | some d =>
        ({ s.setReg r.1 (putMask (s.regW r.1) (d.mask RegField.isH) r.2) with heldRegs := NatMap.del s.heldRegs r.1 } :
          State).phaseNorm r.1
      | none => s) s

/-- R506, R510: a block returns. A Gong force that stands on a channel applies at once (R97, R102), and Gong sees its pads. -/
def State.wdReturn (s : State) (kind index : Nat) : State :=
  let s := ((s.wdSend kind index 0).wdSet kind index .running).applyHeld
  -- R232: a new slot table applies from the first round
  let s := if kind = 1 then { s with eg := { s.eg with slots := NatMap.keep (fun k => k / 8 != index) s.eg.slots } } else s
  if kind = 6 then s.applyForces.gongRun else s

/-! ## Forced drains (R504, R510) -/

/-- Table 18.3: a cell, a kernel or a port forced at a drain bound; counted. -/
def State.forced1 (s : State) (index : Nat) (gseq inst : Option Nat) : State :=
  (s.record { block := 0x16, code := 0x0040, sev := 2, unit := index, gseq, inst }).bump 0x003D0120

/-- An instance as a record names it: a tenant, or none for I0 (R547). -/
def tenant (i : Nat) : Option Nat := if i = 0 then none else some i

/-- R455, Table 15.3 RESET: the outcome of a cell. -/
def State.resetEntry (s : State) (g inst outcome : Nat) : State :=
  s.decision 0x0C 0xFFFF (leBytes 6 g ++ leBytes 1 inst ++ leBytes 1 outcome)

/-- A RESET entry of cell `g` with an outcome. -/
def isReset (g outcome : Nat) (e : DEntry) : Bool := leAt e.body 0 6 == g && leAt e.body 7 1 == outcome

/-- R504: the cells that still have threads on a cluster, each once, in GSEQ order. -/
def State.cellsOn (s : State) (c : Nat) : List Nat :=
  (((s.threadsOf c).filter fun e => !e.2.stopped).map fun e => e.2.gseq).eraseDups

/-- R504: a cell is forced: its threads stop, and it takes its action's fault disposition. -/
def State.forceCell (s : State) (c g : Nat) : State :=
  let i := s.cellInst g
  let s := if s.followsSite 0x0C (isReset g 1) then s.siteTake 0x0C (isReset g 1) else s.resetEntry g i 1
  ((s.forced1 c (some g) (tenant i)).stopCell g).faultCell g

/-- R504, R510: forces the drain of a cluster; a follower forces the cells that the lead forced. -/
def State.forceCluster (s : State) (c : Nat) : State :=
  let gs := (s.cellsOn c).filter fun g => !s.followsLog || (s.siteNext 0x0C (isReset g 1)).isSome
  gs.foldl (fun s g => s.forceCell c g) s

/-- R504, R510: forces the drain of a group. -/
def State.forceGroup (s : State) (g : Nat) : State :=
  match s.kernel g with
  | none => s
  | some k =>
    let i := tenant k.launch.req.inst
    if (k.park.bind (·.since)).isSome then
      let t := s.abandonParked g
      if (t.kernel g).isNone then t.forced1 g (some k.launch.req.gseq) i else s
    else
      match s.parkOutcome g { k with writes := [] } 2 with
      | none => s
      | some s =>
        let (s, k) := s.caPostedAll g k
        (s.abandonKernel g k 0).forced1 g (some k.launch.req.gseq) i

/-- R504: forces the drain of an Ethernet port: frames still queued are discarded. -/
def State.forcePort (s : State) (p : Nat) : State :=
  let x := s.ethAt p
  let n := x.queues.foldl (fun a q => a + q.2.length) 0
  ((s.setEth p { x with queues := [] }).bumpBy (enKey p + 0x44) n).forced1 p none none

/-- R504: cuts what a Tideway channel does. -/
def State.cutChannel (s : State) (ch : Nat) : State :=
  if ch < 0x010 then s
  else if ch < 0x018 then
    let d := s.sdAt (ch - 0x010)
    s.setSd (ch - 0x010) { d with base := d.pos s.now, run := none, queue := [] }
  else if ch < 0x028 then s.setSpi (ch - 0x020) { s.spiAt (ch - 0x020) with run := none, queue := [] }
  else if ch < 0x036 then s.setGpio (ch - 0x030) { s.gpioAt (ch - 0x030) with cell := none }
  else if ch < 0x044 then s.setUart (ch - 0x040) { s.uartAt (ch - 0x040) with sending := none, txFifo := [], control := none }
  else if ch = chPar then s.setPar { s.td.par with sending := none, txCells := [] }
  else s

/-- R504: forces what is left of a drain. A Heron's and a Kettle unit's drain are not forced. -/
def State.wdForce (s : State) (kind index : Nat) : State :=
  match kind with
  | 1 => s.forceCluster index
  | 2 => s.forceGroup index
  | 5 => s.forcePort index
  | 6 => s.cutChannel index
  | _ => s

end Sys2Proof.Machine
end

