-- ==== Sys2Proof/Machine/InstOps.lean ====
section
/-! DEFINITION. Grants, and the reset and the destruction of an instance, as shared operations (spec/13 R420 to R423, R435
to R438; spec/01 R48). -/
namespace Sys2Proof.Machine

/-! ## Grants (R422) -/

/-- The rights that a grant table gives on a page. -/
def grantRights (l : List Grant) (page : Nat) : Bool × Bool :=
  (l.any fun g => g.gives page true false, l.any fun g => g.gives page false true)

/-- Joins neighbouring ranges of like rights, and drops ranges without rights. -/
def joinGrants : List Grant → List Grant
  | [] => []
  | g :: gs =>
    if !g.canRead && !g.canWrite then joinGrants gs
    else match joinGrants gs with
      | [] => [g]
      | h :: hs =>
        if g.page + g.pages = h.page && g.canRead == h.canRead && g.canWrite == h.canWrite then
          ⟨g.page, g.pages + h.pages, g.canRead, g.canWrite⟩ :: hs
        else g :: h :: hs

/-- A grant table after OP 1 adds rights to a range of pages, or OP 2 removes them. -/
def grantChange (l : List Grant) (add rd wr : Bool) (page pages : Nat) : List Grant :=
  let cuts := rising ((l.flatMap fun g => [g.page, g.page + g.pages]) ++ [page, page + pages])
  joinGrants ((cuts.zip (cuts.drop 1)).map fun (a, b) =>
    let (r, w) := grantRights l a
    let inside := decide (page ≤ a) && decide (a < page + pages)
    let f (old new : Bool) : Bool := if inside && new then add else old
    ⟨a, b - a, f r rd, f w wr⟩)

/-- Pages of a grant table. -/
def grantPages (l : List Grant) : Nat := l.foldl (fun a g => a + g.pages) 0

/-- R452: the CONFIG entry of a grant change (KIND 6): OFFSET holds the page, bits 28 and 29 the rights and bit 30 the
addition; MASK the pages; VALUE the instance. -/
def State.sendGrant (s : State) (i : Nat) (add rd wr : Bool) (page pages : Nat) : State :=
  s.configEntry 6 (page % 2 ^ 28 + b2n rd * 2 ^ 28 + b2n wr * 2 ^ 29 + b2n add * 2 ^ 30) pages i

/-! ## What an instance owns (Table 13.5) -/

/-- The Tideway channels in a QUOTA block. -/
def Instance.channels (x : Instance) : List Nat :=
  tidewayChannels.filter fun ch =>
    if ch < 0x010 then bitAt (x.q 0x1C 2) ch
    else if ch < 0x018 then bitAt (x.q 0x1E 1) (ch - 0x010)
    else if ch < 0x028 then bitAt (x.q 0x1F 1) (ch - 0x020)
    else if ch < 0x036 then bitAt (x.q 0x1B 1) (ch - 0x030)
    else if ch < 0x044 then bitAt (x.q 0x20 1) (ch - 0x040)
    else if ch = chPar then bitAt (x.q 0x20 1) 4
    else bitAt (x.q 0x21 1) (ch - 0x060)

/-- A range laid out as STREAMS: its first ID and its count. -/
def idRange (q : Nat) : Nat × Nat := (bitsOf q 0 12, bitsOf q 16 12)

/-- The IDs of a range. -/
def rangeIds (q : Nat) : List Nat := (upTo (idRange q).2).map fun k => (idRange q).1 + k

/-- A range holds an ID. -/
def rangeHas (q k : Nat) : Bool := decide ((idRange q).1 ≤ k) && decide (k < (idRange q).1 + (idRange q).2)

/-- The register of a channel's binding: a cluster channel of cluster `c` (Table 7), or a device channel. -/
def chanReg (c id : Nat) : Nat := if id < 0x300 then 0x00201000 + 0x10000 * c + 4 * id else 0x00260000 + 4 * (id - 0x300)

/-- A channel is bound to instance `i`. -/
def State.boundTo (s : State) (i c id : Nat) : Bool := s.bit (chanReg c id) 0 && s.fld (chanReg c id) 1 4 == i

/-- A channel's binding as its register shows it: VALID and INST `i`. -/
def State.boundShown (s : State) (i c id : Nat) : Bool :=
  let w := s.shownWord (chanReg c id)
  bitAt w 0 && bitsOf w 1 4 == i

/-- R437: unbinds a channel of instance `i`, also in a binding written while its cluster is withdrawn (R11, R506). -/
def State.unbind (s : State) (i c id : Nat) : State :=
  let key := chanReg c id
  let mine (w : Nat) : Bool := bitAt w 0 && bitsOf w 1 4 == i
  let w := NatMap.get 0 s.heldRegs key
  let s := if mine w then { s with heldRegs := NatMap.ins s.heldRegs key (putBits w 0 1 0) } else s
  if mine (s.regW key) then (s.setFld key 0 1 0).configEntry 1 key 1 0
  else if mine w then s.configEntry 1 key 1 0 else s

/-- The cluster and number of a channel's key. -/
def chanOfKey (k : Nat) : Nat × Nat := if k < 0x1C00 then (k / 0x400, k % 0x400) else (7, k - 0x1C00)

/-! ## Commands that wait in a mailbox -/

/-- No later event answers mailbox `m` any more. -/
def State.mbForget (s : State) (m : Nat) : State :=
  let drop (l : List (Nat × Nat)) : List (Nat × Nat) := l.filter fun x => x.1 != m
  { s with
    wd := { s.wd with asker := s.wd.asker.filter fun x => x.2 != m + 1 }
    bt := { s.bt with askers := s.bt.askers.filter fun x => x.mbox != m }
    markers := s.markers.map fun x => { x with askers := drop x.askers }
    commits := s.commits.map fun x => { x with askers := drop x.askers }
    learn := { s.learn with
      askers := drop s.learn.askers
      queue := s.learn.queue.map fun x => match x with
        | .static k add vid mac port inst => .static (if k = m then 16 else k) add vid mac port inst
        | p => p }
    ford := { s.ford with resync := if s.ford.resync = some m then none else s.ford.resync } }

/-- R386: long commands that act for instance `i`, other than the one that asked, end. -/
def State.endCommandsFor (s : State) (i : Nat) (asker : Option Nat) : State :=
  s.mbTaken.foldl (fun s m =>
    match (s.mbAt m).cmd with
    | some x =>
      if !x.quick && x.for_ m == some i && asker != some m then ((s.mbForget m).bfHostEnd m).mbAnswer m 0x0107 else s
    | none => s) s

/-! ## Instance reset (R435, Table 13.10) -/

/-- R435: instance `i`'s open cells, in GSEQ order. -/
def State.instCells (s : State) (i : Nat) : List Nat :=
  (s.cells.filter fun c => c.isOpen && c.hdr.inst == i).map fun c => c.hdr.gseq

/-- R48: an open cell is squashed. -/
def State.squashCell (s : State) (g : Nat) : State := (s.stopCell g).abandonCell g 2

/-- R253, R296: a launch of a stopped thread is discarded, and its request is outstanding no more. -/
def State.dropLaunch (s : State) (r : HelpReq) : State :=
  match s.threadAt r.c r.t with
  | some x => if x.uid = r.uid then s.requestDone r.c r.t 4 else s
  | none => s

/-- R296: a kernel of instance `i` stops; its completion is discarded. -/
def State.stopKernel (s : State) (g : Nat) : State :=
  match s.kernel g with
  | none => s
  | some k =>
    let (s, k) := s.caPostedAll g k
    ((s.dropLoad k).freeGroup g).dropLaunch k.launch.req

/-- Table 13.10, step 3: threads, kernels and launches, channels, locks and staged edits. -/
def State.instStopWork (s : State) (i : Nat) : State :=
  let mine := s.eg.threads.filter fun e => e.2.inst == i || s.cellInst e.2.gseq == i
  let s := mine.foldl (fun s e => s.stopThread (e.1 / 32) (e.1 % 32)) s
  -- a cell of another instance whose last thread has gone completes (R27)
  let s := (mine.map fun e => e.2.gseq).eraseDups.foldl (fun s g =>
    match s.cellAt g with
    | some c => if c.stage == .opened && (s.cellThreads g).isEmpty then s.completeCell g else s
    | none => s) s
  let s := (s.ca.groups.filter fun e => e.2.launch.req.inst == i).foldl (fun s e => s.stopKernel e.1) s
  let waiting := s.eg.launchReqs ++ s.ca.queue.map (·.req)
  let s := { s with
    ca := { s.ca with queue := s.ca.queue.filter fun x => x.req.inst != i }
    eg := { s.eg with
      launchReqs := s.eg.launchReqs.filter fun r => r.inst != i
      chans := s.eg.chans.filter fun e => let k := chanOfKey e.1; !s.boundTo i k.1 k.2 } }
  let s := (waiting.filter fun r => r.inst == i).foldl State.dropLaunch s
  (s.bfEnd (0x200 + i) i).discardEdits (· == i)

/-- R48: a stream restarts once what it holds now has left. -/
def State.restartStream (s : State) (st : Nat) : State :=
  let q := NatMap.get {} s.seqs st
  match (s.weir.filter fun e => e.stream == st).getLast? with
  | some e => { s with seqs := NatMap.put {} s.seqs st { q with restart := some (e.gseq, e.sub) } }
  | none => { s with seqs := NatMap.put {} s.seqs st ⟨0, !q.epoch, none⟩ }

/-- R109: a channel goes to its safe state, and its queues and FIFOs are emptied: releases that wait for it and the cells that
it has buffered. Standing forces stay in force (R102). -/
def State.chanReset (s : State) (ch : Nat) : State :=
  let s := { s with td := { s.td with
    due := s.td.due.filter fun d => d.chan != ch, inputs := s.td.inputs.filter fun c => c.src != ch } }
  let s :=
    if 0x040 ≤ ch && ch < 0x044 then
      (s.setUart (ch - 0x040) { s.uartAt (ch - 0x040) with rx := {}, xoffStop := false }).uartMarks (ch - 0x040)
    else if ch = chPar then (s.setPar { s.td.par with rx := {} }).parMarks
    else if 0x030 ≤ ch && ch < 0x036 then s.setGpio (ch - 0x030) { s.gpioAt (ch - 0x030) with cell := none }
    else s
  s.chansSafe [ch]

/-- Table 13.10, steps 3 to 5, once the instance's cells have completed or been squashed. -/
def State.instStop (s : State) (i : Nat) : State :=
  let x := s.instAt i
  let s := s.instStopWork i
  let s := ((rangeIds (x.q 0x24 4)).foldl State.restartStream s).weirRun
  let s := x.channels.foldl State.chanReset s
  s.modInst i fun x => { x with reset := x.reset.map fun r => { r with stopped := true } }

/-- R48, R455: squashes the instance's open cells, records every outcome, and goes on to steps 3 to 5. -/
def State.instSquash (s : State) (i : Nat) : State :=
  let x := s.instAt i
  let before := match x.reset with | some r => r.opened | none => []
  let left := s.instCells i
  let s := (before.filter fun g => !left.contains g).foldl (fun s g => s.resetEntry g i 0) s
  let s := left.foldl (fun s g => (s.resetEntry g i 1).squashCell g) s
  s.instStop i

/-- The CONFIG entry that names an instance's state. -/
def State.sendInst (s : State) (i : Nat) : State :=
  let x := s.instAt i
  s.configEntry 1 (0x00380000 + 4 * i) 7 (x.state.code + 4 * b2n x.direct)

/-- Table 13.10, step 1: a reset of tenant `i` starts; `asker` is the mailbox that is answered. R387: a doorbell of `i` that
waits to be taken up is answered by hardware. -/
def State.instReset (s : State) (i : Nat) (squash : Bool) (asker : Option Nat) (destroy : Bool) : State :=
  let s := s.modInst i fun x => { x with
    state := if destroy then .destroying else .resetting
    reset := some { squash := squash, since := s.now, asker := asker, destroy := destroy, opened := s.instCells i } }
  let s := s.sendInst i
  let s := (upTo 8).foldl (fun s q => s.setSq i q { s.sqAt i q with fetched := [] }) s
  let s := (if s.mbQueue.contains i then s.mbHardware i 0x0107 else s).endCommandsFor i asker
  if squash && !s.followsLog then s.instSquash i else s

/-- R436: DRAIN_US of an instance in ns. -/
def Instance.drainNs (x : Instance) : Nat :=
  let d := x.q 0x38 2
  1000 * (if d = 0 then 1000 else clampNat 100 50000 d)

/-- Step 4 is done: no stream of the instance waits to restart. -/
def State.instRestarted (s : State) (i : Nat) : Bool :=
  !(rangeIds ((s.instAt i).q 0x24 4)).any fun st => (NatMap.get {} s.seqs st).restart.isSome

/-- A device register key that instance `i`'s block holds. -/
def inBlock (i key : Nat) : Bool := decide (viewKey i 0 ≤ key) && decide (key < viewKey i 0x6000)

/-- Table 13.10, step 7: the queues are disabled, and the instance block and its mailbox take their reset values. -/
def State.blockReset (s : State) (i : Nat) : State :=
  { s with
    regs := s.regs.filter fun r => !inBlock i r.1
    latches := s.latches.filter fun r => !inBlock i r.1
    sq := s.sq.filter fun q => q.1 / 8 != i
    cq := s.cq.filter fun q => q.1 / 8 != i
    mb := NatMap.del s.mb i
    mbQueue := s.mbQueue.filter (· != i)
    mbTaken := s.mbTaken.filter (· != i) }

/-- R391: both mailbox areas read zero. -/
def State.clearAreas (s : State) (i : Nat) : State := s.clearMem (mbArea i) 512

/-- Step 7 in full: the tenant is ACTIVE again, or goes on to be destroyed. -/
def State.instDone (s : State) (i : Nat) : State :=
  match (s.instAt i).reset with
  | none => s
  | some r =>
    let s := (s.blockReset i).clearAreas i
    let s := s.modInst i fun x => { x with
      sqCells := 0, cqEntries := 0, reset := none, state := if r.destroy then .destroying else .active }
    let s := (if r.destroy then s else s.sendInst i).bump 0x00380050 |>.cause1 0 16
    match r.asker with
    | some m => if r.destroy then s else s.mbAnswer m 0
    | none => s

/-! ## Destruction (R437) -/

/-- The Shoal banks of a quota. -/
def Instance.banks (x : Instance) : List Nat := (upTo 8).filter fun b => bitAt (x.q 0x18 1) b

/-- R437, step 2: SH_BANKk.EN and the Stream and Action Table entries of the instance's ranges. -/
def State.stageDestroy (s : State) (i : Nat) : State :=
  let x := s.instAt i
  let s := x.banks.foldl (fun s b => (s.stageBits i (shBank b) 8 0).configEntry 2 (shBank b) 8 0) s
  let inv (t bit : Nat) (s : State) (k : Nat) : State :=
    let e := NatMap.get 0 (tableOf t s.tables) k
    if bitAt e bit then s.stage t k i (putBits e bit 1 0) else s
  let s := (rangeIds (x.q 0x24 4)).foldl (inv 3 16) s
  (rangeIds (x.q 0x28 4)).foldl (inv 2 24) s

/-- R437, step 3: the valid Shoal entries of the instance's banks. -/
def State.shoalLeft (s : State) (i : Nat) : List Nat :=
  let banks := (s.instAt i).banks
  (s.tables.shoal.filter fun e => shValid e.2 && banks.contains (e.1 / 512)).map (·.1)

/-- R437, steps 4 and 5: the instance's resources return to the pool. -/
def State.instRelease (s : State) (i : Nat) : State :=
  let x := s.instAt i
  let ids := (upTo 6).flatMap (fun c => (upTo 768).map fun id => (c, id)) ++ (upTo 192).map fun k => (7, 0x300 + k)
  let s := ids.foldl (fun s k => s.unbind i k.1 k.2) s
  let s := (s.setFld (bfIq i) 16 12 0).configEntry 1 (bfIq i) 0x0FFF0000 0
  let s := x.banks.foldl (fun s b => (s.setFld (shBank b) 8 4 0).configEntry 1 (shBank b) 0xF00 0) s
  let er := s.errors
  let s := { s with
    errors := { er with queues := NatMap.del er.queues i, counts := er.counts.filter fun e => e.1 / 4 != i }
    inst := NatMap.del s.inst i }
  s.sendInst i

/-- R437: INST_DESTROY of instance `i` is answered, where it still waits. -/
def State.destroyAnswer (s : State) (i : Nat) : State :=
  s.mbTaken.foldl (fun s m =>
    match (s.mbAt m).cmd with
    | some x => if x.op = 0x0202 && x.begun && x.f 8 1 == i then s.mbAnswer m 0 else s
    | none => s) s

/-- A commit that the destruction of instance `i` makes; its marker asks for the next step. -/
def State.destroyCommit (s : State) (i : Nat) : State :=
  let s := s.modInst i fun x => { x with destroyed := x.destroyed + 1 }
  { s with markers := s.markers ++ [⟨false, [(16 + i, 0)]⟩] }

/-- R437: the next step of the destruction of instance `i`. -/
def State.destroyStep (s : State) (i : Nat) : State :=
  if (s.instAt i).state != .destroying then s
  else if (s.instAt i).destroyed = 0 then ((s.discardEdits (· == i)).stageDestroy i).destroyCommit i
  else match s.shoalLeft i with
    | [] => (s.instRelease i).destroyAnswer i
    | l =>
      let s := (l.take (256 - s.shoalEdits)).foldl (fun s e =>
        s.stage 1 e i (putBits (NatMap.get 0 s.tables.shoal e) 416 1 0)) s
      s.destroyCommit i

/-- R245: staging into the instance's ranges would meet an entry that earlier cells still use, or a commit on its way. -/
def State.destroyWaits (s : State) (i : Nat) : Bool :=
  let x := s.instAt i
  !s.commits.isEmpty || (rangeIds (x.q 0x24 4)).any (s.stageWaits 3) || (rangeIds (x.q 0x28 4)).any (s.stageWaits 2)

/-- A follower's word on how cell `g` fared in an instance reset (R455): 0 it completed, 1 it was squashed. -/
def State.resetFate (s : State) (g : Nat) : Option Nat :=
  [0, 1].find? fun k => (s.siteNext 0x0C (isReset g k)).isSome

/-- R455, R485: a follower takes the outcomes that the log gives the cells that were open, once those that completed have
completed here too, and goes on to steps 3 to 5. -/
def State.instFollow (s : State) (i : Nat) : State :=
  let cells := match (s.instAt i).reset with | some r => r.opened | none => []
  let left := s.instCells i
  let ready := cells.all fun g =>
    match s.resetFate g with
    | some k => k == 1 || !left.contains g
    | none => false
  if !ready then s
  else
    let s := cells.foldl (fun s g =>
      match s.resetFate g with
      | some k =>
        let s := s.siteTake 0x0C (isReset g k)
        if k = 1 && left.contains g then s.squashCell g else s
      | none => s) s
    s.instStop i

end Sys2Proof.Machine
end

