-- ==== Sys2Proof/Machine/ConfigOps.lean ====
section
/-! DEFINITION. Applying the lead's or the recording's CONFIG entries (spec/14 R452, R453; spec/15 R485; spec/16 R510). -/
namespace Sys2Proof.Machine

/-- The TAG of a CONFIG entry. -/
def DEntry.tag (e : DEntry) : Nat := leAt e.body 0 6

/-- R510: the withdrawals and returns that an HL_WD_ register names. -/
def State.applyWd (s : State) (off mask val : Nat) : State :=
  (upTo 32).foldl (fun s b =>
    if !bitAt mask b then s
    else match wdBlockAt off b with
      | none => s
      | some (k, i) => if bitAt val b then s.wdStart k i 0 else s.wdReturn k i) s

/-- An entry that names IN_INSTi: a reset or a destruction of instance `i` starts or ends, or the instance is made. -/
def State.applyInst (s : State) (i val : Nat) : State :=
  let x := s.instAt i
  match val % 4 with
  | 0 => { s with inst := NatMap.del s.inst i }
  | 1 => if x.state = .absent then s.modInst i fun x => { x with state := .active, direct := bitAt val 2 } else s
  | 2 => if x.state = .active then s.instReset i false none false else s
  | _ => if x.state = .active then s.instReset i false none true else s

/-- A word of an entry after a masked write. -/
def putWord (e j mask val : Nat) : Nat := putBits e (32 * j) 32 (putMask (word32 e j) mask val)

/-- A staged word that arrives: an entry equal to the active one is no edit. -/
def State.applyStaged (s : State) (off mask val : Nat) : State :=
  match tableAtOffset off with
  | some (t, i, j) =>
    let e := putWord (s.stagedEntry t i) j mask val
    if t = 4 then { s with learn := { s.learn with set_ := NatMap.put none s.learn.set_ i (some e) } }
    else if e = NatMap.get 0 (tableOf t s.baseTables) i then s.unstage t i
    else s.stageEntry t i 0 e
  | none => s.stageBits 0 off mask val

/-- The offset of an Egret program word in a CONFIG entry: 0x10000 a cluster, 4 a word. -/
def progOffset (c w : Nat) : Nat := 0x10000 * c + 4 * w

/-- Applies one entry. -/
def State.applyConfig (s : State) (e : DEntry) : State :=
  let off := leAt e.body 8 4
  let mask := leAt e.body 12 4
  let val := leAt e.body 16 4
  match leAt e.body 6 1 with
  | 1 =>
    if off = 0x001A0020 || (0x003D0108 ≤ off && off < 0x003D0114) then s.applyWd off mask val
    else if 0x00380000 ≤ off && off < 0x00380040 then s.applyInst ((off - 0x00380000) / 4) val
    else if 0x001B0020 ≤ off && off < 0x001B0040 && mask = 0xF00 then s.setFld off 8 4 (bitsOf val 8 4)
    else (s.pfWrite off mask val).1
  | 2 | 5 => s.applyStaged off mask val
  | 3 => (s.wrChk (progAddr (off / 0x10000) + off % 0x10000) (leBytes 4 val) { master := 0x300 }).1
  | 4 => (s.wrChk (codeAddr + off) (leBytes 4 val) { master := 0x300 }).1
  | 6 =>
    let d := off / 2 ^ 28
    s.modInst (val % 16) fun x => { x with
      grants := grantChange x.grants (bitAt d 2) (bitAt d 0) (bitAt d 1) (off % 2 ^ 28) mask }
  | _ => s

/-- R453, R485: applies, in order, the entries that come before the record with GSEQ `g`. -/
def State.applyConfigs (s : State) (g : Nat) : State :=
  let mine (e : DEntry) : Bool := !before48 g e.tag
  let now := s.ford.configs.filter mine
  let s := { s with ford := { s.ford with configs := s.ford.configs.filter fun e => !mine e } }
  now.foldl State.applyConfig s

end Sys2Proof.Machine
end

