-- ==== Sys2Proof/Machine/Intake.lean ====
section
/-! DEFINITION. The Intake: which input it accepts next, and the cell that it makes of it (spec/01 R17 to R21, R37; spec/02
R54, R599; spec/05 R157, R174, R180, R181; spec/14 R452, R453; spec/15 R486, R493; spec/17 Table 17.7). -/
namespace Sys2Proof.Machine

/-- An input that a source offers. -/
structure Input where
  tstamp : Nat
  src : Nat
  kind : CellKind
  payload : List Byte
  /-- a commit marker: whether it is a learning one, and who waits for the commit -/
  marker : Option (Bool × List (Nat × Nat)) := none

/-- A source's number. -/
def srcNum : Source → Nat
  | .tideway => 0
  | .eth p => 1 + p.val
  | .sq i q => 8 + 8 * i.val + q.val
  | .ford => 136
  | .supervisor => 137

/-- Every source (R599). -/
def allSources : List Source :=
  [.tideway, .ford, .supervisor] ++ (List.finRange 6).map Source.eth ++
    (List.finRange 16).flatMap fun i => (List.finRange 8).map fun q => Source.sq i q

/-- The input that a source offers next. -/
def State.inputOf (s : State) : Source → Option Input
  | .tideway =>
    match s.td.inputs with
    | x :: _ => if s.pinFloor x then none else some { tstamp := x.tstamp, src := x.src, kind := x.kind, payload := x.payload }
    | [] => none
  | .eth p => (s.ethAt p).ingress.head?.map fun x => { tstamp := x.1, src := 0x1000 + p.val, kind := .data, payload := x.2 }
  | .sq i q =>
    if s.xferOwns i q then none
    else match (s.sqAt i q).fetched with
      | some p :: _ =>
        some { tstamp := mod48 s.tb.count, src := 0x2000 + 0x100 * i.val + q.val, kind := .data, payload := p }
      | _ => none
  | .ford => s.ford.appIn.head?.map fun x => { tstamp := x.1, src := 0x3000, kind := .data, payload := x.2 }
  | .supervisor =>
    match s.markers with
    | m :: _ => some {
        tstamp := mod48 s.tb.count, src := 0x5000, kind := .data
        payload := markerPayload ((s.intakeEpoch + 1) % 2 ^ 48) m.learning, marker := some (m.learning, m.askers) }
    | [] => s.supOffers.head?.map fun p => { tstamp := mod48 s.tb.count, src := 0x5000, kind := .data, payload := p }

/-- R180, R466, R486: the Intake does not accept now. A handover stops it until the old lead follows. -/
def State.intakeStopped (s : State) : Bool :=
  s.bt.ckpt == 1 || s.ford.handover.any (fun h => h.stage == 1) || (upTo 16).all fun k => s.blockOut 3 k

/-- Table 17.7: a source is open in this mode. -/
def State.sourceOpen (s : State) (x : Source) : Bool :=
  match s.mode with
  | .lead | .commission => true
  | .hold => x == .supervisor && s.ford.role != .syncing
  | .boot => x == .supervisor && !s.markers.isEmpty
  | _ => false

/-- R54: the packet buffer has room for a payload. -/
def State.pbufRoom (s : State) (p : List Byte) : Bool := decide (s.pbufUsed + granulesOf p.length ≤ 131072)

/-- The input that source `x` offers and the Intake could take. -/
def State.offerOf (s : State) (x : Source) : Option Input :=
  if s.sourceOpen x then (s.inputOf x).filter fun i => s.pbufRoom i.payload else none

/-- R599: how many acceptances from other sources each source but `x` that waits has seen. -/
def State.waitCounts (s : State) (x : Source) : List Nat :=
  (allSources.filter fun y => y != x && (s.offerOf y).isSome).map fun y => NatMap.get 0 s.passedOver (srcNum y)

/-- R599: the Intake may accept from `x`: the others that wait can still each be served before they have been passed over by
more than 16 acceptances; or, where they are too many for that, no other has waited longer (log entry 26). -/
def State.fairTo (s : State) (x : Source) : Bool :=
  let l := s.waitCounts x
  ((upTo 16).all fun m => decide ((l.filter fun c => decide (15 ≤ c + m)).length ≤ m + 1) && l.all fun c => decide (c < 16)) ||
    l.all fun c => decide (c ≤ NatMap.get 0 s.passedOver (srcNum x))

/-- R599: counts an acceptance from `x` against the others that wait. -/
def State.countPass (s : State) (x : Source) : State :=
  { s with passedOver := allSources.foldl (fun m y =>
    if y == x then NatMap.put 0 m (srcNum y) 0
    else if (s.offerOf y).isSome then NatMap.put 0 m (srcNum y) (NatMap.get 0 m (srcNum y) + 1) else m) s.passedOver }

/-- The source gives up its input; serial ports move a cell that waits, and look at their marks again (R91, R92, R103). -/
def State.takeInput (s : State) : Source → State
  | .tideway =>
    match s.td.inputs with
    | x :: xs =>
      let s := { s with td := { s.td with inputs := xs } }
      if chUart 0 ≤ x.src && x.src < chUart 4 then s.uartTaken (x.src - chUart 0)
      else if x.src = chPar then s.parTaken else s
    | [] => s
  | .eth p => s.setEth p { s.ethAt p with ingress := (s.ethAt p).ingress.drop 1 }
  | .sq i q =>
    let x := s.sqAt i q
    let s := s.setSq i q { x with head := (x.head + 1) % s.ringLen (sqKey i q), fetched := x.fetched.drop 1 }
    (s.modInst i fun y => { y with sqCells := mod48 (y.sqCells + 1) }).sqSkip i q
  | .ford => { s with ford := { s.ford with appIn := s.ford.appIn.drop 1 } }
  | .supervisor =>
    if s.markers.isEmpty then { s with supOffers := s.supOffers.drop 1 } else { s with markers := s.markers.drop 1 }

/-- R17, R21, R174: makes a cell of an input. -/
def State.makeCell (s : State) (x : Input) : State :=
  let g := s.nextGseq
  let s := match x.marker with
    | some (learning, askers) => s.acceptCommit g learning askers
    | none => s
  let e := s.intakeEpoch
  let n := granulesOf x.payload.length
  let place := s.pbufPick x.payload.length
  let stage : CellStage := match x.marker with
    | some _ => .held 16 .null
    | none => if 6 ≤ x.src / 0x1000 || !bitAt (s.regAtEpoch e hnCtl) 0 then .held 16 .noMatch else .waiting
  let c : Cell := {
    hdr := { gseq := g, tstamp := x.tstamp, src := x.src, kind := x.kind, len := x.payload.length, pbuf := place }
    payload := x.payload, stage, epoch := e, granules := n
    marker := match x.marker with | some (true, _) => 2 | some (false, _) => 1 | none => 0 }
  ({ s.tick.pbufStore place x.payload with
    nextGseq := mod48 (g + 1), pbufUsed := s.pbufUsed + n, cells := s.cells ++ [c] }).classifyReady

/-- Table 14.3: an INGRESS record. -/
def ingressBytes (g tstamp src : Nat) (payload : List Byte) : List Byte :=
  leBytes 6 g ++ leBytes 6 tstamp ++ leBytes 2 src ++ leBytes 2 payload.length ++ padTo (roundUp 8 payload.length) payload

/-- R452: a lead sends one record for each input that its Intake accepts. -/
def State.sendIngress (s : State) (g : Nat) (x : Input) : State :=
  if s.ford.role == .lead && s.partnerFollows then s.fordSend 2 (ingressBytes g x.tstamp x.src x.payload) else s

/-- R174: a record of a commit marker. -/
def IngressRec.marker (r : IngressRec) : Option (Bool × List (Nat × Nat)) :=
  if r.src = 0x5000 && r.payload.length == 8 && leAt r.payload 7 1 == 0 && leAt r.payload 6 1 ≤ 1 then
    some (leAt r.payload 6 1 == 1, [])
  else none

/-- A record as an input. -/
def IngressRec.input (r : IngressRec) : Input :=
  { tstamp := r.tstamp, src := r.src, kind := if r.src / 0x1000 = 4 then .reflex else .data, payload := r.payload, marker := r.marker }

/-- R453, R493: a follower takes the next record, with its GSEQ, after the entries that come before it. -/
def State.takeRecord (s : State) (r : IngressRec) : State :=
  let s := s.applyConfigs r.gseq
  let s := { s with
    nextGseq := r.gseq
    ford := { s.ford with lag := sub48 s.tb.count r.tstamp }
    replay := { s.replay with moved := s.now } }
  s.makeCell r.input

/-- R493: with PACE 1 a record is offered when the Timebase reaches its TSTAMP. -/
def State.recordDue (s : State) (r : IngressRec) : Bool :=
  s.mode != .replay || !s.bit 0x003B0080 0 || s.relPassed r.tstamp || sub48 r.tstamp s.tb.count == 0

/-- The Intake follows records. -/
def State.intakeFollows (s : State) : Bool := s.mode == .shadow || s.mode == .replay || s.ford.role == .syncing

/-- R499: an uncorrectable error meets the record where it stands in the case: no more records are offered. -/
def State.caseError (s : State) (r : IngressRec) : State :=
  let s := { s with replay := { s.replay with readErr := true, records := [] } }
  (s.setBit 0x003B0014 7).record { block := 0x14, code := 0x00D0, sev := 2, dkind := 1, detail := memDetail r.at_ 0xF0 0 1 6 }

/-- R499, R552: reads a record where it stands in its case, if it stands in one; whether it can be read. -/
def State.recordRead (s : State) (r : IngressRec) : State × Bool :=
  if r.at_ = 0 then (s, true)
  else
    let (s, l) := s.rdMem r.at_ (24 + r.payload.length) {} 6
    (s, l.isSome)

/-- INTAKE_ACCEPT. The Intake accepts the input that source `src` offers; a follower takes the next record, whatever the
source. -/
def doIntakeAccept (src : Source) (s : State) : State :=
  if s.intakeFollows then
    let rs := if s.mode = .replay then s.replay.records else s.ford.records
    match rs with
    | [] => s
    | r :: rest =>
      if s.mode != .replay && s.ford.role == .syncing && !s.ford.imageOk then s
      else if s.bt.ckpt = 1 || (upTo 16).all (fun k => s.blockOut 3 k) || !s.pbufRoom r.payload || !s.recordDue r then s
      else if s.mode = .replay then
        match s.recordRead r with
        | (s, true) => ({ s with replay := { s.replay with records := rest } } : State).takeRecord r
        | (s, false) => s.caseError r
      else ({ s with ford := { s.ford with records := rest } } : State).takeRecord r
  else if s.intakeStopped || !s.fairTo src then s
  else match s.offerOf src with
    | none => s
    | some x =>
      let g := s.nextGseq
      (((s.countPass src).takeInput src).makeCell x).sendIngress g x

/-- INTAKE_ACCEPT. -/
def execIntakeAccept (src : Source) (s : State) : Host.Outcome State Fault Refusal := .next (doIntakeAccept src s)

end Sys2Proof.Machine
end

