-- ==== Sys2Proof/Machine/OwnOps.lean ====
section
/-! DEFINITION. What an instance reaches through its commands (spec/11 R374 to R377; spec/13 R417, R419). -/
namespace Sys2Proof.Machine

/-- The owner of an Ethernet port. -/
def State.portOwner (s : State) (p : Nat) : Nat := s.ownerBy fun x => bitAt (x.q 0x1A 1) p
/-- The owner of a Tideway channel. -/
def State.chanOwner (s : State) (ch : Nat) : Nat := s.ownerBy fun x => x.channels.contains ch
/-- The owner of a Shoal bank. -/
def State.bankOwner (s : State) (b : Nat) : Nat := s.ownerBy fun x => bitAt (x.q 0x18 1) b
/-- The owner of a stream ID. -/
def State.streamOwner (s : State) (k : Nat) : Nat := s.ownerBy fun x => rangeHas (x.q 0x24 4) k
/-- The owner of an action ID. -/
def State.actionOwner (s : State) (k : Nat) : Nat := s.ownerBy fun x => rangeHas (x.q 0x28 4) k
/-- The owner of word `w` of cluster `c`'s program store. -/
def State.progOwner (s : State) (c w : Nat) : Nat := s.ownerBy fun x => regionHas (x.q (0x0C + 2 * c) 2) w

/-- The owner of the entries of a table: 1 Shoal, 2 Action, 3 Stream; I0 owns stations and the parse store. -/
def State.entryOwner (s : State) (t i : Nat) : Nat :=
  match t with
  | 1 => s.bankOwner (i / 512)
  | 2 => s.actionOwner i
  | 3 => s.streamOwner i
  | _ => 0

/-- R419: `n` program-store words from `w` belong to instance `i`. -/
def State.progOk (s : State) (i c w n : Nat) : Bool := (upTo n).all fun k => s.progOwner c (w + k) == i
/-- R419: `n` code-store words from `w` belong to instance `i`. -/
def State.codeRange (s : State) (i w n : Nat) : Bool := (upTo n).all fun k => s.codeOwner (w + k) == i

/-- The channel that a binding register binds: cluster (7 for a device channel) and number. -/
def chanOfOffset (off : Nat) : Option (Nat × Nat) :=
  if 0x00200000 ≤ off && off < 0x00260000 && 0x1000 ≤ off % 0x10000 && off % 0x10000 < 0x1C00 then
    some ((off - 0x00200000) / 0x10000, (off % 0x10000 - 0x1000) / 4)
  else if 0x00260000 ≤ off && off < 0x00260300 then some (7, 0x300 + (off - 0x00260000) / 4)
  else none

/-- R375: the register or table word at an offset of PF BAR0 belongs to tenant `i`. -/
def State.reaches (s : State) (i off : Nat) : Bool :=
  match chanOfReg off, chanOfOffset off, tableAtOffset off with
  | some ch, _, _ => s.chanOwner ch == i
  | _, some k, _ => s.boundShown i k.1 k.2
  | _, _, some e => s.entryOwner e.1 e.2.1 == i
  | none, none, none =>
    if 0x00160000 ≤ off && off < 0x00160600 then s.portOwner ((off - 0x00160000) / 0x100) == i
    else if 0x00164000 ≤ off && off < 0x00167000 then s.portOwner ((off - 0x00164000) / 0x800) == i
    else if 0x001B0020 ≤ off && off < 0x001B0040 then s.bankOwner ((off - 0x001B0020) / 4) == i
    else if 0x00280000 ≤ off && off < 0x00300000 then s.groupOwner ((off - 0x00280000) / 0x10000) == i
    else if 0x00300000 ≤ off && off < 0x00310000 then s.codeOwner ((off - 0x00300000) / 4) == i
    else if 0x00350040 ≤ off && off < 0x00350080 then (off - 0x00350040) / 4 == i
    else if 0x00380000 ≤ off && off < 0x00380040 then (off - 0x00380000) / 4 == i
    else false

/-- R375: I0 reaches every register. -/
def State.reachOk (s : State) (i off : Nat) : Bool := i == 0 || s.reaches i off

/-- The bits of a register that a tenant reaches whose fields are not its own: INST and SPAN of a binding, which Ohmyth sets
(R234), and BF_IQi.MAX, which its quota fixes (R418; DEDUCED, log entry 112). -/
def deviceFields (off : Nat) : Nat :=
  if (chanOfOffset off).isSome then 0xFFFFFFFE
  else if 0x00350040 ≤ off && off < 0x00350080 then 0x0FFF0000
  else 0

/-- R375: instance `i` may write the bits under `mask` of a register. -/
def State.writeReach (s : State) (i off mask : Nat) : Bool :=
  i == 0 || (s.reaches i off && mask &&& deviceFields off == 0)

/-- A write under a mask to a register whose write takes a whole word: write-one-to-clear bits outside the mask stay. -/
def State.mergeWord (s : State) (key mask val : Nat) : Nat :=
  let w1c := match regAt key with | some d => d.mask fun f => f.acc == .w1c | none => 0
  let old := s.regW key
  putMask (old - (old &&& w1c)) mask val

/-- R375: a masked write of the register at an offset of PF BAR0; whether class H fields were refused. -/
def State.maskWrite (s : State) (off mask val : Nat) : State × Bool :=
  if mask = 0 then (s, false)
  else match s.mailboxAt .pf off with
    | some (m, o) => (s.mbWrite m o (s.mergeWord off mask val), false)
    | none =>
      if off < 0x6000 then
        if (0x1000 ≤ off && off < 0x1040) || (off < 0x400 && off % 0x40 == 0x0C) || off = 0x3004 || off = 0x5000 then
          (s.blockWriteReg 0 off (s.mergeWord off mask val), false)
        else s.putReg off mask val
      else s.pfWrite off mask val

/-- R375: the bits of the register at an offset that class S fields which can be written hold. -/
def stagedMask (off : Nat) : Nat :=
  match regAt off with
  | some d => d.mask RegField.isS
  | none => 0

end Sys2Proof.Machine
end

