-- ==== Sys2Proof/Machine/TwinOps.lean ====
section
/-! DEFINITION. Modes, the Baton, roles, takeover, handover and detach, as shared operations (spec/14 R443 to R478; spec/17
R535 to R542). -/
namespace Sys2Proof.Machine

/-- FD_BATON. -/
abbrev fdBaton : Nat := 0x003A000C

/-! ## The Baton (R448 to R450) -/

/-- FD_BATON.WANT. -/
def State.want (s : State) : Bool := s.bit fdBaton 0
/-- Ohmyth writes WANT. -/
def State.setWant (s : State) (b : Bool) : State := s.setFld fdBaton 0 1 (b2n b)

/-- The device releases its line; OUT_EN falls with it. -/
def State.batonRelease (s : State) : State :=
  ({ s with ford := { s.ford with ownLine := false, claimAt := none, holds := false } } : State).outEnFall

/-- R448: claims the Baton, while both lines are high and no FATAL record has stopped the keeper (R449); its ball is
high-impedance while a test instruction is in effect (R585). -/
def State.batonClaim (s : State) : State :=
  if s.tap.pads || s.ford.ownLine || s.ford.peerLine || s.errors.fatalAt.isSome || !s.want then s
  else { s with ford := { s.ford with ownLine := true, claimAt := some s.now } }

/-! ## Modes (R535 to R538) -/

/-- The device is in COMMISSION or LEAD. -/
def State.driving (s : State) : Bool := s.mode == .lead || s.mode == .commission

/-- The mode changes; Gong, which BOOT stops, and the Weir look again. -/
def State.setMode (s : State) (m : Mode) : State := ({ s with mode := m } : State).gongRun.weirRun

/-- Inputs that wait for the Intake are discarded, and the serial ports look at their marks; frames are counted where `count`
(Table 17.7). -/
def State.dropInputs (s : State) (count : Bool) : State :=
  let s := { s with td := { s.td with inputs := [] }, ford := { s.ford with appIn := [] } }
  let s := (upTo 4).foldl (fun s u =>
    (s.setUart u { s.uartAt u with rx := { (s.uartAt u).rx with closed := [] } }).uartMarks u) s
  let s := (s.setPar { s.td.par with rx := { s.td.par.rx with closed := [] } }).parMarks
  let s := (upTo 6).foldl (fun s p =>
    let x := s.ethAt p
    let s := if count then s.bumpBy (enKey p + 0x40) x.ingress.length else s
    s.setEth p { x with ingress := [] }) s
  (upTo 128).foldl (fun s k =>
    if s.xferOwns (k / 8) (k % 8) then s else s.setSq (k / 8) (k % 8) { s.sqAt (k / 8) (k % 8) with fetched := [] }) s

/-- R537: entry to HOLD from COMMISSION or LEAD. -/
def State.toHold (s : State) : State :=
  (((s.setWant false).batonRelease).dropInputs true).setMode .hold

/-- R535: a role of LEAD, taken in mode LEAD with pairing on and the link UP. -/
def State.roleLead (s : State) : State :=
  if s.mode == .lead && s.bit fdCtl 0 && s.ford.link == 2 && s.ford.role == .none then
    { s with ford := { s.ford with role := .lead, hbStopped := false } }
  else s

/-- R450: COMMISSION or LEAD loses the Baton: FD_EVT.BATON_LOST, the record, HOLD, and no role of LEAD. -/
def State.twinDetail (s : State) (window ownCount leadCount ownSum leadSum : Nat) : List Byte :=
  leBytes 6 window ++ leBytes 2 0 ++ leBytes 4 ownCount ++ leBytes 4 leadCount ++ leBytes 8 ownSum ++ leBytes 8 leadSum ++
    leBytes 4 s.fdStat ++ leBytes 4 0

/-- R466: a handover of this lead ends without a new lead. -/
def State.handoverFail (s : State) : State :=
  match s.ford.handover with
  | none => s
  | some h => ({ s with ford := { s.ford with handover := none } } : State).mbAnswer h.asker 0x0602

/-- R468, R474: a resynchronisation ends without a shadow. -/
def State.resyncFail (s : State) (status : Nat) : State :=
  match s.ford.resync with
  | none => s
  | some m => ({ s with ford := { s.ford with resync := none } } : State).mbAnswer m status

/-- R450, R542: the Baton has been lost. -/
def State.loseBaton (s : State) : State :=
  if !s.driving then s.batonRelease
  else
    let s := s.setBit fdEvt 6
    let s := s.record { block := 0x13, code := 0x00A0, sev := 3, dkind := 8, detail := s.twinDetail 0 0 0 0 0 }
    let s := (s.handoverFail).resyncFail 0x0602
    let lead := s.ford.role == .lead
    let s := { s with ford := { s.ford with
      role := if lead then .none else s.ford.role, hbStopped := s.ford.hbStopped || lead } }
    s.toHold

/-- Table 17.5: the conditions of an entry to COMMISSION or LEAD. -/
def State.modeOk (s : State) (target : Mode) : Bool :=
  !s.bit 0x00370020 3 && !s.bit 0x0037001C 5 && !s.bit 0x0037001C 2 &&
    (s.ford.role == .none || s.ford.role == .detached) &&
    (target != .lead || (!s.bit 0x0037001C 3 &&
      (s.tb.state == .locked || (s.tb.state == .free && !s.tb.actConfigured))))

/-- R536: the device enters the mode: the Intake resumes, SQ fetching starts, and OUT_EN asserts. -/
def State.enterDrive (s : State) (e : ModeEntry) : State :=
  let f := s.ford
  let f : Ford := { f with entry := none, role := if f.role == .detached then .none else f.role }
  let s := { s with dlogIn := [], ford := f }
  let s := ((s.setMode e.target).outEnRise).roleLead
  if e.asker = 0 then s else s.mbAnswer (e.asker - 1) 0 (leBytes 1 s.mode.code)

/-- R536: the Baton is not held within 2 µs: WANT clears, and the device stays in HOLD, or ends BOOT there (R531). -/
def State.entryFail (s : State) (e : ModeEntry) : State :=
  let s := ({ s with ford := { s.ford with entry := none } } : State).setWant false
  let s := s.batonRelease
  if e.asker = 0 then s.setMode .hold else s.mbAnswer (e.asker - 1) 0x0109

/-- R536: an entry to COMMISSION or LEAD starts: WANT sets, and the Baton is claimed. -/
def State.beginEntry (s : State) (asker : Nat) (target : Mode) : State :=
  (({ s with ford := { s.ford with entry := some ⟨asker, target, s.now⟩ } } : State).setWant true).batonClaim

/-! ## Followers -/

/-- R453, R463: takes every record and entry received. -/
def State.takeRecords (s : State) : State :=
  let l := s.ford.records
  let s := { s with ford := { s.ford with records := [] } }
  let s := l.foldl State.takeRecord s
  let c := s.ford.configs
  let s := { s with ford := { s.ford with configs := [] } }
  c.foldl State.applyConfig s

/-- R463, R464: a shadow becomes the lead, with the next GSEQ after the last record received. -/
def State.becomeLead (s : State) (peer : FordRole) : State :=
  let s := s.takeRecords
  let s := { s with
    nextGseq := s.ford.nextRecord
    ford := { s.ford with role := .lead, peerRole := peer, takeover := false, handIn := none, hbStopped := false, missed := 0, intervalAt := s.now } }
  (s.setMode .lead).outEnRise

/-- R463: a takeover completes. -/
def State.takeOver (s : State) : State :=
  (((s.becomeLead .unknown).bump 0x003A0058).setBit fdEvt 2).cause 0 17

/-- Table 14.7, steps 4 and 5: the new lead. -/
def State.handoverIn (s : State) : State := (s.becomeLead .shadow).setBit fdEvt 3

/-- R448: the device holds the Baton; what waited for it goes on. -/
def State.batonHeld (s : State) : State :=
  let s := { s with ford := { s.ford with holds := true, claimAt := none, keepAt := s.now } }
  match s.ford.entry with
  | some e => s.enterDrive e
  | none => if s.ford.takeover then s.takeOver else if s.ford.handIn.isSome then s.handoverIn else s

/-- R462, R471, Table 14.1: this device becomes DETACHED. -/
def State.goDetached (s : State) : State :=
  let s := { s with
    dlogIn := []
    ford := { s.ford with
      role := .detached, takeover := false, handIn := none, records := [], configs := [], imageIn := [], imageOk := false } }
  let s := (s.setWant false).batonRelease
  (s.setBit fdEvt 4).setMode .hold

/-- R457, R471: the lead detaches its partner. -/
def State.detachPartner (s : State) (tell : Bool) (status : Nat := 0x0602) : State :=
  ((((s.partnerGone tell).handoverFail).resyncFail status)).weirRun

/-- R462: whether the shadow decides to take over now, or is DETACHED. -/
def State.takeoverCheck (s : State) : State :=
  let f := s.ford
  match f.hbAt with
  | none => s
  | some t =>
    if !(f.role == .shadow || f.role == .syncing) || f.takeover || f.missed < 3 then s
    else
      let s := s.setBit fdEvt 1
      if s.eligible && !f.peerLine && s.errors.fatalAt.isNone && decide (t + 30000 ≤ s.now) && decide (s.now ≤ t + 60000) then
        let s := ({ s with ford := { s.ford with takeover := true } } : State).setWant true
        s.batonClaim
      else if t + 60000 ≤ s.now then s.goDetached
      else s

/-! ## The link -/

/-- R444, R457, R462, R465: the link goes DOWN. -/
def State.fordDown (s : State) : State :=
  if s.ford.link ≠ 2 then s
  else
    let s := ({ s with ford := { s.ford with link := 0 } } : State).setBit fdEvt 0
    let s := if s.ford.role == .lead && s.partnerFollows then s.detachPartner false else (s.handoverFail).resyncFail 0x0602
    let s := { s with ford := { s.ford with peerRole := .unknown, seenRole := .unknown, ring := [] } }
    if s.ford.role == .syncing then s.goDetached
    else if s.ford.role == .shadow && s.ford.peerLine && !s.ford.takeover then (s.setBit fdEvt 1).goDetached
    else s.takeoverCheck

/-- A release that waits for no frame any more. -/
def WeirEntry.ungate (e : WeirEntry) : WeirEntry := { e with gate := e.gate.map fun _ => 0 }

/-- R444: the link comes UP: frames are numbered from 1 in both directions, and no release waits for an old frame. -/
def State.fordUp (s : State) (delay : Nat) : State :=
  let f := s.ford
  let f : Ford := { f with link := 2, delay, nextSeq := 1, rxSeq := 0, ackSeen := 0, ring := [] }
  let f : Ford := if f.role == .shadow then f else { f with missed := 0, intervalAt := s.now }
  let s := { s with ford := f, weir := s.weir.map WeirEntry.ungate }
  s.roleLead

/-- R445: a frame that has been acknowledged. -/
def acked (ack fseq : Nat) : Bool := decide ((ack + 2 ^ 32 - fseq % 2 ^ 32) % 2 ^ 32 < 2 ^ 31)

/-- R477: a frame in the ring meets an uncorrectable error when it is read again. -/
def State.ringBad (s : State) (f : FordFrame) : Bool :=
  s.mapOk .engine f.pos (f.body.length + 20) && (s.badGranules f.pos (f.body.length + 20)).any fun g => g.2 ≠ 1

/-- A frame that is sent once more. -/
def FordFrame.again (f : FordFrame) : FordFrame := { f with tries := f.tries + 1 }

/-- R445, R444, R477: sends again every frame that has not been acknowledged; eight transmissions take the link DOWN. -/
def State.fordResend (s : State) : State :=
  let l := s.ford.ring
  if l.any fun f => 8 ≤ f.tries then s.fordDown
  else match l.find? s.ringBad with
    | some f =>
      (s.record { block := 0x13, code := 0x00A2, sev := 3, dkind := 1, detail := memDetail f.pos 0xF0 0 1 7 }).fordDown
    | none =>
      let s := { s with ford := { s.ford with ring := l.map FordFrame.again } }
      let s := s.bumpBy 0x003A0044 l.length
      l.foldl (fun s f => s.emit .ford f.type f.fseq (fordBytes f.type true f.fseq s.ford.rxSeq f.body)) s

/-- Table 14.7, step 3: the old lead, every frame acknowledged, releases the line and follows. -/
def State.handoverOut (s : State) (h : Handover) : State :=
  let s := (s.setWant false).batonRelease
  let s := { s with ford := { s.ford with
    role := .shadow, handover := some { h with stage := 2 }, nextRecord := h.boundary, records := [], configs := []
    leads := [], closed := [], hbAt := some s.now, intervalAt := s.now, missed := 0 } }
  (s.dropInputs false).setMode .shadow

/-- The frames up to ACK have been received: releases that waited go on, and so does a handover. -/
def State.fordAck (s : State) (ack : Nat) : State :=
  let s := { s with ford := { s.ford with ring := s.ford.ring.filter fun f => !acked ack f.fseq, ackSeen := ack } }
  let s := s.weirRun
  match s.ford.handover with
  | some h => if h.stage = 1 && s.ford.ring.isEmpty then s.handoverOut h else s
  | none => s

/-- R445: takes a frame: one with a bad CRC or out of order is discarded. -/
def State.fordTake (s : State) (h : FordHdr) : Option State :=
  if s.ford.link ≠ 2 || !h.crcOk || h.fseq.toNat != (s.ford.rxSeq + 1) % 2 ^ 32 then none
  else some (({ s with ford := { s.ford with rxSeq := h.fseq.toNat } } : State).fordAck h.ack.toNat)

end Sys2Proof.Machine
end

