-- ==== Sys2Proof/Machine/BitternOps.lean ====
section
/-! DEFINITION. The recorder's chunks, checkpoint images, digests and case files, as shared operations (spec/15 R479 to R499;
spec/14 R460, R461, R468, R469). -/
namespace Sys2Proof.Machine

/-- BT_EVT. -/
abbrev btEvt : Nat := 0x003B0014

/-! ## The allocation (R479) -/

/-- BASE. -/
def State.btBase (s : State) : Nat := s.regW 0x003B0004 + s.regW 0x003B0008 * 2 ^ 32
/-- SIZE_MIB, clamped, in bytes. -/
def State.btSize (s : State) : Nat := clampNat 64 4096 (s.fld 0x003B000C 0 13) * 2 ^ 20
/-- The range BT_SCOPEr of a register file: its first address and its bytes. -/
def scopeRange (regs : NatMap Nat) (r : Nat) : Nat × Nat :=
  let w (k : Nat) : Nat := NatMap.get (regReset k) regs k
  (bitsOf (w (0x003B0100 + 8 * r)) 0 28 * 4096, bitsOf (w (0x003B0104 + 8 * r)) 0 17 * 4096)
/-- Bytes of the scope. -/
def State.scopeBytes (s : State) : Nat := (upTo 16).foldl (fun a r => a + (scopeRange s.regs r).2) 0
/-- The size of an image slot: 16 MiB and the scope, rounded up to whole MiB. -/
def State.slotSize (s : State) : Nat := 2 ^ 24 + roundUp (2 ^ 20) s.scopeBytes
/-- The ring's first address and its bytes. -/
def State.btRing (s : State) : Nat × Nat := (s.btBase + 2 * s.slotSize, s.btSize - 2 * s.slotSize)

/-! ## Chunks (R480, R482, R488) -/

/-- Table 15.1: a chunk. -/
def chunkBytes (kind cseq : Nat) (c : OpenChunk) : List Byte :=
  let head (crc : Nat) : List Byte :=
    leBytes 1 kind ++ leBytes 3 0 ++ leBytes 4 c.bytes.length ++ leBytes 8 cseq ++ leBytes 6 c.gseq ++ leBytes 6 0 ++ leBytes 4 crc
  head (crc32 (head 0 ++ c.bytes)) ++ c.bytes

/-- R488: a slot whose chunk at g0 the ring has overwritten. -/
def BtSlot.age (x : BtSlot) (total ring : Nat) : BtSlot :=
  if x.valid && decide (x.mark + ring < total) then { x with valid := false, stale := true } else x

/-- Writes a chunk at the ring's next place, on port 6, or on port 9 for decisions and configuration; whether the write
was refused or ended in error. -/
def State.writeChunk (s : State) (kind : Nat) (c : OpenChunk) : State × Bool :=
  let (base, size) := s.btRing
  let n := size / 0x4000
  if n = 0 then (s, true)
  else
    let l := chunkBytes kind s.bt.cseq c
    let a := base + 0x4000 * (s.bt.total / 0x4000 % n)
    if !s.mapOk .engine a 0x4000 then (s.mapErr, true)
    else
      let (s, bad) := s.wrMem a l {} (if kind = 2 || kind = 3 then 9 else 6)
      if bad then (s, true)
      else
        let b := s.bt
        let total := b.total + 0x4000
        let b : Bittern := { b with
          total, cseq := b.cseq + 1, slot0 := b.slot0.age total (n * 0x4000), slot1 := b.slot1.age total (n * 0x4000) }
        ({ s with bt := b }, false)

/-- R482: records of GSEQs from `a` to `b` are skipped; the gap that is due reaches from the first to the last of all. -/
def State.gapAdd (s : State) (a b : Nat) : State :=
  let gap := match s.bt.gap with
    | none => (a, b)
    | some (x, y) => (if before48 a x then a else x, if before48 y b then b else y)
  { s with bt := { s.bt with gap := some gap } }

/-- The GAP chunk that is due: BT_GAP_CNT and BT_EVT.GAP. -/
def State.gapWrite (s : State) : State :=
  match s.bt.gap with
  | none => s
  | some (a, b) =>
    let (s, bad) := s.writeChunk 6 { gseq := a, bytes := leBytes 6 a ++ leBytes 6 b }
    if bad then s
    else (({ s with bt := { s.bt with gap := none } } : State).bump 0x003B00C0).setBit btEvt 2

/-- The open chunk of a kind. -/
def State.openChunk (s : State) (kind : Nat) : Option OpenChunk := (s.bt.chunks.find? fun c => c.1 == kind).map (·.2)

/-- Closes the open chunk of a kind. -/
def State.closeChunk (s : State) (kind : Nat) : State :=
  match s.openChunk kind with
  | none => s
  | some c =>
    let s := { s with bt := { s.bt with chunks := NatMap.del s.bt.chunks kind } }
    let s := s.gapWrite
    let (s, bad) := s.writeChunk kind c
    if bad then s.gapAdd c.gseq c.last else s

/-- Adds a record to the open chunk of its kind; a record that does not fit closes it. -/
def State.addRecord (s : State) (kind gseq : Nat) (l : List Byte) : State :=
  let s := match s.openChunk kind with
    | some c => if 16352 < c.bytes.length + l.length then s.closeChunk kind else s
    | none => s
  let c : OpenChunk := match s.openChunk kind with
    | some c => { c with bytes := c.bytes ++ l, last := gseq }
    | none => { gseq, bytes := l }
  { s with bt := { s.bt with chunks := NatMap.ins s.bt.chunks kind c } }

/-- Decision and configuration entries made since go to their chunks. -/
def State.logChunks (s : State) : State :=
  let l := s.dlogOut
  let s := { s with dlogOut := [] }
  if s.records then
    l.foldl (fun s e =>
      if e.type = 0x20 then s.addRecord 3 e.tag e.toBytes else s.addRecord 2 s.nextGseq e.toBytes) s
  else s

/-- Closes every open chunk. -/
def State.closeChunks (s : State) : State := (upTo 7).foldl State.closeChunk s.logChunks

/-! ## Ingress records (R481, R483) -/

/-- The cell's header at classification, ESEQ 0. -/
def Cell.classHeader (c : Cell) : Header :=
  let (rel, hasRel, len, m) := c.orig
  { c.hdr with rel := rel, hasRel := hasRel, len := len, metaBytes := m, rerun := false, late := false, eseq := 0 }

/-- Table 15.2: the record of a cell at a level. -/
def Cell.record (c : Cell) (level : Nat) : List Byte :=
  let h := c.classHeader
  if level = 2 then
    leBytes 6 h.gseq ++ leBytes 6 h.tstamp ++ leBytes 2 h.src ++ leBytes 2 c.payload.length ++ leBytes 2 h.stream ++
      leBytes 2 h.action ++ leBytes 2 h.repoch ++ leBytes 1 h.rflags ++ leBytes 1 2 ++
      padTo (roundUp 8 c.payload.length) c.payload
  else h.toBytes

/-- The level at which a cell is recorded, and whether its instance's share cuts it. -/
def State.recLevel (s : State) (c : Cell) : Nat × Bool :=
  if c.marker ≠ 0 then (2, false)
  else if c.hdr.stream = 0 then (min 2 (s.fld 0x003B0000 16 2), false)
  else
    let level := min 2 (seRec (s.streamEntry c.epoch c.hdr.stream))
    let i := c.hdr.inst
    let share := (s.instAt i).q 0x35 1
    let used := NatMap.get 0 s.bt.shares i
    if i ≠ 0 && share ≠ 0 && level = 2 && decide (share * s.btRing.2 / 256 ≤ used) then (1, true) else (level, false)

/-- Writes the record of one cell. -/
def State.recordCell (s : State) (c : Cell) : State :=
  let g := c.hdr.gseq
  let s := s.modCell g fun c => { c with recorded := true }
  let s := if decide (4096 < sub48 s.horizon g) then s.gapAdd g g
    else
      let (level, cut) := s.recLevel c
      let s := if cut then (s.bump 0x003B00C4).setBit btEvt 3 else s
      if level = 0 then s
      else
        let l := c.record level
        let s := s.gapWrite.addRecord 1 g l
        { s with bt := { s.bt with shares := NatMap.mod 0 s.bt.shares c.hdr.inst (· + l.length) } }
  s.reap

/-! ## Digests (R460, R461, R494) -/

/-- R461: a window that differed. -/
def State.digestMiss (s : State) (w : Nat) (own lead : Digest) : State :=
  let s := (s.setBit fdEvt 5).bump 0x003A0048
  let s := { s with ford := { s.ford with diverged := true, missTotal := satAdd 0xFFFFFFFF s.ford.missTotal 1 } }
  (s.record { block := 0x13, code := 0x00A1, sev := 3, dkind := 8, detail := s.twinDetail w own.count lead.count own.sum lead.sum }).cause 0 17

/-- R461: compares a closed window with the lead's. -/
def State.compareWindow (s : State) (w : Nat) (own lead : Digest) : State :=
  if own.handover || (own.count == lead.count && own.sum == lead.sum) then s else s.digestMiss w own lead

/-- R494: compares a closed window with the recording's. -/
def State.compareReplay (s : State) (w : Nat) (own : Digest) : State :=
  match s.replay.digests.find? fun d => d.1 == w with
  | none => s
  | some d =>
    if s.replay.readErr || own.handover || (own.count == d.2.1 && own.sum == d.2.2) then s
    else
      let s := { s with replay := { s.replay with first := some (s.replay.first.getD w) } }
      (s.bump 0x003B00D0).setBit btEvt 4

/-- Table 14.3: a DIGEST body. -/
def digestBody (w : Nat) (d : Digest) : List Byte := leBytes 6 w ++ leBytes 4 d.count ++ leBytes 6 0 ++ leBytes 8 d.sum

/-- R460: the window has closed: H has passed its last GSEQ, its cells have completed and its releases have left. -/
def State.windowDone (s : State) (w : Nat) : Bool :=
  let last := (w + 1) * 2 ^ clampNat 10 24 (s.fld fdCtl 8 5) - 1
  before48 (mod48 last) s.horizon && s.cells.all (fun c => c.stage == .done || s.windowOf c.hdr.gseq != w) &&
    s.weir.all fun e => s.windowOf e.gseq != w

/-- DIGEST_WINDOW_CLOSE. R460, R461, R494. -/
def State.windowClose (s : State) : State :=
  let w := s.ford.nextWindow
  if !s.windowDone w then s
  else
    let d := NatMap.get {} s.ford.windows w
    let f := s.ford
    let f : Ford := { f with windows := NatMap.del f.windows w, nextWindow := (w + 1) % (2 ^ 48 / 2 ^ clampNat 10 24 (s.fld fdCtl 8 5)) }
    let s := { s with ford := f }
    let s := if s.records then s.addRecord 4 s.nextGseq (digestBody w d) else s
    if s.ford.role == .lead && s.partnerFollows then s.fordSend 5 (digestBody w d)
    else if s.mode == .shadow then
      match s.ford.leads.find? fun x => x.1 == w with
      | some x => ({ s with ford := { s.ford with leads := NatMap.del s.ford.leads w } } : State).compareWindow w d x.2
      | none => { s with ford := { s.ford with closed := NatMap.ins s.ford.closed w d } }
    else if s.mode == .replay then s.compareReplay w d
    else s

/-! ## Images (R487) -/

/-- The memories of an image, by address: shared and local memory, thread frames, and the scope of its registers. -/
def imageCovers (regs : NatMap Nat) (a : Nat) : Bool :=
  let within (base step n size : Nat) : Bool := decide (base ≤ a) && decide (a < base + step * n) && decide ((a - base) % step < size)
  within (sharedAddr 0) 0x100000 6 0x80000 || within (localAddr 0) 0x40000 8 0x40000 || within frameBase 0x20000 6 0x20000 ||
    (upTo 16).any fun r => decide ((scopeRange regs r).1 ≤ a) && decide (a < (scopeRange regs r).1 + (scopeRange regs r).2)

/-- The image of the state. -/
def State.image (s : State) : Image :=
  { regs := s.regs, stagedRegs := s.stagedRegs, tables := s.tables, epoch := s.epoch, staged := s.staged, learn := s.learn.set_
    weir := s.weir, seqs := s.seqs, nextGseq := s.nextGseq, td := s.td, inst := s.inst, dir := s.bf.dir, tb := s.tb
    mem := s.mem.filter (fun c => imageCovers s.regs c.1)
    opened := (s.cells.filter fun c => c.isOpen).map fun c => c.hdr }

/-- Registers that a device keeps when it loads an image: its own host attachment, Supervisor, pair, recorder, store and
health. -/
def ownReg (key : Nat) : Bool :=
  decide (key < 0x6000) || (decide (0x00360000 ≤ key) && decide (key < 0x00380000)) ||
    (decide (0x00390000 ≤ key) && decide (key < 0x003E0000)) || decide (0x00F00000 ≤ key)

/-- Registers after an image is loaded: the device's own, and the image's for the rest. -/
def mergeRegs (own image : NatMap Nat) : NatMap Nat :=
  (image.filter fun r => !ownReg r.1).foldl (fun m r => NatMap.put (regReset r.1) m r.1 (r.2 % 2 ^ 32)) (own.filter fun r => ownReg r.1)

/-- Memory after an image with register file `regs` is loaded. -/
def mergeMem (regs : NatMap Nat) (own image : List Host.Cell) : List Host.Cell :=
  (image.filter fun c => imageCovers regs c.1).foldl (fun m c => NatMap.put memDefault m c.1 c.2)
    (own.filter fun c => !imageCovers regs c.1)

/-- R44, R469: a position that was open at g0 becomes a HOLE with reason HANDOVER, with the fields of its cell, which is
among `opened`. -/
def WeirEntry.handoverHole (opened : List Header) (e : WeirEntry) : WeirEntry :=
  match e.item with
  | .pending =>
    let h := (opened.find? fun h => h.gseq == e.gseq).getD { gseq := e.gseq }
    { e with granules := 0, item := .cell (holeHeader h e.stream e.sub (seInst e.entry) (seEgress e.entry) 6) [] false }
  | _ => e


/-- R468, R469, R492: the device takes the state that an image holds, and steps its Timebase to `count`. The step lies
between the end of the device's own Weir contents and the entry of the image's, so that the Weir holds no timed cell at
the step (R60; DEDUCED, log entry 111). -/
def State.loadImage (s : State) (x : Image) (count : Int) : State :=
  let s := ({ s with weir := [] } : State).stepTo count
  let weir := (x.weir.filter fun e => e.item != .tail).map (WeirEntry.handoverHole x.opened)
  let used := (weir.map WeirEntry.granules).sum
  let bits := clampNat 10 24 (s.fld fdCtl 8 5)
  let askers := (s.markers.flatMap (·.askers) ++ s.commits.flatMap (·.askers)).map (·.1)
  let s := askers.foldl (fun s m => s.mbAnswer m 0x0109) s
  let s := { s with
    regs := mergeRegs s.regs x.regs
    stagedRegs := x.stagedRegs, tables := x.tables, epoch := x.epoch, staged := x.staged, oldTables := [], commits := [], markers := []
    weir, seqs := x.seqs, nextGseq := x.nextGseq, inst := x.inst, cells := []
    pbufUsed := used }
  let s := { s with
    learn := { s.learn with set_ := x.learn, queue := [], held := [] }
    td := { x.td with outEn := false, inputs := [], loaded := s.td.loaded }
    bf := { s.bf with dir := x.dir, queue := [] }
    eg := { s.eg with herons := [], threads := [], slots := [] }
    mem := mergeMem x.regs s.mem x.mem }
  let s := weir.foldl (fun s e => match e.item with | .cell h p _ => s.pbufStore h.pbuf p | _ => s) s
  { s with ford := { s.ford with
      nextRecord := x.nextGseq, windows := [], closed := [], leads := [], diverged := false
      nextWindow := (x.nextGseq + 2 ^ bits - 1) / 2 ^ bits } }


/-- Table 15.5: PROG_DIGEST: the CRC-32 over the program stores and the code store, in address order. -/
def State.progDigest (s : State) : Nat :=
  crc32 ((upTo 6).flatMap (fun c => s.rdBytes (progAddr c) 0x10000) ++ s.rdBytes codeAddr 0x10000)

/-! ## Checkpoints (R486, R487) -/

/-- A checkpoint attempt starts: the Intake stops at g0. -/
def State.ckptStart (s : State) (tries : Nat) : State :=
  { s with bt := { s.bt with ckpt := 1, since := s.now, g0 := s.nextGseq, tries := tries, retryAt := none } }

/-- R486, R497: asks for a checkpoint; one that runs before its mark serves the request too. -/
def State.ckptAsk (s : State) (x : CkptAsker) : State :=
  let s := { s with bt := { s.bt with askers := s.bt.askers ++ [x] } }
  if s.bt.ckpt = 0 && s.bt.retryAt.isNone then s.ckptStart 0 else s

/-- The slot that does not hold the newer completed image. -/
def Bittern.target (b : Bittern) : Nat :=
  if b.slot1.valid && (!b.slot0.valid || before48 b.slot0.g0 b.slot1.g0) then 0 else 1

/-- Changes a slot. -/
def Bittern.setSlot (b : Bittern) (k : Nat) (x : BtSlot) : Bittern := if k = 0 then { b with slot0 := x } else { b with slot1 := x }

/-- R486, step 2: every cell before g0 has completed. -/
def State.quiesced (s : State) : Bool := s.cells.all fun c => c.stage == .done || !before48 c.hdr.gseq s.bt.g0

/-- R468: the partner is told that a resynchronisation begins, and from now on it follows. -/
def State.resyncOpen (s : State) : State :=
  match s.ford.resync with
  | none => s
  | some _ =>
    let s := s.fordSend 7 (Config.controlBytes (.resync (BitVec.ofNat 48 s.bt.g0) (BitVec.ofNat 32 s.progDigest)))
    { s with ford := { s.ford with peerRole := .syncing } }

/-- The mark is taken: the MARK chunk, and the copy starts. With EN 0 there is no slot: the image goes to the partner
alone. -/
def State.ckptMark (s : State) : State :=
  let k := s.bt.target
  let s := s.closeChunks
  let mark := s.bt.total
  let s := if s.records then
      (s.addRecord 5 s.bt.g0 (leBytes 6 s.bt.g0 ++ leBytes 1 k ++ leBytes 1 0 ++ leBytes 8 s.tb.count)).closeChunk 5
    else s
  let b := s.bt
  let b := if s.bit 0x003B0000 0 then b.setSlot k { valid := false, g0 := b.g0, mark } else b
  let s := { s with bt := { b with ckpt := 2, copying := some (k, s.image) } }
  if s.bt.askers.any (·.resync) then s.resyncOpen else s

/-- Answers the mailboxes that wait for the checkpoint. -/
def State.ckptAnswer (s : State) (status : Nat) (g0 : Nat) : State :=
  let l := s.bt.askers
  let s := { s with bt := { s.bt with askers := [] } }
  l.foldl (fun s a =>
    if status ≠ 0 then
      let s := if a.resync then { s with ford := { s.ford with resync := none } } else s
      s.mbInternal a.mbox
    else if a.resync then s
    else s.mbAnswer a.mbox 0 (leBytes 6 g0)) s

/-- Pieces of at most `n` bytes. -/
def pieces (n : Nat) : Nat → List Byte → List (List Byte)
  | 0, _ => []
  | k + 1, l => if l.isEmpty then [] else l.take n :: pieces n k (l.drop n)

/-- R468: the image in STATE frames, and its end. -/
def State.sendImage (s : State) (x : Image) : State :=
  if s.ford.resync.isNone then s
  else
    let l := Config.imageBytes x
    let s := (pieces 9280 l.length l).foldl (fun s p => s.fordSend 6 p) s
    s.fordSend 7 (Config.controlBytes .imageEnd)

/-- R487: the copy completes. -/
def State.ckptDone (s : State) : State :=
  match s.bt.copying with
  | none => s
  | some (k, x) =>
    let g0 := s.bt.g0
    let s := { s with bt := { s.bt with ckpt := 0, copying := none, lastCkpt := s.now, shares := [] } }
    if !s.bit 0x003B0000 0 then (s.sendImage x).ckptAnswer 0 g0
    else
      let a := s.btBase + k * s.slotSize
      let l := (Config.imageBytes x).take s.slotSize
      let (s, bad) := if s.mapOk .engine a s.slotSize then s.wrMem a l {} 10 else (s.mapErr, true)
      if bad then ((s.bump 0x003B00C8).setBit btEvt 1).ckptAnswer 0x0801 g0
      else
        let b := s.bt
        let old := if k = 0 then b.slot0 else b.slot1
        let s := { s with bt := b.setSlot k { old with valid := true, stale := false, g0, image := x } }
        let s := ((s.bump 0x003B00CC).setBit btEvt 0).cause 0 18
        (s.sendImage x).ckptAnswer 0 g0

/-- R486: the attempt is abandoned; it repeats 1 ms later, up to 100 tries. -/
def State.ckptFail (s : State) : State :=
  let n := s.bt.tries + 1
  let s := { s with bt := { s.bt with ckpt := 0, tries := n, retryAt := if n < 100 then some (s.now + 1000000) else none } }
  let s := (s.bump 0x003B00C8).setBit btEvt 1
  if n < 100 then s else s.ckptAnswer 0x0801 0

end Sys2Proof.Machine
end

