-- ==== Sys2Proof/Machine/Bittern.lean ====
section
/-! DEFINITION. The commands of the recorder, checkpoints, transfers and replay, and the recorder's mailbox commands
(spec/15 R479 to R501; spec/11 Table 11.12). -/
namespace Sys2Proof.Machine

/-! ## Recording -/

/-- BITTERN_RECORD. R481, R482, R483: the oldest cell that H has passed and that is not yet recorded. -/
def doBitternRecord (s : State) : State :=
  if !s.records then s
  else match s.cells.find? fun c => !c.recorded with
    | some c => if c.classifiedYet && before48 c.hdr.gseq s.horizon then s.recordCell c else s
    | none => s

/-- CHUNK_CLOSE. R480, R498: every 1 ms open chunks close, full or not, also where the mode has ended recording since. -/
def doChunkClose (s : State) : State :=
  let s := if s.records then s else { s with dlogOut := [] }
  if s.bit 0x003B0000 0 && s.mode != .replay && decide (s.bt.closeAt + 1000000 ≤ s.now) then
    let s := s.closeChunks.gapWrite
    { s with bt := { s.bt with closeAt := s.now } }
  else s

/-! ## Checkpoints -/

/-- CHECKPOINT_PERIOD. R486: every CKPT_S seconds. -/
def doCheckpointPeriod (s : State) : State :=
  let p := s.fld 0x003B0000 8 8
  if s.records && p ≠ 0 && s.bt.ckpt = 0 && s.bt.retryAt.isNone && decide (s.bt.lastCkpt + p * 1000000000 ≤ s.now) then
    s.ckptStart 0
  else s

/-- CHECKPOINT_MARK. R486, R487. -/
def doCheckpointMark (s : State) : State := if s.bt.ckpt = 1 && s.quiesced then s.ckptMark else s

/-- CHECKPOINT_QUIESCE_TIMEOUT. R486: no mark within 25 µs. -/
def doCheckpointQuiesceTimeout (s : State) : State :=
  if s.bt.ckpt = 1 && decide (s.bt.since + 25000 ≤ s.now) then s.ckptFail else s

/-- CHECKPOINT_RETRY. R486: 1 ms after an abandoned attempt. -/
def doCheckpointRetry (s : State) : State :=
  match s.bt.retryAt with
  | some t => if s.bt.ckpt = 0 && decide (t ≤ s.now) then s.ckptStart s.bt.tries else s
  | none => s

/-- CHECKPOINT_COPY_DONE. R487. -/
def doCheckpointCopyDone (s : State) : State := if s.bt.ckpt = 2 then s.ckptDone else s

/-! ## Transfers (R491) -/

/-- BT_XFER_BASE. -/
def State.xferBase (s : State) : Nat := s.regW 0x003B00A4 + s.regW 0x003B00A8 * 2 ^ 32
/-- XFER_LEN. -/
def State.xferLen (s : State) : Nat := s.regW 0x003B00AC

/-- Exports pieces while the CQ takes them, at most `n`. -/
def State.xferOut : Nat → State → State
  | 0, s => s
  | n + 1, s =>
    let q := s.fld 0x003B00A0 2 3
    let m := s.bt.moved
    let k := min 8192 (s.xferLen - m)
    if s.xferLen ≤ m then s
    else if !s.active 0 || !s.bit (cqKey 0 q + 0x0C) 0 || !(s.fnAt 0).busMaster then s.xferRefuse
    else if !s.cqFits q k then s
    else match s.rdMem (s.xferBase + m) k {} 6 with
      | (s, none) => s.xferRefuse
      | (s, some l) =>
        let s := s.cqWrite 0 q { gseq := m, len := k } l false true
        State.xferOut n { s with bt := { s.bt with moved := m + k } }

/-- Imports the payloads that have been fetched, at most `n`. -/
def State.xferIn : Nat → State → State
  | 0, s => s
  | n + 1, s =>
    let q := s.fld 0x003B00A0 2 3
    let m := s.bt.moved
    let x := s.sqAt 0 q
    if s.xferLen ≤ m then s
    else match x.fetched with
      | some p :: rest =>
        let l := p.take (s.xferLen - m)
        let (s, bad) := s.wrMem (s.xferBase + m) l {} 6
        if bad then s.xferRefuse
        else
          let s := s.setSq 0 q { x with head := (x.head + 1) % s.ringLen (sqKey 0 q), fetched := rest }
          State.xferIn n (({ s with bt := { s.bt with moved := m + l.length } } : State).sqSkip 0 q)
      | _ => s

/-- XFER_DONE. R491: moves what can be moved; DONE at the end, ERR on a refusal. -/
def doXferDone (s : State) : State :=
  let len := s.xferLen
  if !s.bit 0x003B00A0 0 || s.bit 0x003B00A0 5 || decide (len < s.bt.moved) then s
  else if !(s.xferBase < 0x800000000 && s.mapOk .engine s.xferBase len) && len ≠ 0 then s.mapErr.xferRefuse
  else
    let s := if s.xferExports then s.xferOut (len / 8192 + 1) else s.xferIn (s.sqAt 0 (s.fld 0x003B00A0 2 3)).fetched.length
    if s.bt.moved = len && !s.bit 0x003B00A0 6 then (s.setBit 0x003B00A0 5).setBit btEvt 8 else s

/-! ## Case files (Table 15.5, R492) -/

/-- A case: what its header names, its image and its records. -/
structure CaseFile where
  g0 : Nat
  image : List Byte
  records : List IngressRec := []
  entries : List DEntry := []
  configs : List DEntry := []
  digests : List (Nat × Nat × Nat) := []
  /-- the MARK chunk of g0 has been met, or there is none -/
  marked : Bool := true

/-- The records of an INGRESS chunk at address `a`, at most `n`; none where one is below level 2. -/
def caseRecords (a : Nat) : Nat → List Byte → Option (List IngressRec)
  | 0, _ => some []
  | n + 1, l =>
    if l.isEmpty then some []
    else if l.length < 24 || leAt l 23 1 ≠ 2 then none
    else
      let len := leAt l 14 2
      let k := 24 + roundUp 8 len
      if l.length < k then none
      else match caseRecords (a + k) n (l.drop k) with
        | none => none
        | some rs =>
          some ({ gseq := leAt l 0 6, tstamp := leAt l 6 6, src := leAt l 12 2, payload := (l.drop 24).take len, at_ := a } :: rs)

/-- The bodies of a DIGEST chunk, at most `n`. -/
def caseDigests : Nat → List Byte → List (Nat × Nat × Nat)
  | 0, _ => []
  | n + 1, l => if l.length < 24 then [] else (leAt l 0 6, leAt l 6 4, leAt l 16 8) :: caseDigests n (l.drop 24)

/-- Takes one chunk, whose bytes begin `l` and stand at address `a`; none where it is bad or a GAP. Decisions made before
the mark are those of cells before g0. -/
def CaseFile.chunk (c : CaseFile) (a : Nat) (l : List Byte) : Option CaseFile :=
  let kind := leAt l 0 1
  let fill := leAt l 4 4
  let body := (l.drop 32).take fill
  if kind < 1 || 5 < kind || 16352 < fill || leAt l 1 3 ≠ 0 || leAt l 0x16 6 ≠ 0 ||
      crc32 (l.take 0x1C ++ leBytes 4 0 ++ body) ≠ leAt l 0x1C 4 then none
  else if kind = 1 then
    match caseRecords (a + 32) fill body with
    | none => none
    | some rs => some { c with records := c.records ++ rs.filter fun r => !before48 r.gseq c.g0 }
  else if kind = 2 then
    some (if c.marked then { c with entries := c.entries ++ dEntriesOf body } else c)
  else if kind = 3 then
    some { c with configs := c.configs ++ (dEntriesOf body).filter fun e => !before48 e.tag c.g0 }
  else if kind = 4 then some { c with digests := c.digests ++ caseDigests fill body }
  else some (if leAt body 0 6 = c.g0 then { c with marked := true } else c)
where
  dEntriesOf (l : List Byte) : List DEntry := go l.length l
  go : Nat → List Byte → List DEntry
    | 0, _ => []
    | n + 1, l =>
      let size := leAt l 1 1
      if l.length < size || size < 16 then []
      else { type := leAt l 0 1, size, master := leAt l 2 2, body := (l.drop 4).take (size - 4) } :: go n (l.drop size)

/-- The chunks of a case, 16 KiB each, `n` of them, the first at address `a`. -/
def CaseFile.chunks (c : CaseFile) (a : Nat) : Nat → List Byte → Option CaseFile
  | 0, _ => some c
  | n + 1, l => match c.chunk a l with
    | none => none
    | some c => CaseFile.chunks c (a + 0x4000) n (l.drop 0x4000)

/-- Whether a case holds the MARK chunk of its g0. -/
def hasMark (g0 : Nat) : Nat → List Byte → Bool
  | 0, _ => false
  | n + 1, l => (leAt l 0 1 == 5 && leAt l 32 6 == g0) || hasMark g0 n (l.drop 0x4000)

/-- R492, check 2: the case of a file of bytes `l` at address `a`. -/
def caseOf (a : Nat) (l : List Byte) : Option CaseFile :=
  let len := l.length
  let io := leAt l 0x30 8
  let il := leAt l 0x38 8
  let co := leAt l 0x40 8
  let cl := leAt l 0x48 8
  if len < 128 || leAt l 0 4 ≠ 0x43584D4C || leAt l 4 2 ≠ 1 || leAt l 6 2 ≠ 0 || leAt l 0x16 2 ≠ 0 || leAt l 0x2C 4 ≠ 1 ||
      leAt l 0x50 48 ≠ 0 || len < io + il || len < co + cl || cl % 0x4000 ≠ 0 || io < 128 || co < 128 then none
  else
    let g0 := leAt l 0x20 6
    let ch := (l.drop co).take cl
    let n := cl / 0x4000
    CaseFile.chunks { g0, image := (l.drop io).take il, marked := !hasMark g0 n ch } (a + co) n ch

/-- R492, check 3: the case's identity is the device's. -/
def State.caseMatches (s : State) (l : List Byte) : Bool :=
  leAt l 8 4 == s.regW 0x00370000 && leAt l 0x0C 4 == s.regW 0x00370008 && leAt l 0x10 4 == s.regW 0x0037000C &&
    leAt l 0x14 2 == s.sup.ohmyth && leAt l 0x18 4 == s.sup.version && leAt l 0x1C 4 == s.progDigest

/-- R492: the case's image is loaded, and REPLAY begins. -/
def State.enterReplay (s : State) (c : CaseFile) : State :=
  let x := Config.imageOf c.image
  let s := s.loadImage x x.tb.count
  let s := { s with
    nextGseq := c.g0
    dlogIn := c.entries
    ford := { s.ford with configs := c.configs, nextRecord := c.g0 }
    replay := { records := c.records, digests := c.digests, moved := s.now } }
  s.setMode .replay

/-- REC_REPLAY_ENTER. R492. -/
def doRecReplayEnter (m : Nat) (s : State) : State :=
  s.mbRun m 0x0804 fun x i s =>
    if s.mode != .hold || !(s.ford.role == .none || s.ford.role == .detached) then s.mbAnswer m 0x0109
    else
      let a := x.f 8 5
      let n := x.f 0x10 4
      if !(a < 0x800000000 && s.mapOk .engine a n) then s.mapErr.mbAnswer m 0x0105
      else match s.rdMem a n (x.who m i) with
        | (s, none) => s.mbAnswer m 0x0301
        | (s, some l) =>
          match caseOf a l with
          | none => s.mbAnswer m 0x0103
          | some c =>
            if !s.caseMatches l then s.mbAnswer m 0x0601 else (s.enterReplay c).mbAnswer m 0 (leBytes 6 c.g0)

/-- REC_REPLAY_EXIT. R495: HOLD, with REPLAYED set. -/
def doRecReplayExit (m : Nat) (s : State) : State :=
  s.mbRun m 0x0805 fun _ _ s =>
    if s.mode != .replay then s.mbAnswer m 0x0109
    else
      let s := { s with dlogIn := [], ford := { s.ford with configs := [] }, replay := { s.replay with records := [], digests := [] } }
      ((s.setMode .hold).setBit 0x00370020 3).mbAnswer m 0

/-! ## Replay -/

/-- REPLAY_OFFER. R493, R499. -/
def doReplayOffer (s : State) : State := if s.mode == .replay then doIntakeAccept .supervisor s else s

/-- Table 15.3: the low bits of the key of an entry's site. -/
def DEntry.site (e : DEntry) : Nat :=
  let n (off k : Nat) : Nat := leAt e.body off k
  let key := match e.type with
    | 0x01 | 0x0C => n 0 6
    | 0x03 | 0x04 => n 0 5
    | 0x05 => n 0 2
    | 0x07 => 0
    | 0x08 | 0x09 => n 0 1
    | 0x0B => n 8 2
    | _ => e.master
  e.type + 2 ^ 8 * (key % 2 ^ 24)

/-- REPLAY_STUCK. R494: for 100 ms no operation has come that the next entry of a site names. -/
def doReplayStuck (s : State) : State :=
  match s.dlogIn with
  | e :: _ =>
    if s.mode == .replay && !s.replay.stuck && !s.replay.done && decide (s.replay.moved + 100000000 ≤ s.now) then
      ({ s with replay := { s.replay with stuck := true, site := e.site } } : State).setBit btEvt 6
    else s
  | [] => s

/-- REPLAY_DONE. R495, R499: after the last record every open cell has completed. -/
def doReplayDone (s : State) : State :=
  if s.mode == .replay && !s.replay.done && s.replay.records.isEmpty && s.cells.all (fun c => c.stage == .done) then
    (({ s with replay := { s.replay with done := true } } : State).setBit btEvt 5).cause 0 18
  else s

/-! ## Mailbox commands (Table 11.12) -/

/-- REC_CONFIG. R479: the allocation is placed, and recording is switched on or off; R15: where the placing is refused, EN
and CKPT_S apply all the same. -/
def doRecConfig (m : Nat) (s : State) : State :=
  s.mbRun m 0x0801 fun x _ s =>
    let base := x.f 8 5
    let mib := x.f 0x10 2
    let size := mib * 2 ^ 20
    let en := x.f 0x12 1
    let differs := base ≠ s.btBase || mib ≠ s.fld 0x003B000C 0 13
    if size < 2 * s.slotSize + 32 * 2 ^ 20 || !(base < 0x800000000 && s.mapOk .engine base size) then s.mbAnswer m 0x0103
    else
      let busy := differs && s.bit 0x003B0000 0
      let s := if en = 0 && s.bit 0x003B0000 0 then s.closeChunks else s
      let s :=
        if busy then s.setBit btEvt 9
        else if differs then
          let s := { s with bt := { s.bt with slot0 := {}, slot1 := {}, total := 0 } }
          ((s.setReg 0x003B0004 (base % 2 ^ 32)).setReg 0x003B0008 (base / 2 ^ 32)).setReg 0x003B000C mib
        else s
      (s.btCtlWrite 0xFF01 (en + 2 ^ 8 * x.f 0x13 1)).mbAnswer m (if busy then 0x0203 else 0)

/-- REC_STATUS. -/
def doRecStatus (m : Nat) (s : State) : State :=
  s.mbRun m 0x0802 fun _ _ s =>
    let ring := s.btRing.2
    let b := s.bt
    let last := if b.slot1.valid && (!b.slot0.valid || before48 b.slot0.g0 b.slot1.g0) then b.slot1.g0
      else if b.slot0.valid then b.slot0.g0 else 0
    s.mbAnswer m 0 (leBytes 4 (if ring = 0 then 0 else b.total / ring) ++ leBytes 2 (min ring b.total / 2 ^ 20) ++
      leBytes 2 0 ++ leBytes 6 last)

/-- REC_CHECKPOINT. R486, R497: it waits for a copy that runs; answered when its own completes. -/
def doRecCheckpoint (m : Nat) (s : State) : State :=
  s.mbRun m 0x0803 fun _ _ s =>
    if s.bt.ckpt = 2 then s
    else if !s.bit 0x003B0000 0 || s.mode == .replay then s.mbAnswer m 0x0109
    else (s.mbBegin m).ckptAsk ⟨m, false⟩

/-- BITTERN_RECORD. -/
def execBitternRecord (s : State) : Host.Outcome State Fault Refusal := .next (doBitternRecord s)
/-- CHUNK_CLOSE. -/
def execChunkClose (s : State) : Host.Outcome State Fault Refusal := .next (doChunkClose s)
/-- CHECKPOINT_PERIOD. -/
def execCheckpointPeriod (s : State) : Host.Outcome State Fault Refusal := .next (doCheckpointPeriod s)
/-- CHECKPOINT_MARK. -/
def execCheckpointMark (s : State) : Host.Outcome State Fault Refusal := .next (doCheckpointMark s)
/-- CHECKPOINT_QUIESCE_TIMEOUT. -/
def execCheckpointQuiesceTimeout (s : State) : Host.Outcome State Fault Refusal := .next (doCheckpointQuiesceTimeout s)
/-- CHECKPOINT_RETRY. -/
def execCheckpointRetry (s : State) : Host.Outcome State Fault Refusal := .next (doCheckpointRetry s)
/-- CHECKPOINT_COPY_DONE. -/
def execCheckpointCopyDone (s : State) : Host.Outcome State Fault Refusal := .next (doCheckpointCopyDone s)
/-- XFER_DONE. -/
def execXferDone (s : State) : Host.Outcome State Fault Refusal := .next (doXferDone s)
/-- REPLAY_OFFER. -/
def execReplayOffer (s : State) : Host.Outcome State Fault Refusal := .next (doReplayOffer s)
/-- REPLAY_STUCK. -/
def execReplayStuck (s : State) : Host.Outcome State Fault Refusal := .next (doReplayStuck s)
/-- REPLAY_DONE. -/
def execReplayDone (s : State) : Host.Outcome State Fault Refusal := .next (doReplayDone s)
/-- REC_CONFIG. -/
def execRecConfig (m : Fin 16) (s : State) : Host.Outcome State Fault Refusal := .next (doRecConfig m s)
/-- REC_STATUS. -/
def execRecStatus (m : Fin 16) (s : State) : Host.Outcome State Fault Refusal := .next (doRecStatus m s)
/-- REC_CHECKPOINT. -/
def execRecCheckpoint (m : Fin 16) (s : State) : Host.Outcome State Fault Refusal := .next (doRecCheckpoint m s)
/-- REC_REPLAY_ENTER. -/
def execRecReplayEnter (m : Fin 16) (s : State) : Host.Outcome State Fault Refusal := .next (doRecReplayEnter m s)
/-- REC_REPLAY_EXIT. -/
def execRecReplayExit (m : Fin 16) (s : State) : Host.Outcome State Fault Refusal := .next (doRecReplayExit m s)

end Sys2Proof.Machine
end

