-- ==== Sys2Proof/Machine/Crypto.lean ====
section
/-! DEFINITION. SHA-256 and the verification of ECDSA signatures over P-256, which images, patches and debug tokens carry
(spec/12 R398; spec/17 R524; spec/19 R587). The algorithms are those of FIPS 180-4 and FIPS 186 (PRESUMED: the
specification names them). -/
namespace Sys2Proof.Machine

/-! ## SHA-256 -/

/-- The first 64 prime numbers: a number below 324 is prime when no smaller prime up to 17 divides it. -/
def shaPrimes : List Nat :=
  (List.range' 2 310).filter fun n => [2, 3, 5, 7, 11, 13, 17].all fun d => n == d || n % d != 0

/-- The whole part of the `k`-th root of `n`, found bit by bit from bit `b - 1` down, above `r`. -/
def rootFrom (k n : Nat) : Nat → Nat → Nat
  | 0, r => r
  | b + 1, r => rootFrom k n b (if (r + 2 ^ b) ^ k ≤ n then r + 2 ^ b else r)

/-- The first 32 bits behind the point of the `k`-th root of `p`. -/
def rootBits (k p : Nat) : BitVec 32 := BitVec.ofNat 32 (rootFrom k (p * 2 ^ (32 * k)) 37 0)

/-- The rounds' constants are of the primes' cube roots. -/
def shaRoundKeys : List (BitVec 32) := shaPrimes.map (rootBits 3)

/-- The exclusive or of `x` turned right by each of some amounts. -/
def turns (x : BitVec 32) (amounts : List Nat) : BitVec 32 :=
  amounts.foldl (fun acc n => acc ^^^ x.rotateRight n) 0

/-- Adds the schedule's next word to the words so far, newest first: of the words 2, 7, 15 and 16 back. -/
def shaExtend (ws : List (BitVec 32)) : List (BitVec 32) :=
  match ws.drop 1, ws.drop 6, ws.drop 14, ws.drop 15 with
  | back2 :: _, back7 :: _, back15 :: _, back16 :: _ =>
    (back16 + back7 + (turns back15 [7, 18] ^^^ back15 >>> 3) + (turns back2 [17, 19] ^^^ back2 >>> 10)) :: ws
  | _, _, _, _ => ws

/-- The working variables, as the two groups of four through which a round shifts its two new words. -/
structure ShaVars where
  upper : BitVec 32 × BitVec 32 × BitVec 32 × BitVec 32
  lower : BitVec 32 × BitVec 32 × BitVec 32 × BitVec 32

/-- One round, with the sum of its constant and its schedule word. -/
def ShaVars.round (v : ShaVars) (kw : BitVec 32) : ShaVars :=
  let (u0, u1, u2, u3) := v.upper
  let (l0, l1, l2, l3) := v.lower
  let chosen := l2 ^^^ (l0 &&& (l1 ^^^ l2))
  let mixed := kw + l3 + chosen + turns l0 [25, 11, 6]
  let voted := (u0 &&& (u1 ||| u2)) ||| (u1 &&& u2)
  ⟨(mixed + voted + turns u0 [22, 13, 2], u0, u1, u2), (u3 + mixed, l0, l1, l2)⟩

/-- The sum of two sets of variables, word by word. -/
def ShaVars.plus (v w : ShaVars) : ShaVars :=
  let add := fun (x y : BitVec 32 × BitVec 32 × BitVec 32 × BitVec 32) =>
    (x.1 + y.1, x.2.1 + y.2.1, x.2.2.1 + y.2.2.1, x.2.2.2 + y.2.2.2)
  ⟨add v.upper w.upper, add v.lower w.lower⟩

/-- The variables as one big-endian number. -/
def ShaVars.number (v : ShaVars) : Nat :=
  [v.upper.1, v.upper.2.1, v.upper.2.2.1, v.upper.2.2.2, v.lower.1, v.lower.2.1, v.lower.2.2.1, v.lower.2.2.2].foldl
    (fun n w => n * 2 ^ 32 + w.toNat) 0

/-- The first variables are of the square roots of the first eight primes. -/
def shaStart : ShaVars :=
  let r := rootBits 2
  ⟨(r 2, r 3, r 5, r 7), (r 11, r 13, r 17, r 19)⟩

/-- A block of 64 bytes: its 16 words are extended to 64, and each makes a round. -/
def ShaVars.takeBlock (v : ShaVars) (block : List Byte) : ShaVars :=
  let first := (List.range 16).map fun i => BitVec.ofNat 32 (beAt block (4 * i) 4)
  let words := ((List.range 48).foldl (fun ws _ => shaExtend ws) first.reverse).reverse
  v.plus ((shaRoundKeys.zipWith (· + ·) words).foldl ShaVars.round v)

/-- SHA-256 of a list of bytes, as a big-endian number: the message is closed by a one bit, zeros and its length. -/
def sha256 (l : List Byte) : Nat :=
  let size := (l.length + 72) / 64
  let closed := l ++ padTo (64 * size - 8 - l.length) [0x80] ++ beBytes 8 (8 * l.length)
  ((List.range size).foldl (fun v i => v.takeBlock ((closed.drop (64 * i)).take 64)) shaStart).number

/-- SHA-256 of a list of bytes, as 32 bytes. -/
def sha256Bytes (l : List Byte) : List Byte := beBytes 32 (sha256 l)

/-! ## ECDSA over P-256 -/

/-- The field's prime. -/
def ecP : Nat := 0xffffffff00000001000000000000000000000000ffffffffffffffffffffffff
/-- The curve's constant b; a is -3. -/
def ecB : Nat := 0x5ac635d8aa3a93e7b3ebbd55769886bc651d06b0cc53b0f63bce3c3e27d2604b
/-- The order of the base point. -/
def ecN : Nat := 0xffffffff00000000ffffffffffffffffbce6faada7179e84f3b9cac2fc632551
/-- The base point. -/
def ecG : Option (Nat × Nat) :=
  some (0x6b17d1f2e12c4247f8bce6e563a440f277037d812deb33a0f4a13945d898c296,
        0x4fe342e2fe1a7f9b8ee7eb4a7c0f9e162bce33576b315ececbb6406837bf51f5)

/-- x to the power of the low `n` bits of `e`, modulo `m`. -/
def powMod (m x e : Nat) : Nat → Nat
  | 0 => 1 % m
  | n + 1 =>
    let r := powMod m x (e / 2) n
    if e % 2 = 1 then r * r % m * x % m else r * r % m

/-- The inverse modulo a prime. -/
def invMod (m x : Nat) : Nat := powMod m (x % m) (m - 2) 256

/-- x - y modulo `m`. -/
def subMod (m x y : Nat) : Nat := (x % m + m - y % m) % m

/-- The sum of two points; none is the point at infinity. -/
def ecAdd (a b : Option (Nat × Nat)) : Option (Nat × Nat) :=
  match a, b with
  | none, q => q
  | q, none => q
  | some (x1, y1), some (x2, y2) =>
    if x1 = x2 && (y1 + y2) % ecP == 0 then none
    else
      let k := if x1 = x2 then subMod ecP (3 * x1 * x1) 3 * invMod ecP (2 * y1) % ecP
        else subMod ecP y2 y1 * invMod ecP (subMod ecP x2 x1) % ecP
      let x := subMod ecP (k * k) (x1 + x2)
      some (x, subMod ecP (k * subMod ecP x1 x) y1)

/-- The product of a point by the low `n` bits of `e`. -/
def ecMul (q : Option (Nat × Nat)) (e : Nat) : Nat → Option (Nat × Nat)
  | 0 => none
  | n + 1 =>
    let r := ecMul q (e / 2) n
    let d := ecAdd r r
    if e % 2 = 1 then ecAdd d q else d

/-- A public key's point lies on the curve. -/
def ecOnCurve (x y : Nat) : Bool :=
  decide (x < ecP) && decide (y < ecP) && decide (y * y % ecP = (subMod ecP (x * x * x) (3 * x) + ecB) % ecP)

/-- Whether the signature (r, s) of the hash `e` verifies under the key (x, y). -/
def ecVerify (x y e r s : Nat) : Bool :=
  if !ecOnCurve x y || r = 0 || ecN ≤ r || s = 0 || ecN ≤ s then false
  else
    let w := invMod ecN s
    match ecAdd (ecMul ecG (e * w % ecN) 256) (ecMul (some (x, y)) (r * w % ecN) 256) with
    | none => false
    | some (px, _) => px % ecN == r

/-- R398, R524, R587: PUBKEY, X then Y, and SIG, r then s, each big-endian, over SHA-256 of `body`. -/
def sigOk (pubkey sig body : List Byte) : Bool :=
  ecVerify (beAt pubkey 0 32) (beAt pubkey 32 32) (sha256 body) (beAt sig 0 32) (beAt sig 32 32)

end Sys2Proof.Machine
end

