-- ==== Sys2Proof/Machine/Images.lean ====
section
/-! DEFINITION. Boot images and patch files: their checks, the flash, and the loading of a patch set (spec/12 R398 to R401;
spec/17 R524, R527). -/
namespace Sys2Proof.Machine

/-! ## Keys -/

/-- PUBKEY, in the last 128 bytes of a file. -/
def filePubkey (l : List Byte) : List Byte := (l.drop (l.length - 128)).take 64

/-- R398, R524: SHA-256 of a file's PUBKEY equals the trusted key hash, and SIG over all before it verifies. The hash
compares as a number, its first byte the most significant. -/
def fileSigned (hash : Nat) (l : List Byte) : Bool :=
  let n := l.length
  sha256 (filePubkey l) == hash && sigOk (filePubkey l) (l.drop (n - 64)) (l.take (n - 64))

/-! ## Patch files (R398, Table 12.6) -/

/-- A patch set. -/
structure PatchSet where
  id : Nat
  /-- the 32 words of the match registers -/
  matches_ : List Nat
  /-- bits [103:0] of each word -/
  words : List Nat

/-- Table 12.6: one match entry has its reserved bits 0 and, where it is valid, names an address outside the protected range
and a loaded target. -/
def matchOk (nwords v : Nat) : Bool :=
  bitsOf v 14 2 == 0 && bitsOf v 25 6 == 0 &&
    (!bitAt v 31 || (decide (0x400 ≤ bitsOf v 0 14) && decide (bitsOf v 16 9 < nwords)))

/-- No two valid entries name one address. -/
def matchUnique : List Nat → Bool
  | [] => true
  | v :: l => (!bitAt v 31 || !(l.any fun w => bitAt w 31 && bitsOf w 0 14 == bitsOf v 0 14)) && matchUnique l

/-- R398: the length that a patch file of `n` words has. -/
def patchLen (n : Nat) : Nat := 0x90 + 16 * n + 128

/-- R398: the checks of a patch file other than those of its key and signature. -/
def patchOf (romid : Nat) (l : List Byte) : Option PatchSet :=
  let n := leAt l 0x0C 2
  let ms := (upTo 32).map fun k => leAt l (0x10 + 4 * k) 4
  if l.length ≠ patchLen n || leAt l 0 4 ≠ 0x5441504F || leAt l 4 4 = 0 || leAt l 8 4 ≠ romid || n = 0 || 512 < n ||
      leAt l 0x0E 2 ≠ 0 || !ms.all (matchOk n) || !matchUnique ms ||
      !(upTo n).all (fun k => leAt l (0x90 + 16 * k + 13) 3 == 0) then none
  else some { id := leAt l 4 4, matches_ := ms, words := (upTo n).map fun k => leAt l (0x90 + 16 * k) 13 }

/-- R399: a set replaces the whole of the one before it: the match registers, the words with zero words after them, fresh
check bits, and SV_PATCH_ID; SV_PATCH_CNT counts it. -/
def State.loadPatch (s : State) (p : PatchSet) : State :=
  let s := p.matches_.zipIdx.foldl (fun s m => s.setReg (0x00370040 + 4 * m.2) m.1) s
  let s := { s with
    sup := { s.sup with patch := NatMap.putList 0 [] 0 p.words }
    ecc := s.ecc.filter fun e => !(decide (ctlStoreBase / 8 + 0x4000 ≤ e.1) && decide (e.1 < ctlStoreBase / 8 + 0x4200)) }
  (s.setReg 0x0037000C p.id).bump 0x00370018

/-! ## The flash -/

/-- The first address of a slot. -/
def slotBase (slot : Nat) : Nat := slot * 0x800000

/-- Reads `n` bytes of a slot from `off`. -/
def State.flashRead (s : State) (slot off n : Nat) : List Byte :=
  (NatMap.getList 0xFF s.sup.flash (slotBase slot + off) n).map (BitVec.ofNat 8)

/-- Programs bytes of a slot: a bit goes from 1 to 0 only. Bytes past the end of the slot are not. -/
def State.flashProgram (s : State) (slot off : Nat) (l : List Byte) : State :=
  let l := l.take (0x800000 - off)
  let old := s.flashRead slot off l.length
  let new := (old.zip l).map fun b => (b.1 &&& b.2).toNat
  { s with sup := { s.sup with flash := NatMap.putList 0xFF s.sup.flash (slotBase slot + off) new } }

/-- Erases a slot. -/
def State.flashErase (s : State) (slot : Nat) : State :=
  let inside (k : Nat) : Bool := decide (slotBase slot ≤ k) && decide (k < slotBase slot + 0x800000)
  { s with sup := { s.sup with flash := NatMap.keep (fun k => !inside k) s.sup.flash } }

/-- A program or an erase that fails leaves bytes that the specification does not give. -/
def State.flashFail (s : State) (slot off n : Nat) : State :=
  let new := (upTo (min n (0x800000 - off))).map fun k => (Config.flashFailed s.fresh (slotBase slot + off + k)).toNat
  let s := s.tick
  { s with sup := { s.sup with flash := NatMap.putList 0xFF s.sup.flash (slotBase slot + off) new } }

/-! ## Images (R524, Table 17.3) -/

/-- What BOOT takes from a valid image. -/
structure BootImage where
  version : Nat
  ohmyth : Nat
  code : List Byte
  patch : Option PatchSet

/-- R524: a section lies wholly before the key. -/
def sectionOk (len off n : Nat) : Bool := decide (off + n ≤ len - 128)

/-- R524: the image in a slot, where it is valid. R527: while the key-hash fuses are blank, the boot ROM (`boot`), and it
alone, takes the image's own PUBKEY as trusted. -/
def State.imageIn (s : State) (boot : Bool) (slot : Nat) : Option BootImage :=
  let h := s.flashRead slot 0 0x100
  let len := leAt h 0x10 4
  let romid := s.regW 0x00370008
  if leAt h 0 4 ≠ 0x4D49504E || leAt h 8 4 ≠ romid || len < 0x180 || 0x800000 < len ||
      !sectionOk len (leAt h 0x14 4) (leAt h 0x18 4) || !(h.drop 0x24).all (· == 0) then none
  else
    let l := s.flashRead slot 0 len
    let hash := if boot && s.tap.hashAtBoot == 0 then sha256 (filePubkey l) else s.tap.hashAtBoot
    let po := leAt h 0x1C 4
    let pl := leAt h 0x20 4
    let file := (l.drop po).take pl
    let image (p : Option PatchSet) : Option BootImage := some {
      version := leAt h 4 4, ohmyth := leAt h 0x0E 2, code := (l.drop (leAt h 0x14 4)).take (leAt h 0x18 4), patch := p }
    if !fileSigned hash l then none
    else if po = 0 then image none
    else if !sectionOk len po pl then none
    else match patchOf romid file with
      | some p => if fileSigned hash file then image (some p) else none
      | none => none

end Sys2Proof.Machine
end

