-- ==== Sys2Proof/Machine/MbTables.lean ====
section
/-! DEFINITION. The table commands and the end of a reload (spec/11 Table 11.7, R376; spec/04 R122, R132; spec/05 R168,
R171 to R176; spec/13 R419, R437). -/
namespace Sys2Proof.Machine

/-- R173: EN_LRN_CTL designates bank `b` as a learning bank. -/
def State.learningBank (s : State) (b : Nat) : Bool :=
  (s.bit lrnCtl 4 && s.fld lrnCtl 1 3 == b) || (s.bit lrnCtl 8 && s.fld lrnCtl 5 3 == b)

/-- The parts of a Shoal entry that FIELDS names, written over the staged entry. -/
def shoalMerge (old new fields : Nat) : Nat :=
  let put (e k lo w : Nat) : Nat := if bitAt fields k then putBits e lo w (bitsOf new lo w) else e
  let e := put (put (put (put old 0 0 192) 1 192 192) 2 384 32) 3 416 1
  if bitAt fields 2 then putBits e 408 1 0 else e

/-- TBL_SHOAL_STAGE. R171 to R173, R376. -/
def doTblShoalStage (m : Nat) (s : State) : State :=
  s.mbRun m 0x0301 fun x i s =>
    let b := x.f 8 1
    let e := 512 * b + x.f 0x0A 2
    let fields := x.f 0x0C 1
    let answer (s : State) : State := s.mbAnswer m 0 (leBytes 2 s.shoalEdits)
    if s.bankOwner b ≠ i then s.mbAnswer m 0x0202
    else if s.learningBank b then s.mbAnswer m 0x0205
    else if fields = 0 then answer s
    else if s.stageWaits 1 e then s
    else if 256 ≤ s.shoalEdits && !NatMap.has s.staged.shoal e then s.mbAnswer m 0x0204
    else answer (s.stage 1 e i (shoalMerge (s.stagedEntry 1 e) (x.f 0x10 56) fields))


/-- TBL_ACTION_STAGE. R168, R419. -/
def doTblActionStage (m : Nat) (s : State) : State :=
  s.mbRun m 0x0302 fun x i s =>
    let k := x.f 8 2
    let e := x.f 0x10 16
    if s.actionOwner k ≠ i then s.mbAnswer m 0x0202
    else if s.stageWaits 2 k then s
    else (s.stage 2 k i (putBits e 96 4 i)).mbAnswer m 0


/-- R419: an EGRESS that instance `i` may name. -/
def State.egressOwned (s : State) (i eg : Nat) : Bool :=
  let k := eg % 0x1000
  match eg / 0x1000 with
  | 0 => s.chanOwner k == i
  | 1 => if k < 6 then s.portOwner k == i else (upTo 6).all fun p => !bitAt k p || s.portOwner p == i
  | 2 => i == 0 || bitsOf k 8 4 == i
  | _ => true

/-- TBL_STREAM_STAGE. R19, R122, R419. -/
def doTblStreamStage (m : Nat) (s : State) : State :=
  s.mbRun m 0x0303 fun x i s =>
    let k := x.f 8 2
    let e := x.f 0x10 16
    if s.streamOwner k ≠ i || (seValid e && !s.egressOwned i (seEgress e)) then s.mbAnswer m 0x0202
    else if s.stageWaits 3 k then s
    else (s.stage 3 k i (putBits e 32 4 i)).mbAnswer m 0

/-- The staged word of a register. -/
def State.stagedWord (s : State) (key : Nat) : Nat :=
  (NatMap.get [] s.stagedRegs key).foldl (fun w e => putMask w e.mask e.val) (s.regW key)

/-- The class S bits of a write as they are staged (R598). -/
def State.stagedStore (s : State) (key mask val : Nat) : Nat :=
  match regAt key with
  | some d => d.store RegField.isS (s.stagedWord key) mask val
  | none => 0

/-- TBL_REG_STAGE. R375: only bits of class S fields that can be written. -/
def doTblRegStage (m : Nat) (s : State) : State :=
  s.mbRun m 0x0304 fun x i s =>
    let off := x.f 8 4
    let mask := x.f 0x0C 4
    if mask &&& stagedMask off ≠ mask then s.mbAnswer m 0x0103
    else if !s.reachOk i off then s.mbAnswer m 0x0202
    else if !s.commits.isEmpty then s
    else if mask = 0 then s.mbAnswer m 0
    else
      let v := s.stagedStore off mask (x.f 0x10 4)
      ((s.stageBits i off mask v).configEntry 2 off mask (v &&& mask)).mbAnswer m 0

/-- TBL_STATION. R132, R376: it is answered when the learning commit that carries it has been made. -/
def doTblStation (m : Nat) (s : State) : State :=
  s.mbRun m 0x0305 fun x i s =>
    let item : LearnItem := .static m (x.f 8 1 == 1) (x.f 0x0A 2) (x.f 0x0C 6) (x.f 9 1) i
    ({ s with learn := { s.learn with queue := s.learn.queue ++ [item] } } : State).mbBegin m

/-- TBL_COMMIT. R13, R174: the whole software set goes to the Intake as a commit marker. -/
def doTblCommit (m : Nat) (s : State) : State :=
  s.mbRun m 0x0306 fun _ _ s => ({ s with markers := s.markers ++ [⟨false, [(m, 0)]⟩] } : State).mbBegin m

/-- TBL_ABORT. R376: the edits of the instance that FOR names. -/
def doTblAbort (m : Nat) (s : State) : State :=
  s.mbRun m 0x0307 fun _ i s =>
    let s := s.discardEdits (· == i)
    s.mbAnswer m 0 (leBytes 2 s.shoalEdits)

/-- Where entry `i` of a table stands in its memory, in the active (0) or the staged copy. -/
def entryAddr (t copy i : Nat) : Nat :=
  match t with
  | 1 => shoalBase + 0x40000 * copy + 64 * i
  | 2 => actionAddr i + stagedOff * copy
  | 3 => streamAddr i + stagedOff * copy
  | 4 => stationAddr i + stagedOff * copy
  | _ => parseBase + 0x4000 * copy + 4 * i

/-- TBL_READ. R374, R389; stations are read by all (R244). -/
def doTblRead (m : Nat) (s : State) : State :=
  s.mbRun m 0x0308 fun x i s =>
    let t := x.f 8 1
    let copy := x.f 9 1
    let k := x.f 0x0A 2
    let n := if t = 1 then 64 else 16
    let e := if copy = 0 then NatMap.get 0 (tableOf t s.tables) k else s.stagedEntry t k
    if t ≠ 4 && s.entryOwner t k ≠ i then s.mbAnswer m 0x0202
    else
      let bad := (s.badGranules (entryAddr t copy k) n).any fun g => g.2 ≠ 1
      let s := if t = 1 && copy = 0 then s.shoalChk k else (s.rdChk (entryAddr t copy k) n (x.who m i)).1
      if bad then s.mbAnswer m 0x0301 else s.mbAnswer m 0 (leBytes n e)

/-- STAGED_RELOAD_DONE. R175: the staged copy has been reloaded from the new active set; the commands that asked for the
commit are answered, and staging writes that waited join the next set. -/
def doStagedReloadDone (s : State) : State :=
  match s.commits with
  | [] => s
  | c :: rest =>
    if !c.takenOver then s
    else
      let late := if rest.isEmpty then s.lateStages else []
      let s := { s with commits := rest, lateStages := if rest.isEmpty then [] else s.lateStages }
      let s := late.foldl (fun s r => s.stageBits 0 r.1 r.2.1 r.2.2) s
      c.askers.foldl (fun s a =>
        if 16 < a.1 then s.destroyStep (a.1 - 16)
        else match (s.mbAt a.1).cmd with
        | none => s
        | some x =>
          if x.op = 0x0306 then s.mbAnswer a.1 0 (leBytes 6 c.epoch)
          else if x.op = 0x0305 then s.mbAnswer a.1 0 (leBytes 2 a.2)
          else s) s

/-- TBL_SHOAL_STAGE. -/
def execTblShoalStage (m : Fin 16) (s : State) : Host.Outcome State Fault Refusal := .next (doTblShoalStage m s)
/-- TBL_ACTION_STAGE. -/
def execTblActionStage (m : Fin 16) (s : State) : Host.Outcome State Fault Refusal := .next (doTblActionStage m s)
/-- TBL_STREAM_STAGE. -/
def execTblStreamStage (m : Fin 16) (s : State) : Host.Outcome State Fault Refusal := .next (doTblStreamStage m s)
/-- TBL_REG_STAGE. -/
def execTblRegStage (m : Fin 16) (s : State) : Host.Outcome State Fault Refusal := .next (doTblRegStage m s)
/-- TBL_STATION. -/
def execTblStation (m : Fin 16) (s : State) : Host.Outcome State Fault Refusal := .next (doTblStation m s)
/-- TBL_COMMIT. -/
def execTblCommit (m : Fin 16) (s : State) : Host.Outcome State Fault Refusal := .next (doTblCommit m s)
/-- TBL_ABORT. -/
def execTblAbort (m : Fin 16) (s : State) : Host.Outcome State Fault Refusal := .next (doTblAbort m s)
/-- TBL_READ. -/
def execTblRead (m : Fin 16) (s : State) : Host.Outcome State Fault Refusal := .next (doTblRead m s)
/-- STAGED_RELOAD_DONE. -/
def execStagedReloadDone (s : State) : Host.Outcome State Fault Refusal := .next (doStagedReloadDone s)

end Sys2Proof.Machine
end

