-- ==== Sys2Proof/Machine/MbInst.lean ====
section
/-! DEFINITION. The instance commands, and the events of an instance reset and of a host reset (spec/11 Table 11.6; spec/13
R416 to R422, R435 to R438; spec/17 R534). -/
namespace Sys2Proof.Machine

/-! ## The QUOTA block (Table 13.5) -/

/-- A region of 256-word blocks is in range. -/
def blocksOk (v : Nat) : Bool := bitsOf v 6 2 == 0 && bitsOf v 14 2 == 0 && decide (bitsOf v 0 6 + bitsOf v 8 6 ≤ 64)
/-- A range of IDs is in range; one of no IDs names nothing, whatever its first. -/
def idsOk (v : Nat) : Bool :=
  bitsOf v 12 4 == 0 && bitsOf v 28 4 == 0 &&
    ((idRange v).2 == 0 || (decide (1 ≤ (idRange v).1) && decide ((idRange v).1 + (idRange v).2 ≤ 4096)))

/-- R416, check 3. -/
def Instance.quotaOk (x : Instance) : Bool :=
  let drain := x.q 0x38 2
  (upTo 6).all (fun c => decide (x.q c 1 ≤ 32) && blocksOk (x.q (0x0C + 2 * c) 2)) &&
    x.q 0x1A 1 < 64 && x.q 0x1B 1 < 64 && x.q 0x20 1 < 32 && x.q 0x21 1 < 16 && x.q 0x22 2 == 0 &&
    idsOk (x.q 0x24 4) && idsOk (x.q 0x28 4) && decide (x.q 0x30 2 ≤ 2048) && decide (x.q 0x32 2 ≤ 768) &&
    decide (x.q 0x34 1 ≤ 192) && blocksOk (x.q 0x36 2) && (drain == 0 || (decide (100 ≤ drain) && decide (drain ≤ 50000))) &&
    x.q 0x3A 1 < 2 && x.q 0x3B 5 == 0

/-- The bitmap fields of a QUOTA block: offset, bytes, and the bits that name something. -/
def quotaMaps : List (Nat × Nat × Nat) :=
  (upTo 6).map (fun c => (6 + c, 1, 0xFF)) ++
    [(0x18, 1, 0xFF), (0x19, 1, 0xFF), (0x1A, 1, 0x3F), (0x1B, 1, 0x3F), (0x1C, 2, 0xFFFF), (0x1E, 1, 0xFF), (0x1F, 1, 0xFF),
      (0x20, 1, 0x1F), (0x21, 1, 0x0F)]

/-- Two stretches, each a first number and a count, have a number in common. -/
def stretchesMeet (a b : Nat × Nat) : Bool :=
  a.2 != 0 && b.2 != 0 && decide (a.1 < b.1 + b.2) && decide (b.1 < a.1 + a.2)

/-- First block and count of a region. -/
def blockRange (v : Nat) : Nat × Nat := (bitsOf v 0 6, bitsOf v 8 6)

/-- R416, check 4: two quotas name a resource in common. -/
def quotasMeet (x y : Instance) : Bool :=
  (quotaMaps.any fun f => x.q f.1 f.2.1 &&& y.q f.1 f.2.1 != 0) ||
    (upTo 6).any (fun c => stretchesMeet (blockRange (x.q (0x0C + 2 * c) 2)) (blockRange (y.q (0x0C + 2 * c) 2))) ||
    stretchesMeet (blockRange (x.q 0x36 2)) (blockRange (y.q 0x36 2)) ||
    stretchesMeet (idRange (x.q 0x24 4)) (idRange (y.q 0x24 4)) || stretchesMeet (idRange (x.q 0x28 4)) (idRange (y.q 0x28 4))

/-- The tenants that are not ABSENT. -/
def State.tenants (s : State) : List (Nat × Instance) := s.inst.filter fun e => e.1 != 0 && e.2.state != .absent

/-- R416: the checks of INST_CREATE, in order. -/
def State.createCheck (s : State) (i : Nat) (x : Instance) : Nat :=
  if (s.instAt i).state ≠ .absent then 0x0207
  else if s.numVfs < i then 0x0202
  else if !x.quotaOk then 0x0103
  else if s.tenants.any fun e => quotasMeet x e.2 then 0x0202
  else if x.banks.any s.learningBank then 0x0205
  else if (upTo 6).any fun c => decide (32 < s.tenants.foldl (fun a e => a + e.2.q c 1) (x.q c 1)) then 0x0201
  else 0

/-- R416: the instance gets its resources. -/
def State.create (s : State) (i : Nat) (x : Instance) : State :=
  let s := x.banks.foldl (fun s b => (s.setFld (shBank b) 8 4 i).configEntry 1 (shBank b) 0xF00 (i * 0x100)) s
  let s := (s.setFld (bfIq i) 16 12 (x.q 0x30 2)).configEntry 1 (bfIq i) 0x0FFF0000 (x.q 0x30 2 * 0x10000)
  let s := { s with inst := NatMap.put {} s.inst i x }
  s.sendInst i

/-- INST_CREATE. -/
def doInstCreate (m : Nat) (s : State) : State :=
  s.mbRun m 0x0201 fun c _ s =>
    let i := c.f 8 1
    let x : Instance := { state := .active, direct := c.f 9 1 == 1, quota := c.f 0x10 64 }
    let st := s.createCheck i x
    if st ≠ 0 then s.mbAnswer m st else (s.create i x).mbAnswer m 0

/-! ## Reset and destruction -/

/-- INST_RESET and INST_DESTROY start a reset. R435, R437, R438. -/
def doInstEnd (m op : Nat) (s : State) : State :=
  s.mbRun m op fun c _ s =>
    let i := c.f 8 1
    if (s.instAt i).state = .absent then s.mbAnswer m 0x0208
    else if s.resetting i then s.mbAnswer m 0x0107
    else (s.mbBegin m).instReset i (c.f 9 1 == 1) (some m) (op == 0x0202)

/-- INST_DRAIN_EXPIRY. R435, Table 13.10, step 2; a follower takes the lead's outcomes (R455). -/
def doInstDrainExpiry (i : Nat) (s : State) : State :=
  let x := s.instAt i
  match x.reset with
  | none => s
  | some r =>
    if r.stopped then s
    else if s.followsLog then s.instFollow i
    else if r.squash || s.now < r.since + x.drainNs then s else s.instSquash i

/-- INST_RESET_COMPLETE. R403, R435, R437: steps 3 to 7 once no cell of the instance is open, the last of them once the
commands of its mailbox that were taken up have been answered (R386); for an instance that is being destroyed, and whose
reset has completed, the first commit of R437. -/
def doInstResetComplete (i : Nat) (s : State) : State :=
  if !s.ohmythUp then s
  else match (s.instAt i).reset with
    | some r =>
      let s := if r.stopped || !(s.instCells i).isEmpty then s else if s.followsLog then s.instFollow i else s.instSquash i
      let stopped := match (s.instAt i).reset with | some r => r.stopped | none => false
      if stopped && s.instRestarted i && !s.mbTaken.contains i then s.instDone i else s
    | none =>
      if (s.instAt i).state == .destroying && (s.instAt i).destroyed == 0 && !s.destroyWaits i && !s.followsLog then s.destroyStep i
      else s

/-- R412: a function-level reset of VF `i`, or a host reset, starts an instance reset by the method in its quota, or joins
one that runs (R438). -/
def State.flr (s : State) (i : Nat) : State :=
  let x := s.instAt i
  if x.state = .active then s.instReset i (bitAt (x.q 0x3A 1) 0) none false else s

/-- VF_FLR. R412, R438. -/
def doVfFlr (i : Nat) (s : State) : State :=
  if i = 0 || s.numVfs < i then s else ({ s with pcie := NatMap.del s.pcie i } : State).flr i

/-! ## Host reset (R534, R541) -/

/-- R534: no reset or destruction answers mailbox `m` any more. -/
def State.dropAsker (s : State) (m : Nat) : State :=
  let drop (x : Instance) : Instance :=
    { x with reset := x.reset.map fun r => { r with asker := if r.asker = some m then none else r.asker } }
  { s with inst := s.inst.map fun e => (e.1, drop e.2) }

/-- The mailbox number of a command that ended without a response: no mailbox has it. -/
abbrev noMailbox : Nat := 32

/-- What the device does on its own goes on without the mailbox that asked for it. -/
def Ford.dropAsker (f : Ford) (m : Nat) : Ford :=
  { f with
    handover := f.handover.map fun h => { h with asker := if h.asker = m then noMailbox else h.asker }
    entry := f.entry.map fun e => { e with asker := if e.asker = m + 1 then noMailbox else e.asker } }

/-- R534: every command of mailbox `m` ends without a response: its tests end, and its waiting tickets are withdrawn. -/
def State.endMailbox (s : State) (m : Nat) : State :=
  let s := ((s.mbForget m).dropAsker m).bfHostEnd m
  let f := s.ford.dropAsker m
  let w := s.wd
  let w : Withdraw := { w with state := w.state.map fun e => (e.1, if e.2 = .testing then .withdrawn else e.2) }
  { s with
    mb := NatMap.del s.mb m, mbQueue := s.mbQueue.filter (· != m), mbTaken := s.mbTaken.filter (· != m)
    ford := f, wd := w }

/-- I0's queues are disabled. -/
def State.i0QueuesOff (s : State) : State :=
  (upTo 8).foldl (fun s q =>
    ((s.setFld (sqKey 0 q + 0x0C) 0 1 0).setFld (cqKey 0 q + 0x0C) 0 1 0).setSq 0 q { s.sqAt 0 q with fetched := [] }) s

/-- HOST_RESET. R534; in BOOT it acts on the PCIe core only (R541). -/
def doHostReset (s : State) : State :=
  let s := { s with pcie := [], numVfs := 0, linkSpeed := 0, linkWidth := 0 }
  if s.mode = .boot then s
  else
    let s := s.tenants.foldl (fun s e => s.flr e.1) s
    let s := (s.i0QueuesOff.endMailbox 0).bump 0x00370028
    { s with sup := { s.sup with linkWait := true } }

/-- PCIE_LINK_UP. R529, R534. In BOOT it follows the PLL's lock. -/
def doPcieLinkUp (speed width : Nat) (s : State) : State :=
  if s.mode = .boot && !s.tb.running then s
  else { s with linkSpeed := speed, linkWidth := width, sup := { s.sup with linkWait := false } }

/-! ## Status and grants -/

/-- A QUOTA block with some of its fields replaced: offset, bytes, value. -/
def putFields (q : Nat) (l : List (Nat × Nat × Nat)) : Nat := l.foldl (fun q f => putBits q (8 * f.1) (8 * f.2.1) f.2.2) q

/-- Channels bound to instance `i` among those of cluster `c`, or the device channels (7). -/
def State.boundCount (s : State) (i c : Nat) : Nat :=
  if c = 7 then ((upTo 192).filter fun k => s.boundShown i 7 (0x300 + k)).length
  else ((upTo 768).filter fun k => s.boundShown i c k).length

/-- USAGE of INST_STATUS. I0's bitmaps are the pool's; its other fields, which would hold a quota, are open values. -/
def State.usage (s : State) (i : Nat) : Nat :=
  let x := s.instAt i
  let base := if i ≠ 0 then x.quota
    else putFields (Config.poolUsage s.fresh).toNat (quotaMaps.map fun f =>
      (f.1, f.2.1, s.tenants.foldl (fun a e => a - (a &&& e.2.q f.1 f.2.1)) f.2.2))
  putFields base ((upTo 6).map (fun c => (c, 1, s.threadsFor i c)) ++
    [(0x22, 2, 0), (0x2C, 4, grantPages x.grants), (0x30, 2, (s.bf.dir.filter fun e => e.inst == i).length),
      (0x32, 2, (upTo 6).foldl (fun a c => max a (s.boundCount i c)) 0), (0x34, 1, s.boundCount i 7), (0x3B, 5, 0)])

/-- INST_STATUS. R416, Table 13.5. -/
def doInstStatus (m : Nat) (s : State) : State :=
  s.mbRun m 0x0204 fun c f s =>
    let i := c.f 8 1
    let x := s.instAt i
    if f ≠ 0 && i ≠ f then s.mbAnswer m 0x0202
    else if x.state = .absent then s.mbAnswer m 0x0208
    else
      s.tick.mbAnswer m 0 (leBytes 1 x.state.code ++ leBytes 1 (b2n x.direct) ++ List.replicate 6 0 ++ leBytes 64 (s.usage i))

/-- INST_GRANT. R422. -/
def doInstGrant (m : Nat) (s : State) : State :=
  s.mbRun m 0x0205 fun c _ s =>
    let i := c.f 8 1
    let x := s.instAt i
    let add := c.f 9 1 == 1
    let rd := bitAt (c.f 0x0A 1) 0
    let wr := bitAt (c.f 0x0A 1) 1
    let base := c.f 0x10 5
    let n := c.f 0x18 4
    let l := grantChange x.grants add rd wr (base / 4096) n
    if x.state = .absent then s.mbAnswer m 0x0208
    else if 0x800000000 ≤ base || !s.mapOk .engine base (4096 * n) then s.mbAnswer m 0x0105
    else if 64 < l.length || x.q 0x2C 4 < grantPages l then s.mbAnswer m 0x0201
    else ((s.modInst i fun x => { x with grants := l }).sendGrant i add rd wr (base / 4096) n).mbAnswer m 0

/-- INST_CREATE. -/
def execInstCreate (m : Fin 16) (s : State) : Host.Outcome State Fault Refusal := .next (doInstCreate m s)
/-- INST_DESTROY. -/
def execInstDestroy (m : Fin 16) (s : State) : Host.Outcome State Fault Refusal := .next (doInstEnd m 0x0202 s)
/-- INST_RESET. -/
def execInstReset (m : Fin 16) (s : State) : Host.Outcome State Fault Refusal := .next (doInstEnd m 0x0203 s)
/-- INST_DRAIN_EXPIRY. -/
def execInstDrainExpiry (i : Fin 16) (s : State) : Host.Outcome State Fault Refusal := .next (doInstDrainExpiry i s)
/-- INST_RESET_COMPLETE. -/
def execInstResetComplete (i : Fin 16) (s : State) : Host.Outcome State Fault Refusal := .next (doInstResetComplete i s)
/-- VF_FLR. -/
def execVfFlr (i : Fin 16) (s : State) : Host.Outcome State Fault Refusal := .next (doVfFlr i s)
/-- HOST_RESET. -/
def execHostReset (s : State) : Host.Outcome State Fault Refusal := .next (doHostReset s)
/-- PCIE_LINK_UP. -/
def execPcieLinkUp (speed : Fin 4) (width : Fin 5) (s : State) : Host.Outcome State Fault Refusal :=
  .next (doPcieLinkUp speed width s)
/-- INST_STATUS. -/
def execInstStatus (m : Fin 16) (s : State) : Host.Outcome State Fault Refusal := .next (doInstStatus m s)
/-- INST_GRANT. -/
def execInstGrant (m : Fin 16) (s : State) : Host.Outcome State Fault Refusal := .next (doInstGrant m s)

end Sys2Proof.Machine
end

