-- ==== Sys2Proof/Machine/ResetOps.lean ====
section
/-! DEFINITION. The device reset and the commands that start one (spec/17 R532, R533, Table 17.6; spec/18 R555, R556). -/
namespace Sys2Proof.Machine

/-- A register of the boot record, which the configuration store keeps (R528). -/
def bootRecordKey (k : Nat) : Bool := decide (0x003C0100 ≤ k) && decide (k < 0x003C011C)


/-- What a reset does not change at the pins: the levels that the board drives. -/
def Tideway.pins (t : Tideway) : Tideway :=
  { enc := (upTo 16).foldl (fun m n => let x := NatMap.get {} t.enc n; NatMap.put {} m n { a := x.a, b := x.b }) []
    gpio := (upTo 6).foldl (fun m n => let x := NatMap.get {} t.gpio n; NatMap.put {} m n { raw := x.raw, input := x.raw }) []
    uart := (upTo 4).foldl (fun m n => let x := NatMap.get {} t.uart n; NatMap.put {} m n { ctsStop := x.ctsStop }) []
    par := { busy := t.par.busy } }

/-- R532, R533, R478, R501, R566, R596: a device reset. Every block takes its reset state. The flash, the fuses, the Viveram
store, TWIN_ID and memory are kept, as are what is outside: the pins, the partner's line, HOT_N and the commands that wait.
VV_BOOTS counts it; a debug token is lost. -/
def State.deviceReset (s : State) (cause : Nat) : State :=
  { State.reset with
    pending := s.pending
    now := s.now
    fresh := s.fresh
    out := s.out
    regs := NatMap.put 0 (s.regs.filter fun r => bootRecordKey r.1) svRstCause cause
    viv := { s.viv with boots := satAdd 0xFFFFFFFF s.viv.boots 1 }
    sup := { flash := s.sup.flash }
    ford := { twinId := s.ford.twinId, peerLine := s.ford.peerLine }
    tap := { s.tap with token := false }
    hotN := s.hotN
    td := s.td.pins
    mem := s.mem
    ecc := s.ecc }

/-- R586, R594: programming that a power-on reset cuts short leaves its target partly programmed. -/
def Tap.cut (t : Tap) (bits : Nat) : Tap :=
  match t.prog with
  | none => t
  | some (target, v, _) =>
    let t : Tap := { t with prog := none }
    if target = 0 then { t with keyHash := if v &&& bits = 0 then v else v &&& bits } else { t with dbgOpen := true }

/-- POWER_ON_RESET. R532, R340: TWIN_ID is sampled, DRAM has lost its contents, and the fuses will be read again. -/
def doPowerOnReset (twinId : Bool) (s : State) : State :=
  let t := s.tap.cut (Config.fuseCut s.fresh).toNat
  let s := s.tick.deviceReset 1
  { s with
    mem := s.mem.filter fun c => 0x800000000 ≤ c.1
    ecc := s.ecc.filter fun e => 0x100000000 ≤ e.1
    ford := { s.ford with twinId := b2n twinId }
    tap := { keyHash := t.keyHash, dbgOpen := t.dbgOpen, hashAtBoot := t.hashAtBoot } }

/-- SYSRST_N. R532. -/
def doSysrstN (s : State) : State := s.deviceReset 2
/-- BROWN_OUT. R66, R593. -/
def doBrownOut (s : State) : State := s.deviceReset 3
/-- PF_FLR. R412. -/
def doPfFlr (s : State) : State := s.deviceReset 4

/-- DEV_RESET_START. Table 11.5. -/
def doDevResetStart (s : State) : State :=
  match s.sup.resetAt with
  | some t => if t ≤ s.now then s.deviceReset 5 else s
  | none => s

/-- 600 s in ns. -/
abbrev streakSpan : Nat := 600000000000

/-- FATAL_ESCALATION. R555, R556: DELAY_MS after the record; off in BOOT, and while STREAK is 3 or more. -/
def doFatalEscalation (s : State) : State :=
  match s.errors.fatalAt with
  | none => s
  | some t =>
    let delay := 1000000 * min 1000 (s.fld 0x003D0200 1 10)
    if !s.bit 0x003D0200 0 || s.mode = .boot || 3 ≤ s.viv.streak || s.now < t + delay then s
    else
      let k := if t ≤ s.errors.bootEnd + streakSpan then satAdd 15 s.viv.streak 1 else 1
      ({ s with viv := { s.viv with streak := k } } : State).deviceReset 6

/-- STREAK_CLEAR. R556. -/
def doStreakClear (s : State) : State :=
  if s.ohmythUp && s.mode != .boot && s.errors.fatalAt.isNone && decide (s.errors.bootEnd + streakSpan ≤ s.now) then
    { s with viv := { s.viv with streak := 0 } }
  else s

/-- POWER_ON_RESET. -/
def execPowerOnReset (twinId : Bool) (s : State) : Host.Outcome State Fault Refusal := .next (doPowerOnReset twinId s)
/-- SYSRST_N. -/
def execSysrstN (s : State) : Host.Outcome State Fault Refusal := .next (doSysrstN s)
/-- BROWN_OUT. -/
def execBrownOut (s : State) : Host.Outcome State Fault Refusal := .next (doBrownOut s)
/-- PF_FLR. -/
def execPfFlr (s : State) : Host.Outcome State Fault Refusal := .next (doPfFlr s)
/-- DEV_RESET_START. -/
def execDevResetStart (s : State) : Host.Outcome State Fault Refusal := .next (doDevResetStart s)
/-- FATAL_ESCALATION. -/
def execFatalEscalation (s : State) : Host.Outcome State Fault Refusal := .next (doFatalEscalation s)
/-- STREAK_CLEAR. -/
def execStreakClear (s : State) : Host.Outcome State Fault Refusal := .next (doStreakClear s)

end Sys2Proof.Machine
end

