-- ==== Sys2Proof/Machine/Boot.lean ====
section
/-! DEFINITION. The steps of BOOT (spec/17 R524 to R531, Table 17.4; spec/09 R307, R308, R339, R340; spec/12 R409; spec/16
R520). -/
namespace Sys2Proof.Machine

/-- What the configuration store holds beside the boot record; the specification does not give its layout: words of Sluice
registers, table entries as (table, entry, value), class S register bits as (register, mask, value), recovery functions as
(number, history length, timeout), and Ohmyth's gPTP settings: the active domain if there is one, the monitored domain, and the
ports whose roles are configured from outside, as (port, role in the active domain, role in the monitored domain). -/
structure StoreConfig where
  active : Option (Fin 256)
  monitored : Fin 256
  roles : List (Fin 6 × Fin 4 × Fin 4)
  sluice : List (Nat × Nat)
  entries : List (Nat × Nat × Nat)
  regs : List (Nat × Nat × Nat)
  frer : List (Nat × Nat × Nat)
  deriving Inhabited

end Sys2Proof.Machine

/-- The configuration that the bytes of the configuration store hold. -/
opaque Sys2Proof.Config.storeConfig : List Host.Cell → Sys2Proof.Machine.StoreConfig

namespace Sys2Proof.Machine

/-- SV_BOOT. -/
abbrev svBoot : Nat := 0x0037001C

/-- The next step of BOOT (Table 17.4); a FATAL record ends its progress (R555). -/
def State.bootAt (s : State) (k : Nat) : Bool := s.mode == .boot && s.sup.stage == k && s.errors.fatalAt.isNone

/-- The step has been done. -/
def State.bootNext (s : State) : State := { s with sup := { s.sup with stage := s.sup.stage + 1 } }

/-- The configuration store's contents. -/
def State.storeConfig (s : State) : StoreConfig :=
  Config.storeConfig (s.mem.filter fun c => decide (cfgStoreAddr ≤ c.1) && decide (c.1 < bbxAddr))

/-- BOOT_START. R409, R527, R529: the Supervisor is at microaddress 0x0000, and after a power-on reset the fuses are read. -/
def doBootStart (s : State) : State :=
  if !s.bootAt 0 then s
  else
    let t := s.tap
    let s := if t.unread then { s with tap := { t with hashAtBoot := t.keyHash, unread := false } } else s
    let s := { s with sup := { s.sup with upc := 0, inPatch := false, noMatch := false } }
    (if s.tap.hashAtBoot = 0 then s.setBit svBoot 3 else s).bootNext

/-- The image in a slot is booted. -/
def State.bootImage (s : State) (slot : Nat) (fallback : Bool) (i : BootImage) : State :=
  let s := (s.setFld svBoot 0 1 slot).setFld svBoot 1 1 (b2n fallback)
  ({ s with sup := { s.sup with version := i.version, ohmyth := i.ohmyth } } : State).bootNext

/-- IMAGE_VERIFIED. R525, R526: the preferred slot, then the other; with neither valid the device stays in BOOT. It follows the
PLL's lock (R70). -/
def doImageVerified (s : State) : State :=
  if !s.bootAt 1 || !s.tb.running then s
  else
    let pref := s.fld 0x003C0100 0 1
    match s.imageIn true pref, s.imageIn true (1 - pref) with
    | some i, _ => s.bootImage pref false i
    | none, some i => s.bootImage (1 - pref) true i
    | none, none => (s.setBit svBoot 2).record { block := 0x0F, code := 0x00B4, sev := 4 }

/-! ## The configuration store and the Sluice -/


/-- R582: the record of alarm `k`. -/
def State.alarmRecord (s : State) (k : Nat) : State :=
  s.record { block := 0x16, code := 0x00E0, sev := 3, unit := k }

/-- R596: alarms set before the configuration store has loaded make their records. -/
def State.alarmsWaiting (s : State) : State :=
  let w := s.hl.waiting
  let s := { s with hl := { s.hl with waiting := 0 } }
  ((upTo 8).filter (bitAt w)).foldl State.alarmRecord s

/-- R59, R148: Ohmyth's gPTP settings. -/
def State.gptpConfig (s : State) (x : StoreConfig) : State :=
  let s := { s with tb := { s.tb with
    actConfigured := x.active.isSome, actDomain := (x.active.getD 0).val, monDomain := x.monitored.val } }
  x.roles.foldl (fun s r =>
    s.modGptp r.1.val fun g => { g with external := true, roles := (r.2.1.val, r.2.2.val) }) s

/-- CONFIG_STORE_LOADED. R108, R528, R311: Tideway's outputs take their safe states, and the Sluice starts. `ok` is whether the
store's check passes. -/
def doConfigStoreLoaded (ok : Bool) (s : State) : State :=
  if !s.bootAt 2 then s
  else
    let s := if ok then s
      else
        let s := { s with regs := s.regs.filter fun r => !bootRecordKey r.1 }
        (s.setBit svBoot 4).record { block := 0x15, code := 0x00C0, sev := 3 }
    let s := tidewayChannels.foldl State.chanSafe { s with td := { s.td with loaded := true } }
    let s := s.storeConfig.sluice.foldl (fun s r =>
      if r.1 = slCtl || r.1 = slGeom 0 || r.1 = slGeom 1 then (s.putReg r.1 0xFFFFFFFF r.2).1 else s) s
    ((s.checkGeometry.gptpConfig s.storeConfig).alarmsWaiting).bootNext

/-- R321, R323: the ranks of a trained channel begin their refresh and calibration periods. -/
def State.startRanks (s : State) (c : Nat) : State :=
  (upTo (s.dramK c + 1)).foldl (fun s r =>
    s.setRank c r { due := s.now + s.refreshPeriod c, zqAt := s.now, driftAt := s.now }) s

/-- R339: the end of a channel's training. -/
def State.trainChannel (s : State) (c : Nat) (failed : Bool) : State :=
  if !s.chanWanted c then s
  else if failed then
    ((s.setBit slStat (2 + c)).setBit slErr 2).record { block := 0x0D, code := 0x0080, sev := 3, unit := c }
  else (s.setBit slStat c).startRanks c

/-- DRAM_TRAINED. R339: `fail0` and `fail1` say which channel failed a step. -/
def doDramTrained (fail0 fail1 : Bool) (s : State) : State :=
  if !s.bootAt 3 then s else ((s.trainChannel 0 fail0).trainChannel 1 fail1).bootNext

/-- A byte that BOOT does not zero: the Viveram store, and DRAM unless `dram`. -/
def keptAt (dram : Bool) (a : Nat) : Bool :=
  (!dram && decide (a < 0x800000000)) || (decide (cfgStoreAddr ≤ a) && decide (a < supRamAddr))

/-- A granule whose check bits BOOT does not write: those bytes', and the control ROM's. -/
def keptGranule (dram : Bool) (g : Nat) : Bool :=
  keptAt dram (8 * g) || (decide (ctlStoreBase ≤ 8 * g) && decide (8 * g < ctlStoreBase + 8 * 0x4000))

/-- DRAM_ZEROED. R340, R341. -/
def doDramZeroed (s : State) : State :=
  if !s.bootAt 4 then s
  else
    let dram := s.zeroesDram
    ({ s with mem := s.mem.filter fun c => keptAt dram c.1, ecc := s.ecc.filter fun e => keptGranule dram e.1 } : State).bootNext

/-- OHMYTH_START. R399, R409: the image's patch set loads without a window, and READY sets. -/
def doOhmythStart (s : State) : State :=
  if !s.bootAt 5 || s.sup.halted || s.sup.stopped then s
  else match s.imageIn true (s.fld svBoot 0 1) with
    | none => s
    | some i =>
      let s := match i.patch with | some p => s.loadPatch p | none => s
      let s := s.wrBytes supRamAddr i.code
      let frer := s.storeConfig.frer.foldl (fun m f =>
        NatMap.mod {} m (f.1 % 64) fun x => { x with histLen := f.2.1, timeout := f.2.2 }) s.frer
      let e := s.errors
      ({ s with
        frer
        sup := { s.sup with running := true, codeLen := i.code.length }
        errors := { e with svwdSince := s.now } } : State).bootNext

/-! ## The end of BOOT (R520, R531) -/

/-- The register and bit of the retire mask for a block, in the layout of its HL_WD_ register or HN_WD. -/
def retireBit (kind index : Nat) : Nat × Nat :=
  let r := wdReg kind index
  (if r.1 = 0x001A0020 then 0x003C0114 else 0x003C0000 + r.1 % 0x10000, r.2)

/-- R520: the blocks that the retire mask names are withdrawn; a Kettle unit, where its groups are (R297). -/
def State.retire (s : State) : State :=
  wdBlocks.foldl (fun s b =>
    let r := retireBit b.1 b.2
    if s.bit r.1 r.2 && (b.1 != 4 || s.kettleFree b.2) then s.wdFinish b.1 b.2 else s) s

/-- R181: the tables that the configuration store holds are staged, and HN_CTL.EN with them; a marker asks for the first
commit. -/
def State.firstCommit (s : State) : State :=
  let x := s.storeConfig
  let s := x.entries.foldl (fun s e => s.stageEntry e.1 (e.2.1 % 4096) 0 (e.2.2 % 2 ^ (32 * tableWords e.1))) s
  let s := x.regs.foldl (fun s r => s.stageBits 0 r.1 (r.2.1 &&& stagedMask r.1) r.2.2) s
  let s := s.stageBits 0 hnCtl 1 1
  { s with markers := s.markers ++ [⟨false, []⟩] }

/-- R531, R556: BOOT ends in the mode that VV_START names, or in HOLD. -/
def State.bootDone (s : State) : State :=
  let need := min 2 (s.fld 0x003C0104 4 2)
  let have_ := ((upTo 2).filter s.chanUp).length
  let s := if have_ < need then s.setBit svBoot 5 else s
  let e := s.errors
  let s := ({ s with errors := { e with bootEnd := s.now } } : State).bootNext
  let start := s.fld 0x003C0104 0 3
  let target : Mode := if start = 1 then .commission else .lead
  if (start = 1 || start = 2) && s.viv.streak < 3 && s.modeOk target then s.beginEntry 0 target else s.setMode .hold

/-- BOOT_END. R181, R520, R531. Its first step withdraws the retired blocks and asks for the first commit; its second, once
that commit has been made, ends BOOT. -/
def doBootEnd (s : State) : State :=
  if !s.ohmythUp then s
  else if s.bootAt 6 then s.retire.firstCommit.bootNext
  else if s.bootAt 7 && s.markers.isEmpty && s.commits.isEmpty then s.bootDone
  else s

/-- BOOT_START. -/
def execBootStart (s : State) : Host.Outcome State Fault Refusal := .next (doBootStart s)
/-- IMAGE_VERIFIED. -/
def execImageVerified (s : State) : Host.Outcome State Fault Refusal := .next (doImageVerified s)
/-- CONFIG_STORE_LOADED. -/
def execConfigStoreLoaded (ok : Bool) (s : State) : Host.Outcome State Fault Refusal := .next (doConfigStoreLoaded ok s)
/-- DRAM_TRAINED. -/
def execDramTrained (fail0 fail1 : Bool) (s : State) : Host.Outcome State Fault Refusal := .next (doDramTrained fail0 fail1 s)
/-- DRAM_ZEROED. -/
def execDramZeroed (s : State) : Host.Outcome State Fault Refusal := .next (doDramZeroed s)
/-- OHMYTH_START. -/
def execOhmythStart (s : State) : Host.Outcome State Fault Refusal := .next (doOhmythStart s)
/-- BOOT_END. -/
def execBootEnd (s : State) : Host.Outcome State Fault Refusal := .next (doBootEnd s)

end Sys2Proof.Machine
end

