-- ==== Sys2Proof/Machine/ErrorCmds.lean ====
section
/-! DEFINITION. The movement of error records to the error queues, and the repeat limit (spec/18 R544 to R553, R563). -/
namespace Sys2Proof.Machine

/-- R549: the capacity of instance `i`'s error queue. -/
def errCap (i : Nat) : Nat := if i = 0 then 256 else 64

/-- R548, R549: a record meant for instance `i`'s queue: it is counted, and queued where there is room, with the ERROR cause;
otherwise it is lost. -/
def State.queueRecord (s : State) (r : ErrRec) (i : Nat) : State :=
  let e := s.errors
  let q := NatMap.get [] e.queues i
  let e : Errors := { e with counts := NatMap.mod 0 e.counts (4 * i + r.sev - 1) (satAdd 0xFFFFFFFF · 1) }
  if q.length < errCap i then
    ({ s with errors := { e with queues := NatMap.put [] e.queues i (q ++ [r]) } } : State).cause i 11
  else ({ s with errors := e } : State).bump 0x003D0220

/-- Table 18.4: the instances whose queues a record goes to. -/
def State.recordQueues (s : State) (r : ErrRec) : List Nat :=
  if r.sev = 1 then [0]
  else if r.sev = 2 then if r.shared || r.inst = 0 then [0] else [0, r.inst]
  else (upTo 16).filter s.active

/-- Table 18.4: Ohmyth writes the record to the fault log: a DEVICE record that the collector has not written, and an
abandonment that R354 sends there. -/
def ErrRec.logged (r : ErrRec) (direct : Bool) : Bool := !direct && (r.sev == 3 || (r.sev == 2 && r.block == 0x0E && r.code == 0x0030))

/-! ## The repeat limit (R553) -/

/-- The withdrawable block whose memory an uncorrectable-error record names, as (KIND, INDEX): a cluster or a group. -/
def ErrRec.blockOf (r : ErrRec) : Option (Nat × Nat) :=
  let a := leAt r.detail 0 5
  if r.code ≠ 0x0002 || r.dkind ≠ 1 then none
  else match leAt r.detail 5 1 with
    | 1 | 3 => some (1, (a - 0x1001000000) / 0x100000)
    | 2 => some (1, a / 0x20000)
    | 4 => some (2, (a - 0x1002000000) / 0x40000)
    | _ => none

/-- R553: withdrawing the block would leave the last running Heron, an action or a launch without a block. -/
def State.lastBlock (s : State) (kind index : Nat) : Bool :=
  let others (n mask : Nat) : Bool := (upTo n).any fun k => bitAt mask k && k != index && s.runningBlock kind k
  match kind with
  | 1 => s.tables.action.any fun e => aeValid e.2 && bitAt (aeClusters e.2) index && !others 6 (aeClusters e.2)
  | 2 => s.ca.queue.any fun x => bitAt x.groups index && !others 8 x.groups
  | 3 => !others 16 0xFFFF
  | _ => false

/-- The number of a block's records in the running interval, this one included, and the counts after it. -/
def bumpUe : List (Nat × Nat × Nat) → Nat → Nat → Nat × List (Nat × Nat × Nat)
  | [], k, i => (1, [(k, i, 1)])
  | (k', i', n) :: l, k, i =>
    if k' = k && i' = i then (n + 1, (k', i', n + 1) :: l)
    else let (m, l) := bumpUe l k i; (m, (k', i', n) :: l)

/-- R553: Ohmyth counts a record, writes the DEVICE record at the limit, and with AUTO_WD withdraws the block. -/
def State.repeatLimit (s : State) (r : ErrRec) : State :=
  let lim := s.fld 0x003D0200 20 4
  match r.blockOf with
  | none => s
  | some (kind, i) =>
    if lim = 0 then s
    else
      let e := s.errors
      let gone := s.now - e.ueSince
      let e : Errors := if 1000000000 ≤ gone then { e with ueCounts := [], ueSince := s.now - gone % 1000000000 } else e
      let (n, l) := bumpUe e.ueCounts kind i
      let s := { s with errors := { e with ueCounts := l } }
      if n ≠ lim then s
      else
        let s := s.record { block := 0x16, code := 0x0042, sev := 3, unit := i }
        if s.bit 0x003D0200 16 && s.runningBlock kind i && !s.lastBlock kind i then s.wdStart kind i 0 else s

/-- RECORD_MOVE. R548, R549: Ohmyth moves the oldest record from the collector. -/
def doRecordMove (s : State) : State :=
  match s.errors.collector with
  | [] => s
  | (r, direct) :: rest =>
    if !s.ohmythUp then s
    else
      let e := s.errors
      let s := { s with errors := { e with collector := rest } }
      let s := if r.logged direct then s.faultLog r else s
      let s := (s.recordQueues r).foldl (fun s i => s.queueRecord r i) s
      s.repeatLimit r

/-- RECORD_MOVE. -/
def execRecordMove (s : State) : Host.Outcome State Fault Refusal := .next (doRecordMove s)

end Sys2Proof.Machine
end

