-- ==== Sys2Proof/Machine/Ford.lean ====
section
/-! DEFINITION. The commands of the Ford link, the Baton and the pair (spec/14 R443 to R478). -/
namespace Sys2Proof.Machine

/-! ## The Baton -/

/-- BATON_SETTLE. R448, R536: 1 µs after a claim the device holds the Baton, or a tie is resolved; a mode entry that has
waited 2 µs ends. -/
def doBatonSettle (s : State) : State :=
  let settled := match s.ford.claimAt with | some t => decide (t + 1000 ≤ s.now) | none => false
  let s := if !settled then s
    else if !s.ford.peerLine then s.batonHeld
    else
      let s := s.setBit fdEvt 7
      if s.ford.twinId = 1 then s.batonRelease else s.batonHeld
  match s.ford.entry with
  | some e => if e.since + 2000 ≤ s.now then s.entryFail e else s
  | none => s

/-- A claim that waits for both lines to be high (R448, R463, R466, R536). -/
def State.claimWaiting (s : State) : State :=
  if s.ford.entry.isSome || s.ford.takeover then s.batonClaim
  else if s.ford.handIn.isSome then (s.setWant true).batonClaim
  else s

/-- BATON_LINE_CHANGE. R448, R462, R466: the partner's line falls (`low`) or rises. -/
def doBatonLineChange (low : Bool) (s : State) : State :=
  let s := { s with ford := { s.ford with peerLine := low } }
  if low then
    if s.ford.holds then
      let s := s.setBit fdEvt 7
      if s.ford.twinId = 1 then s.loseBaton else s
    else s
  else s.claimWaiting.takeoverCheck

/-- R449: the keeper's conditions; the Weir answers its liveness probe. -/
def State.keeperOk (s : State) : Bool := s.want && s.driving && s.errors.fatalAt.isNone

/-- KEEPER_REFRESH. R449, R450, R542: every 10 µs the keeper refreshes the watchdog; when a condition fails it releases
the line. -/
def doKeeperRefresh (s : State) : State :=
  if !s.ford.holds then s
  else if !s.keeperOk then s.loseBaton
  else if s.passed 2 10000 then { s.stamp 2 with ford := { s.ford with keepAt := s.now } }
  else s

/-- BATON_WATCHDOG_EXPIRY. R449: 50 µs without a refresh release the line. -/
def doBatonWatchdogExpiry (s : State) : State :=
  if s.ford.holds && decide (s.ford.keepAt + 50000 ≤ s.now) then (s.setBit fdBaton 2).loseBaton else s

/-! ## The link and heartbeats -/

/-- FORD_LINK_UP. R444, R458, R513: both devices have PAIR_EN set; the partner's heartbeats carry `version`. -/
def doFordLinkUp (delay version : Nat) (s : State) : State :=
  if !s.bit fdCtl 0 || s.ford.link = 2 then s
  else if version ≠ 1 then ({ s with ford := { s.ford with link := 1 } } : State).setBit fdEvt 8
  else s.fordUp delay

/-- FORD_LINK_DOWN. R444: loss of block lock on either lane for 2 µs. -/
def doFordLinkDown (s : State) : State := s.fordDown

/-- Table 14.4: the heartbeat's body. -/
def State.heartbeatBody (s : State) : List Byte :=
  let next := if s.ford.role == .shadow || s.ford.role == .syncing then s.ford.nextRecord else s.nextGseq
  let bits := clampNat 10 24 (s.fld fdCtl 8 5)
  leBytes 1 s.ford.role.code ++ leBytes 1 s.mode.code ++
    leBytes 1 (b2n s.ford.holds + 2 * b2n s.ford.diverged + 4 * b2n s.eligible) ++ leBytes 1 1 ++ leBytes 8 s.tb.count ++
    leBytes 6 next ++ leBytes 6 ((s.ford.nextWindow + 2 ^ (48 - bits) - 1) % 2 ^ (48 - bits)) ++ leBytes 8 0

/-- HEARTBEAT_SEND. R446, R555: every 10 µs; a lead's are sent by its keeper. -/
def doHeartbeatSend (s : State) : State :=
  if s.ford.link ≠ 2 || !s.bit fdCtl 0 || s.errors.fatalAt.isSome || s.ford.hbStopped ||
      (s.ford.role == .lead && !s.ford.holds) || !s.passed 1 10000 then s
  else (s.stamp 1).fordSend 1 s.heartbeatBody

/-- The role that a heartbeat names. -/
def roleOf (k : Nat) : FordRole :=
  match k with
  | 0 => .none
  | 1 => .lead
  | 2 => .shadow
  | 3 => .syncing
  | 4 => .detached
  | _ => .unknown

/-- What this device takes its partner's role to be: a partner that has been detached stays so until a
resynchronisation, and one that has been told to synchronise is SYNCING until it is SHADOW. -/
def nextPeer (old new : FordRole) : FordRole :=
  if (old == .detached || old == .none || old == .unknown) && (new == .shadow || new == .syncing) then
    (if old == .detached then .detached else new)
  else if old == .syncing && (new == .none || new == .detached) then .syncing
  else new

/-- R458: the measured offset, and TALIGN. -/
def Ford.align (f : Ford) (tofs : Int) : Ford :=
  let good := if tofs.natAbs < 20 then min 16 (f.tofsGood + 1) else 0
  let bad := if 100 < tofs.natAbs then min 4 (f.tofsBad + 1) else 0
  { f with tofs, tofsGood := good, tofsBad := bad, talign := if 16 ≤ good then true else if 4 ≤ bad then false else f.talign }

/-- R466, step 6: the old lead sees the new one. -/
def State.handoverDone (s : State) (role : FordRole) : State :=
  match s.ford.handover with
  | some h =>
    if h.stage = 2 && role == .lead then
      let s := ({ s with ford := { s.ford with handover := none } } : State).setBit fdEvt 3
      s.mbAnswer h.asker 0 (leBytes 1 (b2n !h.holes))
    else s
  | none => s

/-- R468: the partner has become SHADOW. -/
def State.resyncDone (s : State) (role : FordRole) : State :=
  match s.ford.resync with
  | some m =>
    if role == .shadow && s.ford.peerRole == .shadow then
      ({ s with ford := { s.ford with resync := none } } : State).mbAnswer m 0 (leBytes 6 s.bt.g0)
    else s
  | none => s

/-- HEARTBEAT. R445, R446, R458, R461, R473. An acknowledgement that stands still while frames are old asks for their
retransmission. -/
def doHeartbeat (h : FordHdr) (body : List Byte) (s : State) : State :=
  let seen := s.ford.ackSeen
  match s.fordTake h with
  | none => s
  | some s =>
    if leAt body 3 1 ≠ 1 then ({ s with ford := { s.ford with link := 1 } } : State).setBit fdEvt 8
    else
      let role := roleOf (leAt body 0 1)
      let flags := leAt body 2 1
      let tofs : Int := (leAt body 4 8 + s.ford.delay : Nat) - (s.tb.count : Int)
      let fell := bitAt flags 1 && !bitAt s.ford.peerFlags 1
      let f := s.ford
      let f : Ford := { f with
        peerRole := nextPeer f.peerRole role, seenRole := role, peerFlags := flags, peerMode := leAt body 1 1, peerNext := leAt body 0x0C 6
        hbAt := some s.now, intervalAt := s.now, missed := 0 }
      let s := { s with ford := f.align tofs }
      let s := if fell && s.ford.role == .lead then s.cause 0 17 else s
      let s := ((s.handoverDone role).resyncDone role).weirRun
      let stuck := decide (seen = h.ack.toNat) && s.ford.ring.any fun x => decide (x.at_ + 10000 + 2 * s.ford.delay ≤ s.now)
      if stuck then s.fordResend else s

/-- HEARTBEAT_MISSED. R457, R462: a 10 µs interval ends without a valid heartbeat. -/
def doHeartbeatMissed (s : State) : State :=
  let f := s.ford
  let follows := f.role == .shadow || f.role == .syncing
  let leads := f.role == .lead && f.link == 2
  if !(follows || leads) || f.hbAt.isNone || s.now < f.intervalAt + 10000 then s
  else
    let s := { s with ford := { f with missed := f.missed + 1, intervalAt := f.intervalAt + 10000 } }
    let s := s.bump 0x003A0040
    if follows then s.takeoverCheck
    else if 3 ≤ s.ford.missed && s.partnerFollows then s.detachPartner true
    else s

/-- GATE_LIMIT_DETACH. R457: the oldest frame not acknowledged is older than GATE_US. -/
def doGateLimitDetach (s : State) : State :=
  let limit := 1000 * clampNat 5 100 (s.fld fdCtl 16 7)
  if s.ford.role == .lead && s.partnerFollows && s.ford.ring.any (fun f => decide (f.at_ + limit < s.now)) then
    s.detachPartner true
  else s

/-! ## What a follower receives -/

/-- The device follows its partner. -/
def State.following (s : State) : Bool := s.ford.role == .shadow || s.ford.role == .syncing

/-- Table 14.3: the records of an INGRESS body, at most `n`. -/
def ingressRecords : Nat → List Byte → List IngressRec
  | 0, _ => []
  | n + 1, l =>
    if l.length < 16 then []
    else
      let len := leAt l 14 2
      { gseq := leAt l 0 6, tstamp := leAt l 6 6, src := leAt l 12 2, payload := padTo len (l.drop 16) } ::
        ingressRecords n (l.drop (16 + roundUp 8 len))

/-- INGRESS. R453. -/
def doIngress (h : FordHdr) (body : List Byte) (s : State) : State :=
  match s.fordTake h with
  | none => s
  | some s =>
    let rs := ingressRecords body.length body
    match rs.getLast? with
    | none => s
    | some r =>
      if !s.following then s
      else { s with ford := { s.ford with records := s.ford.records ++ rs, nextRecord := mod48 (r.gseq + 1) } }

/-- Table 15.3: the entries of a DECISION or CONFIG body, at most `n`. -/
def dEntries : Nat → List Byte → List DEntry
  | 0, _ => []
  | n + 1, l =>
    let size := leAt l 1 1
    if l.length < size || size < 16 then []
    else
      let e : DEntry := { type := leAt l 0 1, size, master := leAt l 2 2, body := (l.drop 4).take (size - 4) }
      e :: dEntries n (l.drop size)

/-- R498: a shadow that records keeps the entries that it receives. -/
def State.keepEntries (s : State) (l : List DEntry) : State :=
  if s.records then { s with dlogOut := s.dlogOut ++ l } else s

/-- DECISION. R453, R454, R455, R485. -/
def doDecision (h : FordHdr) (body : List Byte) (s : State) : State :=
  match s.fordTake h with
  | none => s
  | some s =>
    if !s.following then s
    else
      let l := dEntries body.length body
      (({ s with dlogIn := s.dlogIn ++ l } : State).keepEntries l).weirRun

/-- CONFIG. R453. -/
def doConfig (h : FordHdr) (body : List Byte) (s : State) : State :=
  match s.fordTake h with
  | none => s
  | some s =>
    if !s.following then s
    else
      let l := dEntries body.length body
      ({ s with ford := { s.ford with configs := s.ford.configs ++ l } } : State).keepEntries l

/-- DIGEST. R461. -/
def doDigest (h : FordHdr) (body : List Byte) (s : State) : State :=
  match s.fordTake h with
  | none => s
  | some s =>
    let w := leAt body 0 6
    let d : Digest := { count := leAt body 6 4, sum := leAt body 0x10 8 }
    if !s.following then s
    else match s.ford.closed.find? fun x => x.1 == w with
      | some x => ({ s with ford := { s.ford with closed := NatMap.del s.ford.closed w } } : State).compareWindow w x.2 d
      | none => if w < s.ford.nextWindow then s else { s with ford := { s.ford with leads := NatMap.ins s.ford.leads w d } }

/-- DIGEST_WINDOW_CLOSE. R460, R461. -/
def doDigestWindowClose (s : State) : State := s.windowClose

/-- STATE. R468. -/
def doState (h : FordHdr) (body : List Byte) (s : State) : State :=
  match s.fordTake h with
  | none => s
  | some s =>
    if s.ford.role == .syncing && !s.ford.imageOk then { s with ford := { s.ford with imageIn := s.ford.imageIn ++ body } } else s

/-- R468, R511: the partner is asked to follow from g0; a PROG_DIGEST that differs is refused. -/
def State.resyncAsked (s : State) (g0 digest : Nat) : State :=
  if s.mode != .hold || !(s.ford.role == .none || s.ford.role == .detached) || !s.bit fdCtl 0 then s
  else if s.progDigest ≠ digest then s.fordSend 7 (Config.controlBytes .mismatch)
  else { s with
    dlogIn := []
    ford := { s.ford with
      role := .syncing, imageIn := [], imageOk := false, records := [], configs := [], nextRecord := g0, hbStopped := false } }

/-- R468, R469: the image has come whole: it is loaded, and the Timebase steps to the lead's. -/
def State.imageTaken (s : State) : State :=
  if s.ford.role != .syncing || s.ford.imageOk then s
  else
    let x := Config.imageOf s.ford.imageIn
    let records := s.ford.records
    let next := s.ford.nextRecord
    let count := (s.tb.count : Int) + s.ford.tofs
    let s := s.loadImage x count
    let stepped := (s.tb.count : Int) == count
    let f : Ford := { s.ford with
      records, nextRecord := next, imageIn := [], imageOk := true, tofs := if stepped then 0 else s.ford.tofs
      lag := (count - x.tb.count).toNat }
    { s with ford := f }

/-- CONTROL. R457, R466, R468, R471, R511. -/
def doControl (h : FordHdr) (msg : FordMsg) (s : State) : State :=
  match s.fordTake h with
  | none => s
  | some s =>
    match msg with
    | .detach =>
      if s.following then s.goDetached
      else if s.ford.role == .lead && s.partnerFollows then s.detachPartner false
      else s
    | .resync g0 digest => s.resyncAsked g0.toNat digest.toNat
    | .mismatch =>
      if s.ford.resync.isSome then
        ({ s with ford := { s.ford with peerRole := .none } } : State).resyncFail 0x0601 |>.weirRun
      else s
    | .imageEnd => s.imageTaken
    | .handover b =>
      if s.ford.role == .shadow then
        ({ s with ford := { s.ford with handIn := some b.toNat } } : State).claimWaiting
      else s

/-- SYNC_CATCH_UP. R468: the lag is below 50 µs, or no record that the lead has made is missing. -/
def doSyncCatchUp (s : State) : State :=
  let f := s.ford
  if f.role == .syncing && f.imageOk && (decide (f.lag < 50000) || (f.records.isEmpty && f.nextRecord == f.peerNext)) then
    ({ s with ford := { f with role := .shadow } } : State).setMode .shadow
  else s

/-- APP. R447; R37: a payload above 9216 bytes makes no cell, and the port counts it among those it discards. -/
def doApp (h : FordHdr) (body : List Byte) (s : State) : State :=
  match s.fordTake h with
  | none => s
  | some s =>
    let len := leAt body 0x1C 2
    if s.driving && decide (len ≤ 9216) then
      let p := padTo len (body.drop 64)
      { s with ford := { s.ford with appIn := s.ford.appIn ++ [(mod48 s.tb.count, p)] } }
    else s.bump 0x003A0050

/-- BATON_SETTLE. -/
def execBatonSettle (s : State) : Host.Outcome State Fault Refusal := .next (doBatonSettle s)
/-- BATON_LINE_CHANGE. -/
def execBatonLineChange (low : Bool) (s : State) : Host.Outcome State Fault Refusal := .next (doBatonLineChange low s)
/-- KEEPER_REFRESH. -/
def execKeeperRefresh (s : State) : Host.Outcome State Fault Refusal := .next (doKeeperRefresh s)
/-- BATON_WATCHDOG_EXPIRY. -/
def execBatonWatchdogExpiry (s : State) : Host.Outcome State Fault Refusal := .next (doBatonWatchdogExpiry s)
/-- FORD_LINK_UP. -/
def execFordLinkUp (delay : BitVec 16) (version : Byte) (s : State) : Host.Outcome State Fault Refusal :=
  .next (doFordLinkUp delay.toNat version.toNat s)
/-- FORD_LINK_DOWN. -/
def execFordLinkDown (s : State) : Host.Outcome State Fault Refusal := .next (doFordLinkDown s)
/-- HEARTBEAT_SEND. -/
def execHeartbeatSend (s : State) : Host.Outcome State Fault Refusal := .next (doHeartbeatSend s)
/-- HEARTBEAT. -/
def execHeartbeat (hdr : FordHdr) (body : List Byte) (s : State) : Host.Outcome State Fault Refusal := .next (doHeartbeat hdr body s)
/-- HEARTBEAT_MISSED. -/
def execHeartbeatMissed (s : State) : Host.Outcome State Fault Refusal := .next (doHeartbeatMissed s)
/-- GATE_LIMIT_DETACH. -/
def execGateLimitDetach (s : State) : Host.Outcome State Fault Refusal := .next (doGateLimitDetach s)
/-- INGRESS. -/
def execIngress (hdr : FordHdr) (body : List Byte) (s : State) : Host.Outcome State Fault Refusal := .next (doIngress hdr body s)
/-- DECISION. -/
def execDecision (hdr : FordHdr) (body : List Byte) (s : State) : Host.Outcome State Fault Refusal := .next (doDecision hdr body s)
/-- CONFIG. -/
def execConfig (hdr : FordHdr) (body : List Byte) (s : State) : Host.Outcome State Fault Refusal := .next (doConfig hdr body s)
/-- DIGEST. -/
def execDigest (hdr : FordHdr) (body : List Byte) (s : State) : Host.Outcome State Fault Refusal := .next (doDigest hdr body s)
/-- DIGEST_WINDOW_CLOSE. -/
def execDigestWindowClose (s : State) : Host.Outcome State Fault Refusal := .next (doDigestWindowClose s)
/-- STATE. -/
def execState (hdr : FordHdr) (body : List Byte) (s : State) : Host.Outcome State Fault Refusal := .next (doState hdr body s)
/-- CONTROL. -/
def execControl (hdr : FordHdr) (msg : FordMsg) (s : State) : Host.Outcome State Fault Refusal := .next (doControl hdr msg s)
/-- SYNC_CATCH_UP. -/
def execSyncCatchUp (s : State) : Host.Outcome State Fault Refusal := .next (doSyncCatchUp s)
/-- APP. -/
def execApp (hdr : FordHdr) (body : List Byte) (s : State) : Host.Outcome State Fault Refusal := .next (doApp hdr body s)

end Sys2Proof.Machine
end

