-- ==== Sys2Proof/Machine/HealthCmds.lean ====
section
/-! DEFINITION. The health monitors and the Viveram store's rewriting (spec/19 R580 to R596). -/
namespace Sys2Proof.Machine

/-- HL_ALM_STAT. -/
abbrev almStat : Nat := 0x003D001C

/-- The hottest valid sensor, the first of equals: its number and its temperature in 0.1 °C. -/
def hottest (l : List (Option Int)) : Option (Nat × Int) :=
  l.zipIdx.foldl (fun best x =>
    match x.1, best with
    | none, _ => best
    | some t, none => some (x.2, t)
    | some t, some b => if b.2 < t then some (x.2, t) else best) none

/-- R582: one alarm at a sample, its condition present or absent: a condition that is present and has no record yet sets the
bit and makes one; a raised alarm re-arms once its condition has been absent for 1 ms. -/
def State.alarm (s : State) (k : Nat) (present : Bool) : State :=
  let h := s.hl
  if present then
    let h : Health := { h with absent := NatMap.del h.absent k }
    if bitAt h.raised k then { s with hl := h }
    else
      let h : Health := { h with raised := putBits h.raised k 1 1 }
      let s := s.setBit almStat k
      if s.sup.stage < 3 then { s with hl := { h with waiting := putBits h.waiting k 1 1 } }
      else ({ s with hl := h } : State).alarmRecord k
  else if !bitAt h.raised k then s
  else match h.absent.find? fun e => e.1 == k with
    | none => { s with hl := { h with absent := NatMap.ins h.absent k s.now } }
    | some e =>
      if e.2 + 1000000 ≤ s.now then
        { s with hl := { h with raised := putBits h.raised k 1 0, absent := NatMap.del h.absent k } }
      else s

/-- R581, R595, R583: the temperature registers, HOT_N, and the temperature, rail and sensor conditions, as a mask in the order
of HL_ALM_STAT. `tj` is in 0.1 °C. -/
def alarmMask (old warn trip : Nat) (tj : Int) (out : Nat) (fail : Bool) : Nat :=
  let at_ (thr k : Nat) : Bool := decide ((10 * thr : Int) ≤ tj) || (bitAt old k && decide ((10 * thr - 20 : Int) < tj))
  b2n (at_ warn 0) + 2 * b2n (at_ trip 1) + 4 * out + 2 ^ 7 * b2n fail

/-- SENSOR_SAMPLE. R581 to R583, R592, R595: every 1 ms. -/
def doSensorSample (x : Samples) (s : State) : State :=
  if !s.passed 3 1000000 then s
  else
    let s := s.stamp 3
    let temps := (upTo 8).map fun k => (x.temps.getD k none)
    let valid := temps.zipIdx.foldl (fun a t => a + b2n t.1.isSome * 2 ^ t.2) 0
    let (hot, tj) := match hottest temps with
      | some b => b
      | none => ((Config.hottestNone s.fresh).toNat, (1250 : Int))
    let code := wrapTo 16 tj
    let s := s.tick.setReg 0x003D0000 (code + 2 ^ 16 * valid + 2 ^ 24 * hot)
    let s := if signedOf 16 (s.fld 0x003D0004 0 16) < tj then s.setReg 0x003D0004 code else s
    let s := s.setReg 0x003D0008 x.vcore.toNat
    let s := if x.vcore.toNat < s.fld 0x003D000C 0 12 then s.setReg 0x003D000C x.vcore.toNat else s
    let s := s.setReg 0x003D0010 (x.vsd.toNat + 2 ^ 16 * x.v18.toNat)
    let s := s.setReg 0x003D0014 (x.v33.toNat + 2 ^ 16 * x.vddq.toNat)
    let s := s.setReg 0x003D0024 (Config.powerEstimate s.fresh).toNat
    let trip := s.fld 0x003D0018 8 8
    let mask := alarmMask s.hl.active (s.fld 0x003D0018 0 8) trip tj x.out.toNat (valid != 0xFF)
    let s := { s.tick with hl := { s.hl with active := mask } }
    let s := s.setFld almStat 16 8 mask
    let s := (upTo 8).foldl (fun s k => s.alarm k (bitAt mask k)) s
    let hotN := if (10 * trip : Int) ≤ tj then true else if tj ≤ (10 * trip - 100 : Int) then false else s.hotN
    { s with hotN }

/-- VIVERAM_REWRITE. R591: Ohmyth rewrites the granule at an address of the Viveram store, with a correctable error
corrected; an uncorrectable one stays. -/
def doViveramRewrite (addr : Nat) (s : State) : State :=
  let a := addr / 8 * 8
  if !s.ohmythUp || a < cfgStoreAddr || supRamAddr ≤ a then s else s.scrub a 0

/-- SENSOR_SAMPLE. -/
def execSensorSample (x : Samples) (s : State) : Host.Outcome State Fault Refusal := .next (doSensorSample x s)
/-- VIVERAM_REWRITE. -/
def execViveramRewrite (addr : Nat) (s : State) : Host.Outcome State Fault Refusal := .next (doViveramRewrite addr s)

end Sys2Proof.Machine
end

