-- ==== Sys2Proof/Machine/MbDevice.lean ====
section
/-! DEFINITION. The device commands of the mailboxes (spec/11 Table 11.5, R375; spec/17 R535 to R540). -/
namespace Sys2Proof.Machine

/-- DEV_INFO. Table 11.5. -/
def doDevInfo (m : Nat) (s : State) : State :=
  s.mbRun m 0x0101 fun _ _ s =>
    s.mbAnswer m 0 (leBytes 4 (s.regW 0x00370000) ++ leBytes 1 0xA0 ++ leBytes 1 s.mode.code ++ leBytes 2 s.sup.ohmyth ++
      leBytes 6 s.epoch)

/-- R540: a takeover, a handover or a resynchronisation is in progress, or an entry waits for the Baton. -/
def State.modeBusy (s : State) : Bool :=
  let f := s.ford
  f.takeover || f.handover.isSome || f.handIn.isSome || f.resync.isSome || f.role == .syncing || f.entry.isSome

/-- DEV_MODE. R535 to R537, R540. Entry to COMMISSION or LEAD from HOLD is answered when the Baton is held, or after 2 µs. -/
def doDevMode (m : Nat) (s : State) : State :=
  s.mbRun m 0x0102 fun x _ s =>
    let t := x.f 8 1
    let wrong := s.mbAnswer m 0x0109
    let ok (s : State) : State := s.mbAnswer m 0 (leBytes 1 s.mode.code)
    if t = 3 || t = 4 || s.modeBusy then wrong
    else if t = s.mode.code then ok s
    else match s.mode with
      | .hold =>
        let target : Mode := if t = 1 then .commission else .lead
        if t ≤ 2 && s.modeOk target then (s.mbBegin m).beginEntry (m + 1) target else wrong
      | .commission =>
        if t = 2 then if s.modeOk .lead then ok (s.setMode .lead).roleLead else wrong
        else if t = 5 && s.ford.role == .none then ok s.toHold else wrong
      | .lead =>
        if s.ford.role != .none then wrong
        else if t = 1 then ok (s.setMode .commission)
        else if t = 5 then ok s.toHold else wrong
      | _ => wrong

/-- Reads `n` registers of the privileged view from `off` on. -/
def State.readRegs (s : State) (off : Nat) : Nat → State × List Byte
  | 0 => (s, [])
  | n + 1 =>
    let (s, v) := s.viewRead .pf off 4
    let (s, l) := s.readRegs (off + 4) n
    (s, leBytes 4 v ++ l)

/-- DEV_REG_READ. R375: with a register out of reach, none is read. -/
def doDevRegRead (m : Nat) (s : State) : State :=
  s.mbRun m 0x0103 fun x i s =>
    let off := x.f 8 4
    let n := x.f 0x0C 1
    if (upTo n).all fun k => s.reachOk i (off + 4 * k) then
      let (s, l) := s.readRegs off n
      s.mbAnswer m 0 l
    else s.mbAnswer m 0x0202

/-- DEV_REG_WRITE. R15, R375: a class S field under MASK applies nothing; a refused class H field answers CFG_BUSY. -/
def doDevRegWrite (m : Nat) (s : State) : State :=
  s.mbRun m 0x0104 fun x i s =>
    let off := x.f 8 4
    let mask := x.f 0x0C 4
    if mask &&& stagedMask off ≠ 0 then s.mbAnswer m 0x0103
    else if !s.writeReach i off mask then s.mbAnswer m 0x0202
    else
      let (s, busy) := s.maskWrite off mask (x.f 0x10 4)
      s.mbAnswer m (if busy then 0x0203 else 0)

/-- DEV_HEALTH. Table 11.5; spec/19. -/
def doDevHealth (m : Nat) (s : State) : State :=
  s.mbRun m 0x0108 fun _ _ s =>
    s.mbAnswer m 0 (leBytes 2 (s.fld 0x003D0000 0 16) ++ leBytes 2 (s.fld 0x003D0008 0 12) ++ leBytes 4 s.sup.droops ++
      leBytes 1 s.tb.state.code ++ leBytes 1 (b2n s.tb.state.holdover))

/-- DEV_RESET. Table 11.5: the reset starts 10 µs after DONE. -/
def doDevReset (m : Nat) (s : State) : State :=
  s.mbRun m 0x0109 fun _ _ s =>
    let s := s.mbAnswer m 0
    { s with sup := { s.sup with resetAt := some (s.now + 10000) } }

/-- DEV_INFO. -/
def execDevInfo (m : Fin 16) (s : State) : Host.Outcome State Fault Refusal := .next (doDevInfo m s)
/-- DEV_MODE. -/
def execDevMode (m : Fin 16) (s : State) : Host.Outcome State Fault Refusal := .next (doDevMode m s)
/-- DEV_REG_READ. -/
def execDevRegRead (m : Fin 16) (s : State) : Host.Outcome State Fault Refusal := .next (doDevRegRead m s)
/-- DEV_REG_WRITE. -/
def execDevRegWrite (m : Fin 16) (s : State) : Host.Outcome State Fault Refusal := .next (doDevRegWrite m s)
/-- DEV_HEALTH. -/
def execDevHealth (m : Fin 16) (s : State) : Host.Outcome State Fault Refusal := .next (doDevHealth m s)
/-- DEV_RESET. -/
def execDevReset (m : Fin 16) (s : State) : Host.Outcome State Fault Refusal := .next (doDevReset m s)

end Sys2Proof.Machine
end

