-- ==== Sys2Proof/Machine/MbPorts.lean ====
section
/-! DEFINITION. The port, lock and error commands of the mailboxes (spec/11 Tables 11.10, 11.14 and 11.15, R380; spec/03 R96,
R97; spec/04 R138, R139). -/
namespace Sys2Proof.Machine

/-! ## Ports -/

/-- PORT_STATUS. R419. -/
def doPortStatus (m : Nat) (s : State) : State :=
  s.mbRun m 0x0601 fun x i s =>
    let k := x.f 0x0A 2
    if x.f 8 1 = 0 then
      if s.portOwner k ≠ i then s.mbAnswer m 0x0202
      else s.mbAnswer m 0 (leBytes 4 (s.ethAt k).stat ++ leBytes 4 (s.regW enErr))
    else if s.chanOwner k ≠ i then s.mbAnswer m 0x0202
    else s.tick.mbAnswer m 0 (leBytes 4 (s.tdStat k) ++ leBytes 4 (s.regW tdErr))

/-- PORT_COUNTERS. Table 11.10: the counts, accumulated over the counters' wraps. -/
def doPortCounters (m : Nat) (s : State) : State :=
  s.mbRun m 0x0602 fun x i s =>
    let p := x.f 8 1
    let e := s.ethAt p
    if s.portOwner p ≠ i then s.mbAnswer m 0x0202
    else s.mbAnswer m 0 (leBytes 8 e.rxFrm ++ leBytes 8 e.rxOct ++ leBytes 8 e.txFrm ++ leBytes 8 e.txOct)

/-- Whole words written through the privileged view. -/
def State.writeWords (s : State) (l : List (Nat × Nat)) : State := l.foldl (fun s e => (s.pfWrite e.1 0xFFFFFFFF e.2).1) s

/-- PORT_GCL_LOAD. R138, R139, Table 11.10. -/
def doPortGclLoad (m : Nat) (s : State) : State :=
  s.mbRun m 0x0603 fun x i s =>
    let p := x.f 8 1
    let key := enKey p
    let base := 0x00164000 + 0x800 * p + 8 * x.f 9 1
    let list := (upTo (2 * x.f 0x0A 1)).map fun j => (base + 4 * j, x.f (0x20 + 4 * j) 4)
    if s.portOwner p ≠ i then s.mbAnswer m 0x0202
    else if (s.ethAt p).sched.pending.isSome then (s.writeWords list).mbAnswer m 0x0203
    else
      let s := s.writeWords list
      if x.f 0x0B 1 = 0 then s.mbAnswer m 0
      else
        let s := s.writeWords [(key + 0x64, x.f 0x10 4), (key + 0x68, x.f 0x14 4), (key + 0x6C, x.f 0x18 4),
          (key + 0x70, x.f 0x1C 4), (key + 0x74, x.f 0x0C 2)]
        let s := (s.pfWrite (key + 0x60) 2 2).1
        s.mbAnswer m (if (s.ethAt p).sched.pending.isNone then 0x0103 else 0)

/-- PORT_GONG_WRITE. R96, R15: the words are written as a register write's are, so that a VALID entry keeps its class H
fields and takes the VALID given; an entry whose VALID is 1 answers CFG_BUSY (Table 11.10). Gong belongs to I0. -/
def doPortGongWrite (m : Nat) (s : State) : State :=
  s.mbRun m 0x0604 fun x i s =>
    let key := gongKey (x.f 8 1)
    if i ≠ 0 then s.mbAnswer m 0x0202
    else
      let refused := s.bit (key + 0x28) 0
      (s.writeWords ((upTo 11).map fun j => (key + 4 * j, x.f (0x10 + 4 * j) 4))).mbAnswer m (if refused then 0x0203 else 0)

/-- PORT_GONG_REARM. R97. -/
def doPortGongRearm (m : Nat) (s : State) : State :=
  s.mbRun m 0x0605 fun x i s =>
    let lo := x.f 8 4
    let hi := x.f 0x0C 4
    if i ≠ 0 then s.mbAnswer m 0x0202
    else
      let s := s.gongRearm (lo + hi * 2 ^ 32)
      let s := if lo = 0 then s else s.configEntry 1 0x0015000C 0xFFFFFFFF lo
      let s := if hi = 0 then s else s.configEntry 1 0x00150010 0xFFFFFFFF hi
      s.mbAnswer m 0

/-! ## Locks (R380) -/

/-- The request that mailbox `m` has at Belfry. -/
def State.bfHost (s : State) (m : Nat) : Option BfReq := s.bf.queue.find? fun r => r.form == .host m && r.done.isNone

/-- A lock command reaches Belfry at its first step; Belfry takes its request at a later one, or at the same. -/
def doLock (m op bop : Nat) (s : State) : State :=
  let s := s.mbRun m op fun x i s =>
    let r : BfReq := { master := 0x200 + i, inst := i, op := bop, addr := x.f 8 5, opa := 0, opb := 0, form := .host m, gseq := none }
    (s.mbBegin m).bfOffer
      (if op = 0x0A05 then { r with op := x.f 8 1, addr := x.f 0x10 5, opa := x.f 0x18 8, opb := x.f 0x20 8 } else r)
  match (s.mbAt m).cmd, s.bfHost m with
  | some x, some r => if x.op = op && x.begun then if bfIsLock r.op then s.bfTakeLock r else s.bfTakeAtomic r else s
  | _, _ => s

/-- LOCK_ACQUIRE_TIMEOUT. R380, R356: the ticket is withdrawn. In patch-hold the command pauses, and its bound is extended by the
window's length (R379). -/
def doLockAcquireTimeout (m : Nat) (s : State) : State :=
  match (s.mbAt m).cmd with
  | none => s
  | some x =>
    let t := x.f 0x10 4
    if s.sup.hold || x.op ≠ 0x0A01 || !x.begun || t = 0 || s.now < x.since + 1000 * t then s
    else (s.bfHostEnd m).mbAnswer m 0x0108

/-! ## Errors -/

/-- ERR_READ. R381, R549, Table 11.15. -/
def doErrRead (m : Nat) (s : State) : State :=
  s.mbRun m 0x0B01 fun _ i s =>
    match NatMap.get [] s.errors.queues i with
    | [] => s.mbAnswer m 0 (List.replicate 8 0)
    | r :: l =>
      let s := { s with errors := { s.errors with queues := NatMap.put [] s.errors.queues i l } }
      s.mbAnswer m 0 (leBytes 2 l.length ++ List.replicate 6 0 ++ r.toBytes)

/-- ERR_COUNTS. R549. -/
def doErrCounts (m : Nat) (s : State) : State :=
  s.mbRun m 0x0B02 fun _ i s =>
    s.mbAnswer m 0 ((upTo 4).flatMap fun k => leBytes 4 (NatMap.get 0 s.errors.counts (4 * i + k)))

/-- ERR_FAULTLOG_READ. R490, R499. -/
def doErrFaultlogRead (m : Nat) (s : State) : State :=
  s.mbRun m 0x0B03 fun x i s =>
    match s.rdChk (flogAddr + 2048 * x.f 8 1 + x.f 0x0A 2) 128 (x.who m i) with
    | (s, some l) => s.mbAnswer m 0 l
    | (s, none) => s.mbAnswer m 0x0301

/-- PORT_STATUS. -/
def execPortStatus (m : Fin 16) (s : State) : Host.Outcome State Fault Refusal := .next (doPortStatus m s)
/-- PORT_COUNTERS. -/
def execPortCounters (m : Fin 16) (s : State) : Host.Outcome State Fault Refusal := .next (doPortCounters m s)
/-- PORT_GCL_LOAD. -/
def execPortGclLoad (m : Fin 16) (s : State) : Host.Outcome State Fault Refusal := .next (doPortGclLoad m s)
/-- PORT_GONG_WRITE. -/
def execPortGongWrite (m : Fin 16) (s : State) : Host.Outcome State Fault Refusal := .next (doPortGongWrite m s)
/-- PORT_GONG_REARM. -/
def execPortGongRearm (m : Fin 16) (s : State) : Host.Outcome State Fault Refusal := .next (doPortGongRearm m s)
/-- LOCK_ACQUIRE. -/
def execLockAcquire (m : Fin 16) (s : State) : Host.Outcome State Fault Refusal := .next (doLock m 0x0A01 1 s)
/-- LOCK_ACQUIRE_TIMEOUT. -/
def execLockAcquireTimeout (m : Fin 16) (s : State) : Host.Outcome State Fault Refusal := .next (doLockAcquireTimeout m s)
/-- LOCK_TRYACQ. -/
def execLockTryacq (m : Fin 16) (s : State) : Host.Outcome State Fault Refusal := .next (doLock m 0x0A02 2 s)
/-- LOCK_RELEASE. -/
def execLockRelease (m : Fin 16) (s : State) : Host.Outcome State Fault Refusal := .next (doLock m 0x0A03 3 s)
/-- LOCK_RELEASE_REPAIRED. -/
def execLockReleaseRepaired (m : Fin 16) (s : State) : Host.Outcome State Fault Refusal := .next (doLock m 0x0A04 4 s)
/-- LOCK_ATOMIC. -/
def execLockAtomic (m : Fin 16) (s : State) : Host.Outcome State Fault Refusal := .next (doLock m 0x0A05 0 s)
/-- ERR_READ. -/
def execErrRead (m : Fin 16) (s : State) : Host.Outcome State Fault Refusal := .next (doErrRead m s)
/-- ERR_COUNTS. -/
def execErrCounts (m : Fin 16) (s : State) : Host.Outcome State Fault Refusal := .next (doErrCounts m s)
/-- ERR_FAULTLOG_READ. -/
def execErrFaultlogRead (m : Fin 16) (s : State) : Host.Outcome State Fault Refusal := .next (doErrFaultlogRead m s)

end Sys2Proof.Machine
end

