-- ==== Sys2Proof/Machine/MbPrograms.lean ====
section
/-! DEFINITION. The program and Carillon commands of the mailboxes (spec/11 Tables 11.8 and 11.9, R377, R378; spec/07 R234;
spec/08 R287 to R290, R297). -/
namespace Sys2Proof.Machine

/-- The words of a request, from 0x10 on. -/
def MbCmd.words (x : MbCmd) (n : Nat) : List Nat := (upTo n).map fun j => x.f (0x10 + 4 * j) 4

/-- R377, R389: writes words from `a` on, telling the partner with CONFIG entries of KIND `kind` from OFFSET `off` on; it stops
at the first word that meets an uncorrectable granule. -/
def State.loadWords (s : State) (kind a off : Nat) (w : Who) : List Nat → State × Bool
  | [] => (s, false)
  | v :: l =>
    match s.wrChk a (leBytes 4 v) w with
    | (s, true) => (s, true)
    | (s, false) => (s.configEntry kind off 0xFFFFFFFF v).loadWords kind (a + 4) (off + 4) w l

/-- PRG_EGRET_LOAD. R302, R377, R419. -/
def doPrgEgretLoad (m : Nat) (s : State) : State :=
  s.mbRun m 0x0401 fun x i s =>
    let c := x.f 8 1
    let w := x.f 0x0A 2
    let n := x.f 0x0C 2
    if !s.progOk i c w n then s.mbAnswer m 0x0202
    else if !s.blockOut 1 c then s.mbAnswer m 0x0203
    else
      let (s, bad) := s.loadWords 3 (progAddr c + 4 * w) (progOffset c w) (x.who m i) (x.words n)
      s.mbAnswer m (if bad then 0x0302 else 0)

/-- PRG_PARSE_STAGE. R171, R377; the parse store is I0's. -/
def doPrgParseStage (m : Nat) (s : State) : State :=
  s.mbRun m 0x0402 fun x i s =>
    let w := x.f 0x0A 2
    if i ≠ 0 then s.mbAnswer m 0x0202
    else if s.stageWaits 5 w then s
    else
      let words := x.words (x.f 0x0C 2)
      (((upTo words.length).zip words).foldl (fun s e => s.stage 5 (w + e.1) i e.2) s).mbAnswer m 0

/-- R419: the status with which a tenant's binding is refused, if any. -/
def State.bindRefused (s : State) (i c id : Nat) (clusters : List Nat) (valid bound : Bool) : Option Nat :=
  let x := s.instAt i
  let limit := if c = 7 then x.q 0x34 1 else x.q 0x32 2
  if i = 0 then none
  else if clusters.any fun k => x.q k 1 == 0 then some 0x0202
  else if valid && !bound && limit ≤ s.boundCount i c then some 0x0201
  else if id < 0x3C0 then none else some 0x0202

/-- PRG_CHAN_BIND. R234, R377, R419. -/
def doPrgChanBind (m : Nat) (s : State) : State :=
  s.mbRun m 0x0403 fun x i s =>
    let id := x.f 0x0A 2
    let valid := x.f 0x0C 1 == 1
    let span := x.f 0x0D 1
    let c := if x.f 8 1 = 0 then x.f 9 1 else 7
    let key := chanReg c id
    let bound := bitAt (s.shownWord key) 0
    let clusters := if c = 7 then (upTo 6).filter fun k => bitAt span k else [c]
    if bound && !s.boundShown i c id then s.mbAnswer m 0x0202
    else match s.bindRefused i c id clusters valid bound with
      | some st => s.mbAnswer m st
      | none =>
        let (s, busy) := s.pfWrite key 0xFFFFFFFF (b2n valid + 2 * i + (if c = 7 then 0x100 * span else 0))
        s.mbAnswer m (if busy then 0x0203 else 0)

/-- PRG_READ. R374, R389, R419. -/
def doPrgRead (m : Nat) (s : State) : State :=
  s.mbRun m 0x0404 fun x i s =>
    let store := x.f 8 1
    let c := x.f 9 1
    let w := x.f 0x0A 2
    let n := x.f 0x0C 2
    if store = 0 then
      if !s.progOk i c w n then s.mbAnswer m 0x0202
      else match s.rdChk (progAddr c + 4 * w) (4 * n) (x.who m i) with
        | (s, some l) => s.mbAnswer m 0 l
        | (s, none) => s.mbAnswer m 0x0301
    else if i ≠ 0 then s.mbAnswer m 0x0202
    else
      let entry (k : Nat) : Nat := if store = 1 then NatMap.get 0 s.tables.parse k else s.stagedEntry 5 k
      let l := (upTo n).flatMap fun j => leBytes 4 (entry (w + j))
      match s.rdChk (entryAddr 5 (store - 1) w) (4 * n) (x.who m i) with
      | (s, some _) => s.mbAnswer m 0 l
      | (s, none) => s.mbAnswer m 0x0301

/-! ## Carillon -/

/-- CA_CODE_LOAD. R297, R419; R15: words that the code store holds already are not refused. -/
def doCaCodeLoad (m : Nat) (s : State) : State :=
  s.mbRun m 0x0501 fun x i s =>
    let w := x.f 0x0A 2
    let n := x.f 0x0C 2
    if !s.codeRange i w n then s.mbAnswer m 0x0202
    else if !s.codeOpen i then
      s.mbAnswer m (if (x.words n).flatMap (leBytes 4) == s.rdBytes (codeAddr + 4 * w) (4 * n) then 0 else 0x0203)
    else
      let (s, bad) := s.loadWords 4 (codeAddr + 4 * w) (4 * w) (x.who m i) (x.words n)
      s.mbAnswer m (if bad then 0x0302 else 0)

/-- The summary of CA_PARK_READ: CA_Gg_STAT, _PARK, _PC, _EXEC, _KTOK and _ADDR. -/
def State.caSummary (s : State) (g : Nat) : List Byte :=
  [0x00, 0x0C, 0x1C, 0x18, 0x28, 0x20].flatMap fun o => leBytes 4 (s.shownWord (caKey g o))

/-- The words that CA_PARK_READ reads of a group that is parked; a group that is not reads 0 (R287). -/
def State.parkWords (s : State) (g space lane off n : Nat) : List Byte :=
  (upTo (n / 4)).flatMap fun j =>
    leBytes 4 (match s.kernel g with
      | some k => if (k.park.bind (·.since)).isSome then k.word space lane (off + 4 * j) else 0
      | none => 0)

/-- CA_PARK_READ. R287, R374. -/
def doCaParkRead (m : Nat) (s : State) : State :=
  s.mbRun m 0x0502 fun x i s =>
    let g := x.f 8 1
    let space := x.f 9 1
    let off := x.f 0x0C 4
    let n := x.f 0x10 2
    if space = 0 then
      if s.groupOwner g ≠ i then s.mbAnswer m 0x0202
      else s.mbAnswer m 0 ((s.caSummary g |>.drop off).take n)
    else if s.groupOwner g ≠ i then s.mbAnswer m 0x0202
    else if space = 4 then
      match s.rdChk (localAddr g + off) n (x.who m i) with
      | (s, some l) => s.mbAnswer m 0 l
      | (s, none) => s.mbAnswer m 0x0301
    else s.mbAnswer m 0 (s.parkWords g space (x.f 0x0A 1) off n)

/-- The kernel parked on group `g`. -/
def State.parkedOn (s : State) (g : Nat) : Option Kernel :=
  (s.kernel g).filter fun k => (k.park.bind (·.since)).isSome

/-- Notes the entries of a write on a parked kernel, for its outcome (R290). -/
def State.parkNote (s : State) (g : Nat) (l : List DEntry) : State :=
  match s.kernel g with
  | some k => s.setKernel g { k with writes := k.writes ++ l }
  | none => s

/-- CA_PARK_WRITE. R287, R290, R378, R389. -/
def doCaParkWrite (m : Nat) (s : State) : State :=
  s.mbRun m 0x0503 fun x i s =>
    let g := x.f 8 1
    let space := x.f 9 1
    let lane := x.f 0x0A 1
    let off := x.f 0x0C 4
    let l := (x.req.drop 0x18).take (x.f 0x10 2)
    if s.groupOwner g ≠ i then s.mbAnswer m 0x0202
    else match s.parkedOn g with
      | none => s.mbAnswer m 0x0206
      | some k =>
        let (s, bad) := s.parkWrite g k space lane off l (x.who m i)
        (s.parkNote g (parkEntries g space lane off l)).mbAnswer m (if bad then 0x0302 else 0)

/-- CA_RESUME and CA_ABANDON. R288 to R290, R378: after a takeover a park whose outcome the old lead decided waits for it. -/
def doCaOutcome (m op : Nat) (s : State) : State :=
  s.mbRun m op fun x i s =>
    let g := x.f 8 1
    if s.groupOwner g ≠ i then s.mbAnswer m 0x0202
    else match s.parkedOn g with
      | none => s.mbAnswer m 0x0206
      | some k =>
        let outcome := if op = 0x0504 then 1 else 2
        if (s.parkOutcome g k outcome).isNone then s
        else (if op = 0x0504 then s.resumeParked g else s.abandonParked g).mbAnswer m 0

/-- PRG_EGRET_LOAD. -/
def execPrgEgretLoad (m : Fin 16) (s : State) : Host.Outcome State Fault Refusal := .next (doPrgEgretLoad m s)
/-- PRG_PARSE_STAGE. -/
def execPrgParseStage (m : Fin 16) (s : State) : Host.Outcome State Fault Refusal := .next (doPrgParseStage m s)
/-- PRG_CHAN_BIND. -/
def execPrgChanBind (m : Fin 16) (s : State) : Host.Outcome State Fault Refusal := .next (doPrgChanBind m s)
/-- PRG_READ. -/
def execPrgRead (m : Fin 16) (s : State) : Host.Outcome State Fault Refusal := .next (doPrgRead m s)
/-- CA_CODE_LOAD. -/
def execCaCodeLoad (m : Fin 16) (s : State) : Host.Outcome State Fault Refusal := .next (doCaCodeLoad m s)
/-- CA_PARK_READ. -/
def execCaParkRead (m : Fin 16) (s : State) : Host.Outcome State Fault Refusal := .next (doCaParkRead m s)
/-- CA_PARK_WRITE. -/
def execCaParkWrite (m : Fin 16) (s : State) : Host.Outcome State Fault Refusal := .next (doCaParkWrite m s)
/-- CA_RESUME. -/
def execCaResume (m : Fin 16) (s : State) : Host.Outcome State Fault Refusal := .next (doCaOutcome m 0x0504 s)
/-- CA_ABANDON. -/
def execCaAbandon (m : Fin 16) (s : State) : Host.Outcome State Fault Refusal := .next (doCaOutcome m 0x0505 s)

end Sys2Proof.Machine
end

