-- ==== Sys2Proof/Machine/MbTwin.lean ====
section
/-! DEFINITION. The twin commands of the mailboxes (spec/11 Table 11.11; spec/14 R466 to R474). -/
namespace Sys2Proof.Machine

/-- TWIN_STATUS. Table 11.11. -/
def doTwinStatus (m : Nat) (s : State) : State :=
  s.mbRun m 0x0701 fun _ _ s =>
    let f := s.ford
    s.mbAnswer m 0 (leBytes 1 f.role.code ++ leBytes 1 f.seenRole.code ++ leBytes 1 f.link ++
      leBytes 1 (b2n f.holds + 2 * b2n f.peerLine) ++ leBytes 4 (min 0xFFFFFFFF f.lag) ++ leBytes 4 f.missTotal)

/-- TWIN_PAIR with ENABLE 1: PAIR_EN sets; the device in mode LEAD takes ROLE LEAD once the link is UP. -/
def State.pairOn (s : State) : State :=
  let s := (s.fdCtlWrite 1 1).1
  ({ s with ford := { s.ford with hbStopped := false } } : State).roleLead

/-- A device that leaves the pair: ROLE NONE, and it follows no lead. -/
def Ford.leave (f : Ford) : Ford :=
  let f : Ford := { f with role := .none, takeover := false, handIn := none, hbStopped := true }
  { f with records := [], configs := [], imageIn := [], imageOk := false }

/-- R471, R472, R536: TWIN_PAIR with ENABLE 0. A device in LEAD keeps its mode and its Baton; any other releases it, which
in COMMISSION is a loss of the Baton (R450); a shadow enters HOLD. -/
def State.pairOff (s : State) : State :=
  let s := (s.fdCtlWrite 1 0).1
  let s := (s.handoverFail).resyncFail 0x0602
  let was := s.ford.role
  let follow := was == .shadow || was == .syncing
  let s := { s with ford := s.ford.leave, dlogIn := if follow then [] else s.dlogIn }
  if s.mode == .lead then s.weirRun
  else
    let s := (s.setWant false).loseBaton
    if was == .shadow then s.setMode .hold else s

/-- TWIN_PAIR. R471, R472. -/
def doTwinPair (m : Nat) (s : State) : State :=
  s.mbRun m 0x0702 fun x _ s => (if x.f 8 1 = 1 then s.pairOn else s.pairOff).mbAnswer m 0

/-- TWIN_DETACH. R457, R471, R474. -/
def doTwinDetach (m : Nat) (s : State) : State :=
  s.mbRun m 0x0703 fun _ _ s =>
    let r := s.ford.role
    if s.ford.link ≠ 2 || s.ford.takeover then s.mbAnswer m 0x0602
    else if s.partnerFollows then (s.detachPartner true).mbAnswer m 0
    else if r == .shadow || r == .syncing then ((s.fordSend 7 (Config.controlBytes .detach)).goDetached).mbAnswer m 0
    else s.mbAnswer m 0x0109

/-- R468: the partner is in HOLD with ROLE NONE or DETACHED. -/
def Ford.partnerReady (f : Ford) : Bool := f.peerMode == 5 && (f.peerRole == .none || f.peerRole == .detached)

/-- TWIN_RESYNC. R468: it waits for a checkpoint that copies; it is answered when the partner is SHADOW. -/
def doTwinResync (m : Nat) (s : State) : State :=
  s.mbRun m 0x0704 fun _ _ s =>
    let f := s.ford
    if f.link ≠ 2 then s.mbAnswer m 0x0602
    else if f.role != .lead || f.resync.isSome || f.handover.isSome || !f.partnerReady then s.mbAnswer m 0x0109
    else if s.bt.ckpt = 2 then s
    else
      let s := s.mbBegin m
      ({ s with ford := { s.ford with resync := some m } } : State).ckptAsk ⟨m, true⟩

/-- TWIN_HANDOVER. R466, Table 14.7, step 1. -/
def doTwinHandover (m : Nat) (s : State) : State :=
  s.mbRun m 0x0705 fun _ _ s =>
    let f := s.ford
    if f.link ≠ 2 then s.mbAnswer m 0x0602
    else if f.role != .lead || f.peerRole != .shadow || !bitAt f.peerFlags 2 || !f.talign || f.handover.isSome then
      s.mbAnswer m 0x0109
    else
      let s := s.mbBegin m
      let b := s.nextGseq
      let s := { s with ford := { s.ford with handover := some ⟨m, b, 1, false⟩ } }
      s.fordSend 7 (Config.controlBytes (.handover (BitVec.ofNat 48 b)))

/-- TWIN_STATUS. -/
def execTwinStatus (m : Fin 16) (s : State) : Host.Outcome State Fault Refusal := .next (doTwinStatus m s)
/-- TWIN_PAIR. -/
def execTwinPair (m : Fin 16) (s : State) : Host.Outcome State Fault Refusal := .next (doTwinPair m s)
/-- TWIN_DETACH. -/
def execTwinDetach (m : Fin 16) (s : State) : Host.Outcome State Fault Refusal := .next (doTwinDetach m s)
/-- TWIN_RESYNC. -/
def execTwinResync (m : Fin 16) (s : State) : Host.Outcome State Fault Refusal := .next (doTwinResync m s)
/-- TWIN_HANDOVER. -/
def execTwinHandover (m : Fin 16) (s : State) : Host.Outcome State Fault Refusal := .next (doTwinHandover m s)

end Sys2Proof.Machine
end

