-- ==== Sys2Proof/Machine/MbUpdate.lean ====
section
/-! DEFINITION. The update commands of the mailboxes (spec/11 Table 11.13, R379; spec/12 R398 to R405). -/
namespace Sys2Proof.Machine

/-- SV_BOOT.SLOT: the slot from which the device booted. -/
def State.bootedFrom (s : State) (slot : Nat) : Bool := s.fld 0x0037001C 0 1 == slot

/-- UPD_ERASE. Table 11.13; `ok` is whether the flash erases. -/
def doUpdErase (m : Nat) (ok : Bool) (s : State) : State :=
  s.mbRun m 0x0901 fun x _ s =>
    let slot := x.f 8 1
    if s.bootedFrom slot then s.mbAnswer m 0x0104
    else if ok then (s.flashErase slot).mbAnswer m 0
    else (s.flashFail slot 0 0x800000).mbAnswer m 0x0702

/-- UPD_WRITE. Table 11.13; `ok` is whether the flash programs. -/
def doUpdWrite (m : Nat) (ok : Bool) (s : State) : State :=
  s.mbRun m 0x0902 fun x _ s =>
    let slot := x.f 8 1
    let off := x.f 0x0C 4
    let l := (x.req.drop 0x10).take (x.len - 8)
    if s.bootedFrom slot then s.mbAnswer m 0x0104
    else if ok then (s.flashProgram slot off l).mbAnswer m 0
    else (s.flashFail slot off l.length).mbAnswer m 0x0702

/-- UPD_VERIFY. R524, Table 11.13. -/
def doUpdVerify (m : Nat) (s : State) : State :=
  s.mbRun m 0x0903 fun x _ s =>
    match s.imageIn false (x.f 8 1) with
    | some i => s.mbAnswer m 0 (leBytes 4 i.version)
    | none => s.mbAnswer m 0x0701

/-- UPD_SET_BOOT. Table 11.13, R528: it writes VV_BOOTSEL. -/
def doUpdSetBoot (m : Nat) (s : State) : State :=
  s.mbRun m 0x0904 fun x _ s =>
    let slot := x.f 8 1
    if s.bootedFrom slot then s.mbAnswer m 0x0104 else (s.setFld 0x003C0100 0 1 slot).mbAnswer m 0

/-- R399, R379: the window opens: patch-hold, and the Supervisor goes to the loader; accepted doorbells that have not been
taken up are answered BUSY. -/
def State.windowOpen (s : State) (l : List Byte) : State :=
  let u := s.sup
  let s := { s with sup := { u with hold := true, holdAt := s.now, loading := l, upc := Config.loaderEntry % 0x400, inPatch := false, noMatch := false } }
  s.mbQueue.foldl (fun s k => s.mbHardware k 0x0106) s

/-- R379: the bounds of the long commands that paused are extended by the window's length. -/
def State.extendBounds (s : State) (d : Nat) : State :=
  s.mbTaken.foldl (fun s k => s.modMb k fun b => { b with cmd := b.cmd.map fun x => { x with since := x.since + d } }) s

/-- R399, R379, R554: the loader has run: the window closes, whose length the watchdog does not count, and UPD_PATCH is
answered first. -/
def State.patchDone (s : State) (m : Nat) : State :=
  match patchOf (s.regW 0x00370008) s.sup.loading with
  | none => s
  | some p =>
    let s := s.loadPatch p
    let u := s.sup
    let e := s.errors
    let d := s.now - u.holdAt
    let s := { s with sup := { u with hold := false, loading := [] }, errors := { e with svwdSince := e.svwdSince + d } }
    ((s.extendBounds d).mbAnswer m 0 (leBytes 4 p.id)).mbFlush

/-- UPD_PATCH. R398, R399. Its first step reads the file, checks it and opens the window; its second, while the window is open,
loads the set and closes it. -/
def doUpdPatch (m : Nat) (s : State) : State :=
  if s.sup.hold then if s.sup.halted || s.sup.stopped || m ≠ 0 then s else s.patchDone m
  else s.mbRun m 0x0905 fun x i s =>
    let a := x.f 8 5
    let n := x.f 0x10 4
    if !s.mapOk .sup a n then s.mapErr.mbAnswer m 0x0105
    else if 0x800000000 ≤ a then s.mbAnswer m 0x0105
    else match s.rdMem a n (x.who m i) 8 with
      | (s, none) => s.mbAnswer m 0x0301
      | (s, some l) =>
        match patchOf (s.regW 0x00370008) l with
        | none => s.mbAnswer m 0x0103
        | some _ =>
          if fileSigned s.tap.hashAtBoot l then (s.mbBegin m).windowOpen l else s.mbAnswer m 0x0701

/-- UPD_ERASE. -/
def execUpdErase (m : Fin 16) (ok : Bool) (s : State) : Host.Outcome State Fault Refusal := .next (doUpdErase m ok s)
/-- UPD_WRITE. -/
def execUpdWrite (m : Fin 16) (ok : Bool) (s : State) : Host.Outcome State Fault Refusal := .next (doUpdWrite m ok s)
/-- UPD_VERIFY. -/
def execUpdVerify (m : Fin 16) (s : State) : Host.Outcome State Fault Refusal := .next (doUpdVerify m s)
/-- UPD_SET_BOOT. -/
def execUpdSetBoot (m : Fin 16) (s : State) : Host.Outcome State Fault Refusal := .next (doUpdSetBoot m s)
/-- UPD_PATCH. -/
def execUpdPatch (m : Fin 16) (s : State) : Host.Outcome State Fault Refusal := .next (doUpdPatch m s)

end Sys2Proof.Machine
end

