-- ==== Sys2Proof/Machine/Scrub.lean ====
section
/-! DEFINITION. The on-chip patrol scrubbers' visits (spec/09 R305; spec/05 R178; spec/10 R361; spec/18 R550). -/
namespace Sys2Proof.Machine

/-- R550: a visit to a Weir entry: an uncorrectable error in its other fields makes its cell a HOLE of reason FAULT,
and one in both copies of its key is FATAL. -/
def State.weirScrub (s : State) (a k : Nat) : State :=
  let slot := (a - weirBase) / 8
  if k = 1 then s.eccNote 1 a { gseq := (s.weir.find? fun e => e.slot == slot).map (·.gseq) }
  else if k = 4 then s.eccNoteAs 2 a 0x0071 4
  else match s.weir.find? fun e => e.slot == slot with
    | none => s.eccNote 2 a
    | some e =>
      let s := s.eccNoteAs 2 a 0x0070 2 { gseq := some e.gseq }
      match e.item with
      | .cell h _ _ =>
        ((s.pbufFree e.granules).weirSet { e with granules := 0, item := .cell (h.hole 1) [] false }).weirRun
      | _ => s

/-- R178: a visit to a granule of the staged copy of a table: with no edit staged the entry is rewritten from the active
copy; else the edit is lost. -/
def State.stagedScrub (s : State) (a k : Nat) (staged : NatMap (Option (Nat × Nat))) (i : Nat) (lose : Nat → Nat)
    (put : NatMap (Option (Nat × Nat)) → State → State) : State :=
  let s := s.setEcc a 0
  match NatMap.get none staged i with
  | none => s.eccNote 1 a
  | some (inst, v) =>
    if k = 1 then s.eccNote 1 a else put (NatMap.put none staged i (some (inst, lose v))) (s.eccNote 2 a)

/-- A visit to the Stream, Action and Station Tables: an uncorrectable error in an active entry stays until the entry
is used. -/
def State.tableScrub (s : State) (a k : Nat) : State :=
  let o := a - tableBase
  if o < stagedOff then s.scrub a k
  else
    let o := o - stagedOff
    let i := o % 0x10000 / 16
    if o < 0x10000 then
      s.stagedScrub a k s.staged.stream i (fun v => putBits v 16 1 0) fun m s => { s with staged := { s.staged with stream := m } }
    else if o < 0x20000 then
      s.stagedScrub a k s.staged.action i (fun v => putBits v 24 1 0) fun m s => { s with staged := { s.staged with action := m } }
    else s.scrub a k

/-- R305: the visit to the granule at `a` of an on-chip memory; `u` is the upset found in it. The control store's errors are met
by fetches (R406). -/
def State.ocmVisit (s : State) (a u : Nat) : State :=
  let k := max u (s.eccAt a)
  if ctlStoreBase ≤ a && a < mailAreaBase then s.setEcc a k
  else if k = 0 then s
  else if parseBase + 0x4000 ≤ a && a < shoalBase then
    let w := (a - parseBase - 0x4000) / 4
    -- a granule holds two words: each staged one is lost
    let s' := s.stagedScrub a k s.staged.parse w (fun _ => 0) fun m s => { s with staged := { s.staged with parse := m } }
    match NatMap.get none s'.staged.parse (w + 1) with
    | some (i, _) =>
      if k = 1 then s'
      else
        let s' := if (NatMap.get none s.staged.parse w).isSome then s' else (s.setEcc a 0).eccNote 2 a
        { s' with staged := { s'.staged with parse := NatMap.put none s'.staged.parse (w + 1) (some (i, 0)) } }
    | none => s'
  else if tableBase ≤ a && a < weirBase then s.tableScrub a k
  else if weirBase ≤ a && a < belfryBase then s.weirScrub a k
  else if belfryBase ≤ a && a < ctlStoreBase then
    let s := s.setEcc a k
    match s.bf.dir.find? fun e => e.slot == (a - belfryBase) / 8 with
    | some e => if e.lost then s.scrub a 0 else s.bfChk e
    | none => s.scrub a 0
  else s.scrub a (min k 3)

/-- OCM_SCRUB_VISIT. R305: the granule, named by its first byte, must be the one whose turn it is. -/
def doOcmScrubVisit (addr u : Nat) (s : State) : State :=
  let a := addr / 8 * 8
  match s.ocmTurn a with
  | some s => s.ocmVisit a u
  | none => s

/-- OCM_SCRUB_VISIT. -/
def execOcmScrubVisit (addr : Nat) (found : Upset) (s : State) : Host.Outcome State Fault Refusal :=
  .next (doOcmScrubVisit addr (if weirBase ≤ addr && addr < belfryBase then upsetCode found else upsetBits found) s)

end Sys2Proof.Machine
end

