-- ==== Sys2Proof/Machine/MicroOps.lean ====
section
/-! DEFINITION. The Supervisor's microwords: the datapath, the fetch with its match check, and microcode faults, as shared
operations (spec/12 R392 to R397, R406, R407). -/
namespace Sys2Proof.Machine

/-! ## The Supervisor's accesses to device addresses (Table 9.1) -/

/-- The first address of the register space. -/
abbrev regSpace : Nat := 0x3F00000000

/-- The Supervisor as the master of an access. -/
def supWho : Who := { master := 0x300 }

/-- R554: the Supervisor restarts its watchdog. -/
def State.kick (s : State) (v : Nat) : State :=
  if v = 0x5A5A then { s with errors := { s.errors with svwdSince := s.now } } else s

/-- Reads `n` bytes, 1 or 4, at a device address that Table 9.1 opens to the Supervisor; none where the access is refused or
meets an uncorrectable error. -/
def State.supRead (s : State) (a n : Nat) : State × Option Nat :=
  if !s.mapOk .sup a n then (s.mapErr, none)
  else if regSpace ≤ a then
    let (s, v) := s.viewRead .pf (a - regSpace) n
    (s, some v)
  else match s.rdMem a n supWho 8 with
    | (s, some l) => (s, some (ofLe l))
    | (s, none) => (s, none)

/-- Writes `n` bytes, 1 or 4, at a device address; whether the access was refused or made a poisoned merge. A write of a
register is one of Ohmyth's changes (R452). -/
def State.supWrite (s : State) (a n v : Nat) : State × Bool :=
  if !s.mapOk .sup a n then (s.mapErr, true)
  else if regSpace ≤ a then
    let off := a - regSpace
    if off % 4 ≠ 0 || n ≠ 4 then (s.bump (instKey 0 0x4008), false)
    else if off = 0x003D0208 then (s.kick v, false)
    else ((s.maskWrite off 0xFFFFFFFF v).1, false)
  else s.wrMem a (leBytes n v) supWho 8

/-! ## Faults (R407) -/

/-- R407: a microcode fault at a word: the Supervisor stops, and a FATAL record is made. -/
def State.microFault (s : State) (addr : Nat) (inPatch : Bool) (cause : Nat) : State :=
  let v := addr % 2 ^ 14 + 2 ^ 14 * b2n inPatch + 2 ^ 16 * cause
  let s := (s.setReg 0x00370014 v).setBit 0x00370010 2
  let s := s.record { block := 0x0F, code := 0x00B2, sev := 4, dkind := 7, detail := leBytes 4 v ++ leBytes 4 0 }
  { s with sup := { s.sup with halted := true } }

/-! ## Fetching (R395, R406) -/

/-- R395: the patch address that a match register gives for ROM microaddress `a`; the lowest register wins. -/
def State.matchOf (s : State) (a : Nat) : Option Nat :=
  if a < 0x400 then none
  else ((upTo 32).find? fun m => s.bit (0x00370040 + 4 * m) 31 && s.fld (0x00370040 + 4 * m) 0 14 == a).map
    fun m => s.fld (0x00370040 + 4 * m) 16 9

/-- The word to fetch next: whether it lies in patch RAM, and its microaddress or patch address. -/
def State.microPlace (s : State) : Bool × Nat :=
  let u := s.sup
  if u.inPatch then (true, u.upc)
  else if u.noMatch then (false, u.upc)
  else match s.matchOf u.upc with
    | some p => (true, p)
    | none => (false, u.upc)

/-- Where a control-store word's check bits stand (R600). -/
def microAddr (inPatch : Bool) (a : Nat) : Nat := ctlStoreBase + 8 * (if inPatch then 0x4000 + a else a)

/-- R406, R407: fetches bits [103:0] of a word; none after an uncorrectable error. A correctable one is corrected, and a patch
word is rewritten. -/
def State.microFetch (s : State) (inPatch : Bool) (a : Nat) : State × Option Nat :=
  let p := microAddr inPatch a
  let w := if inPatch then NatMap.get 0 s.sup.patch a % 2 ^ 104 else (Config.romWord a).toNat
  match s.eccAt p with
  | 0 => (s, some w)
  | 1 =>
    let s := (s.eccNote 1 p).setBit 0x00370010 1
    (if inPatch then s.setEcc p 0 else s, some w)
  | k => ((s.eccCount k p).microFault a inPatch 1, none)

/-! ## The datapath (Table 12.1) -/

/-- Working register `k`. -/
def Supervisor.reg (u : Supervisor) (k : Nat) : Nat := NatMap.get 0 u.regs k

/-- ALUOP's result over 32-bit operands. -/
def microAlu (op a b : Nat) (c : Bool) : Nat :=
  let far := 32 ≤ b && decide (7 ≤ op) && decide (op ≤ 9)
  let r := match op with
    | 0x00 => a
    | 0x01 => a + b
    | 0x02 => a + b + b2n c
    | 0x03 => a + 2 ^ 32 - b
    | 0x04 => a &&& b
    | 0x05 => a ||| b
    | 0x06 => a ^^^ b
    | 0x07 => a * 2 ^ (b % 32)
    | 0x08 => a / 2 ^ (b % 32)
    | 0x09 => wrapTo 32 (signedOf 32 a / (2 ^ (b % 32) : Nat))
    | 0x0A => a * 2 ^ (b % 32) + a / 2 ^ (32 - b % 32)
    | 0x0B => a * b
    | _ => ofBe (leBytes 4 a)
  if far then (Config.supShift op a b).toNat else r % 2 ^ 32

/-- FLW: C, the carry of ADD and ADC; what the other operations leave in it is not stated. -/
def microC (op a b : Nat) (c : Bool) : Bool :=
  match op with
  | 0x01 => decide (2 ^ 32 ≤ a + b)
  | 0x02 => decide (2 ^ 32 ≤ a + b + b2n c)
  | _ => Config.supFlag op a b c false

/-- FLW: V, the signed overflow of ADD, ADC and SUB; what the other operations leave in it is not stated. -/
def microV (op a b : Nat) (c : Bool) : Bool :=
  let fits (i : Int) : Bool := decide (-(2 ^ 31 : Int) ≤ i) && decide (i < (2 ^ 31 : Int))
  match op with
  | 0x01 => !fits (signedOf 32 a + signedOf 32 b)
  | 0x02 => !fits (signedOf 32 a + signedOf 32 b + (b2n c : Nat))
  | 0x03 => !fits (signedOf 32 a - signedOf 32 b)
  | _ => Config.supFlag op a b c true

/-- R392: the datapath fields hold no reserved value. -/
def microFieldsOk (w : Nat) : Bool :=
  decide (bitsOf w 24 6 ≤ 0x0C) && decide (bitsOf w 51 4 ≤ 4) && decide (bitsOf w 55 4 ≤ 2) && bitsOf w 64 8 == 0

/-- MEMOP: the state after the access, the loaded value, and MEM_ERR. -/
def State.microMem (s : State) (op a d : Nat) : State × Nat × Bool :=
  let load (n : Nat) : State × Nat × Bool :=
    match s.supRead a n with
    | (s, some v) => (s, v % 2 ^ (8 * n), false)
    | (s, none) =>
      let s := if supRamAddr ≤ a && a < supRamAddr + s.sup.codeLen then s.eccNoteAs 2 a 0x00B1 4 supWho else s
      (s.tick, (Config.supLoad s.fresh).toNat, true)
  match op with
  | 1 => load 4
  | 3 => load 1
  | 2 => let (s, bad) := s.supWrite a 4 d; (s, 0, bad)
  | _ => let (s, bad) := s.supWrite a 1 d; (s, 0, bad)

/-- R20, R37: the head of the Supervisor input queue goes to the handler of its stream, or is discarded. The cells that the
handler originates, whose payloads are open (log entry 10), are offered to the Intake. -/
def State.popEvent (s : State) : State :=
  match s.supQueue with
  | [] => s
  | (h, p) :: rest =>
    let s := { s with supQueue := rest }
    if Config.hasHandler h.stream then
      let made := (Config.handlerCells s.fresh).filter fun p => decide (p.length ≤ 9216)
      { s.tick.emit .ohmyth h.stream h.gseq (h.toBytes ++ p) with supOffers := s.supOffers ++ made }
    else s.bump 0x00120030

/-- The datapath part of a word. -/
def State.microExec (s : State) (w : Nat) : State :=
  let u := s.sup
  let op := bitsOf w 24 6
  let lit := bitsOf w 72 32
  let a := u.reg (bitsOf w 30 6)
  let rb := u.reg (bitsOf w 36 6)
  let b := if bitAt w 48 then lit else rb
  let r := microAlu op a b u.c
  let mem := bitsOf w 51 4
  let addr := u.reg 62 % 256 * 2 ^ 32 + r
  let (s, v, bad) := if mem = 0 then (s, r, u.memErr) else s.microMem mem addr rb
  let res := if mem = 1 || mem = 3 then v else r
  let u1 := s.sup
  let u1 : Supervisor := { u1 with memErr := bad, d := if bitAt w 59 then r % 16 else u1.d }
  let u1 : Supervisor := if bitAt w 49 then { u1 with regs := NatMap.put 0 u1.regs (bitsOf w 42 6) res } else u1
  let u1 : Supervisor :=
    if bitAt w 50 then { u1 with z := r == 0, n := bitAt r 31, c := microC op a b u.c, v := microV op a b u.c } else u1
  let u1 : Supervisor := match bitsOf w 55 4 with
    | 1 => { u1 with loop := lit % 2 ^ 16 }
    | 2 => { u1 with loop := (u1.loop + 0xFFFF) % 2 ^ 16 }
    | _ => u1
  let u1 : Supervisor := if bitAt w 63 then { u1 with timerAt := some (s.now + lit), timer := false } else u1
  let s := { s with sup := u1 }
  let s := if bitAt w 60 then s.popEvent else s
  let s := if bitAt w 61 then s.mbTakeUp else s
  if bitAt w 62 then s.mbDone (u.reg 61 % 16) else s

/-- Table 12.3. -/
def State.microCond (s : State) (k : Nat) : Bool :=
  let u := s.sup
  match k with
  | 0 => true
  | 1 => u.z
  | 2 => u.n
  | 3 => u.c
  | 4 => u.v
  | 5 => !s.mbQueue.isEmpty
  | 6 => !s.supQueue.isEmpty
  | 7 => u.memErr
  | 8 => u.timer
  | _ => u.loop == 0

/-- Goes to a ROM microaddress. -/
def State.microGo (s : State) (inPatch : Bool) (a : Nat) (noMatch : Bool := false) : State :=
  { s with sup := { s.sup with upc := a, inPatch, noMatch } }

/-- R393: the sequence field of a ROM word holds no reserved value. -/
def romSeqOk (w : Nat) : Bool := decide (bitsOf w 14 4 ≤ 9) && decide (bitsOf w 19 2 ≤ 1) && bitsOf w 21 3 == 0

/-- R393: the next microaddress of a ROM word. -/
def romNext (w : Nat) (cond : Nat → Bool) (d : Nat) : Nat :=
  let next := bitsOf w 0 14
  let k := bitsOf w 14 4
  if bitsOf w 19 2 = 1 then putBits next 0 4 d
  else if k = 0 then next
  else putBits next 0 1 (b2n (cond k != bitAt w 18))

/-- R394: the sequence field of a patch word holds no reserved value. -/
def patchSeqOk (w : Nat) : Bool :=
  let bop := bitsOf w 0 2
  bop != 3 && decide (bitsOf w 2 4 ≤ 9) && bitsOf w 22 2 == 0 && (bop != 1 || bitsOf w 16 5 == 0)

end Sys2Proof.Machine
end

