-- ==== Sys2Proof/Machine/Supervisor.lean ====
section
/-! DEFINITION. The commands of the Supervisor's sequencer and its watchdog (spec/12 R392 to R409; spec/18 R554). -/
namespace Sys2Proof.Machine

/-- MICROWORD_ROM. R393, R395: the next word comes from ROM. -/
def doMicrowordRom (s : State) : State :=
  let a := s.microPlace.2
  if s.sup.halted || s.sup.stopped || s.microPlace.1 then s
  else match s.microFetch false a with
    | (s, none) => s
    | (s, some w) =>
      if !microFieldsOk w || !romSeqOk w then s.microFault a false 2
      else
        let t := s.microExec w
        let x := if Config.microAfter then t else s
        t.microGo false (romNext w x.microCond x.sup.d)

/-- MICROWORD_PATCH. R394: the next word comes from patch RAM. -/
def doMicrowordPatch (s : State) : State :=
  let a := s.microPlace.2
  if s.sup.halted || s.sup.stopped || !s.microPlace.1 then s
  else match s.microFetch true a with
    | (s, none) => s
    | (s, some w) =>
      if !microFieldsOk w || !patchSeqOk w then s.microFault a true 2
      else
        let t := s.microExec w
        let x := if Config.microAfter then t else s
        let taken := x.microCond (bitsOf w 2 4) != bitAt w 6
        let target := bitsOf w 7 14
        if taken && bitsOf w 0 2 == 1 then t.microGo true target
        else if taken && bitsOf w 0 2 == 2 then t.microGo false target (bitAt w 21)
        else if a + 1 < 0x200 then t.microGo true (a + 1)
        else t.microFault a true 3

/-- MICROTIMER_EXPIRY. Table 12.3: the microtimer has expired, and Ohmyth's timed gPTP tasks run (R148). -/
def doMicrotimerExpiry (s : State) : State :=
  match s.sup.timerAt with
  | some t =>
    if t ≤ s.now then ({ s with sup := { s.sup with timer := true, timerAt := none } } : State).gptpTimed else s
  | none => s

/-- SV_WATCHDOG_KICK. R554. -/
def doSvWatchdogKick (v : Nat) (s : State) : State := if s.ohmythUp then s.kick v else s

/-- SV_WATCHDOG_EXPIRY. R554: no kick for 100 ms outside an UPDATE window. -/
def doSvWatchdogExpiry (s : State) : State :=
  if !s.sup.running || s.sup.hold || s.errors.svwdExp || s.now < s.errors.svwdSince + 100000000 then s
  else
    let s := { s with errors := { s.errors with svwdExp := true } }
    s.record { block := 0x0F, code := 0x00B3, sev := 4 }

/-- MICROWORD_ROM. -/
def execMicrowordRom (s : State) : Host.Outcome State Fault Refusal := .next (doMicrowordRom s)
/-- MICROWORD_PATCH. -/
def execMicrowordPatch (s : State) : Host.Outcome State Fault Refusal := .next (doMicrowordPatch s)
/-- MICROTIMER_EXPIRY. -/
def execMicrotimerExpiry (s : State) : Host.Outcome State Fault Refusal := .next (doMicrotimerExpiry s)
/-- SV_WATCHDOG_KICK. -/
def execSvWatchdogKick (val : Word) (s : State) : Host.Outcome State Fault Refusal := .next (doSvWatchdogKick val.toNat s)
/-- SV_WATCHDOG_EXPIRY. -/
def execSvWatchdogExpiry (s : State) : Host.Outcome State Fault Refusal := .next (doSvWatchdogExpiry s)

end Sys2Proof.Machine
end

