-- ==== Sys2Proof/Machine/TapCmds.lean ====
section
/-! DEFINITION. The test access port: boundary scan, fuses and debug (spec/19 R584 to R588, R594). -/
namespace Sys2Proof.Machine

/-- R584: the TAP loads instruction `ir`. R585: EXTEST, HIGHZ or CLAMP ends with it: Tideway outputs are in their safe
states. -/
def State.tapLoad (s : State) (ir : Nat) : State :=
  let t := s.tap
  let s' : State := { s with tap := { t with ir, pads := false } }
  if t.pads then s'.chansSafe tidewayChannels else s'

/-- A TAP data register shifted out, its bit 0 first. -/
def State.tapOut (s : State) (bytes : List Byte) : State := s.emit .tap s.tap.ir 0 bytes

/-- BYPASS. R584. -/
def doBypass (s : State) : State := s.tapLoad 0xFF

/-- R585: EXTEST, HIGHZ and CLAMP may take effect. -/
def State.padsOk (s : State) : Bool := (s.mode == .boot || s.mode == .hold) && !s.td.outEn

/-- R585: an instruction that takes the pads over; where it may not, BYPASS loads. OUT_EN stays low, and the Baton ball is
high-impedance. -/
def State.padsTake (s : State) (ir : Nat) : State :=
  if s.padsOk then
    let s := s.tapLoad ir
    ({ s with tap := { s.tap with pads := true } } : State).batonRelease
  else doBypass s

/-- IDCODE. Table 19.10. -/
def doIdcode (s : State) : State := (s.tapLoad 0x01).tapOut (leBytes 4 0x04801F3F)

/-- SAMPLE_PRELOAD. Table 19.10: `pins` is what the boundary register's cells capture, `preload` what is shifted in. -/
def doSamplePreload (pins preload : List Byte) (s : State) : State :=
  let s := (s.tapLoad 0x02).tapOut pins
  { s with tap := { s.tap with boundary := preload } }

/-- EXTEST. R585: the boundary register drives the pads. -/
def doExtest (boundary : List Byte) (s : State) : State :=
  let s := s.padsTake 0x03
  if s.tap.pads then { s with tap := { s.tap with boundary } } else s

/-- HIGHZ. R585. -/
def doHighz (s : State) : State := s.padsTake 0x04
/-- CLAMP. R585. -/
def doClamp (s : State) : State := s.padsTake 0x05

/-! ## Fuses (R586) -/

/-- FUSE_PROG. R586: `vpp` is whether VPP_FUSE is in range. -/
def doFuseProg (vpp : Bool) (val : Nat) (s : State) : State :=
  let s := s.tapLoad 0x20
  let t := s.tap
  let v := bitsOf val 0 256
  let target := bitsOf val 256 8
  let blank := if target = 0 then t.keyHash = 0 && v != 0 else target = 1 && !t.dbgOpen
  let ok := vpp && (s.mode == .boot || s.mode == .hold) && blank && bitsOf val 264 8 == 0x5A && t.prog.isNone
  { s with tap := if ok then { t with prog := some (target, v, s.now), fail := false } else { t with fail := true } }

/-- FUSE_PROG_DONE. R586. -/
def doFuseProgDone (s : State) : State :=
  let t := s.tap
  match t.prog with
  | none => s
  | some (target, v, _) =>
    let t : Tap := { t with prog := none }
    { s with tap := if target = 0 then { t with keyHash := v } else { t with dbgOpen := true } }

/-- FUSE_READ. Table 19.10. -/
def doFuseRead (s : State) : State :=
  let s := s.tapLoad 0x21
  let t := s.tap
  s.tapOut (leBytes 32 t.keyHash ++ leBytes 8 Config.devId ++ leBytes 2 (b2n t.dbgOpen + 2 * b2n t.prog.isSome + 4 * b2n t.fail))

/-! ## Debug (R587) -/

/-- R587: a token is valid. -/
def tokenOk (keyHash : Nat) (l : List Byte) : Bool :=
  let pubkey := (l.drop 0x10).take 64
  l.length == 144 && leAt l 0 4 == 0x4B4F5444 && leAt l 4 8 == Config.devId && leAt l 0x0C 4 == 0 &&
    sha256 pubkey == keyHash && sigOk pubkey (l.drop 0x50) (l.take 0x50)

/-- DBG_UNLOCK. R587. -/
def doDbgUnlock (token : List Byte) (s : State) : State :=
  let s := s.tapLoad 0x30
  if tokenOk s.tap.keyHash token then { s with tap := { s.tap with token := true } } else s

/-- R587: debug is permitted. -/
def Tap.permits (t : Tap) : Bool := t.dbgOpen || t.keyHash = 0 || t.token

/-- R587: a debug write of a register: it is no CONFIG entry. -/
def State.dbgReg (s : State) (off v : Nat) : State :=
  match s.mailboxAt .pf off with
  | some (m, o) => s.mbWrite m o v
  | none => if off < 0x6000 then s.blockWriteReg 0 off v else (s.privWrite off 0xFFFFFFFF v).1

/-- R587: a permitted access: the state, the word read or written, and whether it ended in error. -/
def State.dbgDo (s : State) (a : Nat) (write : Bool) (v : Nat) : State × Nat × Bool :=
  if write then
    if !s.mapOk .sup a 4 then (s.mapErr, v, true)
    else if regSpace ≤ a then (s.dbgReg (a - regSpace) v, v, false)
    else
      let (s, bad) := s.wrMem a (leBytes 4 v) {} 8
      (s, v, bad)
  else match s.supRead a 4 with
    | (s, some x) => (s, x, false)
    | (s, none) => (s, v, true)

/-- DBG_ACCESS. R587, Table 19.10. -/
def doDbgAccess (val : Nat) (s : State) : State :=
  let s := s.tapLoad 0x31
  let a := bitsOf val 0 40
  let w := bitAt val 40
  let v := bitsOf val 41 32
  let (s, x, err) := if s.tap.permits && a % 4 = 0 then s.dbgDo a w v else (s, v, true)
  let s := { s with tap := { s.tap with dbg := (x, !err, err) } }
  s.tapOut (leBytes 10 (a + 2 ^ 40 * b2n w + 2 ^ 41 * x + 2 ^ 73 * b2n (!err) + 2 ^ 74 * b2n err))

/-- IDCODE. -/
def execIdcode (s : State) : Host.Outcome State Fault Refusal := .next (doIdcode s)
/-- SAMPLE_PRELOAD. -/
def execSamplePreload (pins preload : List Byte) (s : State) : Host.Outcome State Fault Refusal := .next (doSamplePreload pins preload s)
/-- EXTEST. -/
def execExtest (boundary : List Byte) (s : State) : Host.Outcome State Fault Refusal := .next (doExtest boundary s)
/-- HIGHZ. -/
def execHighz (s : State) : Host.Outcome State Fault Refusal := .next (doHighz s)
/-- CLAMP. -/
def execClamp (s : State) : Host.Outcome State Fault Refusal := .next (doClamp s)
/-- BYPASS. -/
def execBypass (s : State) : Host.Outcome State Fault Refusal := .next (doBypass s)
/-- FUSE_PROG. -/
def execFuseProg (vpp : Bool) (val : BitVec 272) (s : State) : Host.Outcome State Fault Refusal := .next (doFuseProg vpp val.toNat s)
/-- FUSE_PROG_DONE. -/
def execFuseProgDone (s : State) : Host.Outcome State Fault Refusal := .next (doFuseProgDone s)
/-- FUSE_READ. -/
def execFuseRead (s : State) : Host.Outcome State Fault Refusal := .next (doFuseRead s)
/-- DBG_UNLOCK. -/
def execDbgUnlock (token : List Byte) (s : State) : Host.Outcome State Fault Refusal := .next (doDbgUnlock token s)
/-- DBG_ACCESS. -/
def execDbgAccess (val : BitVec 80) (s : State) : Host.Outcome State Fault Refusal := .next (doDbgAccess val.toNat s)

end Sys2Proof.Machine
end

