-- ==== Sys2Proof/Machine/Withdraw.lean ====
section
/-! DEFINITION. Withdrawal, return and self-test of blocks (spec/16 R503 to R519). -/
namespace Sys2Proof.Machine


/-- DEV_WITHDRAW. R503, R514, R515: answered when the drain has ended. -/
def doDevWithdraw (m : Nat) (s : State) : State :=
  s.mbRun m 0x0105 fun x _ s =>
    let kind := x.f 8 1
    let i := x.f 9 2
    match s.wdState kind i with
    | .withdrawn => s.mbAnswer m 0
    | .running => if kind = 4 && !s.kettleFree i then s.mbAnswer m 0x0203 else (s.mbBegin m).wdStart kind i (m + 1)
    | .draining =>
      let s := s.mbBegin m
      { s with wd := { s.wd with asker := NatMap.put 0 s.wd.asker (blockKey kind i) (m + 1) } }
    | .testing => s

/-- DEV_RETURN. R506, R514, R515: it waits for a drain or a test that runs. -/
def doDevReturn (m : Nat) (s : State) : State :=
  s.mbRun m 0x0106 fun x _ s =>
    let kind := x.f 8 1
    let i := x.f 9 2
    match s.wdState kind i with
    | .running => s.mbAnswer m 0
    | .withdrawn => if kind = 2 && s.blockOut 4 (i / 2) then s.mbAnswer m 0x0203 else (s.wdReturn kind i).mbAnswer m 0
    | _ => s

/-- DRAIN_END. R503, Table 16.2. -/
def doDrainEnd (kind index : Nat) (s : State) : State :=
  if blockOk kind index && s.wdState kind index == .draining && s.wdDrained kind index then s.wdFinish kind index else s

/-- DRAIN_BOUND_EXPIRY. R504, R518: what is left is forced to its end. -/
def doDrainBoundExpiry (kind index : Nat) (s : State) : State :=
  let due := NatMap.get 0 s.wd.since (blockKey kind index)
  if blockOk kind index && s.wdState kind index == .draining && kind ≠ 3 && decide (due ≤ s.now) then
    let s := s.wdForce kind index
    if s.wdDrained kind index || kind = 5 || kind = 6 then s.wdFinish kind index else s
  else s

/-! ## Self-test (R507, R508) -/

/-- Table 16.3: the tests of a kind, with how many units each has. -/
def testsOf (kind : Nat) : List (Nat × Nat) :=
  match kind with
  | 1 => [(0x11, 8), (0x12, 32), (0x13, 12), (0x14, 8), (0x15, 1)]
  | 2 => [(0x21, 32), (0x22, 32), (0x23, 32)]
  | 3 => [(0x31, 1)]
  | 4 => [(0x41, 1), (0x42, 1), (0x43, 1)]
  | 5 => [(0x51, 1), (0x52, 1), (0x53, 1)]
  | _ => [(0x61, 1), (0x62, 1)]

/-- The memory that a scan reads: its first byte, its bytes, and the bank of an address. -/
def scanOf (test index : Nat) : Option (Nat × Nat × (Nat → Nat)) :=
  match test with
  | 0x14 => some (sharedAddr index, 0x40000, fun a => (a - sharedAddr index) / 0x8000)
  | 0x15 => some (progAddr index, 0x10000, fun _ => 0)
  | 0x23 => some (localAddr index, 0x40000, fun a => a / 4 % 32)
  | _ => none

/-- R508: a scan corrects what it can; the unit of the first uncorrectable error it meets. -/
def State.scan (s : State) (test index : Nat) : State × Option Nat :=
  match scanOf test index with
  | none => (s, none)
  | some (a, n, bank) =>
    let bad := s.badGranules a n
    let s := bad.foldl (fun s e => if e.2 = 1 then (s.eccNote 1 e.1).setEcc e.1 0 else s.eccNote e.2 e.1) s
    (s, (bad.find? fun e => e.2 ≠ 1).map fun e => bank e.1)

/-- R508: a march leaves its memory zeroed. -/
def State.march (s : State) (test index : Nat) : State :=
  match test with
  | 0x12 => s.clearMem (frameAddr index 0) 0x20000
  | 0x53 => s.setEth index { s.ethAt index with ingress := [] }
  | 0x62 => s.chanReset index
  | _ => s

/-- Runs the tests of a list in order up to the first failure. `fault` is the failing test and unit that the logic and the
marches report, 0 for none. -/
def State.runTests (s : State) (index fault : Nat) : List (Nat × Nat) → State × Nat
  | [] => (s, 0)
  | (t, n) :: rest =>
    let s := s.march t index
    let (s, ue) := s.scan t index
    if fault % 256 = t && fault / 256 % 256 < n then (s, fault % 0x10000)
    else match ue with
      | some u => (s, t + 256 * u)
      | none => State.runTests s index fault rest

/-- The tests of a block end with a result. -/
def State.testEnd (s : State) (m kind index fault : Nat) : State :=
  let (s, res) := s.runTests index fault (testsOf kind)
  let s := s.wdSet kind index .withdrawn
  let s := { s with wd := { s.wd with testKind := kind, testIndex := index, testResult := res } }
  let s := if res = 0 then s
    else (s.record { block := 0x16, code := 0x0041, sev := 2, unit := index }).bump 0x003D0124
  s.mbAnswer m 0 (leBytes 4 res)

/-- DEV_TEST. R507: the block is TESTING from the command's first step until its tests end, which is its second. -/
def doDevTest (m fault : Nat) (s : State) : State :=
  match (s.mbAt m).cmd with
  | some x =>
    if x.begun && x.op == 0x0107 && s.wdState (x.f 8 1) (x.f 9 2) == .testing then s.testEnd m (x.f 8 1) (x.f 9 2) fault
    else
      s.mbRun m 0x0107 fun x _ s =>
        let kind := x.f 8 1
        let i := x.f 9 2
        match s.wdState kind i with
        | .withdrawn => (s.mbBegin m).wdSet kind i .testing
        | _ => s.mbAnswer m 0x0203
  | none => s

/-- DEV_WITHDRAW. -/
def execDevWithdraw (m : Fin 16) (s : State) : Host.Outcome State Fault Refusal := .next (doDevWithdraw m s)
/-- DEV_RETURN. -/
def execDevReturn (m : Fin 16) (s : State) : Host.Outcome State Fault Refusal := .next (doDevReturn m s)
/-- DEV_TEST. -/
def execDevTest (m : Fin 16) (fault : Word) (s : State) : Host.Outcome State Fault Refusal := .next (doDevTest m fault.toNat s)
/-- DRAIN_END. -/
def execDrainEnd (kind : Fin 7) (index : Nat) (s : State) : Host.Outcome State Fault Refusal := .next (doDrainEnd kind index s)
/-- DRAIN_BOUND_EXPIRY. -/
def execDrainBoundExpiry (kind : Fin 7) (index : Nat) (s : State) : Host.Outcome State Fault Refusal :=
  .next (doDrainBoundExpiry kind index s)

end Sys2Proof.Machine
end

