-- ==== Sys2Proof/Machine/Dispatch.lean ====
section
/-! DEFINITION. The dispatch of every command of spec/opcode_table.json to its meaning, one arm each. -/
namespace Sys2Proof.Machine
open Sys2Proof

def exec (i : Instr) (s : State) : Host.Outcome State Fault Refusal :=
  match i with
  | .regWrite v off bytes val => Sys2Proof.Machine.execRegWrite v off bytes val s
  | .rcRead v off bytes => Sys2Proof.Machine.execRcRead v off bytes s
  | .lowerWordRead v off => Sys2Proof.Machine.execLowerWordRead v off s
  | .tbMmMinRead => Sys2Proof.Machine.execTbMmMinRead s
  | .intakeAccept src => Sys2Proof.Machine.execIntakeAccept src s
  | .heronParseStart k => Sys2Proof.Machine.execHeronParseStart k s
  | .kmov k => Sys2Proof.Machine.execKmov k s
  | .kput k => Sys2Proof.Machine.execKput k s
  | .kend k => Sys2Proof.Machine.execKend k s
  | .stepLimitAbort k => Sys2Proof.Machine.execStepLimitAbort k s
  | .learningProbe => Sys2Proof.Machine.execLearningProbe s
  | .learningCommit => Sys2Proof.Machine.execLearningCommit s
  | .commitTakeover => Sys2Proof.Machine.execCommitTakeover s
  | .stagedReloadDone => Sys2Proof.Machine.execStagedReloadDone s
  | .shoalScrubVisit e g found => Sys2Proof.Machine.execShoalScrubVisit e g found s
  | .dispatch => Sys2Proof.Machine.execDispatch s
  | .pairWord u => Sys2Proof.Machine.execPairWord u s
  | .alu u => Sys2Proof.Machine.execAlu u s
  | .alui u => Sys2Proof.Machine.execAlui u s
  | .shift u => Sys2Proof.Machine.execShift u s
  | .ldi u => Sys2Proof.Machine.execLdi u s
  | .ld u => Sys2Proof.Machine.execLd u s
  | .ldp u => Sys2Proof.Machine.execLdp u s
  | .st u => Sys2Proof.Machine.execSt u s
  | .stp u => Sys2Proof.Machine.execStp u s
  | .ldx u => Sys2Proof.Machine.execLdx u s
  | .stx u => Sys2Proof.Machine.execStx u s
  | .paddi16 u => Sys2Proof.Machine.execPaddi16 u s
  | .paddr u => Sys2Proof.Machine.execPaddr u s
  | .mul u => Sys2Proof.Machine.execMul u s
  | .bcc u => Sys2Proof.Machine.execBcc u s
  | .cbr u => Sys2Proof.Machine.execCbr u s
  | .cbi u => Sys2Proof.Machine.execCbi u s
  | .cbp u => Sys2Proof.Machine.execCbp u s
  | .jmp u => Sys2Proof.Machine.execJmp u s
  | .call u => Sys2Proof.Machine.execCall u s
  | .ret u => Sys2Proof.Machine.execRet u s
  | .fork c t => Sys2Proof.Machine.execFork c t s
  | .forkUnblock c t => Sys2Proof.Machine.execForkUnblock c t s
  | .forkq c t => Sys2Proof.Machine.execForkq c t s
  | .join c t => Sys2Proof.Machine.execJoin c t s
  | .joinReturn c t => Sys2Proof.Machine.execJoinReturn c t s
  | .exit c t => Sys2Proof.Machine.execExit c t s
  | .trap c t => Sys2Proof.Machine.execTrap c t s
  | .rett c t => Sys2Proof.Machine.execRett c t s
  | .mode u => Sys2Proof.Machine.execMode u s
  | .fence c t => Sys2Proof.Machine.execFence c t s
  | .mfsr u => Sys2Proof.Machine.execMfsr u s
  | .mtsr u => Sys2Proof.Machine.execMtsr u s
  | .send c t => Sys2Proof.Machine.execSend c t s
  | .sendUnblock c t => Sys2Proof.Machine.execSendUnblock c t s
  | .recv c t => Sys2Proof.Machine.execRecv c t s
  | .recvUnblock c t => Sys2Proof.Machine.execRecvUnblock c t s
  | .sendq c t => Sys2Proof.Machine.execSendq c t s
  | .recvq c t => Sys2Proof.Machine.execRecvq c t s
  | .fault c t => Sys2Proof.Machine.execFault c t s
  | .bkpt c t => Sys2Proof.Machine.execBkpt c t s
  | .fwd c t => Sys2Proof.Machine.execFwd c t s
  | .consume c t => Sys2Proof.Machine.execConsume c t s
  | .emit c t => Sys2Proof.Machine.execEmit c t s
  | .weirWaitEnd w => Sys2Proof.Machine.execWeirWaitEnd w s
  | .weirReleaseDue stream => Sys2Proof.Machine.execWeirReleaseDue stream s
  | .farLoadData c t => Sys2Proof.Machine.execFarLoadData c t s
  | .postedStoreComplete c t => Sys2Proof.Machine.execPostedStoreComplete c t s
  | .waitLimitExpiry c t => Sys2Proof.Machine.execWaitLimitExpiry c t s
  | .lookup c => Sys2Proof.Machine.execLookup c s
  | .copy c => Sys2Proof.Machine.execCopy c s
  | .crc c => Sys2Proof.Machine.execCrc c s
  | .waitUntil c t => Sys2Proof.Machine.execWaitUntil c t s
  | .waitFor c t => Sys2Proof.Machine.execWaitFor c t s
  | .timePortSample c t => Sys2Proof.Machine.execTimePortSample c t s
  | .launchRequest => Sys2Proof.Machine.execLaunchRequest s
  | .kernelStart => Sys2Proof.Machine.execKernelStart s
  | .ialu g => Sys2Proof.Machine.execIalu g s
  | .imul g => Sys2Proof.Machine.execImul g s
  | .falu g => Sys2Proof.Machine.execFalu g s
  | .fspec g => Sys2Proof.Machine.execFspec g s
  | .cvt g => Sys2Proof.Machine.execCvt g s
  | .set g => Sys2Proof.Machine.execSet g s
  | .sel g => Sys2Proof.Machine.execSel g s
  | .shfl g => Sys2Proof.Machine.execShfl g s
  | .vote g => Sys2Proof.Machine.execVote g s
  | .mfs g => Sys2Proof.Machine.execMfs g s
  | .ldw g => Sys2Proof.Machine.execLdw g s
  | .stw g => Sys2Proof.Machine.execStw g s
  | .ldd g => Sys2Proof.Machine.execLdd g s
  | .std g => Sys2Proof.Machine.execStd g s
  | .caMovi g => Sys2Proof.Machine.execCaMovi g s
  | .movh g => Sys2Proof.Machine.execMovh g s
  | .caAddi g => Sys2Proof.Machine.execCaAddi g s
  | .ifWord g => Sys2Proof.Machine.execIfWord g s
  | .elseWord g => Sys2Proof.Machine.execElseWord g s
  | .endifWord g => Sys2Proof.Machine.execEndifWord g s
  | .loop g => Sys2Proof.Machine.execLoop g s
  | .brk g => Sys2Proof.Machine.execBrk g s
  | .endloop g => Sys2Proof.Machine.execEndloop g s
  | .bru g => Sys2Proof.Machine.execBru g s
  | .caJmp g => Sys2Proof.Machine.execCaJmp g s
  | .caExit g => Sys2Proof.Machine.execCaExit g s
  | .kernelEnd g => Sys2Proof.Machine.execKernelEnd g s
  | .caBkpt g => Sys2Proof.Machine.execCaBkpt g s
  | .ilimit g => Sys2Proof.Machine.execIlimit g s
  | .kstart g => Sys2Proof.Machine.execKstart g s
  | .kwait g => Sys2Proof.Machine.execKwait g s
  | .caFence g => Sys2Proof.Machine.execCaFence g s
  | .caFarLoadData g => Sys2Proof.Machine.execCaFarLoadData g s
  | .caPostedStoreComplete g => Sys2Proof.Machine.execCaPostedStoreComplete g s
  | .kettleOpStart k => Sys2Proof.Machine.execKettleOpStart k s
  | .kettleOpEnd k => Sys2Proof.Machine.execKettleOpEnd k s
  | .resume g => Sys2Proof.Machine.execResume g s
  | .abandon g => Sys2Proof.Machine.execAbandon g s
  | .parkTimeout g => Sys2Proof.Machine.execParkTimeout g s
  | .caStateWrite g off val => Sys2Proof.Machine.execCaStateWrite g off val s
  | .dramRequest p => Sys2Proof.Machine.execDramRequest p s
  | .dramCommandIssue c => Sys2Proof.Machine.execDramCommandIssue c s
  | .urgencyRise p => Sys2Proof.Machine.execUrgencyRise p s
  | .refreshDue c r => Sys2Proof.Machine.execRefreshDue c r s
  | .zqCalibration c r => Sys2Proof.Machine.execZqCalibration c r s
  | .driftRecentre c r => Sys2Proof.Machine.execDriftRecentre c r s
  | .hotPoll c reading => Sys2Proof.Machine.execHotPoll c reading s
  | .dramScrubVisit found => Sys2Proof.Machine.execDramScrubVisit found s
  | .ocmScrubVisit addr found => Sys2Proof.Machine.execOcmScrubVisit addr found s
  | .channelFault c => Sys2Proof.Machine.execChannelFault c s
  | .acquire c t => Sys2Proof.Machine.execAcquire c t s
  | .tryacq c t => Sys2Proof.Machine.execTryacq c t s
  | .release c t => Sys2Proof.Machine.execRelease c t s
  | .releaseRepaired c t => Sys2Proof.Machine.execReleaseRepaired c t s
  | .fadd c t => Sys2Proof.Machine.execFadd c t s
  | .swap c t => Sys2Proof.Machine.execSwap c t s
  | .cas c t => Sys2Proof.Machine.execCas c t s
  | .read c t => Sys2Proof.Machine.execRead c t s
  | .atomicDone master => Sys2Proof.Machine.execAtomicDone master s
  | .belfryWaitLimit c t => Sys2Proof.Machine.execBelfryWaitLimit c t s
  | .doorbell inst val => Sys2Proof.Machine.execDoorbell inst val s
  | .requestAreaWrite inst off val => Sys2Proof.Machine.execRequestAreaWrite inst off val s
  | .takeUp => Sys2Proof.Machine.execTakeUp s
  | .devInfo m => Sys2Proof.Machine.execDevInfo m s
  | .devMode m => Sys2Proof.Machine.execDevMode m s
  | .devRegRead m => Sys2Proof.Machine.execDevRegRead m s
  | .devRegWrite m => Sys2Proof.Machine.execDevRegWrite m s
  | .devWithdraw m => Sys2Proof.Machine.execDevWithdraw m s
  | .devReturn m => Sys2Proof.Machine.execDevReturn m s
  | .devTest m fault => Sys2Proof.Machine.execDevTest m fault s
  | .devHealth m => Sys2Proof.Machine.execDevHealth m s
  | .devReset m => Sys2Proof.Machine.execDevReset m s
  | .instCreate m => Sys2Proof.Machine.execInstCreate m s
  | .instDestroy m => Sys2Proof.Machine.execInstDestroy m s
  | .instReset m => Sys2Proof.Machine.execInstReset m s
  | .instDrainExpiry inst => Sys2Proof.Machine.execInstDrainExpiry inst s
  | .instResetComplete inst => Sys2Proof.Machine.execInstResetComplete inst s
  | .instStatus m => Sys2Proof.Machine.execInstStatus m s
  | .instGrant m => Sys2Proof.Machine.execInstGrant m s
  | .tblShoalStage m => Sys2Proof.Machine.execTblShoalStage m s
  | .tblActionStage m => Sys2Proof.Machine.execTblActionStage m s
  | .tblStreamStage m => Sys2Proof.Machine.execTblStreamStage m s
  | .tblRegStage m => Sys2Proof.Machine.execTblRegStage m s
  | .tblStation m => Sys2Proof.Machine.execTblStation m s
  | .tblCommit m => Sys2Proof.Machine.execTblCommit m s
  | .tblAbort m => Sys2Proof.Machine.execTblAbort m s
  | .tblRead m => Sys2Proof.Machine.execTblRead m s
  | .prgEgretLoad m => Sys2Proof.Machine.execPrgEgretLoad m s
  | .prgParseStage m => Sys2Proof.Machine.execPrgParseStage m s
  | .prgChanBind m => Sys2Proof.Machine.execPrgChanBind m s
  | .prgRead m => Sys2Proof.Machine.execPrgRead m s
  | .caCodeLoad m => Sys2Proof.Machine.execCaCodeLoad m s
  | .caParkRead m => Sys2Proof.Machine.execCaParkRead m s
  | .caParkWrite m => Sys2Proof.Machine.execCaParkWrite m s
  | .caResume m => Sys2Proof.Machine.execCaResume m s
  | .caAbandon m => Sys2Proof.Machine.execCaAbandon m s
  | .portStatus m => Sys2Proof.Machine.execPortStatus m s
  | .portCounters m => Sys2Proof.Machine.execPortCounters m s
  | .portGclLoad m => Sys2Proof.Machine.execPortGclLoad m s
  | .portGongWrite m => Sys2Proof.Machine.execPortGongWrite m s
  | .portGongRearm m => Sys2Proof.Machine.execPortGongRearm m s
  | .twinStatus m => Sys2Proof.Machine.execTwinStatus m s
  | .twinPair m => Sys2Proof.Machine.execTwinPair m s
  | .twinDetach m => Sys2Proof.Machine.execTwinDetach m s
  | .twinResync m => Sys2Proof.Machine.execTwinResync m s
  | .twinHandover m => Sys2Proof.Machine.execTwinHandover m s
  | .recConfig m => Sys2Proof.Machine.execRecConfig m s
  | .recStatus m => Sys2Proof.Machine.execRecStatus m s
  | .recCheckpoint m => Sys2Proof.Machine.execRecCheckpoint m s
  | .recReplayEnter m => Sys2Proof.Machine.execRecReplayEnter m s
  | .recReplayExit m => Sys2Proof.Machine.execRecReplayExit m s
  | .updErase m ok => Sys2Proof.Machine.execUpdErase m ok s
  | .updWrite m ok => Sys2Proof.Machine.execUpdWrite m ok s
  | .updVerify m => Sys2Proof.Machine.execUpdVerify m s
  | .updSetBoot m => Sys2Proof.Machine.execUpdSetBoot m s
  | .updPatch m => Sys2Proof.Machine.execUpdPatch m s
  | .lockAcquire m => Sys2Proof.Machine.execLockAcquire m s
  | .lockAcquireTimeout m => Sys2Proof.Machine.execLockAcquireTimeout m s
  | .lockTryacq m => Sys2Proof.Machine.execLockTryacq m s
  | .lockRelease m => Sys2Proof.Machine.execLockRelease m s
  | .lockReleaseRepaired m => Sys2Proof.Machine.execLockReleaseRepaired m s
  | .lockAtomic m => Sys2Proof.Machine.execLockAtomic m s
  | .errRead m => Sys2Proof.Machine.execErrRead m s
  | .errCounts m => Sys2Proof.Machine.execErrCounts m s
  | .errFaultlogRead m => Sys2Proof.Machine.execErrFaultlogRead m s
  | .microwordRom => Sys2Proof.Machine.execMicrowordRom s
  | .microwordPatch => Sys2Proof.Machine.execMicrowordPatch s
  | .microtimerExpiry => Sys2Proof.Machine.execMicrotimerExpiry s
  | .sqTailDoorbell inst q val => Sys2Proof.Machine.execSqTailDoorbell inst q val s
  | .cqHeadDoorbell inst q val => Sys2Proof.Machine.execCqHeadDoorbell inst q val s
  | .sqEntryRead inst q entry payload => Sys2Proof.Machine.execSqEntryRead inst q entry payload s
  | .sqErrClear inst q => Sys2Proof.Machine.execSqErrClear inst q s
  | .queueEnable inst cq q val => Sys2Proof.Machine.execQueueEnable inst cq q val s
  | .inIenWrite inst val => Sys2Proof.Machine.execInIenWrite inst val s
  | .inHintWrite inst val => Sys2Proof.Machine.execInHintWrite inst val s
  | .inClaimWrite val => Sys2Proof.Machine.execInClaimWrite val s
  | .blockDoze b => Sys2Proof.Machine.execBlockDoze b s
  | .blockWake b => Sys2Proof.Machine.execBlockWake b s
  | .vfFlr inst => Sys2Proof.Machine.execVfFlr inst s
  | .pfFlr => Sys2Proof.Machine.execPfFlr s
  | .hostReset => Sys2Proof.Machine.execHostReset s
  | .encEdge n a b => Sys2Proof.Machine.execEncEdge n a b s
  | .encZEdge n => Sys2Proof.Machine.execEncZEdge n s
  | .encSample n ready bits parity => Sys2Proof.Machine.execEncSample n ready bits parity s
  | .ssiMonoflopEnd n => Sys2Proof.Machine.execSsiMonoflopEnd n s
  | .outputApply => Sys2Proof.Machine.execOutputApply s
  | .sdSegmentEnd n => Sys2Proof.Machine.execSdSegmentEnd n s
  | .spiFrameEnd n rx => Sys2Proof.Machine.execSpiFrameEnd n rx s
  | .adcSample n => Sys2Proof.Machine.execAdcSample n s
  | .gpioEdge b p level => Sys2Proof.Machine.execGpioEdge b p level s
  | .gpioCoalClose b => Sys2Proof.Machine.execGpioCoalClose b s
  | .uartRxChar n ch parityErr framingErr brk => Sys2Proof.Machine.execUartRxChar n ch parityErr framingErr brk s
  | .uartGapClose n => Sys2Proof.Machine.execUartGapClose n s
  | .uartCtsChange n deasserted => Sys2Proof.Machine.execUartCtsChange n deasserted s
  | .parStrobeIn data => Sys2Proof.Machine.execParStrobeIn data s
  | .parAckIn => Sys2Proof.Machine.execParAckIn s
  | .parAckTimeout => Sys2Proof.Machine.execParAckTimeout s
  | .pwmPeriodBoundary k => Sys2Proof.Machine.execPwmPeriodBoundary k s
  | .ggRearm hi val => Sys2Proof.Machine.execGgRearm hi val s
  | .frameReceived p frame fcsOk => Sys2Proof.Machine.execFrameReceived p frame fcsOk s
  | .linkUp p speed full => Sys2Proof.Machine.execLinkUp p speed full s
  | .linkDown p => Sys2Proof.Machine.execLinkDown p s
  | .frameTransmit p q => Sys2Proof.Machine.execFrameTransmit p q s
  | .gateStateChange p => Sys2Proof.Machine.execGateStateChange p s
  | .configChange p val => Sys2Proof.Machine.execConfigChange p val s
  | .configChangeTime g => Sys2Proof.Machine.execConfigChangeTime g s
  | .sgConfigChange g => Sys2Proof.Machine.execSgConfigChange g s
  | .frerResetTimeout r => Sys2Proof.Machine.execFrerResetTimeout r s
  | .avocetPass => Sys2Proof.Machine.execAvocetPass s
  | .syncReceived domain offset => Sys2Proof.Machine.execSyncReceived domain offset s
  | .syncLoss => Sys2Proof.Machine.execSyncLoss s
  | .refLost => Sys2Proof.Machine.execRefLost s
  | .refRestored => Sys2Proof.Machine.execRefRestored s
  | .pllLock => Sys2Proof.Machine.execPllLock s
  | .tbStep delta => Sys2Proof.Machine.execTbStep delta s
  | .tbRateWrite rate => Sys2Proof.Machine.execTbRateWrite rate s
  | .droop => Sys2Proof.Machine.execDroop s
  | .brownOut => Sys2Proof.Machine.execBrownOut s
  | .heartbeatSend => Sys2Proof.Machine.execHeartbeatSend s
  | .heartbeat hdr body => Sys2Proof.Machine.execHeartbeat hdr body s
  | .heartbeatMissed => Sys2Proof.Machine.execHeartbeatMissed s
  | .batonLineChange low => Sys2Proof.Machine.execBatonLineChange low s
  | .batonSettle => Sys2Proof.Machine.execBatonSettle s
  | .keeperRefresh => Sys2Proof.Machine.execKeeperRefresh s
  | .batonWatchdogExpiry => Sys2Proof.Machine.execBatonWatchdogExpiry s
  | .fordLinkUp delay version => Sys2Proof.Machine.execFordLinkUp delay version s
  | .fordLinkDown => Sys2Proof.Machine.execFordLinkDown s
  | .ingress hdr body => Sys2Proof.Machine.execIngress hdr body s
  | .decision hdr body => Sys2Proof.Machine.execDecision hdr body s
  | .config hdr body => Sys2Proof.Machine.execConfig hdr body s
  | .digest hdr body => Sys2Proof.Machine.execDigest hdr body s
  | .state hdr body => Sys2Proof.Machine.execState hdr body s
  | .control hdr msg => Sys2Proof.Machine.execControl hdr msg s
  | .app hdr body => Sys2Proof.Machine.execApp hdr body s
  | .gateLimitDetach => Sys2Proof.Machine.execGateLimitDetach s
  | .digestWindowClose => Sys2Proof.Machine.execDigestWindowClose s
  | .syncCatchUp => Sys2Proof.Machine.execSyncCatchUp s
  | .bitternRecord => Sys2Proof.Machine.execBitternRecord s
  | .chunkClose => Sys2Proof.Machine.execChunkClose s
  | .checkpointPeriod => Sys2Proof.Machine.execCheckpointPeriod s
  | .checkpointMark => Sys2Proof.Machine.execCheckpointMark s
  | .checkpointQuiesceTimeout => Sys2Proof.Machine.execCheckpointQuiesceTimeout s
  | .checkpointRetry => Sys2Proof.Machine.execCheckpointRetry s
  | .checkpointCopyDone => Sys2Proof.Machine.execCheckpointCopyDone s
  | .xferGo val => Sys2Proof.Machine.execXferGo val s
  | .xferDone => Sys2Proof.Machine.execXferDone s
  | .replayOffer => Sys2Proof.Machine.execReplayOffer s
  | .replayStuck => Sys2Proof.Machine.execReplayStuck s
  | .replayDone => Sys2Proof.Machine.execReplayDone s
  | .drainEnd kind index => Sys2Proof.Machine.execDrainEnd kind index s
  | .drainBoundExpiry kind index => Sys2Proof.Machine.execDrainBoundExpiry kind index s
  | .powerOnReset twinId => Sys2Proof.Machine.execPowerOnReset twinId s
  | .sysrstN => Sys2Proof.Machine.execSysrstN s
  | .bootStart => Sys2Proof.Machine.execBootStart s
  | .imageVerified => Sys2Proof.Machine.execImageVerified s
  | .configStoreLoaded ok => Sys2Proof.Machine.execConfigStoreLoaded ok s
  | .dramTrained fail0 fail1 => Sys2Proof.Machine.execDramTrained fail0 fail1 s
  | .dramZeroed => Sys2Proof.Machine.execDramZeroed s
  | .ohmythStart => Sys2Proof.Machine.execOhmythStart s
  | .bootEnd => Sys2Proof.Machine.execBootEnd s
  | .recordMove => Sys2Proof.Machine.execRecordMove s
  | .svWatchdogKick val => Sys2Proof.Machine.execSvWatchdogKick val s
  | .svWatchdogExpiry => Sys2Proof.Machine.execSvWatchdogExpiry s
  | .fatalEscalation => Sys2Proof.Machine.execFatalEscalation s
  | .streakClear => Sys2Proof.Machine.execStreakClear s
  | .sensorSample x => Sys2Proof.Machine.execSensorSample x s
  | .viveramRewrite addr => Sys2Proof.Machine.execViveramRewrite addr s
  | .idcode => Sys2Proof.Machine.execIdcode s
  | .samplePreload pins preload => Sys2Proof.Machine.execSamplePreload pins preload s
  | .extest boundary => Sys2Proof.Machine.execExtest boundary s
  | .highz => Sys2Proof.Machine.execHighz s
  | .clamp => Sys2Proof.Machine.execClamp s
  | .bypass => Sys2Proof.Machine.execBypass s
  | .fuseProg vpp val => Sys2Proof.Machine.execFuseProg vpp val s
  | .fuseProgDone => Sys2Proof.Machine.execFuseProgDone s
  | .fuseRead => Sys2Proof.Machine.execFuseRead s
  | .dbgUnlock token => Sys2Proof.Machine.execDbgUnlock token s
  | .dbgAccess val => Sys2Proof.Machine.execDbgAccess val s
  | .pcieLinkUp speed width => Sys2Proof.Machine.execPcieLinkUp speed width s
  | .pcieCompletionTimeout inst q => Sys2Proof.Machine.execPcieCompletionTimeout inst q s
  | .pcieConfigWrite fn cfg => Sys2Proof.Machine.execPcieConfigWrite fn cfg s
  | .pllLockLost => Sys2Proof.Machine.execPllLockLost s
  | .devResetStart => Sys2Proof.Machine.execDevResetStart s
  | .uartTxCharEnd n => Sys2Proof.Machine.execUartTxCharEnd n s
  | .parBusyChange busy => Sys2Proof.Machine.execParBusyChange busy s

end Sys2Proof.Machine
end

