-- ==== Sys2Proof/WellFormed.lean ====
section
/-! DEFINITION. Well-formed commands: operands that the block's ports and buses can carry (spec/00 R5; spec/13
R413, R426; spec/14 R453; spec/16 R503; spec/19 R582, R584, R587). A command that fails its check is no event of the block. -/
namespace Sys2Proof

/-- R413, R415: the offset lies in the view's BAR. -/
def View.holds (v : View) (off : Nat) : Bool :=
  match v with
  | .pf => decide (off < 0x01000000)
  | .vf n => decide (n.val ≠ 0) && decide (off < 0x40000)

/-- The sizes of a PCI Express access to a register: 1 to 8 bytes (R5: one of other than 4 has no effect). -/
def busSize (bytes : Nat) : Bool := decide (1 ≤ bytes) && decide (bytes ≤ 8)

/-- Host data of `lo` to `hi` bytes, or a failed read. -/
def HostRead.sized (lo hi : Nat) : HostRead → Bool
  | .data l => decide (lo ≤ l.length) && decide (l.length ≤ hi)
  | .failed => true

/-- Table 14.2: a Ford frame's body of at most 9280 bytes. -/
def fordBody (l : List Byte) : Bool := decide (l.length ≤ 9280)

/-- The command's operands are such as can occur. -/
def Instr.wf : Instr → Bool
  | .regWrite v off bytes _ => v.holds off && busSize bytes
  | .rcRead v off bytes => v.holds off && busSize bytes
  | .lowerWordRead v off => v.holds off && off % 4 == 0
  | .caStateWrite _ off _ => decide (off < 0x10000) && off % 4 == 0
  | .ocmScrubVisit addr _ => decide (0x800000000 ≤ addr) && decide (addr < 0x10410000000) && addr % 8 == 0
  | .requestAreaWrite _ off _ => decide (off < 0x100) && off % 4 == 0
  | .sqEntryRead _ _ entry payload => entry.sized 64 64 && payload.sized 0 9216
  | .frameReceived _ frame _ => decide (0 < frame.length)
  | .syncReceived _ offset => decide (-(2 ^ 63) ≤ offset) && decide (offset < 2 ^ 63)
  | .tbStep delta => decide (-(2 ^ 63) ≤ delta) && decide (delta < 2 ^ 63)
  | .tbRateWrite rate => decide (-(2 ^ 31) ≤ rate) && decide (rate < 2 ^ 31)
  | .heartbeat _ body => fordBody body
  | .ingress _ body => fordBody body
  | .decision _ body => fordBody body
  | .config _ body => fordBody body
  | .digest _ body => fordBody body
  | .state _ body => fordBody body
  | .app _ body => fordBody body
  | .drainEnd kind index => Machine.blockOk kind.val index
  | .drainBoundExpiry kind index => Machine.blockOk kind.val index
  | .sensorSample x => x.temps.length == 8
  | .viveramRewrite addr => decide (0x1004000000 ≤ addr) && decide (addr < 0x1005000000) && addr % 8 == 0
  | .samplePreload pins preload => decide (0 < pins.length) && pins.length == preload.length
  | .extest boundary => decide (0 < boundary.length)
  | .dbgUnlock token => token.length == 144
  | .tbMmMinRead | .intakeAccept _ | .heronParseStart _ | .kmov _ | .kput _ | .kend _ | .stepLimitAbort _ |
    .learningProbe | .learningCommit | .commitTakeover | .stagedReloadDone | .shoalScrubVisit _ _ _ | .dispatch |
    .pairWord _ | .alu _ | .alui _ | .shift _ | .ldi _ | .ld _ | .ldp _ | .st _ | .stp _ | .ldx _ | .stx _ |
    .paddi16 _ | .paddr _ | .mul _ | .bcc _ | .cbr _ | .cbi _ | .cbp _ | .jmp _ | .call _ | .ret _ | .fork _ _ |
    .forkUnblock _ _ | .forkq _ _ | .join _ _ | .joinReturn _ _ | .exit _ _ | .trap _ _ | .rett _ _ | .mode _ |
    .fence _ _ | .mfsr _ | .mtsr _ | .send _ _ | .sendUnblock _ _ | .recv _ _ | .recvUnblock _ _ | .sendq _ _ |
    .recvq _ _ | .fault _ _ | .bkpt _ _ | .fwd _ _ | .consume _ _ | .emit _ _ | .weirWaitEnd _ | .weirReleaseDue _ |
    .farLoadData _ _ | .postedStoreComplete _ _ | .waitLimitExpiry _ _ | .lookup _ | .copy _ | .crc _ |
    .waitUntil _ _ | .waitFor _ _ | .timePortSample _ _ | .launchRequest | .kernelStart | .ialu _ | .imul _ |
    .falu _ | .fspec _ | .cvt _ | .set _ | .sel _ | .shfl _ | .vote _ | .mfs _ | .ldw _ | .stw _ | .ldd _ | .std _ |
    .caMovi _ | .movh _ | .caAddi _ | .ifWord _ | .elseWord _ | .endifWord _ | .loop _ | .brk _ | .endloop _ |
    .bru _ | .caJmp _ | .caExit _ | .kernelEnd _ | .caBkpt _ | .ilimit _ | .kstart _ | .kwait _ | .caFence _ |
    .caFarLoadData _ | .caPostedStoreComplete _ | .kettleOpStart _ | .kettleOpEnd _ | .resume _ | .abandon _ |
    .parkTimeout _ | .dramRequest _ | .dramCommandIssue _ | .urgencyRise _ | .refreshDue _ _ | .zqCalibration _ _ |
    .driftRecentre _ _ | .hotPoll _ _ | .dramScrubVisit _ | .channelFault _ | .acquire _ _ | .tryacq _ _ |
    .release _ _ | .releaseRepaired _ _ | .fadd _ _ | .swap _ _ | .cas _ _ | .read _ _ | .atomicDone _ |
    .belfryWaitLimit _ _ | .doorbell _ _ | .takeUp | .devInfo _ | .devMode _ | .devRegRead _ | .devRegWrite _ |
    .devWithdraw _ | .devReturn _ | .devTest _ _ | .devHealth _ | .devReset _ | .instCreate _ | .instDestroy _ |
    .instReset _ | .instDrainExpiry _ | .instResetComplete _ | .instStatus _ | .instGrant _ | .tblShoalStage _ |
    .tblActionStage _ | .tblStreamStage _ | .tblRegStage _ | .tblStation _ | .tblCommit _ | .tblAbort _ |
    .tblRead _ | .prgEgretLoad _ | .prgParseStage _ | .prgChanBind _ | .prgRead _ | .caCodeLoad _ | .caParkRead _ |
    .caParkWrite _ | .caResume _ | .caAbandon _ | .portStatus _ | .portCounters _ | .portGclLoad _ |
    .portGongWrite _ | .portGongRearm _ | .twinStatus _ | .twinPair _ | .twinDetach _ | .twinResync _ |
    .twinHandover _ | .recConfig _ | .recStatus _ | .recCheckpoint _ | .recReplayEnter _ | .recReplayExit _ |
    .updErase _ _ | .updWrite _ _ | .updVerify _ | .updSetBoot _ | .updPatch _ | .lockAcquire _ |
    .lockAcquireTimeout _ | .lockTryacq _ | .lockRelease _ | .lockReleaseRepaired _ | .lockAtomic _ | .errRead _ |
    .errCounts _ | .errFaultlogRead _ | .microwordRom | .microwordPatch | .microtimerExpiry | .sqTailDoorbell _ _ _ |
    .cqHeadDoorbell _ _ _ | .sqErrClear _ _ | .queueEnable _ _ _ _ | .inIenWrite _ _ | .inHintWrite _ _ |
    .inClaimWrite _ | .blockDoze _ | .blockWake _ | .vfFlr _ | .pfFlr | .hostReset | .encEdge _ _ _ | .encZEdge _ |
    .encSample _ _ _ _ | .ssiMonoflopEnd _ | .outputApply | .sdSegmentEnd _ | .spiFrameEnd _ _ | .adcSample _ |
    .gpioEdge _ _ _ | .gpioCoalClose _ | .uartRxChar _ _ _ _ _ | .uartGapClose _ | .uartCtsChange _ _ |
    .parStrobeIn _ | .parAckIn | .parAckTimeout | .pwmPeriodBoundary _ | .ggRearm _ _ | .linkUp _ _ _ | .linkDown _ |
    .frameTransmit _ _ | .gateStateChange _ | .configChange _ _ | .configChangeTime _ | .sgConfigChange _ |
    .frerResetTimeout _ | .avocetPass | .syncLoss | .refLost | .refRestored | .pllLock | .droop | .brownOut |
    .heartbeatSend | .heartbeatMissed | .batonLineChange _ | .batonSettle | .keeperRefresh | .batonWatchdogExpiry |
    .fordLinkUp _ _ | .fordLinkDown | .control _ _ | .gateLimitDetach | .digestWindowClose | .syncCatchUp |
    .bitternRecord | .chunkClose | .checkpointPeriod | .checkpointMark | .checkpointQuiesceTimeout |
    .checkpointRetry | .checkpointCopyDone | .xferGo _ | .xferDone | .replayOffer | .replayStuck | .replayDone |
    .powerOnReset _ | .sysrstN | .bootStart | .imageVerified | .configStoreLoaded _ | .dramTrained _ _ |
    .dramZeroed | .ohmythStart | .bootEnd | .recordMove | .svWatchdogKick _ | .svWatchdogExpiry | .fatalEscalation |
    .streakClear | .idcode | .highz | .clamp | .bypass | .fuseProg _ _ | .fuseProgDone | .fuseRead | .dbgAccess _ |
    .pcieLinkUp _ _ | .pcieCompletionTimeout _ _ | .pcieConfigWrite _ _ | .pllLockLost | .devResetStart |
    .uartTxCharEnd _ | .parBusyChange _ => true

end Sys2Proof
end

