-- ==== Sys2Proof/Safety.lean ====
section
/-! DEFINITION. What counts as a safe run: it never stops, and the state keeps the forms that every statement may rely on. No
rule of the specification stops the block: what it calls an error is recorded in the state. -/
namespace Sys2Proof

/-- `k` steps from `s` end in a next state. -/
def completes (k : Nat) (s : Machine.State) : Prop := ∃ t, core.run k s = .next t

/-- Every run from `s` goes on. -/
def safe (s : Machine.State) : Prop := ∀ k, completes k s

/-- Every command that waits in the queue is well-formed. -/
def Machine.State.queueWf (s : Machine.State) : Bool := s.pending.all Instr.wf

/-- The invariant of every run: memory keeps its canonical form. -/
def Machine.State.inv (s : Machine.State) : Bool := Machine.Memory.wf s.mem

end Sys2Proof
end

