-- ==== Sys2Proof/Certificates/Slice0/Obligations.lean ====
section
/-! DEFINITION. The statements for the provers. A family's statement has one clause per command: under hypotheses on the state
and the operands alone, the command answers a next state, which the clause gives. -/

namespace Sys2Proof.Machine

/-- Unit `u`, whose core is `x`, may issue in its core's slot, and the word at its PC is `w`; the fetch, after which the core
stands at its next slot, leaves the state `s'`. -/
def State.issues (s s' : State) (u : EgUnit) (x : EgCore) (w : Nat) : Prop :=
  s.unitCore u = some x ∧ s.slotTurn u = true ∧ ∃ s₀, s.egFetch u x = (s₀, .word w) ∧ s' = s₀.slotNext u

/-- Thread `t` of cluster `c` is about to run `w`, a word of row `op`; after the fetch its thread is `x`. -/
def State.issuesSys (s s' : State) (c : Fin 6) (t : Fin 32) (op : EgOp) (x : Thread) (w : Nat) : Prop :=
  s.issues s' (.thread c t) x.core w ∧ egOp false w = op ∧ s'.threadAt c t = some x

end Sys2Proof.Machine
open Sys2Proof Sys2Proof.Machine

/-! ## Egret and Heron words (spec/06) -/

/-- R186 to R192, Tables 6.2, 6.4 and 6.5: the words that compute on registers write their result and flags, and go on at the
next word; nothing else of the unit's core changes. -/
def Sys2Proof.Parts.EgretWordsCompute : Prop :=
  ∀ (s s' : State) (u : EgUnit) (x : EgCore) (w : Nat), s.issues s' u x w →
    (egOp (isHeron u) w = .alu → ∀ r f,
      aluFn (bitsOf w 9 4) (x.reg (bitsOf w 17 4)) (x.reg (bitsOf w 13 4)) x.c x.bm = some (r, f) →
      exec (.alu u) s = .next (s'.setCore u (((r.elim x (x.put (bitsOf w 21 4) ·)).setFlags f).next))) ∧
    (egOp (isHeron u) w = .alui → ∀ r f,
      aluFn (bitsOf w 13 4) (x.reg (bitsOf w 17 4)) (bitsOf w 0 8) x.c x.bm = some (r, f) →
      exec (.alui u) s = .next (s'.setCore u (((r.elim x (x.put (bitsOf w 21 4) ·)).setFlags f).next))) ∧
    (egOp (isHeron u) w = .shift → ∀ n,
      n = (if bitAt w 14 then x.reg (bitsOf w 10 4) % 16 else bitsOf w 0 4) →
      exec (.shift u) s = .next (s'.setCore u (((x.put (bitsOf w 21 4)
        (shiftFn (bitsOf w 15 2) (x.reg (bitsOf w 17 4)) n).1).setFlags
          (shiftFlags x.bm (shiftFn (bitsOf w 15 2) (x.reg (bitsOf w 17 4)) n))).next))) ∧
    (egOp (isHeron u) w = .ldi →
      exec (.ldi u) s = .next (s'.setCore u ((if bitAt w 24 then x.put (16 + bitsOf w 22 2) (bitsOf w 0 16)
        else x.put (bitsOf w 20 4) (bitsOf w 0 8)).next))) ∧
    (egOp (isHeron u) w = .paddi16 →
      exec (.paddi16 u) s = .next (s'.setCore u
        (x.put (16 + bitsOf w 23 2) (wrapTo 16 ((x.ptr (bitsOf w 21 2) : Int) + signedOf 16 (bitsOf w 0 16)))).next)) ∧
    (egOp (isHeron u) w = .paddr →
      exec (.paddr u) s = .next (s'.setCore u
        (x.put (16 + bitsOf w 23 2) (wrapTo 16 ((x.ptr (bitsOf w 21 2) : Int) + x.reg (bitsOf w 17 4)))).next)) ∧
    (egOp (isHeron u) w = .mul → bitsOf w 21 4 % 2 = 0 → ∀ r : Nat,
      r = (if bitAt w 12 then wrapTo 16 (signedOf 8 (x.reg (bitsOf w 17 4)) * signedOf 8 (x.reg (bitsOf w 13 4)))
        else x.reg (bitsOf w 17 4) * x.reg (bitsOf w 13 4)) →
      ∃ y, exec (.mul u) s = .next (s'.setCore u y) ∧ y.pc = (x.pc + 1) % 0x10000 ∧
        y.reg (bitsOf w 21 4) = r % 256 ∧ y.reg (bitsOf w 21 4 + 1) = r / 256 % 256 ∧
        y.p = x.p ∧ y.bm = x.bm ∧
        (x.bm = false → y.c = x.c ∧ y.z = x.z ∧ y.n = x.n ∧ y.v = x.v) ∧
        (x.bm = true → y.z = (r == 0) ∧ y.n = bitAt r 15 ∧ y.c = (r / 256 != 0) ∧ y.v = false)) ∧
    (egOp (isHeron u) w = .pair → ∀ a b, shortOp x (bitsOf w 15 15) = some a → shortOp x (bitsOf w 0 15) = some b →
      pairHazard a b = false → a.mem.isNone → b.mem.isNone →
      exec (.pairWord u) s = .next (s'.setCore u
        ((((x.putAll a.writes).putAll b.writes).setFlags a.flags).setFlags b.flags).next))

/-- R189, R190, R192, Tables 6.4 and 6.5: what the functions of ALU and ALUI and the shifts give for bytes `a` and `b`, with the
carry `c` before, in FL mode (`bm`) or CB mode. -/
def Sys2Proof.Parts.EgretFunctionResults : Prop :=
  ∀ (a b n : Nat) (c bm : Bool), a < 256 → b < 256 → 0 < n → n < 8 →
    (∀ fn v k, (fn = 0 ∧ v = a + b ∨ fn = 1 ∧ v = a + b + b2n c) → k = decide (256 ≤ v) →
      ∃ f, aluFn fn a b c bm = some (some (v % 256), f) ∧ f.c = some k ∧ (bm = false → f.z = none ∧ f.n = none ∧ f.v = none) ∧
        (bm = true → f.z = some (v % 256 == 0) ∧ f.n = some (decide (128 ≤ v % 256)))) ∧
    (∀ fn q k, (fn = 2 ∧ q = 0 ∨ fn = 3 ∧ q = 1 - b2n c) → k = decide (b + q ≤ a) →
      ∃ f, aluFn fn a b c bm = some (some ((a + 256 - b - q) % 256), f) ∧ f.c = some k ∧
        (bm = false → f.z = none ∧ f.n = none ∧ f.v = none)) ∧
    (∀ fn v, (fn = 4 ∧ v = a &&& b ∨ fn = 5 ∧ v = a ||| b ∨ fn = 6 ∧ v = a ^^^ b ∨ fn = 7 ∧ v = a &&& (255 - b)) →
      ∃ f, aluFn fn a b c bm = some (some v, f) ∧ f.c = none ∧ (bm = false → f.z = none ∧ f.n = none ∧ f.v = none) ∧
        (bm = true → f.z = some (v == 0) ∧ f.n = some (decide (128 ≤ v)) ∧ f.v = some false)) ∧
    (∃ f, aluFn 8 a b c bm = some (none, f) ∧ f.c = some (decide (b ≤ a)) ∧ f.z = some (a == b)) ∧
    (∃ f, aluFn 9 a b c bm = some (none, f) ∧ f.c = none ∧ f.z = some (a &&& b == 0) ∧ f.v = some false) ∧
    shiftFn 0 a 0 = (a, none) ∧ shiftFn 0 a n = (a * 2 ^ n % 256, some (bitAt a (8 - n))) ∧
    shiftFn 1 a n = (a / 2 ^ n, some (bitAt a (n - 1))) ∧
    (a < 128 → shiftFn 2 a n = (a / 2 ^ n, some (bitAt a (n - 1)))) ∧
    (shiftFn 3 a n).1 = a * 2 ^ n % 256 + a / 2 ^ (8 - n)

/-- R186 to R192: the words that compute on registers, and their functions' results and flags. -/
def Obligations.EgretComputeWords : Prop := Sys2Proof.Parts.EgretWordsCompute ∧ Sys2Proof.Parts.EgretFunctionResults

/-- R185, R187, R189, R191: the words that trap instead: a reserved function, an odd rd of MUL, a reserved short operation in
either slot, and a hazardous pair. -/
def Sys2Proof.Parts.EgretComputeTraps : Prop :=
  ∀ (s s' : State) (u : EgUnit) (x : EgCore) (w : Nat), s.issues s' u x w →
    (egOp (isHeron u) w = .alu → 10 ≤ bitsOf w 9 4 → exec (.alu u) s = .next ((s'.egTrap u x { vec := 0 }).slotIdle u)) ∧
    (egOp (isHeron u) w = .alui → 10 ≤ bitsOf w 13 4 → exec (.alui u) s = .next ((s'.egTrap u x { vec := 0 }).slotIdle u)) ∧
    (egOp (isHeron u) w = .mul → bitsOf w 21 4 % 2 = 1 → exec (.mul u) s = .next ((s'.egTrap u x { vec := 0 }).slotIdle u)) ∧
    (egOp (isHeron u) w = .pair → shortOp x (bitsOf w 15 15) = none →
      exec (.pairWord u) s = .next ((s'.egTrap u x { vec := 0, pair := true }).slotIdle u)) ∧
    (egOp (isHeron u) w = .pair → ∀ a, shortOp x (bitsOf w 15 15) = some a → shortOp x (bitsOf w 0 15) = none →
      exec (.pairWord u) s = .next ((s'.egTrap u x { vec := 0, slot := 1, pair := true }).slotIdle u)) ∧
    (egOp (isHeron u) w = .pair → ∀ a b, shortOp x (bitsOf w 15 15) = some a → shortOp x (bitsOf w 0 15) = some b →
      pairHazard a b = true → exec (.pairWord u) s = .next ((s'.egTrap u x { vec := 2, pair := true }).slotIdle u))

/-- R189, R191, R198: a thread's load from its frame, and a store to it, when no error stands in the bytes: a byte load, a
16-bit load, their stores, and the indexed ones. `m` is the core after the write-back and the PC's advance. -/
def Sys2Proof.Parts.EgretFrameAccess : Prop :=
  ∀ (s s' : State) (c : Fin 6) (t : Fin 32) (y : Thread) (w : Nat), s.issues s' (.thread c t) y.core w →
    s'.threadAt c t = some y → y.runnable = true →
    (egOp false w = .ld → bitsOf w 16 2 = 0 → (ldAddr w y.core).1 < 0x1000 →
      s'.badGranules (frameAddr c t + (ldAddr w y.core).1) 1 = [] →
      exec (.ld (.thread c t)) s = .next (s'.finishLoad c t
        ⟨.reg (bitsOf w 21 4), (ldAddr w y.core).2, (ldAddr w y.core).1, 0, false⟩
        (s'.rd8 (frameAddr c t + (ldAddr w y.core).1)).toNat)) ∧
    (egOp false w = .ldp → ¬(bitAt w 18 = true ∧ bitsOf w 23 2 = bitsOf w 19 2) → (ldAddr w y.core).1 < 0x0FFF →
      s'.badGranules (frameAddr c t + (ldAddr w y.core).1) 2 = [] →
      exec (.ldp (.thread c t)) s = .next (s'.finishLoad c t
        ⟨.ptr (bitsOf w 23 2), (ldAddr w y.core).2, (ldAddr w y.core).1, 0, false⟩
        (s'.rdLe (frameAddr c t + (ldAddr w y.core).1) 2))) ∧
    (egOp false w = .ldx → ldxAddr w y.core < 0x1000 → s'.badGranules (frameAddr c t + ldxAddr w y.core) 1 = [] →
      exec (.ldx (.thread c t)) s = .next (s'.finishLoad c t
        ⟨.reg (bitsOf w 21 4), y.core.next, ldxAddr w y.core, 0, false⟩
        (s'.rd8 (frameAddr c t + ldxAddr w y.core)).toNat)) ∧
    (egOp false w = .st → bitsOf w 16 2 = 0 → (ldAddr w y.core).1 < 0x1000 →
      s'.badGranules (frameAddr c t + (ldAddr w y.core).1) 1 = [] →
      exec (.st (.thread c t)) s = .next ((s'.wr8 (frameAddr c t + (ldAddr w y.core).1)
        (BitVec.ofNat 8 (y.core.reg (bitsOf w 21 4)))).setCore (.thread c t) (ldAddr w y.core).2)) ∧
    (egOp false w = .stp → (ldAddr w y.core).1 < 0x0FFF →
      s'.badGranules (frameAddr c t + (ldAddr w y.core).1) 2 = [] →
      exec (.stp (.thread c t)) s = .next ((s'.wrLe (frameAddr c t + (ldAddr w y.core).1) 2
        (y.core.ptr (bitsOf w 23 2))).setCore (.thread c t) (ldAddr w y.core).2)) ∧
    (egOp false w = .stx → ldxAddr w y.core < 0x1000 → s'.badGranules (frameAddr c t + ldxAddr w y.core) 1 = [] →
      exec (.stx (.thread c t)) s = .next ((s'.wr8 (frameAddr c t + ldxAddr w y.core)
        (BitVec.ofNat 8 (y.core.reg (bitsOf w 21 4)))).setCore (.thread c t) y.core.next))

/-- R189, R191: in every form, a load or a store is the shared access to the word's data address, and the reserved forms of LD,
ST and LDP trap. -/
def Sys2Proof.Parts.EgretAccessForms : Prop :=
  ∀ (s s' : State) (u : EgUnit) (x : EgCore) (w : Nat), s.issues s' u x w →
    (egOp (isHeron u) w = .ld → exec (.ld u) s = .next ((if bitsOf w 16 2 = 0
      then s'.egLoad u ⟨.reg (bitsOf w 21 4), (ldAddr w x).2, (ldAddr w x).1, 0, false⟩ 1
      else s'.egTrap u x { vec := 0 }).slotIdle u)) ∧
    (egOp (isHeron u) w = .ldp → exec (.ldp u) s = .next ((if bitAt w 18 = true ∧ bitsOf w 23 2 = bitsOf w 19 2
      then s'.egTrap u x { vec := 0 }
      else s'.egLoad u ⟨.ptr (bitsOf w 23 2), (ldAddr w x).2, (ldAddr w x).1, 0, false⟩ 2).slotIdle u)) ∧
    (egOp (isHeron u) w = .st → exec (.st u) s = .next ((if bitsOf w 16 2 = 0
      then s'.egStore u x (ldAddr w x).2 (ldAddr w x).1 [BitVec.ofNat 8 (x.reg (bitsOf w 21 4))] 0 false
      else s'.egTrap u x { vec := 0 }).slotIdle u)) ∧
    (egOp (isHeron u) w = .stp → exec (.stp u) s = .next
      ((s'.egStore u x (ldAddr w x).2 (ldAddr w x).1 (leBytes 2 (x.ptr (bitsOf w 23 2))) 0 false).slotIdle u)) ∧
    (egOp (isHeron u) w = .ldx → exec (.ldx u) s = .next
      ((s'.egLoad u ⟨.reg (bitsOf w 21 4), x.next, ldxAddr w x, 0, false⟩ 1).slotIdle u)) ∧
    (egOp (isHeron u) w = .stx → exec (.stx u) s = .next
      ((s'.egStore u x x.next (ldxAddr w x) [BitVec.ofNat 8 (x.reg (bitsOf w 21 4))] 0 false).slotIdle u))

/-- R189, R191, R198: loads and stores: each form is the shared access to its data address, a reserved form traps, and an
access to the thread's frame reads or writes those bytes. -/
def Obligations.EgretMemoryAccess : Prop := Sys2Proof.Parts.EgretFrameAccess ∧ Sys2Proof.Parts.EgretAccessForms

/-- R193 to R195, R206, R211, R215: branches, jumps, MODE, CALL, RET and the special-register moves. A branch that is taken
goes to PC + 1 + its offset, and one that is not to the next word. -/
def Obligations.EgretControlWords : Prop :=
  ∀ (s s' : State) (u : EgUnit) (x : EgCore) (w : Nat), s.issues s' u x w →
    (egOp (isHeron u) w = .bcc → x.bm = true → ∀ b, condOf (bitsOf w 21 4) x.c x.z x.n x.v = some b →
      exec (.bcc u) s = .next (s'.setCore u (if b then x.branch 16 (bitsOf w 0 16) else x.next))) ∧
    (egOp (isHeron u) w = .cbr → ∀ b,
      condCmp (bitsOf w 21 4) 8 (x.reg (bitsOf w 17 4)) (x.reg (bitsOf w 13 4)) = some b →
      exec (.cbr u) s = .next (s'.setCore u (if b then x.branch 13 (bitsOf w 0 13) else x.next))) ∧
    (egOp (isHeron u) w = .cbi → ∀ b, condCmp (bitsOf w 21 4) 8 (x.reg (bitsOf w 17 4)) (bitsOf w 9 8) = some b →
      exec (.cbi u) s = .next (s'.setCore u (if b then x.branch 9 (bitsOf w 0 9) else x.next))) ∧
    (egOp (isHeron u) w = .cbp → ∀ b, condCmp (bitsOf w 21 4) 16 (x.ptr (bitsOf w 19 2)) (x.ptr (bitsOf w 17 2)) = some b →
      exec (.cbp u) s = .next (s'.setCore u (if b then x.branch 14 (bitsOf w 0 14) else x.next))) ∧
    (egOp (isHeron u) w = .jmp →
      exec (.jmp u) s = .next (s'.setCore u { x with pc := if bitAt w 23 then x.ptr (bitsOf w 21 2) else bitsOf w 0 16 })) ∧
    (egOp (isHeron u) w = .mode → exec (.mode u) s = .next (s'.setCore u { x.next with bm := bitAt w 0 })) ∧
    (egOp (isHeron u) w = .mfsr → ∀ v, x.sr (bitsOf w 0 8) = some (8, v) → bitAt w 15 = false →
      exec (.mfsr u) s = .next (s'.setCore u (x.put (bitsOf w 16 4) v).next)) ∧
    (egOp (isHeron u) w = .mfsr → ∀ v, x.sr (bitsOf w 0 8) = some (16, v) → bitAt w 15 = true →
      exec (.mfsr u) s = .next (s'.setCore u (x.put (16 + bitsOf w 18 2) v).next)) ∧
    (egOp (isHeron u) w = .mtsr → ∀ v y, x.sr (bitsOf w 0 8) = some (8, v) → bitAt w 15 = false →
      x.setSr (bitsOf w 0 8) (x.reg (bitsOf w 16 4)) = some y → exec (.mtsr u) s = .next (s'.setCore u y.next)) ∧
    (egOp (isHeron u) w = .mtsr → ∀ v y, x.sr (bitsOf w 0 8) = some (16, v) → bitAt w 15 = true →
      x.setSr (bitsOf w 0 8) (x.ptr (bitsOf w 18 2)) = some y → exec (.mtsr u) s = .next (s'.setCore u y.next)) ∧
    (egOp (isHeron u) w = .call → ∀ c t, u = .thread c t → x.residents < 5 →
      exec (.call u) s = .next (s'.setCore u (x.enter (jumpTarget w x)))) ∧
    (egOp (isHeron u) w = .ret → ∀ c t, u = .thread c t → x.cwp ≠ 0 → x.depth ≠ 0 → 1 < x.residents →
      exec (.ret u) s = .next (s'.setCore u { x with
        cwp := if x.retTo.2 then 0 else x.retTo.1, depth := x.depth - 1, residents := x.residents - 1
        pc := NatMap.get 0 x.ra x.cwp }))

/-- R193, R207, R213, R215: a BCC in CB mode traps with vector 1; a RET at depth 0 with vector 5, and one in window 0 with
vector 0; a CALL whose spill would pass SPL with vector 4. -/
def Sys2Proof.Parts.EgretControlTraps : Prop :=
  ∀ (s s' : State) (c : Fin 6) (t : Fin 32) (x : EgCore) (w : Nat), s.issues s' (.thread c t) x w →
    (egOp false w = .bcc → bitsOf w 21 4 ≠ 15 → x.bm = false →
      exec (.bcc (.thread c t)) s = .next ((s'.thTrap c t x { vec := 1 }).slotIdle (.thread c t))) ∧
    (egOp false w = .ret → x.cwp = 0 → exec (.ret (.thread c t)) s = .next ((s'.thTrap c t x { vec := 0 }).slotIdle (.thread c t))) ∧
    (egOp false w = .ret → x.cwp ≠ 0 → x.depth = 0 → exec (.ret (.thread c t)) s = .next ((s'.thTrap c t x { vec := 5 }).slotIdle (.thread c t))) ∧
    (egOp false w = .call → 5 ≤ x.residents → (x.spp + 0xFFF0) % 0x10000 < x.spl →
      exec (.call (.thread c t)) s = .next ((s'.thTrap c t x { vec := 4 }).slotIdle (.thread c t)))

/-- R185, R187, R189, R191, R193, R207, R213, R215: the words that trap, with their vectors. -/
def Obligations.EgretTraps : Prop := Sys2Proof.Parts.EgretComputeTraps ∧ Sys2Proof.Parts.EgretControlTraps

/-- R12, R212, R216: a thread's trap whose vector is enabled, as TRAPEN stood when its cell entered the cluster, outside a handler, saves the flags, BM, CWP and slot in TSTATE and the
resume address in TPC, writes TCODE and TINFO, sets TS, clears BM, selects window 0 and vectors to TVEC; TRAP_CNT counts. -/
def Sys2Proof.Parts.EgretTrapEntry : Prop :=
  ∀ (s : State) (c t : Nat) (x : EgCore) (y : Thread) (tr : Trap), s.threadAt c t = some y → x.ts = false →
    bitAt y.trapen tr.vec = true →
    ∃ z : EgCore, s.thTrap c t x tr = (s.setThread c t { y with core := z, wait := none }).bump (egKey c 0x20) ∧
      z.tstate = x.flagBits + 16 * b2n x.bm + 32 * x.cwp + 256 * tr.slot + 512 * b2n tr.pair ∧
      z.tpc = (if tr.nextWord then (x.pc + 1) % 0x10000 else x.pc) ∧ z.tcode = tr.vec ∧ z.tinfo = tr.tinfo ∧
      z.taddr = tr.taddr.getD x.taddr ∧ z.ts = true ∧ z.bm = false ∧ z.cwp = 0 ∧
      z.pc = (s.fld (egKey c 0x08) 6 10 * 64 + 4 * tr.vec) % 0x10000 ∧
      z.g = x.g ∧ z.p = x.p ∧ z.win = x.win ∧ z.spp = x.spp ∧ z.spl = x.spl

/-- R213, R214, R218, R202, R204: the traps that words take by design, the return from a trap, FAULT and FENCE. -/
def Sys2Proof.Parts.EgretTrapWords : Prop :=
  ∀ (s s' : State) (c : Fin 6) (t : Fin 32) (x : Thread) (w : Nat),
    (s.issuesSys s' c t .trap x w →
      exec (.trap c t) s = .next ((s'.thTrap c t x.core { vec := 0xA, nextWord := true, tinfo := bitsOf w 0 8 }).slotIdle (.thread c t))) ∧
    (s.issuesSys s' c t .bkpt x w →
      exec (.bkpt c t) s = .next ((s'.thTrap c t x.core { vec := 0xB, nextWord := true, tinfo := bitsOf w 0 8 }).slotIdle (.thread c t))) ∧
    (s.issuesSys s' c t .fault x w → exec (.fault c t) s = .next ((s'.park c t 0x1E x.core).slotIdle (.thread c t))) ∧
    (s.issuesSys s' c t .rett x w → x.core.ts = true → ∃ y : EgCore,
      exec (.rett c t) s = .next (s'.setCore (.thread c t) y) ∧ y.pc = x.core.tpc ∧ y.ts = false ∧
        y.c = bitAt x.core.tstate 0 ∧ y.z = bitAt x.core.tstate 1 ∧ y.n = bitAt x.core.tstate 2 ∧
        y.v = bitAt x.core.tstate 3 ∧ y.bm = bitAt x.core.tstate 4 ∧ y.cwp = bitsOf x.core.tstate 5 3 ∧
        y.g = x.core.g ∧ y.p = x.core.p ∧ y.win = x.core.win) ∧
    (s.issuesSys s' c t .fence x w → x.posted = [] → exec (.fence c t) s = .next (s'.setThread c t
      { x with core := (x.core.put (bitsOf w 16 4) (b2n x.postErr)).next, postErr := false }))

/-- R212 to R218: taking a trap, and the words about traps. -/
def Obligations.EgretTrapTaking : Prop := Sys2Proof.Parts.EgretTrapEntry ∧ Sys2Proof.Parts.EgretTrapWords

/-- R225, R226: FORK and FORKQ start a child on the chosen context where the quota and a context allow it, and the log is not
followed; FORKQ answers 0xFF where none is free. A blocked FORK starts its child later in the same way. JOIN goes on while no
direct child runs, and a waiting one returns then. EXIT ends the thread, and its cell completes with its last thread;
a cell thread that exits while another of its cell's threads runs, with the cell not disposed of, has consumed it. -/
def Sys2Proof.Parts.EgretForksAndJoins : Prop :=
  ∀ (s s' : State) (c : Fin 6) (t : Fin 32) (x : Thread) (w k : Nat),
    (s.issuesSys s' c t .fork x w → x.posted = [] →
      s'.followsSite 0x02 (fun e => e.master == egId c t) = false → s'.threadsFor x.inst c < s'.threadQuota x.inst c →
      s'.pickContext c = some k →
      exec (.fork c t) s = .next ((((s'.decision 0x02 (egId c t) (leBytes 1 k)).startThread c k (x.core.child (bitsOf w 0 16))
        x.gseq x.inst false t x.uid).thDone c t (x.core.put (bitsOf w 16 4) k).next).slotIdle (.thread c t))) ∧
    (s.issuesSys s' c t .fork x w → x.posted = [] →
      s'.followsSite 0x02 (fun e => e.master == egId c t) = false → s'.threadQuota x.inst c ≤ s'.threadsFor x.inst c →
      exec (.fork c t) s = .next
        (((s'.bump (egKey c 0x50)).thWait c t (.fork (bitsOf w 16 4) (bitsOf w 0 16))).slotIdle (.thread c t))) ∧
    (∀ rd target, s.threadAt c t = some x → x.wait = some (.fork rd target) →
      s.followsSite 0x02 (fun e => e.master == egId c t) = false → s.threadsFor x.inst c < s.threadQuota x.inst c →
      s.pickContext c = some k →
      exec (.forkUnblock c t) s = .next (((s.decision 0x02 (egId c t) (leBytes 1 k)).startThread c k (x.core.child target)
        x.gseq x.inst false t x.uid).thDone c t (x.core.put rd k).next)) ∧
    (s.issuesSys s' c t .forkq x w → x.posted = [] →
      s'.followsSite 0x02 (fun e => e.master == egId c t) = false → s'.threadQuota x.inst c ≤ s'.threadsFor x.inst c →
      exec (.forkq c t) s = .next ((((s'.decision 0x02 (egId c t) (leBytes 1 0xFF)).bump (egKey c 0x54)).thDone c t
        { (x.core.put (bitsOf w 16 4) 0xFF).next with z := true }).slotIdle (.thread c t))) ∧
    (s.issuesSys s' c t .forkq x w → x.posted = [] →
      s'.followsSite 0x02 (fun e => e.master == egId c t) = false → s'.threadsFor x.inst c < s'.threadQuota x.inst c →
      s'.pickContext c = some k →
      exec (.forkq c t) s = .next (((((s'.decision 0x02 (egId c t) (leBytes 1 k)).startThread c k
        (x.core.child (bitsOf w 0 16)) x.gseq x.inst false t x.uid).thDone c t (x.core.put (bitsOf w 16 4) k).next).modThread
          c t fun y => { y with core := { y.core with z := false } }).slotIdle (.thread c t))) ∧
    (s.issuesSys s' c t .join x w → s'.hasChild c x = false →
      exec (.join c t) s = .next ((s'.setThread c t { x with core := x.core.next, wait := none }).slotIdle (.thread c t))) ∧
    (s.issuesSys s' c t .join x w → s'.hasChild c x = true →
      exec (.join c t) s = .next ((s'.setThread c t { x with wait := some .join, since := s'.now }).slotIdle (.thread c t))) ∧
    (s.threadAt c t = some x → x.wait = some .join → s.hasChild c x = false → x.waitlim = 0 →
      exec (.joinReturn c t) s = .next (s.setThread c t { x with core := x.core.next, wait := none })) ∧
    (s.issuesSys s' c t .exit x w → x.posted = [] → (s'.stopThread c t).cellThreads x.gseq = [] →
      exec (.exit c t) s = .next (((s'.stopThread c t).completeCell x.gseq).slotIdle (.thread c t))) ∧
    (s.issuesSys s' c t .exit x w → x.posted = [] → (s'.stopThread c t).cellThreads x.gseq ≠ [] →
      (s'.stopThread c t).mayDispose x = false → exec (.exit c t) s = .next ((s'.stopThread c t).slotIdle (.thread c t))) ∧
    (∀ k, s.issuesSys s' c t .exit x w → x.posted = [] → (s'.stopThread c t).cellThreads x.gseq ≠ [] →
      x.isCell = true → (s'.stopThread c t).cellAt x.gseq = some k → k.disposed = false →
      exec (.exit c t) s = .next ((((s'.stopThread c t).consume k).weirRun).slotIdle (.thread c t)))

/-- R219: a started thread's context holds the given core with SPP at 0x1000 and SPL below it by 16 bytes per spill, the cell,
the owner and the parent; it may issue, nothing is outstanding, and its frame reads as zero. -/
def Sys2Proof.Parts.ThreadStart : Prop :=
  ∀ (s : State) (c t : Nat) (core : EgCore) (g i : Nat) (cell : Bool) (p pu : Nat),
    ∃ x : Thread, (s.startThread c t core g i cell p pu).threadAt c t = some x ∧
      x.core = { core with spp := 0x1000, spl := 0x1000 - 16 * zeroAs 1 (s.fld (egKey c 0x10) 0 8) } ∧
      x.gseq = g ∧ x.inst = i ∧ x.isCell = cell ∧ x.parent = p ∧ x.runnable = true ∧ x.outst = [] ∧ x.replies = [] ∧
      (∀ a, a < 0x1000 → (s.startThread c t core g i cell p pu).rd8 (frameAddr c t + a) = 0) ∧
      (cell = true → x.trapen = s.fld (egKey c 0x0C) 0 12 ∧ x.waitlim = s.fld (egKey c 0x44) 0 16) ∧
      (∀ y, cell = false → s.threadAt c p = some y → y.uid = pu → x.trapen = y.trapen ∧ x.waitlim = y.waitlim)

/-- R229 to R231: slot `j` of core `k` of cluster `c` names context `j` where `j` is below 4, and the table's below the slots per
round. WEIGHTED mode gives it to that context where it is runnable, and else to the next runnable one in cyclic order; GREEDY mode
gives it to its context where it is that context's first slot, and else to GCTX. A thread issues in its own slot alone; the core
goes on to the next slot with each word, and the slot at which it stands becomes open only where no context is runnable. -/
def Sys2Proof.Parts.EgretSlots : Prop :=
  ∀ (s : State) (c : Fin 6) (t : Fin 32) (k : Nat), k = t.val / 4 →
    4 ≤ s.slotsPerRound c k ∧ s.slotsPerRound c k ≤ 16 ∧
    (∀ j, j < 4 → s.slotNames c k j = j) ∧ (∀ j, 4 ≤ j → s.slotNames c k j = s.fld (slotKey c k + 4) (2 * (j - 4)) 2) ∧
    (∀ j n, s.slotNames c k j = n → s.ctxRuns c k n = true → s.slotWeighted c k j = some n) ∧
    (∀ j n i x, s.slotNames c k j = n → i < 4 → x = (n + i) % 4 → s.ctxRuns c k x = true →
      (∀ i', i' < i → s.ctxRuns c k ((n + i') % 4) = false) → s.slotWeighted c k j = some x) ∧
    (∀ j g, g = s.fld (slotKey c k) 9 2 → j < 4 → j ≠ g → s.ctxRuns c k j = true → s.slotGreedy c k j = some j) ∧
    (∀ j g, g = s.fld (slotKey c k) 9 2 → s.ctxRuns c k g = true → (4 ≤ j ∨ j = g ∨ s.ctxRuns c k j = false) →
      s.slotGreedy c k j = some g) ∧
    (∀ j g, g = s.fld (slotKey c k) 9 2 → s.ctxRuns c k g = false → (4 ≤ j ∨ s.ctxRuns c k j = false) →
      s.slotGreedy c k j = s.slotWeighted c k j) ∧
    (s.slotTurn (.thread c t) = true ↔ s.slotGives c k = some (t.val % 4)) ∧
    (s.slotTurn (.thread c t) = false → exec (.alu (.thread c t)) s = .next s) ∧
    (s.slotNext (.thread c t)).slotAt c k = (s.slotAt c k + 1) % s.slotsPerRound c k ∧
    (∀ i, i < 4 → s.ctxRuns c k i = true → s.slotIdle (.thread c t) = s)

/-- R195 to R197, R218 to R231: forks, joins and exits, how a thread starts, and which thread of a core issues. -/
def Obligations.EgretThreads : Prop :=
  Sys2Proof.Parts.EgretForksAndJoins ∧ Sys2Proof.Parts.ThreadStart ∧ Sys2Proof.Parts.EgretSlots

/-- R196, R233 to R236: sends and receives on a channel of the cluster or the device, with the log not followed. A send into a
channel with room appends its word, and into a full one waits, or for SENDQ fails; a receive takes the oldest word and stores
it, and from an empty channel waits, or for RECVQ fails. A send or receive that waits completes in the same way. -/
def Sys2Proof.Parts.EgretChannelWords : Prop :=
  ∀ (s s' s2 : State) (c : Fin 6) (t : Fin 32) (x : Thread) (w id a rd : Nat) (d : List Byte),
    chanFields w x.core = (id, a, rd) → id < 0x3C0 →
    (s.issuesSys s' c t .send x w → x.posted = [] → s'.thReadAny c t x a 4 = (s2, .data d) →
      s2.chanCheck c x id true = none → s2.chanFollows c t id = false → (s2.chanAt c id).length < 8 →
      exec (.send c t) s = .next
        ((((s2.chanMark c t id 0xFFFF true false).chanPut c t id (ofLe d)).thDone c t x.core.next).slotIdle (.thread c t))) ∧
    (s.issuesSys s' c t .send x w → x.posted = [] → s'.thReadAny c t x a 4 = (s2, .data d) →
      s2.chanCheck c x id true = none → 8 ≤ (s2.chanAt c id).length →
      exec (.send c t) s = .next ((s2.thWait c t (.send id (ofLe d))).slotIdle (.thread c t))) ∧
    (s.issuesSys s' c t .sendq x w → x.posted = [] → s'.thReadAny c t x a 4 = (s2, .data d) →
      s2.chanCheck c x id true = none → s2.chanFollows c t id = false → (s2.chanAt c id).length < 8 →
      exec (.sendq c t) s = .next
        ((((s2.chanMark c t id 0xFFFF true false).chanPut c t id (ofLe d)).thDone c t (x.core.quick rd false)).slotIdle
          (.thread c t))) ∧
    (s.issuesSys s' c t .sendq x w → x.posted = [] → s'.thReadAny c t x a 4 = (s2, .data d) →
      s2.chanCheck c x id true = none → s2.chanFollows c t id = false → 8 ≤ (s2.chanAt c id).length →
      exec (.sendq c t) s = .next
        (((s2.chanMark c t id 0xFFFF true true).thDone c t (x.core.quick rd true)).slotIdle (.thread c t))) ∧
    (∀ v, s.threadAt c t = some x → x.wait = some (.send id v) → x.waitlim = 0 →
      s.chanFollows c t id = false → (s.chanAt c id).length < 8 → ∃ s1,
      s1 = (s.chanMark c t id 0xFFFF true false).chanPut c t id v ∧
      exec (.sendUnblock c t) s = .next ((s1.waitEnds c t 0).thDone c t x.core.next)) ∧
    (s.issuesSys s' c t .recv x w → a + 4 ≤ 0x1000 → s'.chanCheck c x id false = none → s'.chanAt c id = [] →
      s'.chanFollows c t id = false → exec (.recv c t) s = .next ((s'.thWait c t (.recv id a)).slotIdle (.thread c t))) ∧
    (∀ e es y, s.issuesSys s' c t .recv x w → a + 4 ≤ 0x1000 → s'.chanCheck c x id false = none →
      s'.chanAt c id = e :: es → s'.chanFollows c t id = false →
      s2 = ({ s' with eg := { s'.eg with chans := NatMap.put [] s'.eg.chans (chanKey c id) es } } : State).chanMark
        c t id e.sender false false → s2.threadAt c t = some y →
      exec (.recv c t) s = .next
        ((((s2.wrChk (frameAddr c t + a) (leBytes 4 e.value) (y.who c t)).1).thDone c t x.core.next).slotIdle (.thread c t))) ∧
    (∀ e es y, s.issuesSys s' c t .recvq x w → a + 4 ≤ 0x1000 → s'.chanCheck c x id false = none →
      s'.chanAt c id = e :: es → s'.chanFollows c t id = false →
      s2 = ({ s' with eg := { s'.eg with chans := NatMap.put [] s'.eg.chans (chanKey c id) es } } : State).chanMark
        c t id e.sender false false → s2.threadAt c t = some y →
      exec (.recvq c t) s = .next
        ((((s2.wrChk (frameAddr c t + a) (leBytes 4 e.value) (y.who c t)).1).thDone c t (x.core.quick rd false)).slotIdle
          (.thread c t))) ∧
    (s.issuesSys s' c t .recvq x w → a + 4 ≤ 0x1000 → s'.chanCheck c x id false = none → s'.chanAt c id = [] →
      s'.chanFollows c t id = false →
      exec (.recvq c t) s = .next
        (((s'.chanMark c t id 0xFFFF false true).thDone c t (x.core.quick rd true)).slotIdle (.thread c t))) ∧
    (∀ e es y b, s.threadAt c t = some x → x.wait = some (.recv id b) → b + 4 ≤ 0x1000 → x.waitlim = 0 →
      s.chanAt c id = e :: es → s.chanFollows c t id = false →
      s2 = ({ s with eg := { s.eg with chans := NatMap.put [] s.eg.chans (chanKey c id) es } } : State).chanMark
        c t id e.sender false false → s2.threadAt c t = some y →
      exec (.recvUnblock c t) s = .next
        ((((s2.wrChk (frameAddr c t + b) (leBytes 4 e.value) (y.who c t)).1).thDone c t x.core.next).waitEnds c t 0))

/-- R235, R240, R241, R243: a send to a service's request channel reaches the service while fewer than 8 entries wait there, with
one request more outstanding; into a full one SEND waits and SENDQ fails. -/
def Sys2Proof.Parts.EgretServiceSends : Prop :=
  ∀ (s s' s2 : State) (c : Fin 6) (t : Fin 32) (x : Thread) (w id a rd : Nat) (d : List Byte),
    chanFields w x.core = (id, a, rd) → 0x3F0 ≤ id → x.posted = [] → s'.thReadAny c t x a 4 = (s2, .data d) →
    s2.chanFollows c t id = false →
    (s.issuesSys s' c t .send x w → s2.chanCheck c x id true = none → x.outstanding < 8 → s2.chanLoad c id < 8 →
      exec (.send c t) s = .next ((((s2.chanMark c t id 0xFFFF true false).serviceSend c t x (id - 0x3F0) (ofLe d)).thDone
        c t x.core.next).slotIdle (.thread c t))) ∧
    (s.issuesSys s' c t .send x w → s2.chanCheck c x id true = none → x.outstanding < 8 → 8 ≤ s2.chanLoad c id →
      exec (.send c t) s = .next ((s2.thWait c t (.send id (ofLe d))).slotIdle (.thread c t))) ∧
    (s.issuesSys s' c t .sendq x w → s2.chanCheck c x id true = none → x.outstanding < 8 → 8 ≤ s2.chanLoad c id →
      exec (.sendq c t) s = .next
        (((s2.chanMark c t id 0xFFFF true true).thDone c t (x.core.quick rd true)).slotIdle (.thread c t))) ∧
    (s.issuesSys s' c t .send x w → s2.chanCheck c x id true = none → 8 ≤ x.outstanding →
      exec (.send c t) s = .next ((s2.chanFault c t x.core 4 id).slotIdle (.thread c t))) ∧
    (∀ cause, s.issuesSys s' c t .send x w → s2.chanCheck c x id true = some cause →
      exec (.send c t) s = .next ((s2.chanFault c t x.core cause id).slotIdle (.thread c t)))

/-- R233 to R243: the channel words, with sends to the services. -/
def Obligations.EgretChannels : Prop := Sys2Proof.Parts.EgretChannelWords ∧ Sys2Proof.Parts.EgretServiceSends

/-- R28, R36, R227, R250: FWD forwards the cell and CONSUME removes its place, for a cell thread that has not disposed of it;
any other raises CHANNEL_FAULT with cause 5. EMIT with room makes its cell and answers 0. A forward or an emit that waits goes on
once there is room; an emit whose SUB another thread has meanwhile reached is refused then (R22). -/
def Obligations.EgretDisposal : Prop :=
  ∀ (s s' s2 : State) (c : Fin 6) (t : Fin 32) (x : Thread) (w : Nat),
    (s.issuesSys s' c t .fwd x w → s'.mayDispose x = true → x.posted = [] → s'.forward x.gseq = some s2 →
      exec (.fwd c t) s = .next ((s2.thDone c t x.core.next).slotIdle (.thread c t))) ∧
    (s.issuesSys s' c t .fwd x w → s'.mayDispose x = true → x.posted = [] → s'.forward x.gseq = none →
      exec (.fwd c t) s = .next (((s'.bump 0x00120028).thWait c t .forward).slotIdle (.thread c t))) ∧
    (s.issuesSys s' c t .fwd x w → s'.mayDispose x = false →
      exec (.fwd c t) s = .next ((s'.chanFault c t x.core 5 0).slotIdle (.thread c t))) ∧
    (∀ k, s.issuesSys s' c t .consume x w → s'.mayDispose x = true → s'.cellAt x.gseq = some k →
      exec (.consume c t) s = .next ((((s'.thDone c t x.core.next).consume k).weirRun).slotIdle (.thread c t))) ∧
    (s.issuesSys s' c t .consume x w → s'.mayDispose x = false →
      exec (.consume c t) s = .next ((s'.chanFault c t x.core 5 0).slotIdle (.thread c t))) ∧
    (∀ d k p s3, s.issuesSys s' c t .emit x w → x.posted = [] → oneRegion (x.core.ptr (bitsOf w 14 2)) 32 = true →
      s'.thRead c t x (x.core.ptr (bitsOf w 14 2)) 32 = (s2, .data d) → s2.cellAt x.gseq = some k →
      (leAt d 0x0A 2 = 0 ∧ p = [] ∧ s3 = s2) ∨ (0 < leAt d 0x0A 2 ∧ oneRegion (leAt d 0x0C 2) (leAt d 0x0A 2) = true ∧
        s2.thRead c t x (leAt d 0x0C 2) (leAt d 0x0A 2) = (s3, .data p)) →
      emitStatus k (leAt d 0 2 % 0x1000) (leAt d 2 1) (leAt d 0x0A 2) = 0 →
      ∀ e : Emit, e = { stream := leAt d 0 2 % 0x1000, sub := leAt d 2 1, rel := if bitAt (leAt d 3 1) 0 then some (leAt d 4 6) else none
                        metaBytes := (d.drop 0x10).take 16, payload := p } →
      s3.emitRoom x.gseq e = true →
      exec (.emit c t) s = .next ((s3.emitGo c t x (bitsOf w 16 4) e).slotIdle (.thread c t))) ∧
    (s.threadAt c t = some x → x.wait = some .forward → s.forward x.gseq = some s2 →
      exec (.weirWaitEnd (.thread c t)) s = .next (s2.thDone c t x.core.next)) ∧
    (∀ rd e k, s.threadAt c t = some x → x.wait = some (.emit rd e) → s.emitRoom x.gseq e = true → s.cellAt x.gseq = some k →
      emitStatus k e.stream e.sub e.payload.length = 0 →
      exec (.weirWaitEnd (.thread c t)) s = .next (s.emitGo c t x rd e)) ∧
    (∀ rd e k st, s.threadAt c t = some x → x.wait = some (.emit rd e) → s.cellAt x.gseq = some k →
      emitStatus k e.stream e.sub e.payload.length = st → st ≠ 0 → st ≠ 4 →
      exec (.weirWaitEnd (.thread c t)) s = .next ((s.bump 0x00120024).thDone c t (x.core.put rd st).next))

/-- R202, R203, R239, R249: the ends of a thread's waits: a far load's data, a sample of the Timebase, and the wait limit; and a
posted store's completion. -/
def Obligations.EgretWaitEnds : Prop :=
  ∀ (s s' : State) (c : Fin 6) (t : Fin 32) (x : Thread), s.threadAt c t = some x →
    (∀ l dev n d, x.wait = some (.far l none dev n) → s.rdMem dev n (x.who c t) = (s', some d) →
      exec (.farLoadData c t) s = .next (s'.finishLoad c t l (ofLe (overlay x.posted dev d)))) ∧
    (∀ l dev n id a, x.wait = some (.far l (some id) dev n) → s.accAt id = some a → a.done = true → a.bad = false →
      exec (.farLoadData c t) s = .next ((s.dramTake id).finishLoad c t l (ofLe (overlay x.posted dev a.data)))) ∧
    (∀ l dev n id a, x.wait = some (.far l (some id) dev n) → s.accAt id = some a → a.done = true → a.bad = true →
      exec (.farLoadData c t) s = .next ((s.dramTake id).thTrap c t x.core
        { vec := 8, slot := l.slot, pair := l.pair, taddr := some l.addr })) ∧
    (∀ p ps, x.posted = p :: ps → p.acc = none →
      exec (.postedStoreComplete c t) s = .next (s.postedDone c t p)) ∧
    (∀ l two, x.wait = some (.sample l two) →
      s.followsSite 0x06 (fun e => e.master == egId c t && leAt e.body 0 1 == 0) = false →
      exec (.timePortSample c t) s = .next
        (((s.decision 0x06 (egId c t) (leBytes 4 0 ++ leBytes 8 s.tb.count)).setThread c t
          { x with sample := (leBytes 8 s.tb.count).drop 1 }).finishLoad c t l (s.tb.count % (if two then 0x10000 else 256)))) ∧
    (∀ id v lim, x.wait = some (.send id v) → x.waitlim = lim → lim ≠ 0 →
      s.followsSite 0x0A (fun e => e.master == egId c t) = false → x.since + 1000 * lim < s.now →
      exec (.waitLimitExpiry c t) s = .next ((s.waitEnds c t 1).chanFault c t x.core 6 id)) ∧
    (∀ id a lim, x.wait = some (.recv id a) → x.waitlim = lim → lim ≠ 0 →
      s.followsSite 0x0A (fun e => e.master == egId c t) = false → x.since + 1000 * lim < s.now →
      exec (.waitLimitExpiry c t) s = .next ((s.waitEnds c t 1).chanFault c t x.core 6 id))

/-! ## Intake, parsing, classification and dispatch (spec/01, spec/02, spec/05, spec/07) -/

/-- R599, R17, R21, R452, R453: outside SHADOW, REPLAY and SYNCING the Intake accepts the input of a source that is open and not
barred by fairness: the source gives it up, it becomes a cell, and a lead with a following partner sends its record. A follower
takes the next record instead, whatever the source. -/
def Sys2Proof.Parts.IntakeAccepts : Prop :=
  ∀ (s : State) (src : Source),
    (∀ x, s.intakeFollows = false → s.intakeStopped = false → s.fairTo src = true → s.offerOf src = some x →
      exec (.intakeAccept src) s = .next
        ((((s.countPass src).takeInput src).makeCell x).sendIngress s.nextGseq x)) ∧
    (s.intakeFollows = false → s.offerOf src = none → exec (.intakeAccept src) s = .next s) ∧
    (∀ r rest, s.mode = .shadow → s.ford.role ≠ .syncing → s.ford.records = r :: rest → s.bt.ckpt ≠ 1 →
      (upTo 16).all (fun k => s.blockOut 3 k) = false → s.pbufRoom r.payload = true →
      exec (.intakeAccept src) s = .next
        (({ s with ford := { s.ford with records := rest } } : State).takeRecord r)) ∧
    (∀ r rest s2, s.mode = .replay → s.replay.records = r :: rest → s.recordRead r = (s2, true) → s.bt.ckpt ≠ 1 →
      (upTo 16).all (fun k => s.blockOut 3 k) = false → s.pbufRoom r.payload = true → s.recordDue r = true →
      exec (.intakeAccept src) s = .next
        (({ s2 with replay := { s2.replay with records := rest } } : State).takeRecord r)) ∧
    (∀ r rest s2, s.mode = .replay → s.replay.records = r :: rest → s.recordRead r = (s2, false) → s.bt.ckpt ≠ 1 →
      (upTo 16).all (fun k => s.blockOut 3 k) = false → s.pbufRoom r.payload = true → s.recordDue r = true →
      exec (.intakeAccept src) s = .next (s2.caseError r))

/-- R599: of the sources that wait together, none is passed over by more than 16 acceptances from others: a source that has seen
16 is accepted from before any that has seen fewer. -/
def Sys2Proof.Parts.IntakeFairness : Prop :=
  ∀ (s : State) (x y : Source), x ≠ y → (s.offerOf y).isSome = true →
    (16 ≤ NatMap.get 0 s.passedOver (srcNum y) → NatMap.get 0 s.passedOver (srcNum x) < NatMap.get 0 s.passedOver (srcNum y) →
      s.fairTo x = false) ∧
    ((∀ z, NatMap.get 0 s.passedOver (srcNum z) ≤ NatMap.get 0 s.passedOver (srcNum x)) → s.fairTo x = true)

/-- R17, R21: a cell that the Intake makes carries the next GSEQ, SUB 0, the input's TSTAMP, SRC, kind and length, and the epoch
that the Intake works under; GSEQ advances modulo 2^48. -/
def Sys2Proof.Parts.AcceptedCellHeader : Prop :=
  ∀ (s : State) (x : Input), x.marker = none → ∃ (c : Cell) (t : State), s.makeCell x = t.classifyReady ∧
    t.cells = s.cells ++ [c] ∧ t.nextGseq = mod48 (s.nextGseq + 1) ∧ t.pbufUsed = s.pbufUsed + granulesOf x.payload.length ∧
    c.hdr.gseq = s.nextGseq ∧ c.hdr.sub = 0 ∧ c.hdr.tstamp = x.tstamp ∧ c.hdr.src = x.src ∧ c.hdr.kind = x.kind ∧
    c.hdr.len = x.payload.length ∧ c.payload = x.payload ∧ c.epoch = s.intakeEpoch ∧
    (6 ≤ x.src / 0x1000 → c.stage = .held 16 .noMatch) ∧
    (x.src / 0x1000 < 6 → bitAt (s.regAtEpoch s.intakeEpoch hnCtl) 0 = true → c.stage = .waiting)

/-- R17, R21, R452, R453, R599: what the Intake accepts, and the cell that it makes. -/
def Obligations.IntakeCells : Prop :=
  Sys2Proof.Parts.IntakeAccepts ∧ Sys2Proof.Parts.IntakeFairness ∧ Sys2Proof.Parts.AcceptedCellHeader

/-- R156 to R161: a free Heron starts the parse of the oldest waiting cell at HN_ENTRY of its source class, with p0 at the
payload and p1 at the header; KMOV and KPUT write the key; KEND submits it, or drops the cell; a probe joins those that are held in GSEQ order; at the step limit that held at its start the
parse is aborted. A frame without a C-tag, or with VID 0, has its port's PVID, and without one its PCP_DEF (R125). -/
def Obligations.HeronParse : Prop :=
  ∀ (s s' s2 : State) (k : Fin 16) (r : HeronRun) (w : Nat) (l : List Byte),
    (∀ c pc, s.heronAt k = none → s.runningBlock 3 k = true → s.cells.find? (fun c => c.stage == .waiting) = some c →
      pc = s.regAtEpoch c.epoch (0x001A0010 + 4 * (c.hdr.src / 0x1000)) % 0x1000 → ∀ r0 : HeronRun,
      r0 = { gseq := c.hdr.gseq, core := { pc := pc, p := [(0, 0x1040), (1, 0x1000)] }
             limit := max 64 (s.fld hnCtl 16 12), vlan := s.frameVlan c } →
      exec (.heronParseStart k) s = .next (({ s with eg := { s.eg with herons := NatMap.ins s.eg.herons k r0 } } :
        State).modCell c.hdr.gseq fun c => { c with stage := .parsing k })) ∧
    (s.issues s' (.heron k) r.core w → egOp true w = .kmov → s'.heronAt k = some r → bitsOf w 20 5 + bitsOf w 16 4 + 1 ≤ 24 →
      s'.hnRead r (ptrAdd (r.core.ptr (bitsOf w 14 2)) (bitsOf w 0 12)) (bitsOf w 16 4 + 1) = (s2, some l) →
      exec (.kmov k) s = .next ((s2.modHeron k fun r =>
        { r with key := putBits r.key (8 * bitsOf w 20 5) (8 * (bitsOf w 16 4 + 1)) (ofLe l) }).setCore (.heron k) r.core.next)) ∧
    (s.issues s' (.heron k) r.core w → egOp true w = .kmov → s'.heronAt k = some r → 24 < bitsOf w 20 5 + bitsOf w 16 4 + 1 →
      exec (.kmov k) s = .next (s'.abortParse k 2)) ∧
    (s.issues s' (.heron k) r.core w → egOp true w = .kput → s'.heronAt k = some r → bitsOf w 20 5 < 24 →
      exec (.kput k) s = .next ((s'.modHeron k fun r => { r with
        key := putBits r.key (8 * bitsOf w 20 5) 8 (putMask (bitsOf r.key (8 * bitsOf w 20 5) 8) (bitsOf w 8 8)
          (if bitAt w 19 then bitsOf w 0 8 else r.core.reg (bitsOf w 16 3))) }).setCore (.heron k) r.core.next)) ∧
    (s.issues s' (.heron k) r.core w → egOp true w = .kput → s'.heronAt k = some r → 24 ≤ bitsOf w 20 5 →
      exec (.kput k) s = .next (s'.abortParse k 2)) ∧
    (s.issues s' (.heron k) r.core w → egOp true w = .kend → s'.heronAt k = some r → bitAt w 23 = false →
      exec (.kend k) s = .next ((((s'.modCell r.gseq fun c => { c with
        stage := .held k (if bitAt w 24 then .null else .key r.key) }).classifyCell r.gseq).reap.trimOld).weirRun)) ∧
    (∀ p, s.issues s' (.heron k) r.core w → egOp true w = .kend → s'.heronAt k = some r → bitAt w 23 = true →
      s'.hnRead r (ptrAdd (r.core.ptr (bitsOf w 14 2)) (bitsOf w 0 12)) 6 = (s2, some l) → s2.probeOf r (ofLe l) = some p →
      ∀ l, l = s2.learn.held.takeWhile (fun x => before48 x.1 r.gseq) ++ (r.gseq, p) ::
          s2.learn.held.dropWhile (fun x => before48 x.1 r.gseq) →
      ∀ s3 : State, s3 = { s2 with learn := { s2.learn with held := l } } →
      exec (.kend k) s = .next ((((s3.modCell r.gseq fun c => { c with
          stage := .held k (if bitAt w 24 then .null else .key r.key) }).classifyCell r.gseq).reap.trimOld).weirRun)) ∧
    (∀ c, s.heronAt k = some r → s.cellAt r.gseq = some c → c.stage = .parsing k → r.limit ≤ r.steps →
      exec (.stepLimitAbort k) s = .next (s.abortParse k 1)) ∧
    (∀ c, s.cellAt r.gseq = some c → c.hdr.src / 0x1000 = 1 → ∀ q, q = 0x00160000 + 0x100 * (c.hdr.src % 0x1000) →
      (beAt c.payload 12 2 ≠ 0x8100 → s.frameVlan c = some (s.fld q 4 12, s.fld q 16 3)) ∧
      (beAt c.payload 12 2 = 0x8100 → beAt c.payload 14 2 % 0x1000 = 0 →
        s.frameVlan c = some (s.fld q 4 12, beAt c.payload 14 2 / 0x2000)))

/-- R129, R130, R134, R174 to R178, R222: the learning engine's probe and commit, Avocet's pass, a commit's takeover and the end
of its reload, Shoal's scrubber, and dispatch. -/
def Obligations.TablesAndDispatch : Prop :=
  ∀ (s : State),
    (∀ p ps t, s.bit lrnCtl 0 = true → s.commits = [] → s.learn.queue = .probe p :: ps → s.doProbe p = some t →
      exec .learningProbe s = .next { t with learn := { t.learn with queue := ps } }) ∧
    (s.followsLog = false → s.bit lrnCtl 0 = true → s.learn.set_ ≠ [] → s.markers.any (·.learning) = false →
      s.learn.lastCommit + 1000 * s.fld lrnCtl 16 10 ≤ s.now ∨ 256 ≤ s.learn.set_.length →
      exec .learningCommit s = .next { s with
        markers := s.markers ++ [⟨true, []⟩], learn := { s.learn with lastCommit := s.now } }) ∧
    (∀ x, s.commits.find? (fun c => !c.takenOver) = some x →
      (s.cells.any fun c => before48 c.hdr.gseq x.gseq && !c.classifiedYet) = false →
      ∀ v : State, v = (s.keepMarks x.edited).rewritten x.edited →
      ∃ u : State, exec .commitTakeover s = .next (u.trimOld.classifyReady) ∧ u.epoch = x.epoch ∧
        u.tables = v.takeoverTables x.tables ∧
        u.oldTables = v.oldTables ++ [(v.epoch, v.tables)] ∧ u.mem = v.mem ∧ u.cells = v.cells ∧ u.weir = v.weir) ∧
    (∀ c, s.commits = [c] → c.takenOver = true → c.askers = [] → s.lateStages = [] →
      exec .stagedReloadDone s = .next { s with commits := [], lateStages := [] }) ∧
    (∀ (e : Fin 4096) (g : Fin 16) s2, s.ecc = [] → s.scrubTurn shoalBase 4096 10000000 e = some s2 →
      exec (.shoalScrubVisit e g .none) s = .next s2) ∧
    (∀ (e : Fin 4096) (g : Fin 16) u, s.scrubTurn shoalBase 4096 10000000 e = none →
      exec (.shoalScrubVisit e g u) s = .next s) ∧
    (∀ (e : Fin 4096) s2, s.ecc = [] → NatMap.get none s.staged.shoal e = none →
      s.scrubTurn shoalBase 4096 10000000 e = some s2 →
      exec (.shoalScrubVisit e 8 .single) s = .next
        (((s2.setEcc (shoalBase + 0x40000 + 64 * e) 1).eccNote 1 (shoalBase + 0x40000 + 64 * e)).setEcc
          (shoalBase + 0x40000 + 64 * e) 0)) ∧
    (∀ c k t, s.ecc = [] → (∀ d ∈ s.cells, d.stage = .classified → s.pendingStands d = true) →
      (s.cells.filter fun c => c.stage == .classified).find? (fun c => s.actionBad c || (s.placeOf c).isSome) = some c →
      s.actionBad c = false → s.placeOf c = some (k, t) →
      s.followsSite 0x01 (fun e => leAt e.body 0 6 == c.hdr.gseq) = false →
      exec .dispatch s = .next ((((s.decision 0x01 0xFFFF (leBytes 6 c.hdr.gseq ++ leBytes 1 k ++ leBytes 1 t)).startThread k t
        (cellCore (aeEntry (s.actionOf c))) c.hdr.gseq (aeInst (s.actionOf c)) true 0xFF 0).modCell c.hdr.gseq fun c =>
          { c with stage := .opened, place := some (k, t) }).classifyReady)) ∧
    (∀ c, s.ecc = [] → (∀ d ∈ s.cells, d.stage = .classified → s.pendingStands d = true) →
      (s.cells.filter fun c => c.stage == .classified).find? (fun c => s.actionBad c || (s.placeOf c).isSome) = some c →
      s.actionBad c = true → exec .dispatch s = .next ((s.actionMove c.hdr.gseq).classifyReady)) ∧
    (s.bit 0x00188000 0 = true → s.followsLog = false → s.learn.passAt = none →
      s.learn.lastPass + 1000000000 * clampNat 1 3600 (s.fld 0x00188004 0 12) ≤ s.now →
      exec .avocetPass s = .next
        (State.avocetFrom (s.tables.station.map (·.1)) { s with learn := { s.learn with lastPass := s.now } })) ∧
    (∀ st, s.bit 0x00188000 0 = true → s.followsLog = false → s.learn.passAt = some st →
      exec .avocetPass s = .next (State.avocetFrom ((s.tables.station.map (·.1)).filter fun k => decide (st ≤ k)) s)) ∧
    (∀ st e, e = NatMap.get 0 s.tables.station st → s.bit 0x00188000 (if st < 512 then 1 else 2) = false →
      stValid e = true → stStatic e = false → NatMap.has s.learn.set_ st = false →
      (stHit e = true → s.avocetVisit st = some (s.putStation st (putBits (putBits e 74 1 0) 75 1 0))) ∧
      (stHit e = false → stAged e = false → s.avocetVisit st = some (s.putStation st (putBits e 75 1 1))) ∧
      (stHit e = false → stAged e = true → s.stationWaits st = false →
        s.avocetVisit st = some ((s.stageStation st 0).bump 0x00160924)) ∧
      (stHit e = false → stAged e = true → s.stationWaits st = true → s.avocetVisit st = none))

/-- R240 to R248: a helper takes the oldest request of its cluster and answers it on the thread's reply channel. LOOKUP gives a
Stream, Action or Station Table entry as it stood in the epoch of the thread's cell; COPY moves bytes; CRC gives the selected
CRC; a Time request ends when its target is reached. `r` is the request and `s1` the state without it. -/
def Sys2Proof.Parts.HelpersAnswer : Prop :=
  ∀ (s s1 s2 s3 : State) (c : Fin 6) (t : Fin 32) (r : HelpReq) (x : Thread) (l d : List Byte),
    (s.helperTake c 0 = some (s1, r) → s1.blockOk r 0x18 = true → r.op = 0 → s1.blockRead r 0 2 = (s2, some l) →
      ofLe l < 4096 → s2.inRange r.inst 0 (ofLe l) = true → s2.cellAt r.gseq = none →
      s2.rdChk (s2.tableAddr s2.epoch (streamAddr (ofLe l))) 16 { gseq := some r.gseq, master := egId r.c r.t } = (s3, some d) →
      exec (.lookup c) s = .next ((s3.blockWrite r 8
        (leBytes 16 (NatMap.get 0 (s2.tablesAt s2.epoch).stream (ofLe l)))).complete r 0 0)) ∧
    (∀ k, s.helperTake c 0 = some (s1, r) → s1.blockOk r 0x18 = true → r.op = 1 → s1.blockRead r 0 2 = (s2, some l) →
      ofLe l < 4096 → s2.inRange r.inst 1 (ofLe l) = true → s2.cellAt r.gseq = some k →
      s2.rdChk (s2.tableAddr k.epoch (actionAddr (ofLe l))) 16 { gseq := some r.gseq, master := egId r.c r.t } = (s3, some d) →
      exec (.lookup c) s = .next ((s3.blockWrite r 8
        (leBytes 16 (NatMap.get 0 (s2.tablesAt k.epoch).action (ofLe l)))).complete r 0 0)) ∧
    (∀ k, s.helperTake c 0 = some (s1, r) → s1.blockOk r 0x18 = true → r.op = 2 → s1.blockRead r 0 2 = (s2, some l) →
      ofLe l < 1024 → s2.cellAt r.gseq = some k →
      s2.rdChk (s2.tableAddr k.epoch (stationAddr (ofLe l))) 16 { gseq := some r.gseq, master := egId r.c r.t } = (s3, some d) →
      exec (.lookup c) s = .next ((s3.blockWrite r 8
        (leBytes 16 (NatMap.get 0 (s2.tablesAt k.epoch).station (ofLe l)))).complete r 0 0)) ∧
    (s.helperTake c 0 = some (s1, r) → s1.blockOk r 0x18 = true → 2 < r.op →
      exec (.lookup c) s = .next (s1.complete r 0 1)) ∧
    (s.helperTake c 0 = some (s1, r) → s1.blockOk r 0x18 = true → r.op < 2 → s1.blockRead r 0 2 = (s2, some l) →
      4096 ≤ ofLe l ∨ s2.inRange r.inst r.op (ofLe l) = false → exec (.lookup c) s = .next (s2.complete r 0 3)) ∧
    (s.helperTake c 1 = some (s1, r) → s1.threadAt r.c r.t = some x → s1.blockOk r 0x18 = true → r.op = 0 →
      s1.blockRead r 0 0x14 = (s2, some l) → 0 < leAt l 0x10 4 → leAt l 0x10 4 ≤ 65536 →
      exec (.copy c) s = .next (s2.copyGo r { x with core := { x.core with sbank := r.sbank } } (copyEnd (leAt l 0 8))
        (copyEnd (leAt l 8 8)) (leAt l 0x10 4))) ∧
    (s.helperTake c 1 = some (s1, r) → s1.threadAt r.c r.t = some x → s1.blockOk r 0x18 = true → r.op = 0 →
      s1.blockRead r 0 0x14 = (s2, some l) → leAt l 0x10 4 = 0 →
      exec (.copy c) s = .next (s2.complete r 1 0)) ∧
    (s.helperTake c 2 = some (s1, r) → s1.threadAt r.c r.t = some x → s1.blockOk r 12 = true → r.op % 128 ≤ 2 →
      s1.blockRead r 0 8 = (s2, some l) → leAt l 2 2 ≠ 0 → localOk (leAt l 0 2) (leAt l 2 2) = true →
      oneRegion (leAt l 0 2) (leAt l 2 2) = true →
      s2.regionRead r.c r.t { x with core := { x.core with sbank := r.sbank } } (leAt l 0 2) (leAt l 2 2) = (s3, .data d) →
      exec (.crc c) s = .next ((s3.blockWrite r 8 (leBytes 4 (crcOp r.op (leAt l 4 4) d))).complete r 2 0)) ∧
    (∀ q qs, s.eg.times = q :: qs → q.req.c = c → q.req.t = t → q.req.op = 0 → q.status = none → q.target ≤ s.tb.count →
      s.followsSite 0x06 (fun e => e.master == egId c t && leAt e.body 0 1 == 1) = false →
      exec (.waitUntil c t) s = .next ((({ s with eg := { s.eg with times := qs } } : State).decision 0x06 (egId c t)
        (leBytes 4 1 ++ leBytes 8 0)).complete q.req 3 0)) ∧
    (∀ q qs, s.eg.times = q :: qs → q.req.c = c → q.req.t = t → q.req.op = 1 → q.status = none → q.since + q.target ≤ s.now →
      s.followsSite 0x06 (fun e => e.master == egId c t && leAt e.body 0 1 == 1) = false →
      exec (.waitFor c t) s = .next ((({ s with eg := { s.eg with times := qs } } : State).decision 0x06 (egId c t)
        (leBytes 4 1 ++ leBytes 8 0)).complete q.req 3 0)) ∧
    (∀ q st, s.timeOf c t false = some q → q.status = some st → exec (.waitUntil c t) s = .next (s.timeDone q st)) ∧
    (∀ q st, s.timeOf c t true = some q → q.status = some st → exec (.waitFor c t) s = .next (s.timeDone q st)) ∧
    (s.timeOf c t false = none → exec (.waitUntil c t) s = .next s) ∧
    (s.timeOf c t true = none → exec (.waitFor c t) s = .next s)

/-- R246: a copy whose source can be read and whose destination may be written writes the bytes read, and answers 0, or 5 where
the write met an error. A destination that may not be written answers 2, and a source that cannot be read its own status. -/
def Sys2Proof.Parts.CopyMoves : Prop :=
  ∀ (s s1 s2 : State) (r : HelpReq) (x : Thread) (src dst : CopyEnd) (n : Nat),
    (∀ l, s.copyOk r x dst n = (s1, true) → s1.copyRead r x src n = (s2, .ok l) →
      s.copyGo r x src dst n = ((s2.copyWrite r x dst l).1).complete r 1 (s2.copyWrite r x dst l).2) ∧
    (s.copyOk r x dst n = (s1, false) → s.copyGo r x src dst n = s1.complete r 1 2) ∧
    (∀ st, s.copyOk r x dst n = (s1, true) → s1.copyRead r x src n = (s2, .error st) →
      s.copyGo r x src dst n = s2.complete r 1 st)

/-- R240, R241, R253: a completion joins the reply channel of the thread that asked, with its tag, service and status; one for a
thread that has ended, or another in its context, is discarded; and none changes memory. -/
def Sys2Proof.Parts.CompletionReaches : Prop :=
  ∀ (s : State) (r : HelpReq) (svc status : Nat),
    (∀ x, s.threadAt r.c r.t = some x → x.uid = r.uid → x.stopped = false → ∃ y : Thread,
      (s.complete r svc status).threadAt r.c r.t = some y ∧
      y.replies = x.replies ++ [(svc, r.tag + 256 * svc + 65536 * status)] ∧ y.core = x.core ∧ y.outst = x.outst) ∧
    (∀ x, s.threadAt r.c r.t = some x → x.uid ≠ r.uid → (s.complete r svc status).eg = s.eg) ∧
    (s.threadAt r.c r.t = none → (s.complete r svc status).eg = s.eg) ∧
    (s.complete r svc status).mem = s.mem

/-- R240 to R248, R253: the helpers' answers, copies, and where a completion goes. -/
def Obligations.Helpers : Prop := Sys2Proof.Parts.HelpersAnswer ∧ Sys2Proof.Parts.CopyMoves ∧ Sys2Proof.Parts.CompletionReaches

/-! ## Belfry (spec/10) -/

/-- Thread `t` of cluster `c` has `r` as its oldest request of operation `op`, which is the first of the waiting requests that
satisfy `p`; no decision log is followed. -/
def Sys2Proof.Machine.State.bfFirst (s : State) (c : Fin 6) (t : Fin 32) (op : Nat) (r : BfReq) (p : BfReq → Bool) : Prop :=
  s.dlogIn = [] ∧ s.followsLog = false ∧ s.bfOf (egId c t) op = some r ∧
    s.bf.queue.find? (fun q => p q && q.done.isNone) = some r

/-- R344, R350, R354: a thread's lock operation that is the first lock request that waits is performed; that of a thread that has
ended ends it at Belfry too. -/
def Sys2Proof.Parts.BelfryTakesLocks : Prop :=
  ∀ (s u : State) (c : Fin 6) (t : Fin 32) (r : BfReq),
    u = (if r.ended then (s.bfPerform r).bfFinish r.master r.inst else (s.bfPop r).bfLock r) →
    (s.bfFirst c t 1 r (fun q => bfIsLock q.op) → exec (.acquire c t) s = .next u) ∧
    (s.bfFirst c t 2 r (fun q => bfIsLock q.op) → exec (.tryacq c t) s = .next u) ∧
    (s.bfFirst c t 3 r (fun q => bfIsLock q.op) → exec (.release c t) s = .next u) ∧
    (s.bfFirst c t 4 r (fun q => bfIsLock q.op) → exec (.releaseRepaired c t) s = .next u)

/-- R344, R354, R358: a thread's atomic that is the first on its word is performed while fewer than 16 are in flight; its status
and result wait to be delivered. -/
def Sys2Proof.Parts.BelfryTakesAtomics : Prop :=
  ∀ (s u s1 : State) (c : Fin 6) (t : Fin 32) (r : BfReq) (st : Nat) (v : Option Nat), s.bfAtomic r = (s1, st, v) →
    (s.bf.queue.filter fun q => bfIsAtomic q.op && q.done.isSome).length < 16 →
    u = (if r.ended then (s.bfPerform r).bfFinish r.master r.inst else { s1 with bf := { s1.bf with
      queue := s1.bf.queue.map fun q => if q = r then { q with done := some (st, v) } else q } }) →
    (s.bfFirst c t 0x10 r (fun q => bfIsAtomic q.op && q.addr == r.addr) → exec (.fadd c t) s = .next u) ∧
    (s.bfFirst c t 0x11 r (fun q => bfIsAtomic q.op && q.addr == r.addr) → exec (.swap c t) s = .next u) ∧
    (s.bfFirst c t 0x12 r (fun q => bfIsAtomic q.op && q.addr == r.addr) → exec (.cas c t) s = .next u) ∧
    (s.bfFirst c t 0x13 r (fun q => bfIsAtomic q.op && q.addr == r.addr) → exec (.read c t) s = .next u)

/-- R350, R358: a request that Belfry accepts waits behind those that arrived before it, and before one of the same instant from
a master with a higher ID. -/
def Sys2Proof.Parts.BelfryArrival : Prop :=
  ∀ (s s1 : State) (r r' : BfReq), s.bfCheck r = (s1, none) → r' = { r with at_ := s1.now, num := s1.bf.nextNum } →
    (s.bfOffer r).bf.nextNum = s1.bf.nextNum + 1 ∧
    ((∀ q ∈ s1.bf.queue, q.at_ = s1.now → q.master ≤ r.master) → (s.bfOffer r).bf.queue = s1.bf.queue ++ [r']) ∧
    (∀ l q, s1.bf.queue = l ++ [q] → (∀ x ∈ l, x.at_ = s1.now → x.master ≤ r.master) → q.at_ = s1.now → q.done = none →
      r.master < q.master → (s.bfOffer r).bf.queue = l ++ [r', q])

/-- R358, R357: a performed atomic delivers its status and the old word; a request that has waited past the limit is withdrawn
and its thread raises CHANNEL_FAULT with cause 6. -/
def Sys2Proof.Parts.BelfryEnds : Prop :=
  ∀ (s : State),
    (∀ (master : BitVec 12) r st v, s.followsLog = false →
      s.bf.queue.find? (fun r => r.master == master.toNat && r.done.isSome && s.bfReady r) = some r → r.done = some (st, v) →
      exec (.atomicDone master) s = .next
        (if r.ended then ((s.bfPop r).bfComplete r st v).bfFinish r.master r.inst else (s.bfPop r).bfComplete r st v)) ∧
    (∀ (c : Fin 6) (t : Fin 32) x l two, s.threadAt c t = some x → x.wait = some (.belfry l two) →
      s.limitDue c t x = true → s.followsSite 0x0A (fun e => e.master == egId c t) = false →
      s.bf.queue.any (fun r => r.form == .port c t x.uid) = true → ∃ u : State,
      u = ({ (s.waitEnds c t 1) with bf := { s.bf with queue := s.bf.queue.filter fun r => !(r.form == .port c t x.uid) } } :
        State).requestDone c t 5 ∧
      exec (.belfryWaitLimit c t) s = .next (u.chanFault c t x.core 6 0x3F5 l.slot l.pair))

/-- R344, R350, R357, R358: when Belfry performs a request, and how requests end. -/
def Obligations.BelfryRequests : Prop :=
  Sys2Proof.Parts.BelfryTakesLocks ∧ Sys2Proof.Parts.BelfryTakesAtomics ∧ Sys2Proof.Parts.BelfryArrival ∧ Sys2Proof.Parts.BelfryEnds

/-- R349, R350, R352, R353, R355: what a lock operation does, by the lock's state: `e` is its directory entry, which holds no
error. -/
def Sys2Proof.Parts.BelfryLockRules : Prop :=
  ∀ (s : State) (r : BfReq), s.ecc = [] →
    (s.bfEntry r.addr = none → r.op = 3 ∨ r.op = 4 → s.bfLock r = s.bfEnds r 0x24 0 none) ∧
    (∀ e, s.bfEntry r.addr = some e → e.lost = true → s.bfLock r = s.bfEnds r 4 0 none) ∧
    (∀ e, s.bfEntry r.addr = some e → e.lost = false → e.owner = some r.master → r.op = 1 ∨ r.op = 2 →
      s.bfLock r = s.bfEnds r 0x26 0 none) ∧
    (∀ e m, s.bfEntry r.addr = some e → e.lost = false → e.owner = some m → m ≠ r.master → r.op = 2 →
      s.bfLock r = s.bfEnds r 0x22 0 none) ∧
    (∀ e m, s.bfEntry r.addr = some e → e.lost = false → e.owner = some m → m ≠ r.master → r.op = 3 ∨ r.op = 4 →
      s.bfLock r = (s.bump 0x0035001C).bfEnds r 0x23 0 none) ∧
    (∀ e m, s.bfEntry r.addr = some e → e.lost = false → e.owner = some m → m ≠ r.master → r.op = 1 →
      s.bfLock r = (s.bfLog r e.next 0).bfGrant { e with next := (e.next + 1) % 0x10000, waiters := e.waiters ++ [⟨e.next, r⟩] }) ∧
    (∀ e, s.bfEntry r.addr = some e → e.lost = false → e.owner = some r.master → r.op = 3 →
      s.bfLock r = (s.bfEnds r 0 e.serve none).bfGrant
        { e with owner := none, serve := (e.serve + 1) % 0x10000 }) ∧
    (∀ e, s.bfEntry r.addr = some e → e.lost = false → e.owner = some r.master → r.op = 4 →
      s.bfLock r = (s.bfEnds r 0 e.serve none).bfGrant
        { e with owner := none, serve := (e.serve + 1) % 0x10000, marked := false }) ∧
    (∀ e, s.bfEntry r.addr = some e → e.lost = false → e.owner = none → r.op = 3 ∨ r.op = 4 →
      s.bfLock r = s.bfEnds r 0x24 0 none) ∧
    (∀ e, s.bfEntry r.addr = some e → e.lost = true → (s.bfAtomic r).2 = (4, none))

/-- R358, Table 10.2: an atomic on an on-chip word without errors reads the old word, and writes the sum, OPA, or for CAS the
new value where the old one matches; READ and a failed CAS write nothing. No byte outside the word changes. -/
def Obligations.BelfryAtomicResult : Prop :=
  ∀ (s : State) (r : BfReq), 0x800000000 ≤ r.addr → r.addr % 8 = 0 → Memory.wf s.mem = true → s.ecc = [] → s.makesLog = false →
    (s.bfEntry r.addr).any (·.lost) = false → s.followsSite 0x04 (isBfEntry r.addr) = false → ∃ (t : State) (st : Nat),
      s.bfAtomic r = (t, st, some (s.rdLe r.addr 8)) ∧
      (r.op = 0x10 → st = 0 ∧ t = s.wrLe r.addr 8 ((s.rdLe r.addr 8 + r.opa) % 2 ^ 64)) ∧
      (r.op = 0x11 → st = 0 ∧ t = s.wrLe r.addr 8 r.opa) ∧
      (r.op = 0x12 → s.rdLe r.addr 8 = r.opa → st = 0 ∧ t = s.wrLe r.addr 8 r.opb) ∧
      (r.op = 0x12 → s.rdLe r.addr 8 ≠ r.opa → st = 0x25 ∧ t = s.bump 0x00350020) ∧
      (r.op = 0x13 → st = 0 ∧ t = s) ∧
      (∀ a, a < r.addr ∨ r.addr + 8 ≤ a → t.rd8 a = s.rd8 a)

/-- R350, R355, R360: a lock without owner is granted to the holder of ticket SERVE, once the log lets its wait end, with status 0x20 where it is marked
abandoned. -/
def Sys2Proof.Parts.BelfryGrantOrder : Prop :=
  ∀ (s : State) (e : BfEntry) (w : Ticket) (ws : List Ticket), e.owner = none → e.gone = [] → e.waiters = w :: ws →
    w.num = e.serve → (∀ x ∈ ws, x.num ≠ w.num) → s.bfReady w.req = true →
      s.bfGrant e = (s.bfPut { e with owner := some w.req.master, waiters := ws }).bfComplete w.req
        (if e.marked then 0x20 else 0) (some w.num)

/-- R349, R350, R352, R353, R355: the lock operations, and the order of grants. -/
def Obligations.BelfryLocks : Prop := Sys2Proof.Parts.BelfryLockRules ∧ Sys2Proof.Parts.BelfryGrantOrder

/-! ## Releases (spec/01) -/

/-- R24, R29 to R31, R44: the Weir's work for one stream. A stream without entries stays as it is; the head of a stream is not
released before H has passed it, while its item is awaited, or before its release time; a head that may be released is
released, with the stream's next ESEQ, which then advances modulo 2^16; a head that becomes eligible without a release time is
released at once. REL has passed exactly when (REL - now) mod 2^48 lies in 2^47 to 2^48 - 1. -/
def Obligations.WeirReleases : Prop :=
  ∀ (s : State) (stream : Fin 4096), (NatMap.get {} s.seqs stream).restart = none →
    (∀ rel, s.relPassed rel = false ↔ (rel % 2 ^ 48 + 2 ^ 48 - s.tb.count % 2 ^ 48) % 2 ^ 48 ≤ 2 ^ 47 - 1) ∧
    (s.weir.filter (fun e => e.stream == stream.val) = [] → exec (.weirReleaseDue stream) s = .next s) ∧
    (∀ e es, s.weir.filter (fun e => e.stream == stream.val) = e :: es → e.item = .pending ∨ e.item = .tail →
      exec (.weirReleaseDue stream) s = .next s) ∧
    (∀ e es h p l, s.weir.filter (fun e => e.stream == stream.val) = e :: es → e.item = .cell h p l →
      before48 e.gseq s.horizon = false → exec (.weirReleaseDue stream) s = .next s) ∧
    (∀ e es h p l m, s.weir.filter (fun e => e.stream == stream.val) = e :: es → e.item = .cell h p l →
      before48 e.gseq s.horizon = true → h.kind = .hole ∨ s.entryChk (s.epochOf h.repoch) (streamAddr stream) (some h.gseq) = (s, false) →
      e.gate = some m → s.mode ≠ .replay → h.hasRel = true → h.late = false → s.relPassed h.rel = false →
      h.rel % 2 ^ 48 ≠ s.tb.count % 2 ^ 48 → exec (.weirReleaseDue stream) s = .next s) ∧
    (∀ e h p l m, s.weir.filter (fun e => e.stream == stream.val) = [e] → e.item = .cell h p l →
      before48 e.gseq s.horizon = true → h.kind = .hole ∨ s.entryChk (s.epochOf h.repoch) (streamAddr stream) (some h.gseq) = (s, false) →
      e.gate = some m → s.gateOpen m = true →
      h.hasRel = false ∨ h.late = true ∨ s.relPassed h.rel = true ∨ h.rel % 2 ^ 48 = s.tb.count % 2 ^ 48 →
      exec (.weirReleaseDue stream) s = .next ((s.weirRelease e h p).weirRestart stream)) ∧
    (∀ e h p l, s.weir.filter (fun e => e.stream == stream.val) = [e] → e.item = .cell h p l → e.gate = none →
      before48 e.gseq s.horizon = true → h.kind = .hole ∨ s.entryChk (s.epochOf h.repoch) (streamAddr stream) (some h.gseq) = (s, false) →
      h.hasRel = false → s.mode ≠ .lead →
      ∃ e2 u, (s.becomeEligible e h p l).weirHead stream = some e2 ∧ e2.item = .cell h p l ∧
        exec (.weirReleaseDue stream) s = .next u ∧
        u = ((s.becomeEligible e h p l).weirRelease e2 h p).weirRestart stream) ∧
    (∀ (e : WeirEntry) (h : Header) (p : List Byte) (q : StreamSeq), q = NatMap.get {} s.seqs e.stream → h.egress = 0x5000 →
      h.kind ≠ .hole → h.len = 0 → s.supQueue.length < 64 →
      ∃ u : State, s.weirRelease e h p = u ∧
        u.supQueue = s.supQueue ++ [({ h with eseq := q.eseq, eepoch := q.epoch }, p)] ∧
        NatMap.get {} u.seqs e.stream = { q with eseq := (q.eseq + 1) % 0x10000 } ∧
        (∀ d ∈ u.weir, d.stream = e.stream → ¬(d.gseq = e.gseq ∧ d.sub = e.sub)))

/-! ## Carillon and Kettle (spec/08) -/

/-- Group `g` runs kernel `k`, which may issue; its word is `w` and the fetch leaves `s'`; the step limit is not reached. -/
def Sys2Proof.Machine.State.caIssues (s s' : State) (g : Nat) (k : Kernel) (w : Nat) : Prop :=
  s.kernel g = some k ∧ k.issues = true ∧ s.caFetch k = (s', .ok w) ∧ k.atLimit = false

/-- R255 to R261, R273: the words that compute on lane and uniform registers write their destination as Table 8.2 says, go on at
the next word and count one step. -/
def Sys2Proof.Parts.CarillonComputeWords : Prop :=
  ∀ (s s' t : State) (g : Fin 8) (k : Kernel) (w : Nat), s.caIssues s' g k w →
    (caLegal w = true → t = s'.setKernel g { (k.alu g w).next with steps := k.steps + 1 }) →
    (caLegal w = false → t = s'.caPark g k 1 0 0 none) →
    (caOp w = .ialu → exec (.ialu g) s = .next t) ∧
    (caOp w = .imul → exec (.imul g) s = .next t) ∧
    (caOp w = .falu → exec (.falu g) s = .next t) ∧
    (caOp w = .fspec → exec (.fspec g) s = .next t) ∧
    (caOp w = .cvt → exec (.cvt g) s = .next t) ∧
    (caOp w = .set → exec (.set g) s = .next t) ∧
    (caOp w = .sel → exec (.sel g) s = .next t) ∧
    (caOp w = .shfl → exec (.shfl g) s = .next t) ∧
    (caOp w = .vote → exec (.vote g) s = .next t) ∧
    (caOp w = .mfs → exec (.mfs g) s = .next t)

/-- R255, R259: the results of the compute words: each active lane of D, or D once where it is uniform, takes the value that
Table 8.2 gives from A, B and the old D, as the lane reads them. -/
def Sys2Proof.Parts.CarillonResults : Prop :=
  ∀ (g : Nat) (k : Kernel) (w : Nat),
    (caOp w = .ialu → k.alu g w = k.wr (rD w) fun l => caHalves (rT w) (fun n a b _ => caIalu n (rFn w) a b) (k.rd l (rA w)) (k.rd l (rB w)) 0) ∧
    (caOp w = .imul → k.alu g w = k.wr (rD w) fun l =>
      caHalves (rT w) (fun n => caImul n (rFn w)) (k.rd l (rA w)) (k.rd l (rB w)) (k.rd l (rD w))) ∧
    (caOp w = .falu → rT w = 2 → k.alu g w = k.wr (rD w) fun l => fp32.alu (rFn w) (k.rd l (rA w)) (k.rd l (rB w)) (k.rd l (rD w))) ∧
    (caOp w = .falu → rT w = 3 → k.alu g w = k.wr2 (rD w) fun l => fp64.alu (rFn w) (k.rd2 l (rA w)) (k.rd2 l (rB w)) (k.rd2 l (rD w))) ∧
    (caOp w = .fspec → rT w = 2 → k.alu g w = k.wr (rD w) fun l => fp32.spec (rFn w) (k.rd l (rA w))) ∧
    (caOp w = .cvt → rFn w = 0 → k.alu g w = k.wr (rD w) fun l => fp32.ofInt (signedOf 32 (k.rd l (rA w)))) ∧
    (caOp w = .set → rT w = 0 → k.alu g w = k.wr (rD w) fun l =>
      if caCondI 32 (rFn w) (k.rd l (rA w)) (k.rd l (rB w)) then 2 ^ 32 - 1 else 0) ∧
    (caOp w = .sel → k.alu g w = k.wr (rD w) fun l => if k.rd l (rD w) ≠ 0 then k.rd l (rA w) else k.rd l (rB w)) ∧
    (caOp w = .shfl → k.alu g w = k.wr (rD w) fun l => k.rd (shflLane (rFn w) l (k.rd l (rB w) % 32)) (rA w)) ∧
    (caOp w = .vote → k.alu g w = k.wr (rD w) fun _ => k.vote (rFn w) (rA w)) ∧
    (caOp w = .mfs → bitsOf w 14 6 = 2 → k.alu g w = k.wr (rD w) fun _ => k.exec) ∧
    (caOp w = .movi → k.alu g w = k.wr ⟨bitAt w 19, bitsOf w 20 6⟩ fun _ => wrapTo 32 (signedOf 19 w)) ∧
    (caOp w = .addi → k.alu g w = k.wr (iD w) fun l => wrapTo 32 ((k.rd l (iA w) : Int) + signedOf 12 w))

/-- R255: a word's write reaches register D of the active lanes alone: every other register of every lane keeps its value. -/
def Sys2Proof.Parts.CarillonWritesActiveLanes : Prop :=
  ∀ (k : Kernel) (d r : CaReg) (f : Nat → Nat) (l : Nat), NatMap.wf 0 k.v = true → d.uni = false → d.num < 64 →
    r.num < 64 → r.uni = false → l < 32 →
    (k.wr d f).rd l r = (if bitAt k.exec l = true ∧ r.num = d.num then f l % 2 ^ 32 else k.rd l r) ∧
    (k.wr d f).u = k.u ∧ (k.wr d f).exec = k.exec ∧ (k.wr d f).pc = k.pc

/-- R255, R259: the results of the words, and the lanes that take them. -/
def Obligations.CarillonLaneResults : Prop := Sys2Proof.Parts.CarillonResults ∧ Sys2Proof.Parts.CarillonWritesActiveLanes

/-- R258, R259: MOVI, MOVH and ADDI write their destination and go on; a destination that R259 does not allow parks the group as
illegal. -/
def Sys2Proof.Parts.CarillonImmediateWords : Prop :=
  ∀ (s s' : State) (g : Fin 8) (k : Kernel) (w : Nat), s.caIssues s' g k w →
    (caOp w = .movi → caUses ⟨bitAt w 19, bitsOf w 20 6⟩ [] = true → exec (.caMovi g) s = .next (s'.setKernel g
      { (k.wr ⟨bitAt w 19, bitsOf w 20 6⟩ fun _ => wrapTo 32 (signedOf 19 w)).next with steps := k.steps + 1 })) ∧
    (caOp w = .movh → caUses ⟨bitAt w 19, bitsOf w 20 6⟩ [] = true → exec (.movh g) s = .next (s'.setKernel g
      { (k.wr ⟨bitAt w 19, bitsOf w 20 6⟩ fun l =>
          k.rd l ⟨bitAt w 19, bitsOf w 20 6⟩ % 0x2000 + bitsOf w 0 19 * 0x2000).next with steps := k.steps + 1 })) ∧
    (caOp w = .addi → caUses (iD w) [iA w] = true → exec (.caAddi g) s = .next (s'.setKernel g
      { (k.wr (iD w) fun l => wrapTo 32 ((k.rd l (iA w) : Int) + signedOf 12 w)).next with steps := k.steps + 1 })) ∧
    (caOp w = .movi → caUses ⟨bitAt w 19, bitsOf w 20 6⟩ [] = false → exec (.caMovi g) s = .next (s'.caPark g k 1 0 0 none)) ∧
    (caOp w = .movh → caUses ⟨bitAt w 19, bitsOf w 20 6⟩ [] = false → exec (.movh g) s = .next (s'.caPark g k 1 0 0 none)) ∧
    (caOp w = .addi → caUses (iD w) [iA w] = false → exec (.caAddi g) s = .next (s'.caPark g k 1 0 0 none))

/-- R255 to R261, R273: the words that compute, run by a group. -/
def Obligations.CarillonCompute : Prop := Sys2Proof.Parts.CarillonComputeWords ∧ Sys2Proof.Parts.CarillonImmediateWords

/-- R265, R268: loads and stores of lanes that all address local memory, with no fault: a load fills D from the lanes' data, and a
store writes each lane's data, the highest lane's where lanes name one address. -/
def Sys2Proof.Parts.CarillonLocalAccess : Prop :=
  ∀ (s s' s2 s3 : State) (g : Fin 8) (k k' : Kernel) (w : Nat), s.caIssues s' g k w →
    caUses (iD w) [iA w] = true → (k.lanesAt w).any (fun e => decide (0x80000000 ≤ e.2)) = false →
    (caOp w = .ldw → s'.lanesFault k (k.lanesAt w) 4 false = (s2, none) →
      s2.loadFill g k ⟨(iD w).num, (iD w).uni, false, (k.lanesAt w).map fun e => (e.1, e.2, none)⟩ = (s3, .ok k') →
      exec (.ldw g) s = .next (s3.setKernel g { k'.next with steps := k.steps + 1 })) ∧
    (caOp w = .ldd → (iD w).even = true → s'.lanesFault k (k.lanesAt w) 8 false = (s2, none) →
      s2.loadFill g k ⟨(iD w).num, (iD w).uni, true, (k.lanesAt w).map fun e => (e.1, e.2, none)⟩ = (s3, .ok k') →
      exec (.ldd g) s = .next (s3.setKernel g { k'.next with steps := k.steps + 1 })) ∧
    (caOp w = .stw → s'.lanesFault k (k.lanesAt w) 4 true = (s2, none) →
      exec (.stw g) s = .next ((((k.lanesAt w).filter fun e => !(k.lanesAt w).any fun f => f.2 == e.2 && decide (e.1 < f.1)).foldl
        (fun s e => (s.wrChk (localAddr g + e.2) (leBytes 4 (k.rd e.1 (iD w))) k.who).1) s2).setKernel g
          { k.next with steps := k.steps + 1 })) ∧
    (caOp w = .std → (iD w).even = true → s'.lanesFault k (k.lanesAt w) 8 true = (s2, none) →
      exec (.std g) s = .next ((((k.lanesAt w).filter fun e => !(k.lanesAt w).any fun f => f.2 == e.2 && decide (e.1 < f.1)).foldl
        (fun s e => (s.wrChk (localAddr g + e.2) (leBytes 8 (k.rd2 e.1 (iD w))) k.who).1) s2).setKernel g
          { k.next with steps := k.steps + 1 }))

/-- R264, R268, R269: a load with far lanes waits for their data, and goes on when every access is done; posted stores complete;
FENCE goes on once none is left, and reports an error. -/
def Sys2Proof.Parts.CarillonFarAccess : Prop :=
  ∀ (s s' s2 s3 : State) (g : Fin 8) (k k' : Kernel) (w : Nat),
    (∀ ps, s.caIssues s' g k w → caOp w = .ldw → caUses (iD w) [iA w] = true →
      (k.lanesAt w).any (fun e => decide (0x80000000 ≤ e.2)) = true → s'.lanesFault k (k.lanesAt w) 4 false = (s2, none) →
      s2.loadOffer k (k.lanesAt w) 4 = (s3, ps) →
      exec (.ldw g) s = .next (s3.setKernel g
        { k with load := some ⟨(iD w).num, (iD w).uni, false, ps⟩, steps := k.steps + 1 })) ∧
    (∀ x, s.kernel g = some k → k.load = some x → (x.lanes.all fun e => e.2.2.isNone) = true →
      s.loadFill g { k with load := none } x = (s2, .ok k') →
      exec (.caFarLoadData g) s = .next ((s2.dropLoad k).setKernel g k'.next)) ∧
    (∀ p ps, s.kernel g = some k → k.posted = p :: ps → p.acc = none → s.caPostedDone g k p = (s2, k') →
      exec (.caPostedStoreComplete g) s = .next (s2.setKernel g k')) ∧
    (s.caIssues s' g k w → caOp w = .fence → caLegal w = true → k.posted = [] →
      exec (.caFence g) s = .next (s'.setKernel g
        { ({ (k.put1 0 (rD w) (b2n k.postErr)) with postErr := false } : Kernel).next with steps := k.steps + 1 })) ∧
    (s.caIssues s' g k w → caOp w = .fence → caLegal w = true → k.posted ≠ [] → exec (.caFence g) s = .next s)

/-- R264, R265, R268, R269: loads, stores and FENCE. -/
def Obligations.CarillonAccess : Prop := Sys2Proof.Parts.CarillonLocalAccess ∧ Sys2Proof.Parts.CarillonFarAccess

/-- R256, R262, R263: the control words, with Table 8.4's masks: IF, ELSE, ENDIF, LOOP, BRK, ENDLOOP, BRU and JMP. A push onto a
full stack parks the group with cause 6, and a missing or wrong entry with cause 1. -/
def Obligations.CarillonControlWords : Prop :=
  ∀ (s s' : State) (g : Fin 8) (k : Kernel) (w c : Nat), s.caIssues s' g k w → c = k.cond (bitsOf w 20 6) →
    (caOp w = .if_ → k.depth < 16 → c ≠ 0 → exec (.ifWord g) s = .next (s'.setKernel g
      { ({ k.push false (k.exec - c) with exec := c } : Kernel).next with steps := k.steps + 1 })) ∧
    (caOp w = .if_ → k.depth < 16 → c = 0 → exec (.ifWord g) s = .next (s'.setKernel g
      { k.push false (k.exec - c) with exec := c, pc := (k.goto w).pc, steps := k.steps + 1 })) ∧
    (caOp w = .if_ → 16 ≤ k.depth → exec (.ifWord g) s = .next (s'.caPark g k 6 0 0 none)) ∧
    (caOp w = .else_ → k.top false = true → k.topAlt ≠ 0 → exec (.elseWord g) s = .next (s'.setKernel g
      { ({ k with exec := k.topAlt } : Kernel).next with steps := k.steps + 1 })) ∧
    (caOp w = .else_ → k.top false = true → k.topAlt = 0 → exec (.elseWord g) s = .next (s'.setKernel g
      { k with exec := k.topAlt, pc := (k.goto w).pc, steps := k.steps + 1 })) ∧
    (caOp w = .else_ → k.top false = false → exec (.elseWord g) s = .next (s'.caPark g k 1 0 0 none)) ∧
    (caOp w = .endif_ → k.top false = true → exec (.endifWord g) s = .next (s'.setKernel g
      { ({ k.pop with exec := k.topSaved } : Kernel).next with steps := k.steps + 1 })) ∧
    (caOp w = .endif_ → k.top false = false → exec (.endifWord g) s = .next (s'.caPark g k 1 0 0 none)) ∧
    (caOp w = .loop → k.depth < 16 → exec (.loop g) s = .next (s'.setKernel g
      { (k.push true 0).next with steps := k.steps + 1 })) ∧
    (caOp w = .loop → 16 ≤ k.depth → exec (.loop g) s = .next (s'.caPark g k 6 0 0 none)) ∧
    (caOp w = .brk → k.top true = true → k.exec - c ≠ 0 → exec (.brk g) s = .next (s'.setKernel g
      { ({ k with exec := k.exec - c } : Kernel).next with steps := k.steps + 1 })) ∧
    (caOp w = .brk → k.top true = true → k.exec - c = 0 → exec (.brk g) s = .next (s'.setKernel g
      { k.pop with exec := k.topSaved, pc := (k.goto w).pc, steps := k.steps + 1 })) ∧
    (caOp w = .brk → k.top true = false → exec (.brk g) s = .next (s'.caPark g k 1 0 0 none)) ∧
    (caOp w = .endloop → exec (.endloop g) s = .next (s'.setKernel g { k.goto w with steps := k.steps + 1 })) ∧
    (caOp w = .jmp → exec (.caJmp g) s = .next (s'.setKernel g { k.goto w with steps := k.steps + 1 })) ∧
    (caOp w = .bru → bitsOf w 20 6 < 16 → bitsOf w 16 4 = 0 → exec (.bru g) s = .next (s'.setKernel g
      { (if k.rd 0 ⟨true, bitsOf w 20 6⟩ % 2 ^ 32 = 0 then k.goto w else k.next) with steps := k.steps + 1 })) ∧
    (caOp w = .bru → bitsOf w 20 6 < 16 → bitsOf w 16 4 = 1 → exec (.bru g) s = .next (s'.setKernel g
      { (if k.rd 0 ⟨true, bitsOf w 20 6⟩ % 2 ^ 32 = 0 then k.next else k.goto w) with steps := k.steps + 1 })) ∧
    (caOp w = .bru → bitsOf w 20 6 < 16 → bitsOf w 16 4 = 2 → exec (.bru g) s = .next (s'.setKernel g
      { (if k.rd 0 ⟨true, bitsOf w 20 6⟩ % 2 ^ 32 < 2 ^ 31 then k.next else k.goto w) with steps := k.steps + 1 })) ∧
    (caOp w = .bru → bitsOf w 20 6 < 16 → bitsOf w 16 4 = 3 → exec (.bru g) s = .next (s'.setKernel g
      { (if k.rd 0 ⟨true, bitsOf w 20 6⟩ % 2 ^ 32 < 2 ^ 31 then k.goto w else k.next) with steps := k.steps + 1 })) ∧
    (caOp w = .bru → 16 ≤ bitsOf w 20 6 ∨ 4 ≤ bitsOf w 16 4 → exec (.bru g) s = .next (s'.caPark g k 1 0 0 none))

/-- R264, R271 to R274, R286: EXIT with nothing held ends the kernel's words; the end writes RET and STAT, frees the group and
sends the completion. A launch is taken from channel 0x3F4 and starts on the lowest group that may take it. BKPT parks the group
with cause 12, and a kernel at the step limit that held at its start with cause 11. -/
def Obligations.CarillonLaunches : Prop :=
  ∀ (s s' s2 : State) (g : Fin 8) (k : Kernel) (w : Nat),
    (∀ r rs b, s.eg.launchReqs = r :: rs → s.ca.queue.length < 32 →
      s' = ({ s with eg := { s.eg with launchReqs := rs } } : State) → s'.blockOk r 64 = true →
      s'.blockRead r 0 64 = (s2, some b) → s2.launchCheck r b = none → ∃ x : Launch,
      exec .launchRequest s = .next { s2 with ca := { s2.ca with queue := s2.ca.queue ++ [x] } } ∧
      x.req = r ∧ x.entry = leAt b 0 2 ∧ x.groups = leAt b 2 1 ∧ x.farEn = bitAt (leAt b 3 1) 0 ∧
      x.autoAb = bitAt (leAt b 3 1) 1 ∧ x.farBase = leAt b 8 8 ∧ x.arg = (b.drop 0x10).take 32) ∧
    (∀ r rs b st, s.eg.launchReqs = r :: rs → s.ca.queue.length < 32 →
      s' = ({ s with eg := { s.eg with launchReqs := rs } } : State) → s'.blockOk r 64 = true →
      s'.blockRead r 0 64 = (s2, some b) → s2.launchCheck r b = some st →
      exec .launchRequest s = .next ((s2.bump 0x00310814).complete r 4 st)) ∧
    (∀ x n, s.followsSite 0x07 (fun _ => true) = false →
      s.ca.queue.findSome? (fun x => (lowest 8 (s.groupTakes x)).map fun g => (x, g)) = some (x, n) →
      exec .kernelStart s = .next
        ((s.decision 0x07 x.master (leBytes 1 n ++ leBytes 3 0 ++ leBytes 4 s.ca.lnum)).startKernel x n)) ∧
    (s.caIssues s' g k w → caOp w = .exit → k.depth = 0 → k.unfinished = false → k.posted = [] → k.exitFault = none →
      exec (.caExit g) s = .next (s'.setKernel g { k with exiting := true, steps := k.steps + 1 })) ∧
    (s.kernel g = some k → k.exiting = true →
      s2 = (s.blockWrite k.launch.req 0x30 ((upTo 4).flatMap fun i => leBytes 4 (NatMap.get 0 k.u i))).blockWrite
        k.launch.req 4 (leBytes 4 (caStat g 0)) →
      exec (.kernelEnd g) s = .next (((s2.bump (caKey g 0x30)).freeGroup g).complete k.launch.req 4 (if k.postErr then 5 else 0))) ∧
    (s.caIssues s' g k w → caOp w = .bkpt → exec (.caBkpt g) s = .next (s'.caPark g k 12 0 0 none)) ∧
    (s.kernel g = some k → k.issues = true → s.caFetch k = (s', .ok w) → k.atLimit = true → caOp w = .jmp →
      exec (.ilimit g) s = .next (s'.caPark g k 11 0 0 none)) ∧
    (s.kernel g = some k → k.ilim = 0 ∨ k.steps < k.ilim → exec (.ilimit g) s = .next s) ∧
    (∀ (x : Launch) (n : Nat), ∃ k1 : Kernel, (s.startKernel x n).kernel n = some k1 ∧ k1.pc = x.entry ∧ k1.steps = 0 ∧
      k1.ilim = s.regW (caKey n 0x10) ∧ k1.pto = s.fld (caKey n 0x14) 0 16)

/-- R277 to R283: KSTART takes the lowest free token and queues its operation; KWAIT frees a done token, waits for a running one
and parks for one that faulted; a unit starts its next operation and checks its descriptor, and at its end marks the token. -/
def Obligations.KettleOperations : Prop :=
  ∀ (s s' s2 : State) (g : Fin 8) (n : Fin 4) (k : Kernel) (w : Nat),
    (∀ t, s.caIssues s' g k w → caOp w = .kstart → caLegal w = true → k.rd 0 (rA w) % 64 = 0 → k.rd 0 (rA w) + 64 ≤ 0x40000 →
      lowest 8 (fun t => (k.tok t).isNone) = some t → ∀ k1 : Kernel, k1 = (k.put1 0 (rD w) t).next →
      exec (.kstart g) s = .next ((s'.ktQueue g k1 t (k.rd 0 (rA w))).setKernel g
        { k1 with toks := k1.toks ++ [⟨t, k.rd 0 (rA w), .waiting⟩], steps := k.steps + 1 })) ∧
    (s.caIssues s' g k w → caOp w = .kstart → caLegal w = true → k.rd 0 (rA w) % 64 = 0 → k.rd 0 (rA w) + 64 ≤ 0x40000 →
      lowest 8 (fun t => (k.tok t).isNone) = none → exec (.kstart g) s = .next (s'.caPark g k 9 0 0 none)) ∧
    (∀ x, s.caIssues s' g k w → caOp w = .kwait → caLegal w = true → k.tok (k.rd 0 (rA w) % 8) = some x → x.status = .done →
      exec (.kwait g) s = .next (s'.setKernel g
        { ({ k with toks := k.toks.filter fun y => y.num != k.rd 0 (rA w) % 8 } : Kernel).next with steps := k.steps + 1 })) ∧
    (∀ x sub, s.caIssues s' g k w → caOp w = .kwait → caLegal w = true → k.tok (k.rd 0 (rA w) % 8) = some x →
      x.status = .desc sub → exec (.kwait g) s = .next (s'.caPark g k 7 (k.rd 0 (rA w) % 8) sub none)) ∧
    (s.caIssues s' g k w → caOp w = .kwait → caLegal w = true → k.tok (k.rd 0 (rA w) % 8) = none →
      exec (.kwait g) s = .next (s'.caPark g k 10 0 0 none)) ∧
    (∀ o d, (s.kettleAt n).run = none → (s.kettleAt n).pick = some o →
      s.rdChk (localAddr o.g + o.addr) 64 (match s.ktKernel o with | some k => k.who | none => {}) = (s2, some d) →
      exec (.kettleOpStart n) s = .next (({ s2 with dozing := putBits s2.dozing (16 + n) 1 0 } : State).modKettle n fun u =>
        { u with queue := u.queue.erase o
                 run := some (o, d, match ktCheck d with | some sub => .desc sub | none => .waiting) })) ∧
    (∀ o d, (s.kettleAt n).run = some (o, d, .waiting) → s.ktKernel o = some k → s.ktWork o.g k.who d true = (s2, .done) →
      ∀ s3 : State, s3 = (((s2.bump (0x00310000 + 0x100 * n + 0x10)).bumpBy (0x00310000 + 0x100 * n + 0x14) (ktSteps d)).modKettle n fun u =>
        { u with run := none, last := if u.queue.isEmpty then none else some (o.g % 2 == 1) }) →
      ∀ k1, s3.ktKernel o = some k1 →
      exec (.kettleOpEnd n) s = .next ((s3.setKernel o.g { k1 with toks := k1.toks.map fun t =>
        if t.num == o.tok then { t with status := .done } else t }).parkFinish o.g))

/-- R287 to R290: the outcomes of a park. A resumed group goes on at its word, a held operation that faulted being queued again;
an abandoned kernel ends with STAT and ABANDONED, its group free; the timeout abandons. A write of a parked group's state changes
it, and one of a group that is not parked sets NOT_PARKED. -/
def Obligations.CarillonParks : Prop :=
  ∀ (s s2 : State) (g : Fin 8) (k k1 : Kernel) (p : CaPark) (t : Nat),
    s.kernel g = some k → k.park = some p →
    (p.since = some t → s.parkOutcome g k 1 = some s2 → s2.kernel g = some k1 →
      exec (.resume g) s = .next (s2.requeue g { k1 with park := none, writes := [] })) ∧
    (p.since = some t → s.parkOutcome g k 2 = some s2 →
      exec (.abandon g) s = .next (s2.abandonKernel g k p.cause)) ∧
    (p.since = some t → k.pto ≠ 0 → t + 1000000 * k.pto < s.now →
      s.parkOutcome g k 2 = some s2 → exec (.parkTimeout g) s = .next (s2.abandonKernel g k p.cause)) ∧
    (p.since = some t → ∀ v : Word, exec (.caStateWrite g 0x18 v) s = .next (s.setKernel g { k with exec := v.toNat })) ∧
    (p.since = some t → ∀ v : Word, exec (.caStateWrite g 0x1C v) s = .next
      (s.setKernel g { k with pc := v.toNat % 0x4000 })) ∧
    (p.since = some t → ∀ (v : Word) (i : Nat), i < 16 → exec (.caStateWrite g (0x800 + 4 * i) v) s = .next
      (s.setKernel g { k with u := NatMap.put 0 k.u i v.toNat })) ∧
    (p.since = none → ∀ v : Word, exec (.caStateWrite g 0x18 v) s = .next (s.setBit (caKey g 0x08) 2))
/-! ## Registers (spec/00) -/

/-- R8: an offset at which a view implements nothing (no register, and no mailbox area) reads as 0 and ignores writes. -/
def Obligations.UnimplementedOffsets : Prop :=
  ∀ (s : State) (v : View) (off : Nat) (val : Word), s.viewHas v off = true → off % 4 = 0 →
    regAt (viewKey (viewFn v) off) = none → (∀ m o, s.mailboxAt v off = some (m, o) → 0x200 ≤ o) →
    exec (.rcRead v off 4) s = .next (s.emit .regData (viewFn v) off (leBytes 4 0)) ∧
    exec (.lowerWordRead v off) s = .next (s.emit .regData (viewFn v) off (leBytes 4 0)) ∧
    exec (.regWrite v off 4 val) s = .next s

/-- R5, R415: an access of a working view that is not aligned, or not of 4 bytes, changes nothing but the access-error counter;
a read of it returns all ones. -/
def Obligations.MisalignedAccess : Prop :=
  ∀ (s : State) (v : View) (off bytes : Nat) (val : Word), s.viewHas v off = true → s.viewOpen v = true →
    off % 4 ≠ 0 ∨ bytes ≠ 4 →
    exec (.rcRead v off bytes) s = .next
      ((s.bump (instKey (viewFn v) 0x4008)).emit .regData (viewFn v) off (leBytes 4 0xFFFFFFFF)) ∧
    exec (.regWrite v off bytes val) s = .next (s.bump (instKey (viewFn v) 0x4008))

/-- R6, R8, R9, R65: reads of the privileged view. A register that latches nothing and clears nothing gives the word it shows; a
read clears its read-to-clear fields; a read of a lower word latches the upper word, which then reads as it was latched; a read of
TB_MM_MIN latches its stream and instance and starts a new minimum. -/
def Sys2Proof.Parts.RegisterReads : Prop :=
  ∀ (s : State) (off : Nat) (d : RegDesc), off < 0x01000000 → off % 4 = 0 → s.mailboxAt .pf off = none → s.bootFailed = false →
    s.tableRead off = none → regAt off = some d →
    (isUpper off = false → off ≠ 0x00130028 → (d.fields.any fun f => f.acc == .rc) = true → uppersOf off = [] →
      exec (.rcRead .pf off 4) s = .next ((s.clearRc off d).emit .regData 0 off (leBytes 4 (s.shownWord off)))) ∧
    (isUpper off = false → off ≠ 0x00130028 → (d.fields.any fun f => f.acc == .rc) = false → uppersOf off = [] →
      exec (.rcRead .pf off 4) s = .next (s.emit .regData 0 off (leBytes 4 (s.shownWord off)))) ∧
    (∀ u, isUpper off = false → off ≠ 0x00130028 → (d.fields.any fun f => f.acc == .rc) = false → uppersOf off = [u] → ∃ t : State,
      exec (.lowerWordRead .pf off) s = .next t ∧
      t = ({ s with latches := NatMap.put (latchReset u) s.latches u (s.shownWord u) } : State).emit .regData 0 off
        (leBytes 4 (s.shownWord off))) ∧
    (isUpper off = true → exec (.rcRead .pf off 4) s = .next
      (s.emit .regData 0 off (leBytes 4 (NatMap.get (latchReset off) s.latches off)))) ∧
    exec .tbMmMinRead s = .next (s.emit .regData 0 0x00130028 (leBytes 4 (wrapTo 32 s.tb.mmMin))).mmReload

/-- R9, R11, R12, R452: a write of the privileged view, at a register with no rule of its own (a range of the Timebase, Heron,
Shoal and Egret blocks): class L fields take the value of R598 and write-one-to-clear bits clear; read-only, read-to-clear and
class S fields keep their active value; class H fields change where their block's gate is open. A lead with a following partner
sends what was taken. -/
def Sys2Proof.Parts.RegisterWrites : Prop :=
  ∀ (s t : State) (off kept : Nat) (val : Word) (busy : Bool) (d : RegDesc),
    0x00130000 ≤ off ∧ off < 0x00140000 ∨ 0x001A0000 ≤ off ∧ off < 0x001C0000 ∨ 0x00200000 ≤ off ∧ off < 0x00260300 →
    off % 4 = 0 → s.bootFailed = false → regAt off = some d → s.putReg off 0xFFFFFFFF val.toNat = (t, busy) →
    kept = (if busy then 0xFFFFFFFF &&& d.mask (fun f => !f.isH) else 0xFFFFFFFF) →
    exec (.regWrite .pf off 4 val) s =
      .next (if kept = 0 then t else t.configEntry 1 off kept (val.toNat &&& kept)) ∧
    (∀ f ∈ d.fields,
      (f.isL = true → bitsOf (t.regW off) f.lo f.w = f.norm (bitsOf val.toNat f.lo f.w) % 2 ^ f.w) ∧
      (f.acc = .w1c → ∀ i, f.lo ≤ i → i < f.lo + f.w → bitAt (t.regW off) i = (bitAt (s.regW off) i && !bitAt val.toNat i)) ∧
      (f.acc = .ro ∨ f.acc = .rc ∨ f.acc = .wo ∨ f.isS = true → bitsOf (t.regW off) f.lo f.w = bitsOf (s.regW off) f.lo f.w) ∧
      (f.isH = true → s.gateOf off = .opened → NatMap.has s.heldRegs off = false →
        bitsOf (t.regW off) f.lo f.w = f.norm (bitsOf val.toNat f.lo f.w) % 2 ^ f.w) ∧
      (f.isH = true → s.gateOf off ≠ .opened → bitsOf (t.regW off) f.lo f.w = bitsOf (s.regW off) f.lo f.w))

/-- R6, R8, R9, R11, R65, R452: reads and writes of the privileged view. -/
def Obligations.RegisterAccess : Prop := Sys2Proof.Parts.RegisterReads ∧ Sys2Proof.Parts.RegisterWrites

/-! ## Shoal (spec/05) -/

/-- R165, R166: an entry matches a key when it is valid and they agree under its mask; the lowest matching entry of each enabled
bank is the bank's candidate; the highest priority among the candidates wins, and where several share it the lowest bank wins and
TIE is set; without a candidate the result is SH_NOMATCH, and SH_MISS_CNT counts. -/
def Obligations.ShoalLookup : Prop :=
  (∀ e key, shMatches e key = true ↔ bitAt e 416 = true ∧ (key ^^^ bitsOf e 0 192) &&& bitsOf e 192 192 = 0) ∧
  (∀ e key, bitAt e 416 = true → bitsOf e 192 192 = 0 → shMatches e key = true) ∧
  (∀ (t : NatMap Nat) (banks : Nat → Nat) (key b r : Nat), NatMap.wf 0 t = true →
    ((b, r) ∈ shoalCands t banks key ↔ b < 8 ∧ bitAt (banks b) 3 = true ∧ ∃ i e, i / 512 = b ∧ (i, e) ∈ t ∧
      shMatches e key = true ∧ r = bitsOf e 384 32 ∧ ∀ j f, (j, f) ∈ t → j / 512 = b → shMatches f key = true → i ≤ j)) ∧
  (∀ (banks : Nat → Nat) (c : List (Nat × Nat)) (r : Nat) (tie : Bool), (c.Pairwise fun x y => x.1 < y.1) →
    shoalPick banks c = some (r, tie) →
    (∃ b, (b, r) ∈ c ∧ (∀ x ∈ c, bitsOf (banks x.1) 0 3 ≤ bitsOf (banks b) 0 3) ∧
      ∀ x ∈ c, bitsOf (banks x.1) 0 3 = bitsOf (banks b) 0 3 → b ≤ x.1) ∧
    (tie = true ↔ ∃ x ∈ c, ∃ y ∈ c, x.1 ≠ y.1 ∧ bitsOf (banks x.1) 0 3 = bitsOf (banks y.1) 0 3 ∧
      ∀ z ∈ c, bitsOf (banks z.1) 0 3 ≤ bitsOf (banks x.1) 0 3)) ∧
  (∀ (banks : Nat → Nat) (c : List (Nat × Nat)), shoalPick banks c = none ↔ c = []) ∧
  (∀ (s : State) (key : Nat), s.ecc = [] → ∀ c, c = shoalCands s.tables.shoal (fun b => s.regW (shBank b)) key →
    (∀ r, shoalPick (fun b => s.regW (shBank b)) c = some (r, true) → s.shoalLookup (some key) = (s.bump 0x001B0040, putBits r 24 1 1)) ∧
    (∀ r, shoalPick (fun b => s.regW (shBank b)) c = some (r, false) → s.shoalLookup (some key) = (s, putBits r 24 1 0)) ∧
    (c = [] → s.shoalLookup (some key) = (s.bump 0x001B0044, putBits (s.regW shNoMatch) 24 1 0)))

/-! ## Sluice and the scrubbers (spec/09) -/

/-- R312 to R318, R324: an access that a port has room for is split into its bursts, which join the queue of their channel; a
channel issues the request that R317 picks, and a read's data or a write's bytes reach memory as it issues; a queued request that
has reached urgency 3 counts once. -/
def Sys2Proof.Parts.SluiceRequests : Prop :=
  ∀ (s t : State) (p : Fin 12) (c : Fin 2) (id : Nat) (x : DramAcc) (r : DramReq),
    (s.dramFeed p = t → t.sl.accs.find? (fun e => !e.2.split && e.2.port == p.val) = some (id, x) →
      (t.sl.waiting.filter (·.port == p.val)).length + (bursts x.addr x.data.length).length ≤ 32 → ∃ u : State,
      exec (.dramRequest p) s = .next (u.dramFeed p) ∧ u.mem = t.mem ∧ u.sl.queued = t.sl.queued ∧
        u.sl.waiting = t.sl.waiting ++ (bursts x.addr x.data.length).map fun b =>
          ({ acc := id, port := p, write := x.write, addr := b.1, len := b.2, arrived := t.now } : DramReq)) ∧
    (s.dramFeed p = t → t.sl.accs.find? (fun e => !e.2.split && e.2.port == p.val) = some (id, x) →
      32 < (t.sl.waiting.filter (·.port == p.val)).length + (bursts x.addr x.data.length).length → exec (.dramRequest p) s = .next t) ∧
    (s.dramPick c = some r → exec (.dramCommandIssue c) s = .next (s.dramIssue r)) ∧
    (s.dramPick c = none → exec (.dramCommandIssue c) s = .next s) ∧
    (s.ecc = [] → s.accAt r.acc = some x → s.chanUp (s.dramPlace r.addr).ch = true → r.write = false →
      s.dramDo r = ((s.lateCount r).maxLat r).modAcc r.acc fun y =>
        { y with left := y.left - 1, data := putAt y.data (r.addr - x.addr) (s.rdBytes r.addr r.len) }) ∧
    (s.ecc = [] → s.accAt r.acc = some x → s.chanUp (s.dramPlace r.addr).ch = true → r.write = true →
      s.dramDo r = (((s.lateCount r).maxLat r).wrBytes r.addr ((x.data.drop (r.addr - x.addr)).take r.len)).modAcc r.acc
        fun x => { x with left := x.left - 1 }) ∧
    (exec (.urgencyRise p) s = .next (doUrgencyRise p s) ∧ ∀ q ∈ (doUrgencyRise p s).sl.queued, ∃ q0 ∈ s.sl.queued,
      q = { q0 with late := q0.late || (q0.port == p.val && s.urgency q0 == 3) })

/-- R312, R314, R316, R317: bursts never cross 64 bytes and cover the access in ascending order; a request's urgency follows its
age against LAT_TGT; requests that join the queue in one instant stand in ascending order of their ports; the pick is a request of the channel that may issue, and no such request is more urgent. -/
def Sys2Proof.Parts.SluiceRules : Prop :=
  (∀ a n b, b ∈ bursts a n → a ≤ b.1 ∧ b.1 + b.2 ≤ a + n ∧ (0 < b.2 → b.1 / 64 = (b.1 + b.2 - 1) / 64)) ∧
  (∀ a n k, a ≤ k → k < a + n → ∃ b ∈ bursts a n, b.1 ≤ k ∧ k < b.1 + b.2) ∧
  (∀ (s : State) (r : DramReq), (s.urgency r = 3 ↔ s.latTgt r.port ≤ s.dramAge r) ∧
    (s.urgency r = 0 ↔ 2 * s.dramAge r < s.latTgt r.port)) ∧
  (∀ (s : State) (c : Fin 2) (r : DramReq), s.dramPick c = some r →
    r ∈ s.sl.queued ∧ (s.dramPlace r.addr).ch = c ∧ s.dramAllowed r = true ∧
    ∀ q ∈ s.sl.queued, (s.dramPlace q.addr).ch = c → s.dramAllowed q = true → s.urgency q ≤ s.urgency r) ∧
  (∀ (l : List DramReq) (r : DramReq), (∀ q ∈ l, q.joined = r.joined → q.port ≤ r.port) → dramInsert r l = l ++ [r]) ∧
  (∀ (l : List DramReq) (q r : DramReq), (∀ x ∈ l, x.joined = r.joined → x.port ≤ r.port) → q.joined = r.joined →
    r.port < q.port → dramInsert r (l ++ [q]) = l ++ [r, q])

/-- R312 to R318, R324: requests, bursts, urgency and the pick. -/
def Obligations.SluiceQueues : Prop := Sys2Proof.Parts.SluiceRequests ∧ Sys2Proof.Parts.SluiceRules

/-- R321 to R323, R327: a refresh that falls due issues with those postponed before unless something urgent waits; then it is
postponed, and the ninth is forced and counted; the calibrations block their rank for 2 µs at their periods; the hot flag rises at
85 °C, or without a reading, and falls below 83 °C. -/
def Obligations.SluiceUpkeep : Prop :=
  ∀ (s : State) (c r : Fin 2), s.rankUp c r = true → ∀ x y : Rank, x = s.rankAt c r →
    y = { x with due := x.due + if s.bit (slGeom c + 4) 0 then 3900 else 7800 } →
    (x.due ≤ s.now → s.rankUrgent c r = false → x.busyUntil ≤ s.now → exec (.refreshDue c r) s = .next
      ((s.setRank c r { y with postponed := 0 }).blockRank c r ((x.postponed + 1) * s.tRfc c))) ∧
    (x.due ≤ s.now → s.rankUrgent c r = true → x.postponed < 8 → exec (.refreshDue c r) s = .next
      (s.setRank c r { y with postponed := x.postponed + 1 })) ∧
    (x.due ≤ s.now → s.rankUrgent c r = true → 8 ≤ x.postponed → exec (.refreshDue c r) s = .next
      (((s.setRank c r y).bump 0x00340318).blockRank c r (s.tRfc c))) ∧
    (s.now < x.due → 0 < x.postponed → s.rankUrgent c r = false → x.busyUntil ≤ s.now → exec (.refreshDue c r) s = .next
      ((s.setRank c r { x with postponed := 0 }).blockRank c r (x.postponed * s.tRfc c))) ∧
    (s.calFree c = true → x.zqAt + 128000000 ≤ s.now → exec (.zqCalibration c r) s = .next
      ((s.setRank c r { x with zqAt := s.now }).blockRank c r 2000)) ∧
    (s.calFree c = true → x.driftAt + 1000000000 ≤ s.now → exec (.driftRecentre c r) s = .next
      ((s.setRank c r { x with driftAt := s.now }).blockRank c r 2000)) ∧
    (s.ohmythUp = true → exec (.hotPoll c none) s = .next (s.setFld (slGeom c + 4) 0 1 1)) ∧
    (∀ n : Int, s.ohmythUp = true → 85 ≤ n → exec (.hotPoll c (some n)) s = .next (s.setFld (slGeom c + 4) 0 1 1)) ∧
    (∀ n : Int, s.ohmythUp = true → n < 83 → exec (.hotPoll c (some n)) s = .next (s.setFld (slGeom c + 4) 0 1 0))

/-- R178, R305, R337: a scrubber makes its visits in rising order, the one after the last when its share of the period has passed
since the pass began, and after the last visit of a pass the next pass begins. -/
def Sys2Proof.Parts.ScrubTurns : Prop :=
  ∀ (s : State) (k n period i start : Nat), NatMap.get (0, 0) s.sl.scrubs k = (i, start) → i < n →
    (∀ j, j ≠ i → s.scrubTurn k n period j = none) ∧
    (s.now < start + i * period / n → s.scrubTurn k n period i = none) ∧
    (0 < i → i + 1 < n → start + i * period / n ≤ s.now → ∃ t, s.scrubTurn k n period i = some t ∧
      t = ({ s with sl := { s.sl with scrubs := NatMap.put (0, 0) s.sl.scrubs k (i + 1, start) } } : State)) ∧
    (0 < i → i + 1 = n → start + i * period / n ≤ s.now → ∃ t, s.scrubTurn k n period i = some t ∧
      t = ({ s with sl := { s.sl with scrubs := NatMap.put (0, 0) s.sl.scrubs k (0, start + period) } } : State))

/-- R305, R326, R330, R331, R337, R552: a DRAM scrub visit, at its turn, goes to the pass's next granule through port 11; one with
a queued write, or on a failed channel, is skipped. A failed channel is taken out of use with a DEVICE record, and its requests
complete. A visit to an on-chip granule outside tables, Weir, Belfry and microcode at its turn corrects, counts and records the
error that it meets. -/
def Sys2Proof.Parts.ScrubVisits : Prop :=
  ∀ (s t u : State) (a : Nat) (c : Fin 2),
    (∀ n i, n = s.chanGranules 0 + s.chanGranules 1 → i = (NatMap.get (0, 0) s.sl.scrubs patrolKey).1 →
      s.bit slCtl 8 = true → s.mode ≠ .boot → n ≠ 0 →
      s.scrubTurn patrolKey n (3600000000000 * zeroAs 1 (s.fld 0x0034000C 0 8)) i = some t →
      exec (.dramScrubVisit .none) s = .next (t.patrolVisit (t.dramGranule i) 0) ∧
      exec (.dramScrubVisit .single) s = .next (t.patrolVisit (t.dramGranule i) 1) ∧
      exec (.dramScrubVisit .double) s = .next (t.patrolVisit (t.dramGranule i) 2) ∧
      exec (.dramScrubVisit .checks) s = .next (t.patrolVisit (t.dramGranule i) 3)) ∧
    (∀ f, s.bit slCtl 8 = false → exec (.dramScrubVisit f) s = .next s) ∧
    (s.chanUp (s.dramPlace a).ch = true →
      ((s.sl.queued ++ s.sl.waiting).any fun r => r.write && r.meets ⟨0, 11, true, a, 8, 0, false, 0⟩) = false →
      s.patrolVisit a 0 = (s.rdMem a 8 {} 11).1 ∧ s.patrolVisit a 1 = ((s.setEcc a (max 1 (s.eccAt a))).rdMem a 8 {} 11).1) ∧
    (s.chanUp (s.dramPlace a).ch = false ∨
      ((s.sl.queued ++ s.sl.waiting).any fun r => r.write && r.meets ⟨0, 11, true, a, 8, 0, false, 0⟩) = true →
      s.patrolVisit a 0 = s) ∧
    (s.chanUp c = true → t = (s.setBit slStat (2 + c)).record { block := 0x0D, code := 0x0081, sev := 3, unit := c } →
      ∀ hit, hit = (t.sl.queued ++ t.sl.waiting).filter (fun r => (t.dramPlace r.addr).ch == c) →
      u = hit.foldl (fun s r => s.dramDo r) t → exec (.channelFault c) s = .next
        (({ u with sl := { u.sl with
          queued := u.sl.queued.filter (!hit.contains ·), waiting := u.sl.waiting.filter (!hit.contains ·) } } :
            State).drainTrim.inordTrim)) ∧
    (0x800000000 ≤ a → a < 0x10000000000 → a % 8 = 0 → s.ocmTurn a = some t → t.eccAt a = 0 →
      exec (.ocmScrubVisit a .none) s = .next t ∧
      exec (.ocmScrubVisit a .single) s = .next ((t.eccNote 1 a).setEcc a 0) ∧
      exec (.ocmScrubVisit a .double) s = .next ((t.setEcc a 2).eccNote 2 a)) ∧
    (∀ f, a % 8 = 0 → s.ocmTurn a = none → exec (.ocmScrubVisit a f) s = .next s)

/-- R178, R305, R326, R330, R331, R337, R552: the turns of scrubbers, their visits, and a channel's failure. -/
def Obligations.ScrubbersAndChannelFault : Prop := Sys2Proof.Parts.ScrubTurns ∧ Sys2Proof.Parts.ScrubVisits

/-! ## Mailboxes and Ohmyth's commands (spec/11) -/

/-- Ohmyth runs the command `x` of mailbox `m`: it has been taken up, has opcode `op` and acts for instance `i` (R371, R373). -/
def Sys2Proof.Machine.State.mbTakes (s : State) (m : Fin 16) (op : Nat) (x : MbCmd) (i : Nat) : Prop :=
  (s.mbAt m).cmd = some x ∧ x.taken = true ∧ x.begun = false ∧ x.op = op ∧ s.mbTaken.contains m.val = true ∧ s.serves = true ∧
    s.sup.hold = false ∧ s.mbTurn m x = true ∧ (x.for_ m).getD m = i

/-- R365 to R370, R372, R373, R379, R383, R386, R388: a doorbell on a ready mailbox that holds no command latches the request and
joins the queue where its SEQ is LAST_SEQ or the next one; one with another SEQ, or that meets a reset or an open window, is
answered by hardware; one on a busy mailbox is lost and counted. Writes of the request area reach it while no command is held. A
take-up repeats the response of LAST_SEQ, or checks the command and answers it at the first failure or hands it to its row. -/
def Sys2Proof.Parts.MailboxProtocol : Prop :=
  ∀ (s t : State) (m : Fin 16) (v : Word), s.mbReached m = true →
    ((s.mbReady = false ∨ (s.mbAt m).cmd.isSome = true) →
      exec (.doorbell m v) s = .next ((s.setBit (mbKey m + 0x204) 5).bump (mbKey m + 0x20C))) ∧
    (s.mbReady = true → (s.mbAt m).cmd = none → s.ecc = [] → ∀ x : MbCmd,
      x = { req := s.rdBytes (mbArea m) 256, seq := v.toNat % 256, bad := false } →
      t = (s.setFld (mbKey m + 0x204) 2 1 0).modMb m (fun b => { b with cmd := some x }) →
      (s.sup.hold = true → exec (.doorbell m v) s = .next (t.mbHardware m 0x0106)) ∧
      (s.sup.hold = false → s.resetting m = true → exec (.doorbell m v) s = .next (t.mbHardware m 0x0107)) ∧
      (s.sup.hold = false → s.resetting m = false → x.seq ≠ (s.mbAt m).lastSeq → x.seq ≠ ((s.mbAt m).lastSeq + 1) % 256 →
        exec (.doorbell m v) s = .next (t.mbHardware m 0x010A)) ∧
      (s.sup.hold = false → s.resetting m = false → x.seq = (s.mbAt m).lastSeq ∨ x.seq = ((s.mbAt m).lastSeq + 1) % 256 →
        exec (.doorbell m v) s = .next { t with mbQueue := s.mbQueue ++ [m.val] })) ∧
    (∀ off, off < 0x100 → off % 4 = 0 → (s.mbAt m).cmd = none → s.ecc = [] →
      exec (.requestAreaWrite m off v) s = .next (s.wrBytes (mbArea m + off) (leBytes 4 v.toNat))) ∧
    (∀ off, off < 0x100 → off % 4 = 0 → (s.mbAt m).cmd.isSome = true →
      exec (.requestAreaWrite m off v) s = .next (s.setBit (mbKey m + 0x204) 6)) ∧
    (∀ rest x, s.serves = true → s.sup.hold = false → s.quickRuns = false → s.mbQueue = m.val :: rest →
      (s.mbAt m).cmd = some x → t = { s with mbQueue := rest } →
      (x.seq = (s.mbAt m).lastSeq → (s.mbAt m).copy ≠ [] → exec .takeUp s = .next (t.mbRespond m (s.mbAt m).copy)) ∧
      (x.seq ≠ (s.mbAt m).lastSeq → ∀ u, u = t.modMb m (fun b =>
          { b with lastSeq := x.seq, cmd := some { x with taken := true, since := s.now } }) →
        (∀ st, u.mbCheck m x = some st → exec .takeUp s = .next (u.mbAnswer m st)) ∧
        (u.mbCheck m x = none → exec .takeUp s = .next { u with mbTaken := s.mbTaken ++ [m.val] })))

/-- R366, Table 11.3: an answer writes the header with its status and its body into the response area, keeps a copy, ends the
command, and sets DONE; and with IRQ_EN the MAILBOX cause. -/
def Sys2Proof.Parts.MailboxAnswers : Prop :=
  ∀ (s : State) (m : Fin 16) (x : MbCmd) (st : Nat) (body : List Byte), (s.mbAt m).cmd = some x → s.sup.halted = false →
    s.sup.stopped = false → s.sup.hold = false → s.ecc = [] → body.length ≤ 248 → ∃ t, t = s.mbAnswer m st body ∧
      (t.mbAt m).cmd = none ∧ (t.mbAt m).copy = mbResponse m x st body ∧ t.bit (mbKey m + 0x204) 2 = true ∧
      t.rdBytes (mbArea m + 256) 256 = padTo 256 (mbResponse m x st body) ∧
      (∀ a, a < mbArea m + 256 ∨ mbArea m + 512 ≤ a → t.rd8 a = s.rd8 a) ∧
      m.val ∉ t.mbQueue ∧ m.val ∉ t.mbTaken ∧ t.cells = s.cells ∧ t.weir = s.weir ∧ t.eg = s.eg ∧ t.ca = s.ca

/-- R365 to R373, R379, R383, R386, R388: the mailbox protocol, and what an answer does. -/
def Obligations.Mailboxes : Prop := Sys2Proof.Parts.MailboxProtocol ∧ Sys2Proof.Parts.MailboxAnswers

/-- R375, R503 to R508, R535 to R537, Table 11.5: the device commands. -/
def Obligations.DeviceCommands : Prop :=
  ∀ (s t : State) (m : Fin 16) (x : MbCmd) (i : Nat),
    (s.mbTakes m 0x0101 x i → exec (.devInfo m) s = .next (s.mbAnswer m 0 (leBytes 4 (s.regW 0x00370000) ++ leBytes 1 0xA0 ++
      leBytes 1 s.mode.code ++ leBytes 2 s.sup.ohmyth ++ leBytes 6 s.epoch))) ∧
    (s.mbTakes m 0x0102 x i → s.modeBusy = false →
      (s.mode.code = x.f 8 1 → x.f 8 1 ≠ 3 → x.f 8 1 ≠ 4 → exec (.devMode m) s = .next (s.mbAnswer m 0 (leBytes 1 s.mode.code))) ∧
      (s.mode = .hold → x.f 8 1 = 1 → s.modeOk .commission = true →
        exec (.devMode m) s = .next ((s.mbBegin m).beginEntry (m + 1) .commission)) ∧
      (s.mode = .hold → x.f 8 1 = 2 → s.modeOk .lead = true →
        exec (.devMode m) s = .next ((s.mbBegin m).beginEntry (m + 1) .lead)) ∧
      (s.mode = .commission → x.f 8 1 = 2 → s.modeOk .lead = true → t = (s.setMode .lead).roleLead →
        exec (.devMode m) s = .next (t.mbAnswer m 0 (leBytes 1 t.mode.code))) ∧
      (s.mode = .lead → x.f 8 1 = 5 → s.ford.role = .none → t = s.toHold →
        exec (.devMode m) s = .next (t.mbAnswer m 0 (leBytes 1 t.mode.code))) ∧
      (s.mode = .hold → x.f 8 1 = 2 → s.modeOk .lead = false → exec (.devMode m) s = .next (s.mbAnswer m 0x0109))) ∧
    (s.mbTakes m 0x0103 x i → ∀ l, ((upTo (x.f 0x0C 1)).all fun k => s.reachOk i (x.f 8 4 + 4 * k)) = true →
      s.readRegs (x.f 8 4) (x.f 0x0C 1) = (t, l) → exec (.devRegRead m) s = .next (t.mbAnswer m 0 l)) ∧
    (s.mbTakes m 0x0103 x i → ((upTo (x.f 0x0C 1)).all fun k => s.reachOk i (x.f 8 4 + 4 * k)) = false →
      exec (.devRegRead m) s = .next (s.mbAnswer m 0x0202)) ∧
    (s.mbTakes m 0x0104 x i → ∀ busy, x.f 0x0C 4 &&& stagedMask (x.f 8 4) = 0 → s.writeReach i (x.f 8 4) (x.f 0x0C 4) = true →
      s.maskWrite (x.f 8 4) (x.f 0x0C 4) (x.f 0x10 4) = (t, busy) →
      exec (.devRegWrite m) s = .next (t.mbAnswer m (if busy then 0x0203 else 0))) ∧
    (s.mbTakes m 0x0104 x i → x.f 0x0C 4 &&& stagedMask (x.f 8 4) = 0 → s.writeReach i (x.f 8 4) (x.f 0x0C 4) = false →
      exec (.devRegWrite m) s = .next (s.mbAnswer m 0x0202)) ∧
    (s.mbTakes m 0x0105 x i → (s.wdState (x.f 8 1) (x.f 9 2) = .running → x.f 8 1 ≠ 4 →
        exec (.devWithdraw m) s = .next ((s.mbBegin m).wdStart (x.f 8 1) (x.f 9 2) (m + 1))) ∧
      (s.wdState (x.f 8 1) (x.f 9 2) = .withdrawn → exec (.devWithdraw m) s = .next (s.mbAnswer m 0))) ∧
    (s.mbTakes m 0x0106 x i → (s.wdState (x.f 8 1) (x.f 9 2) = .withdrawn → x.f 8 1 ≠ 2 →
        exec (.devReturn m) s = .next ((s.wdReturn (x.f 8 1) (x.f 9 2)).mbAnswer m 0)) ∧
      (s.wdState (x.f 8 1) (x.f 9 2) = .running → exec (.devReturn m) s = .next (s.mbAnswer m 0))) ∧
    (∀ f, s.mbTakes m 0x0107 x i → s.wdState (x.f 8 1) (x.f 9 2) = .withdrawn →
      exec (.devTest m f) s = .next ((s.mbBegin m).wdSet (x.f 8 1) (x.f 9 2) .testing)) ∧
    (∀ f, (s.mbAt m).cmd = some x → x.begun = true → x.op = 0x0107 → s.wdState (x.f 8 1) (x.f 9 2) = .testing →
      exec (.devTest m f) s = .next (s.testEnd m (x.f 8 1) (x.f 9 2) f.toNat)) ∧
    (s.mbTakes m 0x0108 x i → exec (.devHealth m) s = .next (s.mbAnswer m 0 (leBytes 2 (s.fld 0x003D0000 0 16) ++
      leBytes 2 (s.fld 0x003D0008 0 12) ++ leBytes 4 s.sup.droops ++ leBytes 1 s.tb.state.code ++
      leBytes 1 (b2n s.tb.state.holdover)))) ∧
    (s.mbTakes m 0x0109 x i → ∃ u : State, exec (.devReset m) s = .next u ∧ u.sup.resetAt = some (u.now + 10000) ∧
      ({ u with sup := { u.sup with resetAt := (s.mbAnswer m 0).sup.resetAt } } : State) = s.mbAnswer m 0)

/-- R412, R416, R422, R435, R437, R438, Table 11.6: the instance commands. A creation or a grant that a check refuses changes
nothing else; a reset or a destruction begins and is answered at its end; the drain's expiry squashes what is left. -/
def Obligations.InstanceCommands : Prop :=
  ∀ (s : State) (m : Fin 16) (c : MbCmd) (f : Nat),
    (s.mbTakes m 0x0201 c f → ∀ x : Instance, x = { state := .active, direct := c.f 9 1 == 1, quota := c.f 0x10 64 } →
      (s.createCheck (c.f 8 1) x = 0 → exec (.instCreate m) s = .next ((s.create (c.f 8 1) x).mbAnswer m 0)) ∧
      (s.createCheck (c.f 8 1) x ≠ 0 → exec (.instCreate m) s = .next (s.mbAnswer m (s.createCheck (c.f 8 1) x)))) ∧
    (s.mbTakes m 0x0202 c f → (s.instAt (c.f 8 1)).state = .active →
      exec (.instDestroy m) s = .next ((s.mbBegin m).instReset (c.f 8 1) (c.f 9 1 == 1) (some m) true)) ∧
    (s.mbTakes m 0x0203 c f → (s.instAt (c.f 8 1)).state = .active →
      exec (.instReset m) s = .next ((s.mbBegin m).instReset (c.f 8 1) (c.f 9 1 == 1) (some m) false)) ∧
    (∀ (i : Fin 16) r, (s.instAt i).reset = some r → r.stopped = false → s.followsLog = false → r.squash = false →
      r.since + (s.instAt i).drainNs ≤ s.now → exec (.instDrainExpiry i) s = .next (s.instSquash i)) ∧
    (∀ (i : Fin 16) r, s.ohmythUp = true → (s.instAt i).reset = some r → r.stopped = true → s.instRestarted i = true →
      (s.mbTaken.contains i = false → exec (.instResetComplete i) s = .next (s.instDone i)) ∧
      (s.mbTaken.contains i = true → exec (.instResetComplete i) s = .next s)) ∧
    (∀ (i : Fin 16), s.ohmythUp = true → (s.instAt i).reset = none → (s.instAt i).state = .destroying →
      (s.instAt i).destroyed = 0 → s.destroyWaits i = false → s.followsLog = false →
      exec (.instResetComplete i) s = .next (s.destroyStep i)) ∧
    (s.mbTakes m 0x0204 c f → f = 0 ∨ c.f 8 1 = f → (s.instAt (c.f 8 1)).state ≠ .absent →
      exec (.instStatus m) s = .next (s.tick.mbAnswer m 0 (leBytes 1 (s.instAt (c.f 8 1)).state.code ++
        leBytes 1 (b2n (s.instAt (c.f 8 1)).direct) ++ List.replicate 6 0 ++ leBytes 64 (s.usage (c.f 8 1))))) ∧
    (s.mbTakes m 0x0205 c f → ∀ l add rd wr, add = (c.f 9 1 == 1) → rd = bitAt (c.f 0x0A 1) 0 → wr = bitAt (c.f 0x0A 1) 1 →
      l = grantChange (s.instAt (c.f 8 1)).grants add rd wr (c.f 0x10 5 / 4096) (c.f 0x18 4) →
      (s.instAt (c.f 8 1)).state ≠ .absent → c.f 0x10 5 < 0x800000000 → s.mapOk .engine (c.f 0x10 5) (4096 * c.f 0x18 4) = true →
      (l.length ≤ 64 → grantPages l ≤ (s.instAt (c.f 8 1)).q 0x2C 4 → exec (.instGrant m) s = .next
        (((s.modInst (c.f 8 1) fun x => { x with grants := l }).sendGrant (c.f 8 1) add rd wr (c.f 0x10 5 / 4096)
          (c.f 0x18 4)).mbAnswer m 0)) ∧
      (64 < l.length ∨ (s.instAt (c.f 8 1)).q 0x2C 4 < grantPages l → exec (.instGrant m) s = .next (s.mbAnswer m 0x0201)))

/-- R171 to R174, R375, R376, R419, Table 11.7: the table commands. A stage by the owner of the entry joins the software set and
is answered; a stage in another's bank or entry answers RANGE and one in a learning bank BANK_RESERVED; a commit goes to the
Intake as a marker; an abort drops the instance's edits. -/
def Obligations.TableCommands : Prop :=
  ∀ (s t : State) (m : Fin 16) (x : MbCmd) (i : Nat),
    (s.mbTakes m 0x0301 x i → ∀ e, e = 512 * x.f 8 1 + x.f 0x0A 2 →
      (s.bankOwner (x.f 8 1) ≠ i → exec (.tblShoalStage m) s = .next (s.mbAnswer m 0x0202)) ∧
      (s.bankOwner (x.f 8 1) = i → s.learningBank (x.f 8 1) = true → exec (.tblShoalStage m) s = .next (s.mbAnswer m 0x0205)) ∧
      (s.bankOwner (x.f 8 1) = i → s.learningBank (x.f 8 1) = false → x.f 0x0C 1 ≠ 0 → s.stageWaits 1 e = false →
        s.shoalEdits < 256 ∨ NatMap.has s.staged.shoal e = true →
        t = s.stage 1 e i (shoalMerge (s.stagedEntry 1 e) (x.f 0x10 56) (x.f 0x0C 1)) →
        exec (.tblShoalStage m) s = .next (t.mbAnswer m 0 (leBytes 2 t.shoalEdits))) ∧
      (s.bankOwner (x.f 8 1) = i → s.learningBank (x.f 8 1) = false → x.f 0x0C 1 ≠ 0 → s.stageWaits 1 e = false →
        256 ≤ s.shoalEdits → NatMap.has s.staged.shoal e = false → exec (.tblShoalStage m) s = .next (s.mbAnswer m 0x0204))) ∧
    (s.mbTakes m 0x0302 x i → s.actionOwner (x.f 8 2) = i → s.stageWaits 2 (x.f 8 2) = false →
      exec (.tblActionStage m) s = .next ((s.stage 2 (x.f 8 2) i (putBits (x.f 0x10 16) 96 4 i)).mbAnswer m 0)) ∧
    (s.mbTakes m 0x0303 x i → s.streamOwner (x.f 8 2) = i →
      seValid (x.f 0x10 16) = false ∨ s.egressOwned i (seEgress (x.f 0x10 16)) = true → s.stageWaits 3 (x.f 8 2) = false →
      exec (.tblStreamStage m) s = .next ((s.stage 3 (x.f 8 2) i (putBits (x.f 0x10 16) 32 4 i)).mbAnswer m 0)) ∧
    (s.mbTakes m 0x0304 x i → ∀ v, x.f 0x0C 4 &&& stagedMask (x.f 8 4) = x.f 0x0C 4 → x.f 0x0C 4 ≠ 0 →
      s.reachOk i (x.f 8 4) = true → s.commits = [] → v = s.stagedStore (x.f 8 4) (x.f 0x0C 4) (x.f 0x10 4) →
      exec (.tblRegStage m) s = .next (((s.stageBits i (x.f 8 4) (x.f 0x0C 4) v).configEntry 2 (x.f 8 4) (x.f 0x0C 4)
        (v &&& x.f 0x0C 4)).mbAnswer m 0)) ∧
    (s.mbTakes m 0x0305 x i → exec (.tblStation m) s = .next (({ s with learn := { s.learn with queue := s.learn.queue ++
      [LearnItem.static m (x.f 8 1 == 1) (x.f 0x0A 2) (x.f 0x0C 6) (x.f 9 1) i] } } : State).mbBegin m)) ∧
    (s.mbTakes m 0x0306 x i → exec (.tblCommit m) s = .next
      (({ s with markers := s.markers ++ [⟨false, [(m.val, 0)]⟩] } : State).mbBegin m)) ∧
    (s.mbTakes m 0x0307 x i → t = s.discardEdits (· == i) →
      exec (.tblAbort m) s = .next (t.mbAnswer m 0 (leBytes 2 t.shoalEdits))) ∧
    (s.mbTakes m 0x0308 x i → s.ecc = [] → 2 ≤ x.f 8 1 → x.f 8 1 = 4 ∨ s.entryOwner (x.f 8 1) (x.f 0x0A 2) = i → x.f 9 1 = 0 →
      exec (.tblRead m) s = .next (s.mbAnswer m 0 (leBytes 16 (NatMap.get 0 (tableOf (x.f 8 1) s.tables) (x.f 0x0A 2)))))

/-- R287 to R290, R297, R377, R378, R389, R419, Tables 11.8 and 11.9: the program and Carillon commands. -/
def Obligations.ProgramCommands : Prop :=
  ∀ (s t : State) (m : Fin 16) (x : MbCmd) (i : Nat),
    (∀ bad, s.mbTakes m 0x0401 x i → s.progOk i (x.f 8 1) (x.f 0x0A 2) (x.f 0x0C 2) = true → s.blockOut 1 (x.f 8 1) = true →
      s.loadWords 3 (progAddr (x.f 8 1) + 4 * x.f 0x0A 2) (progOffset (x.f 8 1) (x.f 0x0A 2)) (x.who m i) (x.words (x.f 0x0C 2)) =
        (t, bad) → exec (.prgEgretLoad m) s = .next (t.mbAnswer m (if bad then 0x0302 else 0))) ∧
    (s.mbTakes m 0x0401 x i → s.progOk i (x.f 8 1) (x.f 0x0A 2) (x.f 0x0C 2) = true → s.blockOut 1 (x.f 8 1) = false →
      exec (.prgEgretLoad m) s = .next (s.mbAnswer m 0x0203)) ∧
    (s.mbTakes m 0x0402 x 0 → s.stageWaits 5 (x.f 0x0A 2) = false → exec (.prgParseStage m) s = .next
      ((((upTo (x.words (x.f 0x0C 2)).length).zip (x.words (x.f 0x0C 2))).foldl
        (fun s e => s.stage 5 (x.f 0x0A 2 + e.1) 0 e.2) s).mbAnswer m 0)) ∧
    (s.mbTakes m 0x0403 x i → ∀ key cl busy, x.f 8 1 = 0 → key = chanReg (x.f 9 1) (x.f 0x0A 2) → cl = [x.f 9 1] →
      bitAt (s.shownWord key) 0 = false → s.bindRefused i (x.f 9 1) (x.f 0x0A 2) cl (x.f 0x0C 1 == 1) false = none → x.f 9 1 ≠ 7 →
      s.pfWrite key 0xFFFFFFFF (b2n (x.f 0x0C 1 == 1) + 2 * i) = (t, busy) →
      exec (.prgChanBind m) s = .next (t.mbAnswer m (if busy then 0x0203 else 0))) ∧
    (s.mbTakes m 0x0404 x i → s.ecc = [] → x.f 8 1 = 0 → s.progOk i (x.f 9 1) (x.f 0x0A 2) (x.f 0x0C 2) = true →
      exec (.prgRead m) s = .next (s.mbAnswer m 0 (s.rdBytes (progAddr (x.f 9 1) + 4 * x.f 0x0A 2) (4 * x.f 0x0C 2)))) ∧
    (∀ bad, s.mbTakes m 0x0501 x i → s.codeRange i (x.f 0x0A 2) (x.f 0x0C 2) = true → s.codeOpen i = true →
      s.loadWords 4 (codeAddr + 4 * x.f 0x0A 2) (4 * x.f 0x0A 2) (x.who m i) (x.words (x.f 0x0C 2)) = (t, bad) →
      exec (.caCodeLoad m) s = .next (t.mbAnswer m (if bad then 0x0302 else 0))) ∧
    (s.mbTakes m 0x0501 x i → s.codeRange i (x.f 0x0A 2) (x.f 0x0C 2) = true → s.codeOpen i = false →
      ((x.words (x.f 0x0C 2)).flatMap (leBytes 4) ≠ s.rdBytes (codeAddr + 4 * x.f 0x0A 2) (4 * x.f 0x0C 2) →
        exec (.caCodeLoad m) s = .next (s.mbAnswer m 0x0203)) ∧
      ((x.words (x.f 0x0C 2)).flatMap (leBytes 4) = s.rdBytes (codeAddr + 4 * x.f 0x0A 2) (4 * x.f 0x0C 2) →
        exec (.caCodeLoad m) s = .next (s.mbAnswer m 0))) ∧
    (s.mbTakes m 0x0502 x i → s.groupOwner (x.f 8 1) = i →
      (x.f 9 1 = 0 → exec (.caParkRead m) s = .next
        (s.mbAnswer m 0 (((s.caSummary (x.f 8 1)).drop (x.f 0x0C 4)).take (x.f 0x10 2)))) ∧
      (x.f 9 1 ≠ 0 → x.f 9 1 ≠ 4 →
        exec (.caParkRead m) s = .next
          (s.mbAnswer m 0 (s.parkWords (x.f 8 1) (x.f 9 1) (x.f 0x0A 1) (x.f 0x0C 4) (x.f 0x10 2))))) ∧
    (s.mbTakes m 0x0503 x i → ∀ l k bad, l = (x.req.drop 0x18).take (x.f 0x10 2) → s.groupOwner (x.f 8 1) = i → s.parkedOn (x.f 8 1) = some k →
      s.parkWrite (x.f 8 1) k (x.f 9 1) (x.f 0x0A 1) (x.f 0x0C 4) l (x.who m i) = (t, bad) →
      exec (.caParkWrite m) s = .next ((t.parkNote (x.f 8 1) (parkEntries (x.f 8 1) (x.f 9 1) (x.f 0x0A 1) (x.f 0x0C 4) l)).mbAnswer m
        (if bad then 0x0302 else 0))) ∧
    (s.mbTakes m 0x0504 x i → ∀ k, s.groupOwner (x.f 8 1) = i → s.parkedOn (x.f 8 1) = some k →
      (s.parkOutcome (x.f 8 1) k 1).isSome = true → exec (.caResume m) s = .next ((s.resumeParked (x.f 8 1)).mbAnswer m 0)) ∧
    (s.mbTakes m 0x0505 x i → ∀ k, s.groupOwner (x.f 8 1) = i → s.parkedOn (x.f 8 1) = some k →
      (s.parkOutcome (x.f 8 1) k 2).isSome = true → exec (.caAbandon m) s = .next ((s.abandonParked (x.f 8 1)).mbAnswer m 0)) ∧
    (s.mbTakes m 0x0504 x i → s.groupOwner (x.f 8 1) = i → s.parkedOn (x.f 8 1) = none →
      exec (.caResume m) s = .next (s.mbAnswer m 0x0206))

/-- Mailbox `m`'s lock command `x`, opcode `op`, comes to its first step and offers its Belfry operation `bop`: that leaves the
state `t`. -/
def Sys2Proof.Machine.State.lockComes (s t : State) (m : Fin 16) (x : MbCmd) (i op bop : Nat) : Prop :=
  s.mbTakes m op x i ∧ t = (s.mbBegin m).bfOffer
    { master := 0x200 + i, inst := i, op := bop, addr := x.f 8 5, opa := 0, opb := 0, form := .host m, gseq := none }

/-- R96, R97, R138, R139, R380, R419, Table 11.10: the port commands and the lock commands. A lock command reaches Belfry at its
first step, and is answered as Belfry answers; an acquire's timeout withdraws its ticket. -/
def Obligations.PortAndLockCommands : Prop :=
  ∀ (s t : State) (m : Fin 16) (x : MbCmd) (i : Nat),
    (s.mbTakes m 0x0601 x i → x.f 8 1 = 0 → s.portOwner (x.f 0x0A 2) = i → exec (.portStatus m) s = .next
      (s.mbAnswer m 0 (leBytes 4 (s.ethAt (x.f 0x0A 2)).stat ++ leBytes 4 (s.regW enErr)))) ∧
    (s.mbTakes m 0x0601 x i → x.f 8 1 ≠ 0 → s.chanOwner (x.f 0x0A 2) = i → exec (.portStatus m) s = .next
      (s.tick.mbAnswer m 0 (leBytes 4 (s.tdStat (x.f 0x0A 2)) ++ leBytes 4 (s.regW tdErr)))) ∧
    (s.mbTakes m 0x0602 x i → s.portOwner (x.f 8 1) = i → exec (.portCounters m) s = .next (s.mbAnswer m 0
      (leBytes 8 (s.ethAt (x.f 8 1)).rxFrm ++ leBytes 8 (s.ethAt (x.f 8 1)).rxOct ++ leBytes 8 (s.ethAt (x.f 8 1)).txFrm ++
        leBytes 8 (s.ethAt (x.f 8 1)).txOct))) ∧
    (s.mbTakes m 0x0603 x i → s.portOwner (x.f 8 1) = i → (s.ethAt (x.f 8 1)).sched.pending = none → x.f 0x0B 1 = 0 →
      exec (.portGclLoad m) s = .next ((s.writeWords ((upTo (2 * x.f 0x0A 1)).map fun j =>
        (0x00164000 + 0x800 * x.f 8 1 + 8 * x.f 9 1 + 4 * j, x.f (0x20 + 4 * j) 4))).mbAnswer m 0)) ∧
    (s.mbTakes m 0x0603 x i → s.portOwner (x.f 8 1) = i → (s.ethAt (x.f 8 1)).sched.pending.isSome = true →
      exec (.portGclLoad m) s = .next ((s.writeWords ((upTo (2 * x.f 0x0A 1)).map fun j =>
        (0x00164000 + 0x800 * x.f 8 1 + 8 * x.f 9 1 + 4 * j, x.f (0x20 + 4 * j) 4))).mbAnswer m 0x0203)) ∧
    (s.mbTakes m 0x0604 x 0 → exec (.portGongWrite m) s = .next
      ((s.writeWords ((upTo 11).map fun j => (gongKey (x.f 8 1) + 4 * j, x.f (0x10 + 4 * j) 4))).mbAnswer m
        (if s.bit (gongKey (x.f 8 1) + 0x28) 0 = true then 0x0203 else 0))) ∧
    (s.mbTakes m 0x0604 x i → i ≠ 0 → exec (.portGongWrite m) s = .next (s.mbAnswer m 0x0202)) ∧
    (s.mbTakes m 0x0605 x 0 → x.f 8 4 ≠ 0 → x.f 0x0C 4 = 0 → exec (.portGongRearm m) s = .next
      (((s.gongRearm (x.f 8 4)).configEntry 1 0x0015000C 0xFFFFFFFF (x.f 8 4)).mbAnswer m 0)) ∧
    (∀ r, (t.mbAt m).cmd = some { x with begun := true } → t.bfHost m = some r →
      (s.lockComes t m x i 0x0A01 1 → bfIsLock r.op = true → exec (.lockAcquire m) s = .next (t.bfTakeLock r)) ∧
      (s.lockComes t m x i 0x0A02 2 → bfIsLock r.op = true → exec (.lockTryacq m) s = .next (t.bfTakeLock r)) ∧
      (s.lockComes t m x i 0x0A03 3 → bfIsLock r.op = true → exec (.lockRelease m) s = .next (t.bfTakeLock r)) ∧
      (s.lockComes t m x i 0x0A04 4 → bfIsLock r.op = true → exec (.lockReleaseRepaired m) s = .next (t.bfTakeLock r)) ∧
      (s.mbTakes m 0x0A05 x i → t = (s.mbBegin m).bfOffer
          { master := 0x200 + i, inst := i, op := x.f 8 1, addr := x.f 0x10 5, opa := x.f 0x18 8, opb := x.f 0x20 8,
            form := .host m, gseq := none } →
        bfIsLock r.op = false → exec (.lockAtomic m) s = .next (t.bfTakeAtomic r))) ∧
    ((s.mbAt m).cmd = some x → s.sup.hold = false → x.op = 0x0A01 → x.begun = true → x.f 0x10 4 ≠ 0 →
      x.since + 1000 * x.f 0x10 4 ≤ s.now →
      exec (.lockAcquireTimeout m) s = .next ((s.bfHostEnd m).mbAnswer m 0x0108)) ∧
    ((s.mbAt m).cmd = some x → s.sup.hold = true ∨ s.now < x.since + 1000 * x.f 0x10 4 →
      exec (.lockAcquireTimeout m) s = .next s)

/-- R466 to R472, R479, R486, R492, R495, Tables 11.11 and 11.12: the twin commands and the recorder's commands. -/
def Obligations.TwinAndRecorderCommands : Prop :=
  ∀ (s t : State) (m : Fin 16) (x : MbCmd) (i : Nat),
    (s.mbTakes m 0x0701 x i → exec (.twinStatus m) s = .next (s.mbAnswer m 0 (leBytes 1 s.ford.role.code ++
      leBytes 1 s.ford.seenRole.code ++ leBytes 1 s.ford.link ++ leBytes 1 (b2n s.ford.holds + 2 * b2n s.ford.peerLine) ++
      leBytes 4 (min 0xFFFFFFFF s.ford.lag) ++ leBytes 4 s.ford.missTotal))) ∧
    (s.mbTakes m 0x0702 x i → x.f 8 1 = 1 → exec (.twinPair m) s = .next (s.pairOn.mbAnswer m 0)) ∧
    (s.mbTakes m 0x0702 x i → x.f 8 1 = 0 → exec (.twinPair m) s = .next (s.pairOff.mbAnswer m 0)) ∧
    (s.mbTakes m 0x0703 x i → s.ford.link = 2 → s.ford.takeover = false →
      (s.partnerFollows = true → exec (.twinDetach m) s = .next ((s.detachPartner true).mbAnswer m 0)) ∧
      (s.partnerFollows = false → s.ford.role = .shadow → exec (.twinDetach m) s = .next
        (((s.fordSend 7 (Config.controlBytes .detach)).goDetached).mbAnswer m 0))) ∧
    (s.mbTakes m 0x0704 x i → s.ford.link = 2 → s.ford.role = .lead → s.ford.resync = none → s.ford.handover = none →
      s.ford.partnerReady = true → s.bt.ckpt ≠ 2 → t = s.mbBegin m → exec (.twinResync m) s = .next
        (({ t with ford := { t.ford with resync := some m.val } } : State).ckptAsk ⟨m, true⟩)) ∧
    (s.mbTakes m 0x0705 x i → s.ford.link = 2 → s.ford.role = .lead → s.ford.peerRole = .shadow →
      bitAt s.ford.peerFlags 2 = true → s.ford.talign = true → s.ford.handover = none → t = s.mbBegin m →
      exec (.twinHandover m) s = .next (({ t with ford := { t.ford with handover := some ⟨m, t.nextGseq, 1, false⟩ } } : State).fordSend 7
        (Config.controlBytes (.handover (BitVec.ofNat 48 t.nextGseq))))) ∧
    (s.mbTakes m 0x0705 x i → s.ford.link ≠ 2 → exec (.twinHandover m) s = .next (s.mbAnswer m 0x0602)) ∧
    (s.mbTakes m 0x0801 x i → s.bit 0x003B0000 0 = false → 2 * s.slotSize + 32 * 2 ^ 20 ≤ x.f 0x10 2 * 2 ^ 20 →
      x.f 8 5 < 0x800000000 → s.mapOk .engine (x.f 8 5) (x.f 0x10 2 * 2 ^ 20) = true → x.f 8 5 ≠ s.btBase →
      t = ({ s with bt := { s.bt with slot0 := {}, slot1 := {}, total := 0 } } : State) →
      exec (.recConfig m) s = .next (((((t.setReg 0x003B0004 (x.f 8 5 % 2 ^ 32)).setReg 0x003B0008 (x.f 8 5 / 2 ^ 32)).setReg
        0x003B000C (x.f 0x10 2)).btCtlWrite 0xFF01 (x.f 0x12 1 + 2 ^ 8 * x.f 0x13 1)).mbAnswer m 0)) ∧
    (s.mbTakes m 0x0801 x i → s.bit 0x003B0000 0 = true → 2 * s.slotSize + 32 * 2 ^ 20 ≤ x.f 0x10 2 * 2 ^ 20 →
      x.f 8 5 < 0x800000000 → s.mapOk .engine (x.f 8 5) (x.f 0x10 2 * 2 ^ 20) = true → x.f 8 5 ≠ s.btBase → x.f 0x12 1 ≠ 0 →
      exec (.recConfig m) s = .next
        (((s.setBit btEvt 9).btCtlWrite 0xFF01 (x.f 0x12 1 + 2 ^ 8 * x.f 0x13 1)).mbAnswer m 0x0203)) ∧
    (s.mbTakes m 0x0802 x i → s.bt.slot0.valid = false → s.bt.slot1.valid = false → exec (.recStatus m) s = .next (s.mbAnswer m 0
      (leBytes 4 (if s.btRing.2 = 0 then 0 else s.bt.total / s.btRing.2) ++
        leBytes 2 (min s.btRing.2 s.bt.total / 2 ^ 20) ++ leBytes 2 0 ++ leBytes 6 0))) ∧
    (s.mbTakes m 0x0803 x i → s.bt.ckpt ≠ 2 → s.bit 0x003B0000 0 = true → s.mode ≠ .replay →
      exec (.recCheckpoint m) s = .next ((s.mbBegin m).ckptAsk ⟨m, false⟩)) ∧
    (s.mbTakes m 0x0804 x i → ∀ l c, s.mode = .hold → s.ford.role = .none → x.f 8 5 < 0x800000000 →
      s.mapOk .engine (x.f 8 5) (x.f 0x10 4) = true → s.rdMem (x.f 8 5) (x.f 0x10 4) (x.who m i) = (t, some l) →
      caseOf (x.f 8 5) l = some c → exec (.recReplayEnter m) s = .next
        (if t.caseMatches l = true then (t.enterReplay c).mbAnswer m 0 (leBytes 6 c.g0) else t.mbAnswer m 0x0601)) ∧
    (s.mbTakes m 0x0804 x i → s.mode = .hold → s.ford.role = .none →
      0x800000000 ≤ x.f 8 5 ∨ s.mapOk .engine (x.f 8 5) (x.f 0x10 4) = false →
      exec (.recReplayEnter m) s = .next (s.mapErr.mbAnswer m 0x0105)) ∧
    (s.mbTakes m 0x0804 x i → s.mode ≠ .hold → exec (.recReplayEnter m) s = .next (s.mbAnswer m 0x0109)) ∧
    (s.mbTakes m 0x0805 x i → s.mode = .replay →
      t = ({ s with dlogIn := [], ford := { s.ford with configs := [] }, replay := { s.replay with records := [], digests := [] } } :
        State) → exec (.recReplayExit m) s = .next (((t.setMode .hold).setBit 0x00370020 3).mbAnswer m 0))

/-- R379, R398, R399, R490, R499, R524, R528, R549, Tables 11.13 and 11.15: the update and error commands. -/
def Obligations.UpdateAndErrorCommands : Prop :=
  ∀ (s t : State) (m : Fin 16) (x : MbCmd) (i : Nat),
    (s.mbTakes m 0x0901 x i → s.bootedFrom (x.f 8 1) = false →
      exec (.updErase m true) s = .next ((s.flashErase (x.f 8 1)).mbAnswer m 0) ∧
      exec (.updErase m false) s = .next ((s.flashFail (x.f 8 1) 0 0x800000).mbAnswer m 0x0702)) ∧
    (s.mbTakes m 0x0901 x i → s.bootedFrom (x.f 8 1) = true → ∀ ok, exec (.updErase m ok) s = .next (s.mbAnswer m 0x0104)) ∧
    (s.mbTakes m 0x0902 x i → s.bootedFrom (x.f 8 1) = false → ∀ l, l = (x.req.drop 0x10).take (x.len - 8) →
      exec (.updWrite m true) s = .next ((s.flashProgram (x.f 8 1) (x.f 0x0C 4) l).mbAnswer m 0) ∧
      exec (.updWrite m false) s = .next ((s.flashFail (x.f 8 1) (x.f 0x0C 4) l.length).mbAnswer m 0x0702)) ∧
    (s.mbTakes m 0x0903 x i → exec (.updVerify m) s = .next (match s.imageIn false (x.f 8 1) with
      | some img => s.mbAnswer m 0 (leBytes 4 img.version)
      | none => s.mbAnswer m 0x0701)) ∧
    (s.mbTakes m 0x0904 x i → s.bootedFrom (x.f 8 1) = false →
      exec (.updSetBoot m) s = .next ((s.setFld 0x003C0100 0 1 (x.f 8 1)).mbAnswer m 0)) ∧
    (s.mbTakes m 0x0905 x i → ∀ l p, x.f 8 5 < 0x800000000 →
      s.mapOk .sup (x.f 8 5) (x.f 0x10 4) = true → s.rdMem (x.f 8 5) (x.f 0x10 4) (x.who m i) 8 = (t, some l) →
      patchOf (t.regW 0x00370008) l = some p → s.sup.hold = false → exec (.updPatch m) s = .next
        (if fileSigned t.tap.hashAtBoot l = true then (t.mbBegin m).windowOpen l else t.mbAnswer m 0x0701)) ∧
    (s.mbTakes m 0x0905 x i → x.f 8 5 < 0x800000000 → s.mapOk .sup (x.f 8 5) (x.f 0x10 4) = false → s.sup.hold = false →
      exec (.updPatch m) s = .next (s.mapErr.mbAnswer m 0x0105)) ∧
    (∀ p, m.val = 0 → s.sup.hold = true → s.sup.halted = false → s.sup.stopped = false →
      patchOf (s.regW 0x00370008) s.sup.loading = some p → t = s.loadPatch p → ∃ u : State,
      exec (.updPatch m) s = .next ((u.mbAnswer 0 0 (leBytes 4 p.id)).mbFlush) ∧ u.sup.hold = false ∧ u.sup.loading = [] ∧
        u.mem = t.mem ∧ u.regs = t.regs ∧
        (s.mbTaken = [] → u.mb = t.mb)) ∧
    (s.mbTakes m 0x0B01 x i → (NatMap.get [] s.errors.queues i = [] →
        exec (.errRead m) s = .next (s.mbAnswer m 0 (List.replicate 8 0))) ∧
      (∀ r l, NatMap.get [] s.errors.queues i = r :: l → exec (.errRead m) s = .next
        (({ s with errors := { s.errors with queues := NatMap.put [] s.errors.queues i l } } : State).mbAnswer m 0
          (leBytes 2 l.length ++ List.replicate 6 0 ++ r.toBytes)))) ∧
    (s.mbTakes m 0x0B02 x i → exec (.errCounts m) s = .next
      (s.mbAnswer m 0 ((upTo 4).flatMap fun k => leBytes 4 (NatMap.get 0 s.errors.counts (4 * i + k))))) ∧
    (s.mbTakes m 0x0B03 x i → s.ecc = [] → exec (.errFaultlogRead m) s = .next
      (s.mbAnswer m 0 (s.rdBytes (flogAddr + 2048 * x.f 8 1 + x.f 0x0A 2) 128)))

/-! ## The Supervisor (spec/12, spec/18) -/

/-- R392 to R395, R406, R407, R546 to R549, R554, R556: a word of ROM or of patch RAM runs its datapath part and goes where its
sequence part says, with the condition read before or after it (Config.microAfter is open); a word with a reserved value stops the
Supervisor. The microtimer sets its flag; the watchdog is kicked by one value alone, and expires with a FATAL record; a record
moves to the queues of Table 18.4; the streak is cleared after 600 s. -/
def Obligations.SupervisorCommands : Prop :=
  ∀ (s t u : State) (a w : Nat),
    (s.sup.halted = false → s.sup.stopped = false → s.microPlace = (false, a) → s.microFetch false a = (t, some w) →
      u = (if Config.microAfter then t.microExec w else t) → exec .microwordRom s = .next
        (if microFieldsOk w = true ∧ romSeqOk w = true then (t.microExec w).microGo false (romNext w u.microCond u.sup.d)
          else t.microFault a false 2)) ∧
    (s.sup.halted = false → s.sup.stopped = false → s.microPlace = (true, a) → s.microFetch true a = (t, some w) →
      u = (if Config.microAfter then t.microExec w else t) → microFieldsOk w = true → patchSeqOk w = true →
      (u.microCond (bitsOf w 2 4) ≠ bitAt w 6 → bitsOf w 0 2 = 1 →
        exec .microwordPatch s = .next ((t.microExec w).microGo true (bitsOf w 7 14))) ∧
      (u.microCond (bitsOf w 2 4) ≠ bitAt w 6 → bitsOf w 0 2 = 2 →
        exec .microwordPatch s = .next ((t.microExec w).microGo false (bitsOf w 7 14) (bitAt w 21))) ∧
      (u.microCond (bitsOf w 2 4) = bitAt w 6 ∨ bitsOf w 0 2 = 0 → a + 1 < 0x200 →
        exec .microwordPatch s = .next ((t.microExec w).microGo true (a + 1))) ∧
      (u.microCond (bitsOf w 2 4) = bitAt w 6 → 0x200 ≤ a + 1 →
        exec .microwordPatch s = .next ((t.microExec w).microFault a true 3))) ∧
    (∀ at_, s.sup.timerAt = some at_ → at_ ≤ s.now →
      exec .microtimerExpiry s = .next ({ s with sup := { s.sup with timer := true, timerAt := none } } : State).gptpTimed) ∧
    (s.ohmythUp = true → exec (.svWatchdogKick 0x5A5A) s = .next { s with errors := { s.errors with svwdSince := s.now } }) ∧
    (∀ v : Word, v ≠ 0x5A5A → exec (.svWatchdogKick v) s = .next s) ∧
    (s.sup.running = true → s.sup.hold = false → s.errors.svwdExp = false → s.errors.svwdSince + 100000000 ≤ s.now →
      exec .svWatchdogExpiry s = .next (({ s with errors := { s.errors with svwdExp := true } } : State).record
        { block := 0x0F, code := 0x00B3, sev := 4 })) ∧
    (s.now < s.errors.svwdSince + 100000000 → exec .svWatchdogExpiry s = .next s) ∧
    (∀ r direct rest, s.errors.collector = (r, direct) :: rest → s.ohmythUp = true →
      t = ({ s with errors := { s.errors with collector := rest } } : State) →
      exec .recordMove s = .next (((s.recordQueues r).foldl (fun s i => s.queueRecord r i)
        (if r.logged direct then t.faultLog r else t)).repeatLimit r)) ∧
    (s.ohmythUp = true → s.mode ≠ .boot → s.errors.fatalAt = none → s.errors.bootEnd + 600000000000 ≤ s.now →
      exec .streakClear s = .next { s with viv := { s.viv with streak := 0 } })

/-! ## Host queues, PCI Express and hints (spec/13) -/

/-- R410, R411, R424 to R433: tail and head doorbells within the ring move TAIL and HEAD, and others are counted; an entry that
is read is queued, a malformed one is counted and skipped, and a failed read stops the queue; the enables reset their queue and
keep its count of drops; an interrupt enable sends the messages of causes that stand; configuration writes. -/
def Obligations.HostQueues : Prop :=
  ∀ (s : State) (i : Fin 16) (q : Fin 8) (v : Word),
    (∀ x n idx, s.active i = true → x = s.sqAt i q → n = s.ringLen (sqKey i q) → idx = bitsOf v.toNat 0 12 →
      (s.bit (sqKey i q + 0x0C) 0 = true → idx < n → (idx + n - x.tail) % n ≤ n - 1 - (x.tail + n - x.head) % n →
        exec (.sqTailDoorbell i q v) s = .next (s.setSq i q { x with tail := idx })) ∧
      (s.bit (sqKey i q + 0x0C) 0 = false ∨ n ≤ idx ∨ n - 1 - (x.tail + n - x.head) % n < (idx + n - x.tail) % n →
        exec (.sqTailDoorbell i q v) s = .next (s.badDoorbell i))) ∧
    (∀ x n idx, s.active i = true → x = s.cqAt i q → n = s.ringLen (cqKey i q) → idx = bitsOf v.toNat 0 12 →
      (s.bit (cqKey i q + 0x0C) 0 = true → idx < n → (idx + n - x.head) % n ≤ (x.tail + n - x.head) % n →
        exec (.cqHeadDoorbell i q v) s = .next
          (s.setCq i q { x with head := idx, spans := x.spans.drop ((idx + n - x.head) % n) })) ∧
      (s.bit (cqKey i q + 0x0C) 0 = false ∨ n ≤ idx → exec (.cqHeadDoorbell i q v) s = .next (s.badDoorbell i))) ∧
    (∀ e p rd, s.sqReady i q = true → s.xferOwns i q = false → e.length = 64 → bitAt (leAt e 2 1) 0 = false →
      (sqPayload e [] = some p → exec (.sqEntryRead i q (.data e) rd) s = .next
        (s.setSq i q { s.sqAt i q with fetched := (s.sqAt i q).fetched ++ [some p] })) ∧
      (sqPayload e [] = none → exec (.sqEntryRead i q (.data e) rd) s = .next
        (((s.bump (instKey i 0x4010)).setSq i q { s.sqAt i q with fetched := (s.sqAt i q).fetched ++ [none] }).sqSkip i q))) ∧
    (∀ e p d, s.sqReady i q = true → e.length = 64 → bitAt (leAt e 2 1) 0 = true → sqPayload e d = some p →
      exec (.sqEntryRead i q (.data e) (.data d)) s = .next
        (s.setSq i q { s.sqAt i q with fetched := (s.sqAt i q).fetched ++ [some p] })) ∧
    (∀ rd, s.sqReady i q = true → exec (.sqEntryRead i q .failed rd) s = .next (s.sqStop i q)) ∧
    (s.sqReady i q = true → exec (.pcieCompletionTimeout i q) s = .next (s.sqStop i q)) ∧
    (s.active i = true → exec (.sqErrClear i q) s = .next (s.setFld (sqKey i q + 0x14) 0 1 0)) ∧
    (s.active i = true → s.bit (sqKey i q + 0x0C) 0 = false → bitAt v.toNat 0 = true → exec (.queueEnable i false q v) s = .next
      ((s.setReg (sqKey i q + 0x0C) 1).setSq i q {})) ∧
    (s.active i = true → s.bit (cqKey i q + 0x0C) 0 = false → bitAt v.toNat 0 = true → exec (.queueEnable i true q v) s = .next
      ((s.setReg (cqKey i q + 0x0C) (bitsOf v.toNat 0 2)).setCq i q { drops := (s.cqAt i q).drops })) ∧
    (∀ t : State, s.active i = true → t = s.setReg (instKey i 0x3004) (bitsOf v.toNat 0 19) →
      exec (.inIenWrite i v) s = .next ((upTo 19).foldl (fun s' k => if bitAt v.toNat k && !bitAt (s.fld (instKey i 0x3004) 0 19) k &&
        s'.bit (instKey i 0x3000) k then s'.msix i (s'.ivec i k) else s') t)) ∧
    (s.sup.running = true → s.sup.linkWait = false → (∀ n, exec (.pcieConfigWrite i (.numVfs n)) s = .next { s with numVfs := n }) ∧
      (∀ b, exec (.pcieConfigWrite i (.busMaster b)) s = .next (({ s with
        pcie := NatMap.put {} s.pcie i { s.fnAt i with busMaster := b } } : State).msixFlush i))) ∧
    (∀ (sp : Fin 4) (wd : Fin 5), s.mode ≠ .boot → exec (.pcieLinkUp sp wd) s = .next
      { s with linkSpeed := sp, linkWidth := wd, sup := { s.sup with linkWait := false } })

/-- R439 to R441: a hint keeps the blocks in which the tenant has a share, and those under a claim are counted; a claim counts the
hints that stand; a block dozes when it is idle, unclaimed, and hinted by every tenant with a share, and wakes when an item is
offered or it may no longer doze. -/
def Obligations.HintsAndDoze : Prop :=
  ∀ (s : State) (i : Fin 16) (b : Fin 20) (v : Word),
    (s.active i = true → exec (.inHintWrite i v) s = .next ((s.setReg (hintKey i) (v.toNat &&& s.shareMask i)).bumpBy
      (instKey i 0x4014) ((upTo 20).filter fun b => bitAt (v.toNat &&& s.shareMask i) b && s.blockClaimed b).length)) ∧
    (s.active i = false → exec (.inHintWrite i v) s = .next s) ∧
    (v.toNat &&& claimMask = 0 → exec (.inClaimWrite v) s = .next (s.setReg 0x00380040 0)) ∧
    (∀ k : Fin 20, k.val ≠ 6 → k.val ≠ 7 → v.toNat = 2 ^ k.val → s.blockClaimed k = false →
      exec (.inClaimWrite v) s = .next ((s.claimOver k).setReg 0x00380040 (2 ^ k.val))) ∧
    (s.mayDoze b = true → exec (.blockDoze b) s = .next { s with dozing := putBits s.dozing b 1 1 }) ∧
    (s.mayDoze b = false → exec (.blockDoze b) s = .next s) ∧
    (s.offered b = true ∨ s.mayDoze b = false → exec (.blockWake b) s = .next { s with dozing := putBits s.dozing b 1 0 }) ∧
    (s.mayDoze b = true ↔ s.blockIdle b = true ∧ s.blockClaimed b = false ∧
      ∀ k, k < 16 → s.hasShare k b = true → s.bit (hintKey k) b = true)

/-! ## Resets (spec/17, spec/18) -/

/-- R412, R532 to R534, R541, R555, R556, R566, Table 17.6: what the resets do. Every device reset keeps the commands that wait,
memory, the flash, the fuses and TWIN_ID, sets SV_RSTCAUSE and counts in VV_BOOTS, and starts in BOOT; a power-on reset samples
TWIN_ID and loses the DRAM; a host reset disables the host's queues and ends I0's mailbox commands. -/
def Obligations.Resets : Prop :=
  ∀ (s : State),
    (∀ c t, 1 ≤ c → c ≤ 6 → t = s.deviceReset c → t.mode = .boot ∧ t.pending = s.pending ∧ t.mem = s.mem ∧ t.ecc = s.ecc ∧
      t.sup.flash = s.sup.flash ∧ t.tap.keyHash = s.tap.keyHash ∧ t.ford.twinId = s.ford.twinId ∧
      t.regW svRstCause = c ∧ t.viv.boots = satAdd 0xFFFFFFFF s.viv.boots 1 ∧ t.cells = [] ∧ t.weir = [] ∧
      t.eg = State.reset.eg ∧ t.ca = State.reset.ca ∧ t.inst = State.reset.inst ∧ t.now = s.now ∧
      (∀ k, bootRecordKey k = false → k ≠ svRstCause → t.regW k = regReset k)) ∧
    exec .sysrstN s = .next (s.deviceReset 2) ∧ exec .brownOut s = .next (s.deviceReset 3) ∧
    exec .pfFlr s = .next (s.deviceReset 4) ∧
    (∀ b, ∃ t, exec (.powerOnReset b) s = .next t ∧ t.ford.twinId = b2n b ∧ t.mode = .boot ∧ t.tap.prog = none ∧
      t.pending = s.pending ∧ t.regW svRstCause = 1 ∧ (∀ a, 0x800000000 ≤ a → t.rd8 a = s.rd8 a) ∧
      (∀ a, a < 0x800000000 → t.rd8 a = memDefault)) ∧
    (∀ at_, s.sup.resetAt = some at_ → at_ ≤ s.now → exec .devResetStart s = .next (s.deviceReset 5)) ∧
    (s.sup.resetAt = none → exec .devResetStart s = .next s) ∧
    (∀ at_, s.errors.fatalAt = some at_ → s.bit 0x003D0200 0 = true → s.mode ≠ .boot → s.viv.streak < 3 →
      at_ + 1000000 * min 1000 (s.fld 0x003D0200 1 10) ≤ s.now → exec .fatalEscalation s = .next (({ s with viv := { s.viv with
        streak := if at_ ≤ s.errors.bootEnd + 600000000000 then satAdd 15 s.viv.streak 1 else 1 } } : State).deviceReset 6)) ∧
    (s.bit 0x003D0200 0 = false ∨ 3 ≤ s.viv.streak → exec .fatalEscalation s = .next s) ∧
    (∀ i : Fin 16, i.val ≠ 0 → i.val ≤ s.numVfs → exec (.vfFlr i) s = .next (({ s with pcie := NatMap.del s.pcie i } : State).flr i)) ∧
    (s.mode = .boot → exec .hostReset s = .next { s with pcie := [], numVfs := 0, linkSpeed := 0, linkWidth := 0 }) ∧
    (∀ t, s.mode ≠ .boot → s.tenants = [] →
      t = ((({ s with pcie := [], numVfs := 0, linkSpeed := 0, linkWidth := 0 } : State).i0QueuesOff).endMailbox 0).bump 0x00370028 →
      exec .hostReset s = .next { t with sup := { t.sup with linkWait := true } })

/-! ## Tideway and Gong (spec/03) -/

/-- R72, R78 to R82: encoders. An accepted edge steps POS by the quadrature rule, or where both inputs changed sets ILLEGAL, and
OVERSPEED if it comes within 20 ns of the last; a preset that is due takes effect before it. A Z edge latches ZPOS; a sample instant
makes a cell, or clocks an SSI frame, whose cell shows the flags that follow its position; a frame's time passes. -/
def Obligations.TidewayEncoders : Prop :=
  ∀ (s t : State) (n : Fin 16) (a b : Bool),
    (s.fld (encCtl n) 0 2 = 1 → (∀ x ∈ s.td.due, x.chan = n.val → s.tb.count < x.at_) →
      (∀ d ts, ¬ (a = (s.encAt n).a ∧ b = (s.encAt n).b) → (∀ e, (s.encAt n).lastEdge = some e → e + 20 ≤ s.now) →
        quadStep (s.encAt n).a (s.encAt n).b a b = some d → ts = s.edgeStamp (5 * s.fld (encCtl n) 11 8) →
        exec (.encEdge n a b) s = .next ((s.setEnc n { s.encAt n with
          a := a, b := b, pos := wrapTo 32 (((s.encAt n).pos : Int) + if s.bit (encCtl n) 27 then -d else d)
          lastEdge := some s.now }).encWindow n ts)) ∧
      (quadStep (s.encAt n).a (s.encAt n).b a b = none → exec (.encEdge n a b) s = .next
        ((s.setEnc n { s.encAt n with
          a := a, b := b, illegal := true, lastEdge := some s.now
          overspeed := (s.encAt n).overspeed || (s.encAt n).lastEdge.any fun e => decide (s.now < e + 20) }).tdPortError n 4))) ∧
    (∀ d, firstDue (s.td.due.filter fun x => x.chan == n.val) = some d → d.at_ ≤ s.tb.count → exec (.encEdge n a b) s = .next
      ((s.applyAt d.at_ fun x => x.chan == n.val).encCount n a b)) ∧
    (quadStep a b (!a) (!b) = none ∧ quadStep a b a b = some 0 ∧ quadStep false false true false = some 1 ∧
      quadStep true false false false = some (-1) ∧ quadStep false false false true = some (-1) ∧
      quadStep true true false true = some 1) ∧
    (s.fld (encCtl n) 0 2 = 1 → s.bit (encCtl n) 2 = true → exec (.encZEdge n) s = .next
      ((s.setEnc n { s.encAt n with zSeen := true, zpos := (s.encAt n).pos }).encCell n 1
        (s.edgeStamp (5 * s.fld (encCtl n) 11 8)))) ∧
    (s.fld (encCtl n) 0 2 = 1 → s.bit (encCtl n) 2 = false → exec (.encZEdge n) s = .next
      (s.setEnc n { s.encAt n with zSeen := true })) ∧
    (∀ rdy bits par, sampleInstant s.tb.count (s.regW (encCtl n + 4)) (s.regW (encCtl n + 8)) = true → s.chanOut n = false →
      (s.fld (encCtl n) 0 2 = 1 → exec (.encSample n rdy bits par) s = .next (s.encCell n 0 s.tb.count)) ∧
      (∀ u v k h, s.fld (encCtl n) 0 2 = 2 → (s.encAt n).ssiUntil = none → s.ssiValue n rdy bits.toNat par = some v →
        k = max 7 (s.fld (encCtl n) 6 5) + 1 + b2n (s.bit (encCtl n) 5) → h = 50 * zeroAs 1 (s.fld (encCtl n) 19 8) →
        u = s.now + k * 2 * h + 20000 → t = ((s.emit .tideway n s.now (leBytes 1 k ++ leBytes 4 h)).setEnc n
          { s.encAt n with pos := v, ssiUntil := some u }).encFollow n →
        exec (.encSample n rdy bits par) s = .next
          ((t.encCell n 0 s.tb.count).encChanged n (s.encAt n) s.tb.count)) ∧
      (∀ u, s.fld (encCtl n) 0 2 = 2 → (s.encAt n).ssiUntil = some u → s.now < u →
        exec (.encSample n rdy bits par) s = .next (s.setEnc n { s.encAt n with lost := true }))) ∧
    (∀ u, (s.encAt n).ssiUntil = some u → u ≤ s.now →
      exec (.ssiMonoflopEnd n) s = .next (s.setEnc n { s.encAt n with ssiUntil := none }))

/-- R74 to R77, R83 to R87, R93: outputs. The first due cell, in the order of instants and keys, takes effect at its instant with
the others of that instant, and Gong sees their result; a step segment ends and the next starts where it ended; an SPI frame ends, and the next starts after its gap; an ADC sample starts a
frame; a PWM period ends under the settings that wait. -/
def Obligations.TidewayOutputs : Prop :=
  ∀ (s t : State) (n : Fin 8) (k : Fin 4),
    (∀ d, firstDue s.td.due = some d → d.at_ ≤ s.tb.count → exec .outputApply s = .next (s.applyAt d.at_ fun _ => true)) ∧
    (∀ d l, s.td.due = [d] ∨ (∃ x, s.td.due = [d, x] ∧ d.at_ < x.at_) → 16 ≤ d.chan → l = s.td.due.drop 1 →
      s.applyAt d.at_ (fun _ => true) =
        (({ s with td := { s.td with due := l } } : State).applyDue d (s.now - (s.tb.count - d.at_))).gongRun) ∧
    (∀ d, firstDue s.td.due = some d → s.tb.count < d.at_ → exec .outputApply s = .next s) ∧
    (∀ l d, firstDue l = some d → d ∈ l ∧ ∀ e ∈ l, d.at_ ≤ e.at_) ∧
    (∀ r rest seg, (s.sdAt n).run = some r → r.endAt ≤ s.now → r.done = false →
      t = s.setSd n { s.sdAt n with base := (s.sdAt n).base + r.steps, run := none } →
      ((s.sdAt n).queue = [] → exec (.sdSegmentEnd n) s = .next (t.sdStatus n 2)) ∧
      ((s.sdAt n).queue = seg :: rest → exec (.sdSegmentEnd n) s = .next
        ((t.setSd n { t.sdAt n with queue := rest }).sdStart n seg r.endAt))) ∧
    (∀ f (rx : Word), (s.spiAt n).run = some f → f.endAt ≤ s.now → s.fld (spiCtl n) 17 2 ≠ 1 → f.safe = false →
      t = s.setSpi n { s.spiAt n with run := none, gapUntil := f.endAt + 10 * s.fld (spiCtl n) 20 8 } →
      (s.fld (spiCtl n) 0 2 = 1 → (t.spiAt n).queue = [] → exec (.spiFrameEnd n rx) s = .next t) ∧
      (s.fld (spiCtl n) 0 2 = 2 → ((t.spiCell n rx.toNat f.tstamp).spiAt n).queue = [] →
        exec (.spiFrameEnd n rx) s = .next (t.spiCell n rx.toNat f.tstamp)) ∧
      (∀ d safe a rest g, s.fld (spiCtl n) 0 2 = 1 → (t.spiAt n).queue = (d, safe, a) :: rest →
        g = f.endAt + 10 * s.fld (spiCtl n) 20 8 → exec (.spiFrameEnd n rx) s = .next
          ((t.setSpi n { t.spiAt n with queue := rest }).spiStart n d safe g a t.tb.count))) ∧
    (s.fld (spiCtl n) 0 2 = 2 → s.chanOut (chSpi n) = false →
      sampleInstant s.tb.count (s.regW (spiCtl n + 8)) (s.regW (spiCtl n + 12)) = true →
      ((s.spiAt n).run = none → t = (if s.fld (spiCtl n) 17 2 = 2 then s.spiAux n s.now else s) →
        exec (.adcSample n) s = .next (t.spiStart n 0 false (s.now + s.fld (spiCtl n + 4) 0 16) s.now s.tb.count)) ∧
      ((s.spiAt n).run.isSome = true → exec (.adcSample n) s = .next (s.setSpi n { s.spiAt n with lost := true }))) ∧
    ((s.pwmAt k).running = true → (s.pwmAt k).boundary ≤ s.now →
      (∀ per high, (s.pwmAt k).pending = some (per, high) → s.pwmForced k = none → exec (.pwmPeriodBoundary k) s = .next
        (s.pwmStart k { s.pwmAt k with
          period := per, high := high, pending := none, held := none, boundary := (s.pwmAt k).boundary + per } (s.pwmAt k).boundary)) ∧
      ((s.pwmAt k).pending = none → exec (.pwmPeriodBoundary k) s = .next (s.pwmStart k { s.pwmAt k with
        boundary := (s.pwmAt k).boundary + (s.pwmAt k).period } (s.pwmAt k).boundary))) ∧
    ((s.pwmAt k).running = true → s.now < (s.pwmAt k).boundary → exec (.pwmPeriodBoundary k) s = .next s)

/-- R88 to R92, R97: inputs. A pin's change opens or joins its bank's cell, which closes after its window; a character joins its
open cell, and one with an error closes it; an idle line closes it; CTS holds sending; a strobe latches a byte; an acknowledge or
its timeout ends a byte; a re-arm is Gong's. -/
def Obligations.TidewayInputs : Prop :=
  ∀ (s t : State) (b : Fin 6) (p : Fin 16) (u : Fin 4) (l : Bool),
    (∀ x, bitAt (s.gpioAt b).input p ≠ l → x = { s.gpioAt b with
        input := putBits (s.gpioAt b).input p 1 (b2n l), raw := putBits (s.gpioAt b).raw p 1 (b2n l) } →
      t = (s.setGpio b x).gongRun →
      (∀ e, e = ((t.gpioAt b).cell.map (·.edge)).getD (t.regW (0x00140504 + 0x20 * b)) →
        (bitAt (bitsOf e (2 * p) 2) (if l then 0 else 1) = false → exec (.gpioEdge b p l) s = .next t) ∧
        (t.chanOut (chGpio b) = false → t.offersOwn = true → bitAt (bitsOf e (2 * p) 2) (if l then 0 else 1) = true →
          (∀ o, (t.gpioAt b).cell = some o → exec (.gpioEdge b p l) s = .next
            (t.setGpio b { t.gpioAt b with cell := some { o with changed := o.changed ||| 2 ^ p.val } })) ∧
          ((t.gpioAt b).cell = none → t.fld (0x0014050C + 0x20 * b) 10 8 ≠ 0 → exec (.gpioEdge b p l) s = .next
            (t.setGpio b { t.gpioAt b with cell := some ⟨t.edgeStamp (t.gpioFilter b), 2 ^ p.val,
              t.now + 10 * t.fld (0x0014050C + 0x20 * b) 10 8, e⟩ }))))) ∧
    (bitAt (s.gpioAt b).input p = l → exec (.gpioEdge b p l) s = .next s) ∧
    (∀ o, (s.gpioAt b).cell = some o → o.closeAt ≤ s.now → exec (.gpioCoalClose b) s = .next (s.gpioClose b)) ∧
    (∀ c x r w, s.bit (uartKey u) 0 = true → s.chanOut (chUart u) = false → s.bit (uartKey u) 1 = false → x = s.uartAt u →
      (s.fld (uartKey u) 5 2 ≠ 2 → s.rxByte (chUart u) (uartKey u + 8) x.rx c = (r, w) →
        exec (.uartRxChar u c false false false) s = .next ((w.setUart u { w.uartAt u with rx := r }).uartMarks u)) ∧
      (s.rxClose (chUart u) x.rx 8 4 = (r, w) → exec (.uartRxChar u c false false true) s = .next
        ((w.setUart u { x with rx := { r with last := s.now } }).tdPortError (chUart u) 5))) ∧
    (∀ x r w, x = s.uartAt u → bitsOf x.rx.cfg 8 8 ≠ 0 → x.rx.open_ ≠ [] →
      bitsOf x.rx.cfg 8 8 * s.uartBits u * max 17360 (s.regW (uartKey u + 4)) ≤ 16 * (s.now - x.rx.last) →
      s.rxClose (chUart u) x.rx 0 2 = (r, w) →
      exec (.uartGapClose (u.castLE (by decide))) s = .next (w.setUart u { x with rx := r })) ∧
    (∀ x r w, x = s.td.par → bitsOf x.rx.cfg 8 8 ≠ 0 → x.rx.open_ ≠ [] → 100000 * bitsOf x.rx.cfg 8 8 ≤ s.now - x.rx.last →
      s.rxClose chPar x.rx 0 2 = (r, w) → exec (.uartGapClose 4) s = .next (w.setPar { x with rx := r })) ∧
    (∀ ch x stat close, s.chanOut ch = false → s.offersOwn = true → 4 ≤ s.buffered ch →
      s.rxClose ch x stat close = ({ x with
        open_ := [], overrun := false
        closed := x.closed ++ [[BitVec.ofNat 8 (stat + 4 * b2n x.overrun), close] ++ x.open_] }, s)) ∧
    (exec (.uartCtsChange u l) s = .next ((s.setUart u { s.uartAt u with ctsStop := l }).uartKick u)) ∧
    (∀ c at_, (s.uartAt u).sending = some (c, at_) → at_ ≤ s.now →
      exec (.uartTxCharEnd u) s = .next ((s.setUart u { s.uartAt u with sending := none }).uartKick u)) ∧
    (∀ c r w, s.fld 0x00140700 0 2 = 1 → s.chanOut chPar = false →
      s.rxByte chPar 0x00140708 s.td.par.rx c = (r, w) → t = w.setPar { w.td.par with rx := r } →
      exec (.parStrobeIn c) s = .next ((t.emit .tideway chPar (t.now + 100 * zeroAs 1 (t.fld 0x00140704 16 8))
        (leBytes 1 (zeroAs 1 (t.fld 0x00140704 24 8)) ++ leBytes 1 (t.fld 0x00140700 3 1))).parMarks)) ∧
    (s.fld 0x00140700 0 2 = 2 → s.td.par.sending.isSome = true →
      exec .parAckIn s = .next (s.setPar { s.td.par with acked := true }).parDone) ∧
    (t = s.setPar { s.td.par with busy := l } → t.fld 0x00140700 0 2 = 2 →
      (t.td.par.sending.isSome = true → exec (.parBusyChange l) s = .next t.parDone) ∧
      (t.td.par.sending = none → exec (.parBusyChange l) s = .next t.parKick)) ∧
    (∀ c at_, s.td.par.sending = some (c, at_) → s.fld 0x00140700 0 2 = 2 → s.fld 0x00140700 8 8 ≠ 0 → s.td.par.acked = false →
      at_ + 1000000 * s.fld 0x00140700 8 8 ≤ s.now → t = s.setPar { s.td.par with sending := none, txCells := s.td.par.txCells.drop 1 } →
      ∀ r w, t.rxClose chPar { closed := s.td.par.rx.closed } 0 5 = (r, w) → exec .parAckTimeout s = .next
        (((w.setPar { w.td.par with rx := { s.td.par.rx with closed := r.closed } }).tdPortError chPar 6).parKick)) ∧
    (∀ v : Word, exec (.ggRearm false v) s = .next (s.gongRearm v.toNat) ∧
      exec (.ggRearm true v) s = .next (s.gongRearm (v.toNat * 2 ^ 32)))

/-! ## Ethernet (spec/04) -/

/-- A frame of port `p`, whose state would else be `x`, begins: the bytes `l` and their FCS leave, are counted, and hold the line
for the preamble, the frame and the gap (R118). -/
def Sys2Proof.Machine.State.sends (s : State) (p : Fin 6) (x : EthPort) (l : List Byte) : State :=
  (s.setEth p { x with
    txFrm := (x.txFrm + 1) % 2 ^ 64, txOct := (x.txOct + l.length + 4) % 2 ^ 64
    busyUntil := s.now + wireTime x.speed (8 + l.length + 4) + wireTime x.speed 12 }).emit .frame p s.now (l ++ leBytes 4 (crc32 l))

/-- R110 to R114, R118, R138, R139, R141, R144, R146, Table 17.7: the ports. A good frame of a linked port counts and waits for the
Intake; one with a bad FCS, of a wrong length or on a withdrawn port is dropped and counted, PAUSE is consumed, and gPTP goes to
Ohmyth. A port links up at full duplex alone. A gPTP frame that waits leaves first, past queues and gates; then the
head frame of a queue whose gate is open leaves with its FCS. Lists change, and recovery functions return to their reset states once
no frame stamped before the timeout is still to come. -/
def Obligations.EthernetPorts : Prop :=
  ∀ (s t : State) (p : Fin 6) (f : List Byte),
    (∀ x, (s.ethAt p).link = true → s.ethOn p = true → s.wdState 5 p = .running → 60 ≤ f.length → f.length ≤ 9216 →
      x = { s.ethAt p with rxFrm := ((s.ethAt p).rxFrm + 1) % 2 ^ 64, rxOct := ((s.ethAt p).rxOct + f.length + 4) % 2 ^ 64 } →
      t = s.setEth p x →
      (ethType f ≠ 0x8808 → ethType f ≠ 0x88F7 → ethType f ≠ 0x8100 → s.mode = .lead ∨ s.mode = .commission →
        (s.ethAt p).buffered + f.length ≤ ethBuffer p → exec (.frameReceived p f true) s = .next
          (t.setEth p { x with ingress := x.ingress ++ [(mod48 t.tb.count, f)] })) ∧
      (ethType f ≠ 0x8808 → ethType f ≠ 0x88F7 → ethType f ≠ 0x8100 → t.mode = .hold ∨ t.mode = .boot →
        exec (.frameReceived p f true) s = .next (t.bump (enKey p + 0x40))) ∧
      (ethType f = 0x8808 → beAt f 14 2 = 1 → exec (.frameReceived p f true) s = .next t) ∧
      (ethType f = 0x88F7 → f.take 6 = [0x01, 0x80, 0xC2, 0x00, 0x00, 0x0E] → t.ohmythUp = true →
        exec (.frameReceived p f true) s = .next ((t.emit .ohmyth p t.tb.count f).gptpReceive p f))) ∧
    ((s.ethAt p).link = true → s.ethOn p = true →
      exec (.frameReceived p f false) s = .next ((s.bump (enKey p + 0x40)).ethLine p)) ∧
    ((s.ethAt p).link = true → s.ethOn p = true → f.length < 60 ∨ 9216 < f.length ∨ s.wdState 5 p ≠ .running →
      exec (.frameReceived p f true) s = .next (s.bump (enKey p + 0x40))) ∧
    (∀ sp : Fin 4, s.ethOn p = true → (s.ethAt p).link = false → (p.val < 4 ↔ sp.val ≠ 3) →
      exec (.linkUp p sp true) s = .next (s.setEth p { s.ethAt p with link := true, hdx := false, speed := sp }) ∧
      exec (.linkUp p sp false) s = .next (s.setEth p { s.ethAt p with hdx := true })) ∧
    ((s.ethAt p).link = true → exec (.linkDown p) s = .next (s.ethLinkDown p)) ∧
    ((s.ethAt p).link = true → s.ethOn p = true → (s.ethAt p).busyUntil ≤ s.now → ∀ (q : Fin 8),
      (∀ g after rest l, (s.ethAt p).mgmt = (g, after) :: rest → l = g ++ List.replicate (60 - g.length) 0 →
        exec (.frameTransmit p q) s = .next ((s.sends p { s.ethAt p with mgmt := rest } l).gptpSent p after)) ∧
      (∀ fr frs l, (s.ethAt p).mgmt = [] → NatMap.get [] (s.ethAt p).queues q = fr :: frs → l = s.ethBuild p fr →
        (fr.reserved p = false → l.length ≤ 9216 → s.bit (enKey p + 0x60) 0 = false → exec (.frameTransmit p q) s = .next
          (s.sends p { s.ethAt p with queues := NatMap.put [] (s.ethAt p).queues q frs } l)) ∧
        (fr.reserved p = true ∨ 9216 < l.length → exec (.frameTransmit p q) s = .next
          ((s.bump 0x00160810).setEth p { s.ethAt p with queues := NatMap.put [] (s.ethAt p).queues q frs })) ∧
        (fr.reserved p = false → l.length ≤ 9216 → s.bit (enKey p + 0x60) 0 = true → bitAt (s.ethAt p).gates q = false →
          (s.ethAt p).sched.tooLong q (wireTime (s.ethAt p).speed (8 + l.length + 4)) = false →
          exec (.frameTransmit p q) s = .next s))) ∧
    (exec (.gateStateChange p) s = .next
      (s.setEth p { s.ethAt p with gates := (s.ethAt p).sched.statesAt 0xFF s.tb.count })) ∧
    (∀ v : Word, bitAt v.toNat 1 = false →
      exec (.configChange p v) s = .next (s.setFld (enKey p + 0x60) 0 1 (bitsOf v.toNat 0 1))) ∧
    (∀ v : Word, bitAt v.toNat 1 = true →
      exec (.configChange p v) s = .next ((s.setFld (enKey p + 0x60) 0 1 (bitsOf v.toNat 0 1)).ethChange p)) ∧
    (∀ sc, (s.ethAt p).sched.take s.tb.count = some sc → exec (.configChangeTime (p.castLE (by decide))) s = .next
      (s.setEth p { s.ethAt p with sched := sc, gates := sc.statesAt 0xFF s.tb.count })) ∧
    (∀ (g : Fin 32) sc, (s.sgAt g).take s.tb.count s.oldestFrame = some sc →
      exec (.configChangeTime ⟨6 + g, by omega⟩) s = .next (s.setSg g sc)) ∧
    (∀ g : Fin 32, exec (.sgConfigChange g) s = .next (s.sgChange g)) ∧
    (∀ (r : Fin 64) x, x = NatMap.get {} s.frer r → x.takeAny = false →
      (s.oldestFrame = none → x.last + clampNat 1 65535 x.timeout * 1000000 ≤ s.tb.count → exec (.frerResetTimeout r) s = .next
        { s with frer := NatMap.mod {} s.frer r fun x => { x with takeAny := true, history := 0 } }) ∧
      (∀ o, s.oldestFrame = some o → o < x.last + clampNat 1 65535 x.timeout * 1000000 → ∃ u : State,
        exec (.frerResetTimeout r) s = .next u ∧ NatMap.get {} u.frer r = x ∧ u = { s with frer := u.frer }))

/-! ## The Timebase (spec/02) -/

/-- R57 to R62, R66, R69, R70: the Timebase's events: the states of Table 2.3, its steps and rate, the reference, the PLL, and the
droop counter. -/
def Obligations.TimebaseEvents : Prop :=
  ∀ (s t : State) (d : Byte) (o : Int), -(2 ^ 31) ≤ o → o < 2 ^ 31 →
    (s.ohmythUp = true → s.mode ≠ .boot → s.tb.actConfigured = true → s.tb.running = true → d.toNat = s.tb.actDomain → ∃ u : State,
      exec (.syncReceived d o) s = .next u ∧ u.tb.offset = o ∧ u.mem = s.mem ∧ u.weir = s.weir ∧
      (s.tb.state = .free ∨ s.tb.state = .holdSync → u.tb.state = .acquire) ∧
      (s.tb.state = .acquire → (u.tb.state = .locked ↔ o.natAbs < 100 ∧ 15 ≤ s.tb.goodSyncs)) ∧
      (s.tb.state = .locked → (u.tb.state = .acquire ↔ 1000 < o.natAbs ∧ 3 ≤ s.tb.badSyncs)) ∧
      (s.tb.state = .holdRef → u.tb.state = .holdRef)) ∧
    (s.ohmythUp = true → s.mode ≠ .boot → s.tb.actConfigured = false → d.toNat = s.tb.monDomain →
      exec (.syncReceived d o) s = .next { s with tb := { s.tb with monOffset := o, monValid := true } }) ∧
    (s.tb.state = .acquire ∨ s.tb.state = .locked → t = s.tick.tbEnter .holdSync → exec .syncLoss s = .next
      { t with tb := { t.tb with rate := s.meanRate } }) ∧
    (s.tb.state = .free → exec .syncLoss s = .next s) ∧
    (s.tb.everRan = true → s.tb.state ≠ .holdRef → t = s.enterHoldRef → exec .refLost s = .next
      { t with tb := { t.tb with refOk := false, pllLock := false } }) ∧
    (s.tb.state = .holdRef → t = ({ s with tb := { s.tb with refOk := true, pllLock := true } } : State) →
      s.tb.actConfigured = true → exec .refRestored s = .next (t.tbEnter .acquire)) ∧
    (s.tb.running = false → exec .pllLock s = .next
      { s with tb := { s.tb with refOk := true, pllLock := true, running := true, everRan := true } }) ∧
    (s.tb.running = true → s.tb.refOk = true → exec .pllLock s = .next { s with tb := { s.tb with pllLock := true } }) ∧
    (s.tb.everRan = true → s.tb.refOk = true → s.tb.pllLock = true → s.tb.state ≠ .holdRef → t = s.enterHoldRef →
      exec .pllLockLost s = .next { t with tb := { t.tb with pllLock := false } }) ∧
    (s.ohmythUp = true → s.mode = .hold ∨ s.mode = .commission ∨ s.mode = .boot → s.weirTimed = false →
      0 ≤ (s.tb.count : Int) + o → exec (.tbStep o) s = .next
        (({ s with tb := { s.tb with count := ((s.tb.count : Int) + o).toNat } } : State).setBit tbEvt 3)) ∧
    (s.mode = .lead ∨ s.weirTimed = true ∨ (s.tb.count : Int) + o < 0 → exec (.tbStep o) s = .next s) ∧
    (s.tb.state ≠ .holdSync → s.tb.state ≠ .free ∨ s.alignsToLead = true → s.ohmythUp = true → exec (.tbRateWrite o) s = .next { s with tb := { s.tb with
      rate := clampRate o, rates := (clampRate o :: s.tb.rates).take 16 } }) ∧
    (s.tb.state = .holdSync ∨ s.tb.state = .free ∧ s.alignsToLead = false → exec (.tbRateWrite o) s = .next s) ∧
    (∀ r sum, s.tb.rates.take 16 = r → r ≠ [] → sum = r.foldl (· + ·) 0 →
      2 * (s.meanRate * r.length - sum) ≤ r.length ∧ 2 * (sum - s.meanRate * r.length) ≤ r.length) ∧
    (exec .droop s = .next { s.bump 0x003D0020 with sup := { s.sup with droops := satAdd 0xFFFFFFFF s.sup.droops 1 } })

/-! ## The twins (spec/14) -/

/-- R444, R446, R448 to R450, R457, R462, R466, R536: the Baton and the link. A claim is settled after 1 µs, by TWIN_ID where both
hold their lines; the partner's rise lets a waiting claim go on; the keeper refreshes every 10 µs or releases, and its watchdog
releases after 50 µs; the link trains, comes up with a partner of the same version, and goes down; heartbeats leave every 10 µs;
missed ones are counted and lead to a takeover or a detach; so does an old frame. -/
def Obligations.BatonAndLink : Prop :=
  ∀ (s t : State),
    (∀ at_, s.ford.claimAt = some at_ → at_ + 1000 ≤ s.now → s.ford.entry = none →
      (s.ford.peerLine = false → s.batonHeld.ford.entry = none → exec .batonSettle s = .next s.batonHeld) ∧
      (s.ford.peerLine = true → s.ford.twinId = 1 → t = (s.setBit fdEvt 7).batonRelease → t.ford.entry = none →
        exec .batonSettle s = .next t)) ∧
    (s.ford.claimAt = none → s.ford.entry = none → exec .batonSettle s = .next s) ∧
    (s.ford.holds = true → t = ({ s with ford := { s.ford with peerLine := true } } : State).setBit fdEvt 7 → s.ford.twinId = 1 →
      exec (.batonLineChange true) s = .next t.loseBaton) ∧
    (s.ford.holds = false → exec (.batonLineChange true) s = .next { s with ford := { s.ford with peerLine := true } }) ∧
    (t = ({ s with ford := { s.ford with peerLine := false } } : State) →
      exec (.batonLineChange false) s = .next t.claimWaiting.takeoverCheck) ∧
    (s.ford.holds = true → s.keeperOk = false → exec .keeperRefresh s = .next s.loseBaton) ∧
    (s.ford.holds = true → s.keeperOk = true → s.passed 2 10000 = true →
      exec .keeperRefresh s = .next { s.stamp 2 with ford := { s.ford with keepAt := s.now } }) ∧
    (s.ford.holds = true → s.ford.keepAt + 50000 ≤ s.now → exec .batonWatchdogExpiry s = .next ((s.setBit fdBaton 2).loseBaton)) ∧
    (s.now < s.ford.keepAt + 50000 → exec .batonWatchdogExpiry s = .next s) ∧
    (∀ d : BitVec 16, s.bit fdCtl 0 = true → s.ford.link ≠ 2 → exec (.fordLinkUp d 1) s = .next (s.fordUp d.toNat)) ∧
    (∀ (d : BitVec 16) (v : Byte), s.bit fdCtl 0 = true → s.ford.link ≠ 2 → v ≠ 1 → exec (.fordLinkUp d v) s = .next
      (({ s with ford := { s.ford with link := 1 } } : State).setBit fdEvt 8)) ∧
    exec .fordLinkDown s = .next s.fordDown ∧
    (s.ford.link = 2 → s.bit fdCtl 0 = true → s.errors.fatalAt = none → s.ford.hbStopped = false →
      s.ford.role ≠ .lead ∨ s.ford.holds = true → s.passed 1 10000 = true → t = s.stamp 1 →
      exec .heartbeatSend s = .next (t.fordSend 1 t.heartbeatBody)) ∧
    (s.ford.role = .lead → s.ford.holds = false → exec .heartbeatSend s = .next s) ∧
    (t = ({ s with ford := { s.ford with missed := s.ford.missed + 1, intervalAt := s.ford.intervalAt + 10000 } } : State).bump 0x003A0040 →
      s.ford.hbAt.isSome = true → s.ford.intervalAt + 10000 ≤ s.now →
      (s.ford.role = .shadow → exec .heartbeatMissed s = .next t.takeoverCheck) ∧
      (s.ford.role = .lead → s.ford.link = 2 → s.ford.missed < 2 → exec .heartbeatMissed s = .next t) ∧
      (s.ford.role = .lead → s.ford.link = 2 → 2 ≤ s.ford.missed → s.partnerFollows = true →
        exec .heartbeatMissed s = .next (t.detachPartner true))) ∧
    (∀ f, s.ford.role = .lead → s.partnerFollows = true → f ∈ s.ford.ring →
      f.at_ + 1000 * clampNat 5 100 (s.fld fdCtl 16 7) < s.now → exec .gateLimitDetach s = .next (s.detachPartner true))

/-- R447, R453 to R461, R466, R468, R473, R485: frames of the Ford link, whose header the device takes: `t` is the state then. A
frame that is out of sequence changes no more than that. A follower queues records, decisions, configuration and images, compares
digests, and becomes SHADOW; APP data of a driving device waits for the Intake. -/
def Obligations.FordFrames : Prop :=
  ∀ (s t : State) (h : FordHdr) (b : List Byte),
    (s.fordTake h = none → exec (.ingress h b) s = .next s ∧ exec (.decision h b) s = .next s ∧ exec (.config h b) s = .next s ∧
      exec (.digest h b) s = .next s ∧ exec (.state h b) s = .next s ∧ exec (.app h b) s = .next s ∧
      exec (.heartbeat h b) s = .next s ∧ ∀ m, exec (.control h m) s = .next s) ∧
    (s.fordTake h = some t →
      (leAt b 3 1 ≠ 1 → exec (.heartbeat h b) s = .next
        (({ t with ford := { t.ford with link := 1 } } : State).setBit fdEvt 8)) ∧
      (leAt b 3 1 = 1 → t.ford.role = .none → t.ford.handover = none → t.ford.resync = none → s.ford.ackSeen ≠ h.ack.toNat →
        ∃ u : State,
        exec (.heartbeat h b) s = .next u.weirRun ∧ u.ford.peerRole = nextPeer t.ford.peerRole (roleOf (leAt b 0 1)) ∧
          u.ford.seenRole = roleOf (leAt b 0 1) ∧ u.ford.hbAt = some t.now ∧ u.ford.missed = 0 ∧ u.ford.intervalAt = t.now ∧
          u.ford.tofs = (leAt b 4 8 + t.ford.delay : Nat) - (t.tb.count : Int) ∧ u.mem = t.mem ∧ u.weir = t.weir ∧
          u.regs = t.regs) ∧
      (∀ rs r, rs = ingressRecords b.length b → rs.getLast? = some r → t.following = true → exec (.ingress h b) s = .next
        { t with ford := { t.ford with records := t.ford.records ++ rs, nextRecord := mod48 (r.gseq + 1) } }) ∧
      (t.following = true → exec (.decision h b) s = .next
        ((({ t with dlogIn := t.dlogIn ++ dEntries b.length b } : State).keepEntries (dEntries b.length b)).weirRun)) ∧
      (t.following = true → exec (.config h b) s = .next
        (({ t with ford := { t.ford with configs := t.ford.configs ++ dEntries b.length b } } : State).keepEntries
          (dEntries b.length b))) ∧
      (t.following = false → exec (.ingress h b) s = .next t ∧ exec (.decision h b) s = .next t ∧
        exec (.config h b) s = .next t ∧ exec (.digest h b) s = .next t) ∧
      (∀ x, t.following = true → t.ford.closed.find? (fun x => x.1 == leAt b 0 6) = some x → exec (.digest h b) s = .next
        (({ t with ford := { t.ford with closed := NatMap.del t.ford.closed (leAt b 0 6) } } : State).compareWindow (leAt b 0 6) x.2
          { count := leAt b 6 4, sum := leAt b 0x10 8 })) ∧
      (t.ford.role = .syncing → t.ford.imageOk = false → exec (.state h b) s = .next
        { t with ford := { t.ford with imageIn := t.ford.imageIn ++ b } }) ∧
      (t.following = true → exec (.control h .detach) s = .next t.goDetached) ∧
      (t.ford.role = .lead → t.partnerFollows = true → exec (.control h .detach) s = .next (t.detachPartner false)) ∧
      (∀ g d, exec (.control h (.resync g d)) s = .next (t.resyncAsked g.toNat d.toNat)) ∧
      exec (.control h .imageEnd) s = .next t.imageTaken ∧
      (∀ g, t.ford.role = .shadow → exec (.control h (.handover g)) s = .next
        (({ t with ford := { t.ford with handIn := some g.toNat } } : State).claimWaiting)) ∧
      (t.driving = true → leAt b 0x1C 2 ≤ 9216 → exec (.app h b) s = .next { t with ford := { t.ford with
        appIn := t.ford.appIn ++ [(mod48 t.tb.count, padTo (leAt b 0x1C 2) (b.drop 64))] } }) ∧
      (t.driving = false ∨ 9216 < leAt b 0x1C 2 → exec (.app h b) s = .next (t.bump 0x003A0050))) ∧
    exec .digestWindowClose s = .next s.windowClose ∧
    (s.ford.role = .syncing → s.ford.imageOk = true → s.ford.lag < 50000 → exec .syncCatchUp s = .next
      (({ s with ford := { s.ford with role := .shadow } } : State).setMode .shadow)) ∧
    (s.ford.role ≠ .syncing → exec .syncCatchUp s = .next s)

/-! ## Bittern (spec/15) -/

/-- R480 to R487, R491, R493 to R495: the recorder's events. The oldest cell that H has passed is recorded; chunks close every
1 ms; a checkpoint is asked for at its period, marked when the machine is quiet, given up after 25 µs, retried, and ends; a
transfer moves what it can; a replay offers its records, is stuck after 100 ms, and is done. -/
def Obligations.RecorderEvents : Prop :=
  ∀ (s t : State),
    (∀ c, s.records = true → s.cells.find? (fun c => !c.recorded) = some c → c.classifiedYet = true →
      before48 c.hdr.gseq s.horizon = true → exec .bitternRecord s = .next (s.recordCell c)) ∧
    (s.records = true → s.bt.closeAt + 1000000 ≤ s.now → t = s.closeChunks.gapWrite →
      exec .chunkClose s = .next { t with bt := { t.bt with closeAt := t.now } }) ∧
    (s.records = true → s.now < s.bt.closeAt + 1000000 → exec .chunkClose s = .next s) ∧
    (s.bit 0x003B0000 0 = false → exec .chunkClose s = .next { s with dlogOut := [] }) ∧
    (s.records = true → s.fld 0x003B0000 8 8 ≠ 0 → s.bt.ckpt = 0 → s.bt.retryAt = none →
      s.bt.lastCkpt + s.fld 0x003B0000 8 8 * 1000000000 ≤ s.now → exec .checkpointPeriod s = .next (s.ckptStart 0)) ∧
    (s.bt.ckpt = 1 → s.quiesced = true → exec .checkpointMark s = .next s.ckptMark) ∧
    (s.bt.ckpt = 1 → s.quiesced = false → exec .checkpointMark s = .next s) ∧
    (s.bt.ckpt = 1 → s.bt.since + 25000 ≤ s.now → exec .checkpointQuiesceTimeout s = .next s.ckptFail) ∧
    (∀ at_, s.bt.retryAt = some at_ → s.bt.ckpt = 0 → at_ ≤ s.now → exec .checkpointRetry s = .next (s.ckptStart s.bt.tries)) ∧
    (s.bt.ckpt = 2 → exec .checkpointCopyDone s = .next s.ckptDone) ∧
    (∀ v : Word, s.bit 0x003B00A0 0 = false → t = (s.putReg 0x003B00A0 0xFFFFFFFF v.toNat).1 → t.bit 0x003B00A0 0 = true →
      exec (.xferGo v) s = .next { t.setFld 0x003B00A0 5 1 0 with bt := { t.bt with moved := 0 } }) ∧
    (s.bit 0x003B00A0 0 = true → s.bit 0x003B00A0 5 = false → s.bt.moved ≤ s.xferLen → s.xferBase < 0x800000000 →
      s.mapOk .engine s.xferBase s.xferLen = true → s.xferExports = true → t = s.xferOut (s.xferLen / 8192 + 1) →
      t.bt.moved = s.xferLen → t.bit 0x003B00A0 6 = false →
      exec .xferDone s = .next ((t.setBit 0x003B00A0 5).setBit btEvt 8)) ∧
    (s.bit 0x003B00A0 0 = true → s.bit 0x003B00A0 5 = false → s.bt.moved ≤ s.xferLen → s.xferLen ≠ 0 →
      s.mapOk .engine s.xferBase s.xferLen = false → exec .xferDone s = .next s.mapErr.xferRefuse) ∧
    (s.mode = .replay → exec .replayOffer s = exec (.intakeAccept .supervisor) s) ∧
    (s.mode ≠ .replay → exec .replayOffer s = .next s) ∧
    (∀ e l, s.dlogIn = e :: l → s.mode = .replay → s.replay.stuck = false → s.replay.done = false →
      s.replay.moved + 100000000 ≤ s.now → exec .replayStuck s = .next
        (({ s with replay := { s.replay with stuck := true, site := e.site } } : State).setBit btEvt 6)) ∧
    (s.mode = .replay → s.replay.done = false → s.replay.records = [] → s.cells = [] → exec .replayDone s = .next
      ((({ s with replay := { s.replay with done := true } } : State).setBit btEvt 5).cause 0 18))

/-! ## BOOT, withdrawal and health (spec/16, spec/17, spec/19) -/

/-- R339, R340, R409, R520, R525 to R531, Table 17.4: the steps of BOOT, each at its turn. -/
def Obligations.BootSteps : Prop :=
  ∀ (s t : State) (a b : Bool),
    (s.bootAt 0 = true → s.tap.unread = false → t = ({ s with sup := { s.sup with upc := 0, inPatch := false, noMatch := false } } : State) →
      exec .bootStart s = .next (if s.tap.hashAtBoot = 0 then t.setBit svBoot 3 else t).bootNext) ∧
    (s.bootAt 1 = true → s.tb.running = true → exec .imageVerified s = .next (
      match s.imageIn true (s.fld 0x003C0100 0 1) with
      | some i => s.bootImage (s.fld 0x003C0100 0 1) false i
      | none => match s.imageIn true (1 - s.fld 0x003C0100 0 1) with
        | some i => s.bootImage (1 - s.fld 0x003C0100 0 1) true i
        | none => (s.setBit svBoot 2).record { block := 0x0F, code := 0x00B4, sev := 4 })) ∧
    (∀ u : State, s.bootAt 2 = true → t = tidewayChannels.foldl State.chanSafe ({ s with td := { s.td with loaded := true } } : State) →
      u = t.storeConfig.sluice.foldl (fun s r =>
        if r.1 = slCtl ∨ r.1 = slGeom 0 ∨ r.1 = slGeom 1 then (s.putReg r.1 0xFFFFFFFF r.2).1 else s) t →
      exec (.configStoreLoaded true) s = .next ((u.checkGeometry.gptpConfig u.storeConfig).alarmsWaiting.bootNext)) ∧
    (s.bootAt 3 = true → exec (.dramTrained a b) s = .next ((s.trainChannel 0 a).trainChannel 1 b).bootNext) ∧
    (s.bootAt 4 = true → ∃ u : State, exec .dramZeroed s = .next u.bootNext ∧ u.regs = s.regs ∧ u.sup = s.sup ∧
      (∀ k, u.rd8 k = if keptAt s.zeroesDram k then s.rd8 k else memDefault)) ∧
    (s.bootAt 5 = true → s.sup.halted = false → s.sup.stopped = false → ∃ u : State, exec .ohmythStart s = .next u ∧
      match s.imageIn true (s.fld svBoot 0 1) with
      | none => u = s
      | some i => u.sup.stage = 6 ∧ u.sup.running = true ∧ u.sup.codeLen = i.code.length ∧ u.errors.svwdSince = s.now ∧
        u.mem = (s.wrBytes supRamAddr i.code).mem ∧ u.regs = (match i.patch with | some p => (s.loadPatch p).regs | none => s.regs)) ∧
    (s.ohmythUp = true → s.bootAt 6 = true → exec .bootEnd s = .next s.retire.firstCommit.bootNext) ∧
    (s.ohmythUp = true → s.bootAt 7 = true → s.markers = [] → s.commits = [] → exec .bootEnd s = .next s.bootDone) ∧
    (s.mode ≠ .boot → exec .bootStart s = .next s ∧ exec .imageVerified s = .next s ∧ exec (.configStoreLoaded a) s = .next s ∧
      exec (.dramTrained a b) s = .next s ∧ exec .dramZeroed s = .next s ∧ exec .ohmythStart s = .next s ∧
      exec .bootEnd s = .next s)

/-- R503, R504, R580 to R583, R591, R592, R595: a drain that has ended withdraws its block, and one past its bound is forced; a
sample of the sensors each 1 ms sets the temperature and rail registers, the alarms, and HOT_N with its hysteresis; Viveram is
rewritten. -/
def Obligations.DrainsAndHealth : Prop :=
  ∀ (s : State) (k : Fin 7) (i : Nat),
    (blockOk k i = true → s.wdState k i = .draining → s.wdDrained k i = true → exec (.drainEnd k i) s = .next (s.wdFinish k i)) ∧
    (blockOk k i = true → s.wdState k i = .draining → s.wdDrained k i = false → exec (.drainEnd k i) s = .next s) ∧
    (blockOk k i = true → s.wdState k i = .draining → k.val ≠ 3 → NatMap.get 0 s.wd.since (blockKey k i) ≤ s.now →
      ((s.wdForce k i).wdDrained k i = true ∨ k.val = 5 ∨ k.val = 6 → exec (.drainBoundExpiry k i) s = .next ((s.wdForce k i).wdFinish k i))) ∧
    (s.now < NatMap.get 0 s.wd.since (blockKey k i) → exec (.drainBoundExpiry k i) s = .next s) ∧
    (∀ x, s.passed 3 1000000 = false → exec (.sensorSample x) s = .next s) ∧
    (∀ (x : Samples) h tj trip, s.passed 3 1000000 = true → trip = s.fld 0x003D0018 8 8 →
      hottest ((upTo 8).map fun k => x.temps.getD k none) = some (h, tj) → ∃ u : State, exec (.sensorSample x) s = .next u ∧
        (10 * (trip : Int) ≤ tj → u.hotN = true) ∧ (tj ≤ 10 * (trip : Int) - 100 → u.hotN = false) ∧
        (10 * (trip : Int) - 100 < tj → tj < 10 * (trip : Int) → u.hotN = s.hotN) ∧
        u.hl.active = alarmMask s.hl.active (s.fld 0x003D0018 0 8) trip tj x.out.toNat
          (decide ((((upTo 8).map fun k => x.temps.getD k none).zipIdx.foldl (fun a t => a + b2n t.1.isSome * 2 ^ t.2) 0) ≠ 0xFF)) ∧
        u.cells = s.cells ∧ u.weir = s.weir ∧ u.pending = s.pending) ∧
    (∀ a, s.ohmythUp = true → cfgStoreAddr ≤ a → a < supRamAddr → a % 8 = 0 → s.eccAt a = 0 →
      exec (.viveramRewrite a) s = .next s) ∧
    (∀ a, s.ohmythUp = true → cfgStoreAddr ≤ a → a < supRamAddr → a % 8 = 0 → s.eccAt a = 1 →
      exec (.viveramRewrite a) s = .next ((s.eccNote 1 a).setEcc a 0)) ∧
    (∀ l b, hottest l = some b → l[b.1]? = some (some b.2) ∧ ∀ x ∈ l, ∀ v, x = some v → v ≤ b.2)

/-! ## The test access port (spec/19) -/

/-- R584 to R588: the TAP's instructions: each loads itself and shifts its register out; EXTEST, HIGHZ and CLAMP take the pads over
in BOOT or HOLD with OUT_EN low, and load BYPASS elsewhere; fuses program only where they are blank, with the key, voltage and
mode; a valid token permits debug, and an access that is not permitted ends with ERR. -/
def Obligations.TestAccessPort : Prop :=
  ∀ (s t : State) (l p : List Byte),
    (exec .idcode s = .next ((s.tapLoad 0x01).tapOut (leBytes 4 0x04801F3F))) ∧
    (exec .bypass s = .next (s.tapLoad 0xFF)) ∧
    (t = (s.tapLoad 0x02).tapOut l → exec (.samplePreload l p) s = .next { t with tap := { t.tap with boundary := p } }) ∧
    (s.padsOk = true → t = s.tapLoad 0x04 →
      exec .highz s = .next (({ t with tap := { t.tap with pads := true } } : State).batonRelease)) ∧
    (s.padsOk = true → t = s.tapLoad 0x05 →
      exec .clamp s = .next (({ t with tap := { t.tap with pads := true } } : State).batonRelease)) ∧
    (s.padsOk = false → exec .highz s = .next (s.tapLoad 0xFF) ∧ exec .clamp s = .next (s.tapLoad 0xFF)) ∧
    (s.padsOk = true → ∃ u : State, exec (.extest l) s = .next u ∧ u.tap.boundary = l ∧ u.tap.pads = true ∧ u.tap.ir = 0x03 ∧
      u.ford.holds = false) ∧
    (s.padsOk = false → exec (.extest l) s = .next (s.tapLoad 0xFF)) ∧
    (∀ (v : BitVec 272), t = s.tapLoad 0x20 → t.tap.prog = none → (t.mode = .boot ∨ t.mode = .hold) →
      bitsOf v.toNat 264 8 = 0x5A → bitsOf v.toNat 256 8 = 0 → t.tap.keyHash = 0 → bitsOf v.toNat 0 256 ≠ 0 →
      exec (.fuseProg true v) s = .next { t with tap := { t.tap with prog := some (0, bitsOf v.toNat 0 256, t.now), fail := false } } ∧
      exec (.fuseProg false v) s = .next { t with tap := { t.tap with fail := true } }) ∧
    (∀ v at_, s.tap.prog = some (0, v, at_) → exec .fuseProgDone s = .next
      { s with tap := { s.tap with prog := none, keyHash := v } }) ∧
    (∀ v at_, s.tap.prog = some (1, v, at_) → exec .fuseProgDone s = .next
      { s with tap := { s.tap with prog := none, dbgOpen := true } }) ∧
    (t = s.tapLoad 0x21 → exec .fuseRead s = .next (t.tapOut (leBytes 32 t.tap.keyHash ++ leBytes 8 Config.devId ++
      leBytes 2 (b2n t.tap.dbgOpen + 2 * b2n t.tap.prog.isSome + 4 * b2n t.tap.fail)))) ∧
    (t = s.tapLoad 0x30 → exec (.dbgUnlock l) s = .next
      { t with tap := { t.tap with token := t.tap.token || tokenOk t.tap.keyHash l } }) ∧
    (∀ v : BitVec 80, t = s.tapLoad 0x31 → t.tap.permits = true → bitsOf v.toNat 0 40 % 4 = 0 → bitAt v.toNat 40 = false →
      ∀ u x, t.supRead (bitsOf v.toNat 0 40) 4 = (u, some x) → ∃ w : State, exec (.dbgAccess v) s = .next w ∧
        w.tap.dbg = (x, true, false) ∧ w.mem = u.mem ∧ w.regs = u.regs ∧ w.cells = u.cells) ∧
    (∀ v : BitVec 80, t = s.tapLoad 0x31 → t.tap.permits = false → ∃ w : State, exec (.dbgAccess v) s = .next w ∧
      w.tap.dbg = (bitsOf v.toNat 41 32, false, true) ∧ w.mem = t.mem ∧ w.regs = t.regs)

/-! ## The block as a whole -/

/-- The row's frame: a step takes the command at the front of the queue and runs it on the state with the rest of the queue. -/
def Obligations.StepRunsFront : Prop :=
  ∀ (s : State) (c : Instr) (rest : List Instr), s.pending = c :: rest → step s = exec c { s with pending := rest }

/-- The model's choice (log entry 2): on an empty queue one nanosecond passes, in which the Timebase counts and nothing else
happens (R57, R62). -/
def Obligations.EmptyQueueTicks : Prop :=
  ∀ (s : State), s.pending = [] → step s = .next s.elapse ∧ s.elapse.now = s.now + 1 ∧
    (s.tb.running = false → s.elapse = { s with now := s.now + 1 }) ∧
    (s.tb.running = true → s.tb.state ≠ .holdRef → -(2 ^ 32 : Int) ≤ s.tb.rate → s.elapse.tb.frac < 2 ^ 32 ∧
      ((s.elapse.tb.count * 2 ^ 32 + s.elapse.tb.frac : Nat) : Int) =
        ((s.tb.count * 2 ^ 32 + s.tb.frac : Nat) : Int) + 2 ^ 32 + s.tb.rate)

/-- R47, R63, R416, R443, R520, R529, R532: what a device reset leaves. The device is in BOOT, whose next step is the first; I0
alone is ACTIVE; the next GSEQ is 0, no stream has released, the Weir is empty, no cell, thread or kernel runs, no block is
withdrawn, the Timebase stands, no Baton is held, and every register but SV_RSTCAUSE reads its reset value. Memory lists nothing, in
its canonical form (its bytes read 0: log entry 5). -/
def Obligations.ResetState : Prop :=
  ∀ s : State, s = State.reset →
    s.pending = [] ∧ s.mode = .boot ∧ s.sup.stage = 0 ∧ s.inst = [(0, { state := .active })] ∧ s.nextGseq = 0 ∧ s.seqs = [] ∧
    s.weir = [] ∧ s.cells = [] ∧ s.epoch = 0 ∧ s.eg = {} ∧ s.ca = {} ∧ s.bf = {} ∧ s.wd = {} ∧ s.tb.running = false ∧
    s.ford.holds = false ∧ s.ford.role = .none ∧ s.td.outEn = false ∧ (∀ k, k ≠ 0x00370024 → s.regW k = regReset k) ∧
    s.regW 0x00370024 = 1 ∧ (∀ i, i ≠ 0 → (s.instAt i).state = .absent) ∧ s.inv = true

/-- A fetch without an error in what it reads leaves the machine as it is, and writing back a unit's core or a group's kernel
changes no register, no memory, no cell, no entry of the Weir, and no other thread or group: with the clauses of the words this
says what they leave unchanged. -/
def Obligations.WordFrames : Prop :=
  (∀ (s s' : State) (u : EgUnit) (x : EgCore) (w : Nat), s.ecc = [] → s.egFetch u x = (s', .word w) → s' = s) ∧
  (∀ (s s' : State) (k : Kernel) (w : Nat), s.ecc = [] → s.caFetch k = (s', .ok w) → s' = s) ∧
  (∀ (s : State) (u : EgUnit) (x : EgCore) (t : State), t = s.setCore u x →
    t.regs = s.regs ∧ t.mem = s.mem ∧ t.ecc = s.ecc ∧ t.cells = s.cells ∧ t.weir = s.weir ∧ t.seqs = s.seqs ∧ t.tb = s.tb ∧
    t.ca = s.ca ∧ t.bf = s.bf ∧ t.mb = s.mb ∧ t.ford = s.ford ∧ t.td = s.td ∧ t.out = s.out ∧ t.pending = s.pending ∧
    (∀ (c : Fin 6) (t' : Fin 32), u ≠ .thread c t' → t.threadAt c t' = s.threadAt c t') ∧
    (∀ k : Fin 16, u ≠ .heron k → t.heronAt k = s.heronAt k)) ∧
  (∀ (s : State) (g : Nat) (k : Kernel) (t : State), t = s.setKernel g k →
    t.regs = s.regs ∧ t.mem = s.mem ∧ t.ecc = s.ecc ∧ t.cells = s.cells ∧ t.weir = s.weir ∧ t.seqs = s.seqs ∧ t.tb = s.tb ∧
    t.eg = s.eg ∧ t.bf = s.bf ∧ t.mb = s.mb ∧ t.ford = s.ford ∧ t.td = s.td ∧ t.out = s.out ∧ t.pending = s.pending ∧
    (∀ g', g' ≠ g → t.kernel g' = s.kernel g'))

/-- No rule of the specification stops the block: from every state every command completes, and so does every run. -/
def Obligations.EveryRunCompletes : Prop := (∀ (s : State) (i : Instr), ∃ t, exec i s = .next t) ∧ ∀ s : State, safe s

/-- The invariant of every step: memory keeps its canonical form, so that equal contents are equal data. -/
def Obligations.StepKeepsMemoryCanonical : Prop :=
  ∀ (s t : State), s.inv = true → step s = .next t → t.inv = true
end

