-- ==== Sys2Proof/Laws/Carillon.lean ====
section
/-! SUPPORT. What one step of a Carillon group answers, once for every row (spec/08 R255, R286). -/
namespace Sys2Proof.Machine

/-- A word that goes on: the kernel after it, with one step more. -/
theorem caRow_go {s s' s₁ : State} {g : Nat} {k k' : Kernel} {w : Nat} {op : CaOp} (hk : s.kernel g = some k)
    (hi : k.issues = true) (hf : s.caFetch k = (s', .ok w)) (hl : k.atLimit = false) (ho : caOp w = op)
    (hb : s'.caBody g k w = (s₁, .go k')) : s.caRow g op = s₁.setKernel g { k' with steps := k.steps + 1 } := by
  simp [State.caRow, State.caStep, hk, hi, hf, hl, ho, hb]

/-- A word that parks the group. -/
theorem caRow_park {s s' s₁ : State} {g : Nat} {k : Kernel} {w c t sub : Nat} {a : Option Nat} {op : CaOp}
    (hk : s.kernel g = some k) (hi : k.issues = true) (hf : s.caFetch k = (s', .ok w)) (hl : k.atLimit = false)
    (ho : caOp w = op) (hb : s'.caBody g k w = (s₁, .park c t sub a)) : s.caRow g op = s₁.caPark g k c t sub a := by
  simp [State.caRow, State.caStep, hk, hi, hf, hl, ho, hb]

/-- A word that waits leaves the group at it. -/
theorem caRow_wait {s s' s₁ : State} {g : Nat} {k : Kernel} {w : Nat} {op : CaOp} (hk : s.kernel g = some k)
    (hi : k.issues = true) (hf : s.caFetch k = (s', .ok w)) (hl : k.atLimit = false) (ho : caOp w = op)
    (hb : s'.caBody g k w = (s₁, .wait)) : s.caRow g op = s := by
  simp [State.caRow, State.caStep, hk, hi, hf, hl, ho, hb]

/-- A group that runs no kernel does nothing. -/
theorem caRow_idle {s : State} {g : Nat} {op : CaOp} (hk : s.kernel g = none) : s.caRow g op = s := by
  simp [State.caRow, State.caStep, hk]

end Sys2Proof.Machine
end

