-- ==== Sys2Proof/Laws/Effects.lean ====
section
/-! SUPPORT. What interrupts, records and the Timebase's state changes can do, said once per operation. -/
namespace Sys2Proof.Machine

/-- A message changes pending bits and outputs only. -/
theorem msix_effect (s : State) (i v : Nat) : ∃ p o, s.msix i v = { s with pcie := p, out := o } := by
  unfold State.msix
  extract_lets v' fn base
  split
  · exact ⟨_, _, rfl⟩
  · split <;> exact ⟨_, _, rfl⟩

theorem cause1_effect (s : State) (i k : Nat) : ∃ r p o, s.cause1 i k = { s with regs := r, pcie := p, out := o } := by
  simp only [State.cause1]
  split
  · exact ⟨_, _, _, rfl⟩
  · split
    · obtain ⟨p, o, h⟩ := msix_effect (s.setBit (instKey i 0x3000) k) i ((s.setBit (instKey i 0x3000) k).ivec i k)
      exact ⟨_, p, o, h⟩
    · exact ⟨_, _, _, rfl⟩

/-- A cause changes registers, pending bits and outputs only. -/
theorem cause_effect (s : State) (i k : Nat) : ∃ r p o, s.cause i k = { s with regs := r, pcie := p, out := o } := by
  simp only [State.cause]
  obtain ⟨r, p, o, h⟩ := cause1_effect s i k
  split
  · obtain ⟨r', p', o', h'⟩ := cause1_effect (s.cause1 i k) 0 16
    rw [h'] ; rw [h]
    exact ⟨r', p', o', rfl⟩
  · exact ⟨r, p, o, h⟩

theorem causes_effect (l : List Nat) (k : Nat) : ∀ s : State, ∃ r p o,
    l.foldl (fun s i => if s.active i then s.cause i k else s) s = { s with regs := r, pcie := p, out := o } := by
  induction l with
  | nil => exact fun s => ⟨_, _, _, rfl⟩
  | cons i l ih =>
    intro s
    simp only [List.foldl_cons]
    split
    · obtain ⟨r, p, o, h⟩ := cause_effect s i k
      obtain ⟨r', p', o', h'⟩ := ih (s.cause i k)
      rw [h', h]
      exact ⟨r', p', o', rfl⟩
    · exact ih s

theorem causeAll_effect (s : State) (k : Nat) : ∃ r p o, s.causeAll k = { s with regs := r, pcie := p, out := o } :=
  causes_effect _ _ s

/-- Entering a state other than HOLD_REF changes the Timebase's state and counts, registers, pending bits and outputs. -/
theorem tbEnter_effect (s : State) {st : TbState} (h : st ≠ .holdRef) (hs : st ≠ s.tb.state) : ∃ r p o k,
    s.tbEnter st = { s with regs := r, pcie := p, out := o,
                            tb := { s.tb with state := st, goodSyncs := 0, badSyncs := 0, missed := 0, holdSince := k } } := by
  obtain ⟨f, hf⟩ : ∃ f : State → Nat → Nat → NatMap Nat, ∀ (s : State) k i, s.setBit k i = { s with regs := f s k i } :=
    ⟨fun s k i => (s.setBit k i).regs, fun _ _ _ => rfl⟩
  obtain ⟨r, p, o, e⟩ : ∃ (r : State → NatMap Nat) (p : State → NatMap PcieFn) (o : State → List Output),
      ∀ s : State, s.causeAll 9 = { s with regs := r s, pcie := p s, out := o s } :=
    ⟨fun s => (s.causeAll 9).regs, fun s => (s.causeAll 9).pcie, fun s => (s.causeAll 9).out, fun s => by
      obtain ⟨r, p, o, h⟩ := causeAll_effect s 9
      simp only [h]⟩
  rw [State.tbEnter, if_neg hs]
  by_cases q : st.holdover = true <;> by_cases q' : s.tb.state.holdover = true
  all_goals simp only [q, q', hf, e, h, if_true, if_false, Bool.or_true, Bool.true_or, Bool.or_self, Bool.false_eq_true]
  all_goals exact ⟨_, _, _, _, rfl⟩

end Sys2Proof.Machine
end

