-- ==== Sys2Proof/Laws/State.lean ====
section
/-! SUPPORT. The fields of State that the elementary updates leave as they are, one lemma per field and update, each by
computation; a later proof need not unfold an update. -/
namespace Sys2Proof.Machine

/-! ### setReg: a register write -/

@[simp] theorem State.setReg_pending (s : State) (key v : Nat) : (s.setReg key v).pending = s.pending := rfl
@[simp] theorem State.setReg_now (s : State) (key v : Nat) : (s.setReg key v).now = s.now := rfl
@[simp] theorem State.setReg_mode (s : State) (key v : Nat) : (s.setReg key v).mode = s.mode := rfl
@[simp] theorem State.setReg_tb (s : State) (key v : Nat) : (s.setReg key v).tb = s.tb := rfl
@[simp] theorem State.setReg_weir (s : State) (key v : Nat) : (s.setReg key v).weir = s.weir := rfl
@[simp] theorem State.setReg_seqs (s : State) (key v : Nat) : (s.setReg key v).seqs = s.seqs := rfl
@[simp] theorem State.setReg_cells (s : State) (key v : Nat) : (s.setReg key v).cells = s.cells := rfl
@[simp] theorem State.setReg_td (s : State) (key v : Nat) : (s.setReg key v).td = s.td := rfl
@[simp] theorem State.setReg_eth (s : State) (key v : Nat) : (s.setReg key v).eth = s.eth := rfl
@[simp] theorem State.setReg_tables (s : State) (key v : Nat) : (s.setReg key v).tables = s.tables := rfl
@[simp] theorem State.setReg_inst (s : State) (key v : Nat) : (s.setReg key v).inst = s.inst := rfl
@[simp] theorem State.setReg_sq (s : State) (key v : Nat) : (s.setReg key v).sq = s.sq := rfl
@[simp] theorem State.setReg_ford (s : State) (key v : Nat) : (s.setReg key v).ford = s.ford := rfl
@[simp] theorem State.setReg_eg (s : State) (key v : Nat) : (s.setReg key v).eg = s.eg := rfl
@[simp] theorem State.setReg_bf (s : State) (key v : Nat) : (s.setReg key v).bf = s.bf := rfl
@[simp] theorem State.setReg_ca (s : State) (key v : Nat) : (s.setReg key v).ca = s.ca := rfl
@[simp] theorem State.setReg_mb (s : State) (key v : Nat) : (s.setReg key v).mb = s.mb := rfl
@[simp] theorem State.setReg_mbQueue (s : State) (key v : Nat) : (s.setReg key v).mbQueue = s.mbQueue := rfl
@[simp] theorem State.setReg_mbTaken (s : State) (key v : Nat) : (s.setReg key v).mbTaken = s.mbTaken := rfl
@[simp] theorem State.setReg_sup (s : State) (key v : Nat) : (s.setReg key v).sup = s.sup := rfl
@[simp] theorem State.setReg_dlogIn (s : State) (key v : Nat) : (s.setReg key v).dlogIn = s.dlogIn := rfl
@[simp] theorem State.setReg_sl (s : State) (key v : Nat) : (s.setReg key v).sl = s.sl := rfl
@[simp] theorem State.setReg_ecc (s : State) (key v : Nat) : (s.setReg key v).ecc = s.ecc := rfl
@[simp] theorem State.setReg_mem (s : State) (key v : Nat) : (s.setReg key v).mem = s.mem := rfl
@[simp] theorem State.setReg_out (s : State) (key v : Nat) : (s.setReg key v).out = s.out := rfl
@[simp] theorem State.setReg_errors (s : State) (key v : Nat) : (s.setReg key v).errors = s.errors := rfl

/-! ### setFld: a field write -/

@[simp] theorem State.setFld_pending (s : State) (key lo w v : Nat) : (s.setFld key lo w v).pending = s.pending := rfl
@[simp] theorem State.setFld_now (s : State) (key lo w v : Nat) : (s.setFld key lo w v).now = s.now := rfl
@[simp] theorem State.setFld_mode (s : State) (key lo w v : Nat) : (s.setFld key lo w v).mode = s.mode := rfl
@[simp] theorem State.setFld_tb (s : State) (key lo w v : Nat) : (s.setFld key lo w v).tb = s.tb := rfl
@[simp] theorem State.setFld_weir (s : State) (key lo w v : Nat) : (s.setFld key lo w v).weir = s.weir := rfl
@[simp] theorem State.setFld_seqs (s : State) (key lo w v : Nat) : (s.setFld key lo w v).seqs = s.seqs := rfl
@[simp] theorem State.setFld_cells (s : State) (key lo w v : Nat) : (s.setFld key lo w v).cells = s.cells := rfl
@[simp] theorem State.setFld_td (s : State) (key lo w v : Nat) : (s.setFld key lo w v).td = s.td := rfl
@[simp] theorem State.setFld_eth (s : State) (key lo w v : Nat) : (s.setFld key lo w v).eth = s.eth := rfl
@[simp] theorem State.setFld_tables (s : State) (key lo w v : Nat) : (s.setFld key lo w v).tables = s.tables := rfl
@[simp] theorem State.setFld_inst (s : State) (key lo w v : Nat) : (s.setFld key lo w v).inst = s.inst := rfl
@[simp] theorem State.setFld_sq (s : State) (key lo w v : Nat) : (s.setFld key lo w v).sq = s.sq := rfl
@[simp] theorem State.setFld_ford (s : State) (key lo w v : Nat) : (s.setFld key lo w v).ford = s.ford := rfl
@[simp] theorem State.setFld_eg (s : State) (key lo w v : Nat) : (s.setFld key lo w v).eg = s.eg := rfl
@[simp] theorem State.setFld_bf (s : State) (key lo w v : Nat) : (s.setFld key lo w v).bf = s.bf := rfl
@[simp] theorem State.setFld_ca (s : State) (key lo w v : Nat) : (s.setFld key lo w v).ca = s.ca := rfl
@[simp] theorem State.setFld_mb (s : State) (key lo w v : Nat) : (s.setFld key lo w v).mb = s.mb := rfl
@[simp] theorem State.setFld_mbQueue (s : State) (key lo w v : Nat) : (s.setFld key lo w v).mbQueue = s.mbQueue := rfl
@[simp] theorem State.setFld_mbTaken (s : State) (key lo w v : Nat) : (s.setFld key lo w v).mbTaken = s.mbTaken := rfl
@[simp] theorem State.setFld_sup (s : State) (key lo w v : Nat) : (s.setFld key lo w v).sup = s.sup := rfl
@[simp] theorem State.setFld_dlogIn (s : State) (key lo w v : Nat) : (s.setFld key lo w v).dlogIn = s.dlogIn := rfl
@[simp] theorem State.setFld_sl (s : State) (key lo w v : Nat) : (s.setFld key lo w v).sl = s.sl := rfl
@[simp] theorem State.setFld_ecc (s : State) (key lo w v : Nat) : (s.setFld key lo w v).ecc = s.ecc := rfl
@[simp] theorem State.setFld_mem (s : State) (key lo w v : Nat) : (s.setFld key lo w v).mem = s.mem := rfl
@[simp] theorem State.setFld_out (s : State) (key lo w v : Nat) : (s.setFld key lo w v).out = s.out := rfl
@[simp] theorem State.setFld_errors (s : State) (key lo w v : Nat) : (s.setFld key lo w v).errors = s.errors := rfl

/-! ### setBit: setting a bit -/

@[simp] theorem State.setBit_pending (s : State) (key i : Nat) : (s.setBit key i).pending = s.pending := rfl
@[simp] theorem State.setBit_now (s : State) (key i : Nat) : (s.setBit key i).now = s.now := rfl
@[simp] theorem State.setBit_mode (s : State) (key i : Nat) : (s.setBit key i).mode = s.mode := rfl
@[simp] theorem State.setBit_tb (s : State) (key i : Nat) : (s.setBit key i).tb = s.tb := rfl
@[simp] theorem State.setBit_weir (s : State) (key i : Nat) : (s.setBit key i).weir = s.weir := rfl
@[simp] theorem State.setBit_seqs (s : State) (key i : Nat) : (s.setBit key i).seqs = s.seqs := rfl
@[simp] theorem State.setBit_cells (s : State) (key i : Nat) : (s.setBit key i).cells = s.cells := rfl
@[simp] theorem State.setBit_td (s : State) (key i : Nat) : (s.setBit key i).td = s.td := rfl
@[simp] theorem State.setBit_eth (s : State) (key i : Nat) : (s.setBit key i).eth = s.eth := rfl
@[simp] theorem State.setBit_tables (s : State) (key i : Nat) : (s.setBit key i).tables = s.tables := rfl
@[simp] theorem State.setBit_inst (s : State) (key i : Nat) : (s.setBit key i).inst = s.inst := rfl
@[simp] theorem State.setBit_sq (s : State) (key i : Nat) : (s.setBit key i).sq = s.sq := rfl
@[simp] theorem State.setBit_ford (s : State) (key i : Nat) : (s.setBit key i).ford = s.ford := rfl
@[simp] theorem State.setBit_eg (s : State) (key i : Nat) : (s.setBit key i).eg = s.eg := rfl
@[simp] theorem State.setBit_bf (s : State) (key i : Nat) : (s.setBit key i).bf = s.bf := rfl
@[simp] theorem State.setBit_ca (s : State) (key i : Nat) : (s.setBit key i).ca = s.ca := rfl
@[simp] theorem State.setBit_mb (s : State) (key i : Nat) : (s.setBit key i).mb = s.mb := rfl
@[simp] theorem State.setBit_mbQueue (s : State) (key i : Nat) : (s.setBit key i).mbQueue = s.mbQueue := rfl
@[simp] theorem State.setBit_mbTaken (s : State) (key i : Nat) : (s.setBit key i).mbTaken = s.mbTaken := rfl
@[simp] theorem State.setBit_sup (s : State) (key i : Nat) : (s.setBit key i).sup = s.sup := rfl
@[simp] theorem State.setBit_dlogIn (s : State) (key i : Nat) : (s.setBit key i).dlogIn = s.dlogIn := rfl
@[simp] theorem State.setBit_sl (s : State) (key i : Nat) : (s.setBit key i).sl = s.sl := rfl
@[simp] theorem State.setBit_ecc (s : State) (key i : Nat) : (s.setBit key i).ecc = s.ecc := rfl
@[simp] theorem State.setBit_mem (s : State) (key i : Nat) : (s.setBit key i).mem = s.mem := rfl
@[simp] theorem State.setBit_out (s : State) (key i : Nat) : (s.setBit key i).out = s.out := rfl
@[simp] theorem State.setBit_errors (s : State) (key i : Nat) : (s.setBit key i).errors = s.errors := rfl

/-! ### bump: counting an event -/

@[simp] theorem State.bump_pending (s : State) (key : Nat) : (s.bump key).pending = s.pending := rfl
@[simp] theorem State.bump_now (s : State) (key : Nat) : (s.bump key).now = s.now := rfl
@[simp] theorem State.bump_mode (s : State) (key : Nat) : (s.bump key).mode = s.mode := rfl
@[simp] theorem State.bump_tb (s : State) (key : Nat) : (s.bump key).tb = s.tb := rfl
@[simp] theorem State.bump_weir (s : State) (key : Nat) : (s.bump key).weir = s.weir := rfl
@[simp] theorem State.bump_seqs (s : State) (key : Nat) : (s.bump key).seqs = s.seqs := rfl
@[simp] theorem State.bump_cells (s : State) (key : Nat) : (s.bump key).cells = s.cells := rfl
@[simp] theorem State.bump_td (s : State) (key : Nat) : (s.bump key).td = s.td := rfl
@[simp] theorem State.bump_eth (s : State) (key : Nat) : (s.bump key).eth = s.eth := rfl
@[simp] theorem State.bump_tables (s : State) (key : Nat) : (s.bump key).tables = s.tables := rfl
@[simp] theorem State.bump_inst (s : State) (key : Nat) : (s.bump key).inst = s.inst := rfl
@[simp] theorem State.bump_sq (s : State) (key : Nat) : (s.bump key).sq = s.sq := rfl
@[simp] theorem State.bump_ford (s : State) (key : Nat) : (s.bump key).ford = s.ford := rfl
@[simp] theorem State.bump_eg (s : State) (key : Nat) : (s.bump key).eg = s.eg := rfl
@[simp] theorem State.bump_bf (s : State) (key : Nat) : (s.bump key).bf = s.bf := rfl
@[simp] theorem State.bump_ca (s : State) (key : Nat) : (s.bump key).ca = s.ca := rfl
@[simp] theorem State.bump_mb (s : State) (key : Nat) : (s.bump key).mb = s.mb := rfl
@[simp] theorem State.bump_mbQueue (s : State) (key : Nat) : (s.bump key).mbQueue = s.mbQueue := rfl
@[simp] theorem State.bump_mbTaken (s : State) (key : Nat) : (s.bump key).mbTaken = s.mbTaken := rfl
@[simp] theorem State.bump_sup (s : State) (key : Nat) : (s.bump key).sup = s.sup := rfl
@[simp] theorem State.bump_dlogIn (s : State) (key : Nat) : (s.bump key).dlogIn = s.dlogIn := rfl
@[simp] theorem State.bump_sl (s : State) (key : Nat) : (s.bump key).sl = s.sl := rfl
@[simp] theorem State.bump_ecc (s : State) (key : Nat) : (s.bump key).ecc = s.ecc := rfl
@[simp] theorem State.bump_mem (s : State) (key : Nat) : (s.bump key).mem = s.mem := rfl
@[simp] theorem State.bump_out (s : State) (key : Nat) : (s.bump key).out = s.out := rfl
@[simp] theorem State.bump_errors (s : State) (key : Nat) : (s.bump key).errors = s.errors := rfl

/-! ### emit: sending to the outside -/

@[simp] theorem State.emit_pending (s : State) (k : OutKind) (n a : Nat) (l : List Byte) : (s.emit k n a l).pending = s.pending := rfl
@[simp] theorem State.emit_now (s : State) (k : OutKind) (n a : Nat) (l : List Byte) : (s.emit k n a l).now = s.now := rfl
@[simp] theorem State.emit_mode (s : State) (k : OutKind) (n a : Nat) (l : List Byte) : (s.emit k n a l).mode = s.mode := rfl
@[simp] theorem State.emit_regs (s : State) (k : OutKind) (n a : Nat) (l : List Byte) : (s.emit k n a l).regs = s.regs := rfl
@[simp] theorem State.emit_tb (s : State) (k : OutKind) (n a : Nat) (l : List Byte) : (s.emit k n a l).tb = s.tb := rfl
@[simp] theorem State.emit_weir (s : State) (k : OutKind) (n a : Nat) (l : List Byte) : (s.emit k n a l).weir = s.weir := rfl
@[simp] theorem State.emit_seqs (s : State) (k : OutKind) (n a : Nat) (l : List Byte) : (s.emit k n a l).seqs = s.seqs := rfl
@[simp] theorem State.emit_cells (s : State) (k : OutKind) (n a : Nat) (l : List Byte) : (s.emit k n a l).cells = s.cells := rfl
@[simp] theorem State.emit_td (s : State) (k : OutKind) (n a : Nat) (l : List Byte) : (s.emit k n a l).td = s.td := rfl
@[simp] theorem State.emit_eth (s : State) (k : OutKind) (n a : Nat) (l : List Byte) : (s.emit k n a l).eth = s.eth := rfl
@[simp] theorem State.emit_tables (s : State) (k : OutKind) (n a : Nat) (l : List Byte) : (s.emit k n a l).tables = s.tables := rfl
@[simp] theorem State.emit_inst (s : State) (k : OutKind) (n a : Nat) (l : List Byte) : (s.emit k n a l).inst = s.inst := rfl
@[simp] theorem State.emit_sq (s : State) (k : OutKind) (n a : Nat) (l : List Byte) : (s.emit k n a l).sq = s.sq := rfl
@[simp] theorem State.emit_ford (s : State) (k : OutKind) (n a : Nat) (l : List Byte) : (s.emit k n a l).ford = s.ford := rfl
@[simp] theorem State.emit_eg (s : State) (k : OutKind) (n a : Nat) (l : List Byte) : (s.emit k n a l).eg = s.eg := rfl
@[simp] theorem State.emit_bf (s : State) (k : OutKind) (n a : Nat) (l : List Byte) : (s.emit k n a l).bf = s.bf := rfl
@[simp] theorem State.emit_ca (s : State) (k : OutKind) (n a : Nat) (l : List Byte) : (s.emit k n a l).ca = s.ca := rfl
@[simp] theorem State.emit_mb (s : State) (k : OutKind) (n a : Nat) (l : List Byte) : (s.emit k n a l).mb = s.mb := rfl
@[simp] theorem State.emit_mbQueue (s : State) (k : OutKind) (n a : Nat) (l : List Byte) : (s.emit k n a l).mbQueue = s.mbQueue := rfl
@[simp] theorem State.emit_mbTaken (s : State) (k : OutKind) (n a : Nat) (l : List Byte) : (s.emit k n a l).mbTaken = s.mbTaken := rfl
@[simp] theorem State.emit_sup (s : State) (k : OutKind) (n a : Nat) (l : List Byte) : (s.emit k n a l).sup = s.sup := rfl
@[simp] theorem State.emit_dlogIn (s : State) (k : OutKind) (n a : Nat) (l : List Byte) : (s.emit k n a l).dlogIn = s.dlogIn := rfl
@[simp] theorem State.emit_sl (s : State) (k : OutKind) (n a : Nat) (l : List Byte) : (s.emit k n a l).sl = s.sl := rfl
@[simp] theorem State.emit_ecc (s : State) (k : OutKind) (n a : Nat) (l : List Byte) : (s.emit k n a l).ecc = s.ecc := rfl
@[simp] theorem State.emit_mem (s : State) (k : OutKind) (n a : Nat) (l : List Byte) : (s.emit k n a l).mem = s.mem := rfl
@[simp] theorem State.emit_errors (s : State) (k : OutKind) (n a : Nat) (l : List Byte) : (s.emit k n a l).errors = s.errors := rfl

/-! ### wr8: a byte write -/

@[simp] theorem State.wr8_pending (s : State) (a : Nat) (v : Byte) : (s.wr8 a v).pending = s.pending := rfl
@[simp] theorem State.wr8_now (s : State) (a : Nat) (v : Byte) : (s.wr8 a v).now = s.now := rfl
@[simp] theorem State.wr8_mode (s : State) (a : Nat) (v : Byte) : (s.wr8 a v).mode = s.mode := rfl
@[simp] theorem State.wr8_regs (s : State) (a : Nat) (v : Byte) : (s.wr8 a v).regs = s.regs := rfl
@[simp] theorem State.wr8_tb (s : State) (a : Nat) (v : Byte) : (s.wr8 a v).tb = s.tb := rfl
@[simp] theorem State.wr8_weir (s : State) (a : Nat) (v : Byte) : (s.wr8 a v).weir = s.weir := rfl
@[simp] theorem State.wr8_seqs (s : State) (a : Nat) (v : Byte) : (s.wr8 a v).seqs = s.seqs := rfl
@[simp] theorem State.wr8_cells (s : State) (a : Nat) (v : Byte) : (s.wr8 a v).cells = s.cells := rfl
@[simp] theorem State.wr8_td (s : State) (a : Nat) (v : Byte) : (s.wr8 a v).td = s.td := rfl
@[simp] theorem State.wr8_eth (s : State) (a : Nat) (v : Byte) : (s.wr8 a v).eth = s.eth := rfl
@[simp] theorem State.wr8_tables (s : State) (a : Nat) (v : Byte) : (s.wr8 a v).tables = s.tables := rfl
@[simp] theorem State.wr8_inst (s : State) (a : Nat) (v : Byte) : (s.wr8 a v).inst = s.inst := rfl
@[simp] theorem State.wr8_sq (s : State) (a : Nat) (v : Byte) : (s.wr8 a v).sq = s.sq := rfl
@[simp] theorem State.wr8_ford (s : State) (a : Nat) (v : Byte) : (s.wr8 a v).ford = s.ford := rfl
@[simp] theorem State.wr8_eg (s : State) (a : Nat) (v : Byte) : (s.wr8 a v).eg = s.eg := rfl
@[simp] theorem State.wr8_bf (s : State) (a : Nat) (v : Byte) : (s.wr8 a v).bf = s.bf := rfl
@[simp] theorem State.wr8_ca (s : State) (a : Nat) (v : Byte) : (s.wr8 a v).ca = s.ca := rfl
@[simp] theorem State.wr8_mb (s : State) (a : Nat) (v : Byte) : (s.wr8 a v).mb = s.mb := rfl
@[simp] theorem State.wr8_mbQueue (s : State) (a : Nat) (v : Byte) : (s.wr8 a v).mbQueue = s.mbQueue := rfl
@[simp] theorem State.wr8_mbTaken (s : State) (a : Nat) (v : Byte) : (s.wr8 a v).mbTaken = s.mbTaken := rfl
@[simp] theorem State.wr8_sup (s : State) (a : Nat) (v : Byte) : (s.wr8 a v).sup = s.sup := rfl
@[simp] theorem State.wr8_dlogIn (s : State) (a : Nat) (v : Byte) : (s.wr8 a v).dlogIn = s.dlogIn := rfl
@[simp] theorem State.wr8_sl (s : State) (a : Nat) (v : Byte) : (s.wr8 a v).sl = s.sl := rfl
@[simp] theorem State.wr8_ecc (s : State) (a : Nat) (v : Byte) : (s.wr8 a v).ecc = s.ecc := rfl
@[simp] theorem State.wr8_out (s : State) (a : Nat) (v : Byte) : (s.wr8 a v).out = s.out := rfl
@[simp] theorem State.wr8_errors (s : State) (a : Nat) (v : Byte) : (s.wr8 a v).errors = s.errors := rfl

/-! ### wrBytes: a write of bytes -/

@[simp] theorem State.wrBytes_pending (s : State) (a : Nat) (l : List Byte) : (s.wrBytes a l).pending = s.pending := rfl
@[simp] theorem State.wrBytes_now (s : State) (a : Nat) (l : List Byte) : (s.wrBytes a l).now = s.now := rfl
@[simp] theorem State.wrBytes_mode (s : State) (a : Nat) (l : List Byte) : (s.wrBytes a l).mode = s.mode := rfl
@[simp] theorem State.wrBytes_regs (s : State) (a : Nat) (l : List Byte) : (s.wrBytes a l).regs = s.regs := rfl
@[simp] theorem State.wrBytes_tb (s : State) (a : Nat) (l : List Byte) : (s.wrBytes a l).tb = s.tb := rfl
@[simp] theorem State.wrBytes_weir (s : State) (a : Nat) (l : List Byte) : (s.wrBytes a l).weir = s.weir := rfl
@[simp] theorem State.wrBytes_seqs (s : State) (a : Nat) (l : List Byte) : (s.wrBytes a l).seqs = s.seqs := rfl
@[simp] theorem State.wrBytes_cells (s : State) (a : Nat) (l : List Byte) : (s.wrBytes a l).cells = s.cells := rfl
@[simp] theorem State.wrBytes_td (s : State) (a : Nat) (l : List Byte) : (s.wrBytes a l).td = s.td := rfl
@[simp] theorem State.wrBytes_eth (s : State) (a : Nat) (l : List Byte) : (s.wrBytes a l).eth = s.eth := rfl
@[simp] theorem State.wrBytes_tables (s : State) (a : Nat) (l : List Byte) : (s.wrBytes a l).tables = s.tables := rfl
@[simp] theorem State.wrBytes_inst (s : State) (a : Nat) (l : List Byte) : (s.wrBytes a l).inst = s.inst := rfl
@[simp] theorem State.wrBytes_sq (s : State) (a : Nat) (l : List Byte) : (s.wrBytes a l).sq = s.sq := rfl
@[simp] theorem State.wrBytes_ford (s : State) (a : Nat) (l : List Byte) : (s.wrBytes a l).ford = s.ford := rfl
@[simp] theorem State.wrBytes_eg (s : State) (a : Nat) (l : List Byte) : (s.wrBytes a l).eg = s.eg := rfl
@[simp] theorem State.wrBytes_bf (s : State) (a : Nat) (l : List Byte) : (s.wrBytes a l).bf = s.bf := rfl
@[simp] theorem State.wrBytes_ca (s : State) (a : Nat) (l : List Byte) : (s.wrBytes a l).ca = s.ca := rfl
@[simp] theorem State.wrBytes_mb (s : State) (a : Nat) (l : List Byte) : (s.wrBytes a l).mb = s.mb := rfl
@[simp] theorem State.wrBytes_mbQueue (s : State) (a : Nat) (l : List Byte) : (s.wrBytes a l).mbQueue = s.mbQueue := rfl
@[simp] theorem State.wrBytes_mbTaken (s : State) (a : Nat) (l : List Byte) : (s.wrBytes a l).mbTaken = s.mbTaken := rfl
@[simp] theorem State.wrBytes_sup (s : State) (a : Nat) (l : List Byte) : (s.wrBytes a l).sup = s.sup := rfl
@[simp] theorem State.wrBytes_dlogIn (s : State) (a : Nat) (l : List Byte) : (s.wrBytes a l).dlogIn = s.dlogIn := rfl
@[simp] theorem State.wrBytes_sl (s : State) (a : Nat) (l : List Byte) : (s.wrBytes a l).sl = s.sl := rfl
@[simp] theorem State.wrBytes_ecc (s : State) (a : Nat) (l : List Byte) : (s.wrBytes a l).ecc = s.ecc := rfl
@[simp] theorem State.wrBytes_out (s : State) (a : Nat) (l : List Byte) : (s.wrBytes a l).out = s.out := rfl
@[simp] theorem State.wrBytes_errors (s : State) (a : Nat) (l : List Byte) : (s.wrBytes a l).errors = s.errors := rfl

/-! ### setEcc: an error mark -/

@[simp] theorem State.setEcc_pending (s : State) (a k : Nat) : (s.setEcc a k).pending = s.pending := rfl
@[simp] theorem State.setEcc_now (s : State) (a k : Nat) : (s.setEcc a k).now = s.now := rfl
@[simp] theorem State.setEcc_mode (s : State) (a k : Nat) : (s.setEcc a k).mode = s.mode := rfl
@[simp] theorem State.setEcc_regs (s : State) (a k : Nat) : (s.setEcc a k).regs = s.regs := rfl
@[simp] theorem State.setEcc_tb (s : State) (a k : Nat) : (s.setEcc a k).tb = s.tb := rfl
@[simp] theorem State.setEcc_weir (s : State) (a k : Nat) : (s.setEcc a k).weir = s.weir := rfl
@[simp] theorem State.setEcc_seqs (s : State) (a k : Nat) : (s.setEcc a k).seqs = s.seqs := rfl
@[simp] theorem State.setEcc_cells (s : State) (a k : Nat) : (s.setEcc a k).cells = s.cells := rfl
@[simp] theorem State.setEcc_td (s : State) (a k : Nat) : (s.setEcc a k).td = s.td := rfl
@[simp] theorem State.setEcc_eth (s : State) (a k : Nat) : (s.setEcc a k).eth = s.eth := rfl
@[simp] theorem State.setEcc_tables (s : State) (a k : Nat) : (s.setEcc a k).tables = s.tables := rfl
@[simp] theorem State.setEcc_inst (s : State) (a k : Nat) : (s.setEcc a k).inst = s.inst := rfl
@[simp] theorem State.setEcc_sq (s : State) (a k : Nat) : (s.setEcc a k).sq = s.sq := rfl
@[simp] theorem State.setEcc_ford (s : State) (a k : Nat) : (s.setEcc a k).ford = s.ford := rfl
@[simp] theorem State.setEcc_eg (s : State) (a k : Nat) : (s.setEcc a k).eg = s.eg := rfl
@[simp] theorem State.setEcc_bf (s : State) (a k : Nat) : (s.setEcc a k).bf = s.bf := rfl
@[simp] theorem State.setEcc_ca (s : State) (a k : Nat) : (s.setEcc a k).ca = s.ca := rfl
@[simp] theorem State.setEcc_mb (s : State) (a k : Nat) : (s.setEcc a k).mb = s.mb := rfl
@[simp] theorem State.setEcc_mbQueue (s : State) (a k : Nat) : (s.setEcc a k).mbQueue = s.mbQueue := rfl
@[simp] theorem State.setEcc_mbTaken (s : State) (a k : Nat) : (s.setEcc a k).mbTaken = s.mbTaken := rfl
@[simp] theorem State.setEcc_sup (s : State) (a k : Nat) : (s.setEcc a k).sup = s.sup := rfl
@[simp] theorem State.setEcc_dlogIn (s : State) (a k : Nat) : (s.setEcc a k).dlogIn = s.dlogIn := rfl
@[simp] theorem State.setEcc_sl (s : State) (a k : Nat) : (s.setEcc a k).sl = s.sl := rfl
@[simp] theorem State.setEcc_mem (s : State) (a k : Nat) : (s.setEcc a k).mem = s.mem := rfl
@[simp] theorem State.setEcc_out (s : State) (a k : Nat) : (s.setEcc a k).out = s.out := rfl
@[simp] theorem State.setEcc_errors (s : State) (a k : Nat) : (s.setEcc a k).errors = s.errors := rfl

/-! ### modMb: a mailbox change -/

@[simp] theorem State.modMb_pending (s : State) (m : Nat) (f : Mailbox → Mailbox) : (s.modMb m f).pending = s.pending := rfl
@[simp] theorem State.modMb_now (s : State) (m : Nat) (f : Mailbox → Mailbox) : (s.modMb m f).now = s.now := rfl
@[simp] theorem State.modMb_mode (s : State) (m : Nat) (f : Mailbox → Mailbox) : (s.modMb m f).mode = s.mode := rfl
@[simp] theorem State.modMb_regs (s : State) (m : Nat) (f : Mailbox → Mailbox) : (s.modMb m f).regs = s.regs := rfl
@[simp] theorem State.modMb_tb (s : State) (m : Nat) (f : Mailbox → Mailbox) : (s.modMb m f).tb = s.tb := rfl
@[simp] theorem State.modMb_weir (s : State) (m : Nat) (f : Mailbox → Mailbox) : (s.modMb m f).weir = s.weir := rfl
@[simp] theorem State.modMb_seqs (s : State) (m : Nat) (f : Mailbox → Mailbox) : (s.modMb m f).seqs = s.seqs := rfl
@[simp] theorem State.modMb_cells (s : State) (m : Nat) (f : Mailbox → Mailbox) : (s.modMb m f).cells = s.cells := rfl
@[simp] theorem State.modMb_td (s : State) (m : Nat) (f : Mailbox → Mailbox) : (s.modMb m f).td = s.td := rfl
@[simp] theorem State.modMb_eth (s : State) (m : Nat) (f : Mailbox → Mailbox) : (s.modMb m f).eth = s.eth := rfl
@[simp] theorem State.modMb_tables (s : State) (m : Nat) (f : Mailbox → Mailbox) : (s.modMb m f).tables = s.tables := rfl
@[simp] theorem State.modMb_inst (s : State) (m : Nat) (f : Mailbox → Mailbox) : (s.modMb m f).inst = s.inst := rfl
@[simp] theorem State.modMb_sq (s : State) (m : Nat) (f : Mailbox → Mailbox) : (s.modMb m f).sq = s.sq := rfl
@[simp] theorem State.modMb_ford (s : State) (m : Nat) (f : Mailbox → Mailbox) : (s.modMb m f).ford = s.ford := rfl
@[simp] theorem State.modMb_eg (s : State) (m : Nat) (f : Mailbox → Mailbox) : (s.modMb m f).eg = s.eg := rfl
@[simp] theorem State.modMb_bf (s : State) (m : Nat) (f : Mailbox → Mailbox) : (s.modMb m f).bf = s.bf := rfl
@[simp] theorem State.modMb_ca (s : State) (m : Nat) (f : Mailbox → Mailbox) : (s.modMb m f).ca = s.ca := rfl
@[simp] theorem State.modMb_mbQueue (s : State) (m : Nat) (f : Mailbox → Mailbox) : (s.modMb m f).mbQueue = s.mbQueue := rfl
@[simp] theorem State.modMb_mbTaken (s : State) (m : Nat) (f : Mailbox → Mailbox) : (s.modMb m f).mbTaken = s.mbTaken := rfl
@[simp] theorem State.modMb_sup (s : State) (m : Nat) (f : Mailbox → Mailbox) : (s.modMb m f).sup = s.sup := rfl
@[simp] theorem State.modMb_dlogIn (s : State) (m : Nat) (f : Mailbox → Mailbox) : (s.modMb m f).dlogIn = s.dlogIn := rfl
@[simp] theorem State.modMb_sl (s : State) (m : Nat) (f : Mailbox → Mailbox) : (s.modMb m f).sl = s.sl := rfl
@[simp] theorem State.modMb_ecc (s : State) (m : Nat) (f : Mailbox → Mailbox) : (s.modMb m f).ecc = s.ecc := rfl
@[simp] theorem State.modMb_mem (s : State) (m : Nat) (f : Mailbox → Mailbox) : (s.modMb m f).mem = s.mem := rfl
@[simp] theorem State.modMb_out (s : State) (m : Nat) (f : Mailbox → Mailbox) : (s.modMb m f).out = s.out := rfl
@[simp] theorem State.modMb_errors (s : State) (m : Nat) (f : Mailbox → Mailbox) : (s.modMb m f).errors = s.errors := rfl

/-! ### setThread: a thread change -/

@[simp] theorem State.setThread_pending (s : State) (c t : Nat) (x : Thread) : (s.setThread c t x).pending = s.pending := rfl
@[simp] theorem State.setThread_now (s : State) (c t : Nat) (x : Thread) : (s.setThread c t x).now = s.now := rfl
@[simp] theorem State.setThread_mode (s : State) (c t : Nat) (x : Thread) : (s.setThread c t x).mode = s.mode := rfl
@[simp] theorem State.setThread_regs (s : State) (c t : Nat) (x : Thread) : (s.setThread c t x).regs = s.regs := rfl
@[simp] theorem State.setThread_tb (s : State) (c t : Nat) (x : Thread) : (s.setThread c t x).tb = s.tb := rfl
@[simp] theorem State.setThread_weir (s : State) (c t : Nat) (x : Thread) : (s.setThread c t x).weir = s.weir := rfl
@[simp] theorem State.setThread_seqs (s : State) (c t : Nat) (x : Thread) : (s.setThread c t x).seqs = s.seqs := rfl
@[simp] theorem State.setThread_cells (s : State) (c t : Nat) (x : Thread) : (s.setThread c t x).cells = s.cells := rfl
@[simp] theorem State.setThread_td (s : State) (c t : Nat) (x : Thread) : (s.setThread c t x).td = s.td := rfl
@[simp] theorem State.setThread_eth (s : State) (c t : Nat) (x : Thread) : (s.setThread c t x).eth = s.eth := rfl
@[simp] theorem State.setThread_tables (s : State) (c t : Nat) (x : Thread) : (s.setThread c t x).tables = s.tables := rfl
@[simp] theorem State.setThread_inst (s : State) (c t : Nat) (x : Thread) : (s.setThread c t x).inst = s.inst := rfl
@[simp] theorem State.setThread_sq (s : State) (c t : Nat) (x : Thread) : (s.setThread c t x).sq = s.sq := rfl
@[simp] theorem State.setThread_ford (s : State) (c t : Nat) (x : Thread) : (s.setThread c t x).ford = s.ford := rfl
@[simp] theorem State.setThread_bf (s : State) (c t : Nat) (x : Thread) : (s.setThread c t x).bf = s.bf := rfl
@[simp] theorem State.setThread_ca (s : State) (c t : Nat) (x : Thread) : (s.setThread c t x).ca = s.ca := rfl
@[simp] theorem State.setThread_mb (s : State) (c t : Nat) (x : Thread) : (s.setThread c t x).mb = s.mb := rfl
@[simp] theorem State.setThread_mbQueue (s : State) (c t : Nat) (x : Thread) : (s.setThread c t x).mbQueue = s.mbQueue := rfl
@[simp] theorem State.setThread_mbTaken (s : State) (c t : Nat) (x : Thread) : (s.setThread c t x).mbTaken = s.mbTaken := rfl
@[simp] theorem State.setThread_sup (s : State) (c t : Nat) (x : Thread) : (s.setThread c t x).sup = s.sup := rfl
@[simp] theorem State.setThread_dlogIn (s : State) (c t : Nat) (x : Thread) : (s.setThread c t x).dlogIn = s.dlogIn := rfl
@[simp] theorem State.setThread_sl (s : State) (c t : Nat) (x : Thread) : (s.setThread c t x).sl = s.sl := rfl
@[simp] theorem State.setThread_ecc (s : State) (c t : Nat) (x : Thread) : (s.setThread c t x).ecc = s.ecc := rfl
@[simp] theorem State.setThread_mem (s : State) (c t : Nat) (x : Thread) : (s.setThread c t x).mem = s.mem := rfl
@[simp] theorem State.setThread_out (s : State) (c t : Nat) (x : Thread) : (s.setThread c t x).out = s.out := rfl
@[simp] theorem State.setThread_errors (s : State) (c t : Nat) (x : Thread) : (s.setThread c t x).errors = s.errors := rfl

/-! ### setKernel: a kernel change -/

@[simp] theorem State.setKernel_pending (s : State) (g : Nat) (k : Kernel) : (s.setKernel g k).pending = s.pending := rfl
@[simp] theorem State.setKernel_now (s : State) (g : Nat) (k : Kernel) : (s.setKernel g k).now = s.now := rfl
@[simp] theorem State.setKernel_mode (s : State) (g : Nat) (k : Kernel) : (s.setKernel g k).mode = s.mode := rfl
@[simp] theorem State.setKernel_regs (s : State) (g : Nat) (k : Kernel) : (s.setKernel g k).regs = s.regs := rfl
@[simp] theorem State.setKernel_tb (s : State) (g : Nat) (k : Kernel) : (s.setKernel g k).tb = s.tb := rfl
@[simp] theorem State.setKernel_weir (s : State) (g : Nat) (k : Kernel) : (s.setKernel g k).weir = s.weir := rfl
@[simp] theorem State.setKernel_seqs (s : State) (g : Nat) (k : Kernel) : (s.setKernel g k).seqs = s.seqs := rfl
@[simp] theorem State.setKernel_cells (s : State) (g : Nat) (k : Kernel) : (s.setKernel g k).cells = s.cells := rfl
@[simp] theorem State.setKernel_td (s : State) (g : Nat) (k : Kernel) : (s.setKernel g k).td = s.td := rfl
@[simp] theorem State.setKernel_eth (s : State) (g : Nat) (k : Kernel) : (s.setKernel g k).eth = s.eth := rfl
@[simp] theorem State.setKernel_tables (s : State) (g : Nat) (k : Kernel) : (s.setKernel g k).tables = s.tables := rfl
@[simp] theorem State.setKernel_inst (s : State) (g : Nat) (k : Kernel) : (s.setKernel g k).inst = s.inst := rfl
@[simp] theorem State.setKernel_sq (s : State) (g : Nat) (k : Kernel) : (s.setKernel g k).sq = s.sq := rfl
@[simp] theorem State.setKernel_ford (s : State) (g : Nat) (k : Kernel) : (s.setKernel g k).ford = s.ford := rfl
@[simp] theorem State.setKernel_eg (s : State) (g : Nat) (k : Kernel) : (s.setKernel g k).eg = s.eg := rfl
@[simp] theorem State.setKernel_bf (s : State) (g : Nat) (k : Kernel) : (s.setKernel g k).bf = s.bf := rfl
@[simp] theorem State.setKernel_mb (s : State) (g : Nat) (k : Kernel) : (s.setKernel g k).mb = s.mb := rfl
@[simp] theorem State.setKernel_mbQueue (s : State) (g : Nat) (k : Kernel) : (s.setKernel g k).mbQueue = s.mbQueue := rfl
@[simp] theorem State.setKernel_mbTaken (s : State) (g : Nat) (k : Kernel) : (s.setKernel g k).mbTaken = s.mbTaken := rfl
@[simp] theorem State.setKernel_sup (s : State) (g : Nat) (k : Kernel) : (s.setKernel g k).sup = s.sup := rfl
@[simp] theorem State.setKernel_dlogIn (s : State) (g : Nat) (k : Kernel) : (s.setKernel g k).dlogIn = s.dlogIn := rfl
@[simp] theorem State.setKernel_sl (s : State) (g : Nat) (k : Kernel) : (s.setKernel g k).sl = s.sl := rfl
@[simp] theorem State.setKernel_ecc (s : State) (g : Nat) (k : Kernel) : (s.setKernel g k).ecc = s.ecc := rfl
@[simp] theorem State.setKernel_mem (s : State) (g : Nat) (k : Kernel) : (s.setKernel g k).mem = s.mem := rfl
@[simp] theorem State.setKernel_out (s : State) (g : Nat) (k : Kernel) : (s.setKernel g k).out = s.out := rfl
@[simp] theorem State.setKernel_errors (s : State) (g : Nat) (k : Kernel) : (s.setKernel g k).errors = s.errors := rfl

/-! ### modCell: a cell change -/

@[simp] theorem State.modCell_pending (s : State) (g : Nat) (f : Cell → Cell) : (s.modCell g f).pending = s.pending := rfl
@[simp] theorem State.modCell_now (s : State) (g : Nat) (f : Cell → Cell) : (s.modCell g f).now = s.now := rfl
@[simp] theorem State.modCell_mode (s : State) (g : Nat) (f : Cell → Cell) : (s.modCell g f).mode = s.mode := rfl
@[simp] theorem State.modCell_regs (s : State) (g : Nat) (f : Cell → Cell) : (s.modCell g f).regs = s.regs := rfl
@[simp] theorem State.modCell_tb (s : State) (g : Nat) (f : Cell → Cell) : (s.modCell g f).tb = s.tb := rfl
@[simp] theorem State.modCell_weir (s : State) (g : Nat) (f : Cell → Cell) : (s.modCell g f).weir = s.weir := rfl
@[simp] theorem State.modCell_seqs (s : State) (g : Nat) (f : Cell → Cell) : (s.modCell g f).seqs = s.seqs := rfl
@[simp] theorem State.modCell_td (s : State) (g : Nat) (f : Cell → Cell) : (s.modCell g f).td = s.td := rfl
@[simp] theorem State.modCell_eth (s : State) (g : Nat) (f : Cell → Cell) : (s.modCell g f).eth = s.eth := rfl
@[simp] theorem State.modCell_tables (s : State) (g : Nat) (f : Cell → Cell) : (s.modCell g f).tables = s.tables := rfl
@[simp] theorem State.modCell_inst (s : State) (g : Nat) (f : Cell → Cell) : (s.modCell g f).inst = s.inst := rfl
@[simp] theorem State.modCell_sq (s : State) (g : Nat) (f : Cell → Cell) : (s.modCell g f).sq = s.sq := rfl
@[simp] theorem State.modCell_ford (s : State) (g : Nat) (f : Cell → Cell) : (s.modCell g f).ford = s.ford := rfl
@[simp] theorem State.modCell_eg (s : State) (g : Nat) (f : Cell → Cell) : (s.modCell g f).eg = s.eg := rfl
@[simp] theorem State.modCell_bf (s : State) (g : Nat) (f : Cell → Cell) : (s.modCell g f).bf = s.bf := rfl
@[simp] theorem State.modCell_ca (s : State) (g : Nat) (f : Cell → Cell) : (s.modCell g f).ca = s.ca := rfl
@[simp] theorem State.modCell_mb (s : State) (g : Nat) (f : Cell → Cell) : (s.modCell g f).mb = s.mb := rfl
@[simp] theorem State.modCell_mbQueue (s : State) (g : Nat) (f : Cell → Cell) : (s.modCell g f).mbQueue = s.mbQueue := rfl
@[simp] theorem State.modCell_mbTaken (s : State) (g : Nat) (f : Cell → Cell) : (s.modCell g f).mbTaken = s.mbTaken := rfl
@[simp] theorem State.modCell_sup (s : State) (g : Nat) (f : Cell → Cell) : (s.modCell g f).sup = s.sup := rfl
@[simp] theorem State.modCell_dlogIn (s : State) (g : Nat) (f : Cell → Cell) : (s.modCell g f).dlogIn = s.dlogIn := rfl
@[simp] theorem State.modCell_sl (s : State) (g : Nat) (f : Cell → Cell) : (s.modCell g f).sl = s.sl := rfl
@[simp] theorem State.modCell_ecc (s : State) (g : Nat) (f : Cell → Cell) : (s.modCell g f).ecc = s.ecc := rfl
@[simp] theorem State.modCell_mem (s : State) (g : Nat) (f : Cell → Cell) : (s.modCell g f).mem = s.mem := rfl
@[simp] theorem State.modCell_out (s : State) (g : Nat) (f : Cell → Cell) : (s.modCell g f).out = s.out := rfl
@[simp] theorem State.modCell_errors (s : State) (g : Nat) (f : Cell → Cell) : (s.modCell g f).errors = s.errors := rfl

/-! ### setEth: a port change -/

@[simp] theorem State.setEth_pending (s : State) (p : Nat) (x : EthPort) : (s.setEth p x).pending = s.pending := rfl
@[simp] theorem State.setEth_now (s : State) (p : Nat) (x : EthPort) : (s.setEth p x).now = s.now := rfl
@[simp] theorem State.setEth_mode (s : State) (p : Nat) (x : EthPort) : (s.setEth p x).mode = s.mode := rfl
@[simp] theorem State.setEth_regs (s : State) (p : Nat) (x : EthPort) : (s.setEth p x).regs = s.regs := rfl
@[simp] theorem State.setEth_tb (s : State) (p : Nat) (x : EthPort) : (s.setEth p x).tb = s.tb := rfl
@[simp] theorem State.setEth_weir (s : State) (p : Nat) (x : EthPort) : (s.setEth p x).weir = s.weir := rfl
@[simp] theorem State.setEth_seqs (s : State) (p : Nat) (x : EthPort) : (s.setEth p x).seqs = s.seqs := rfl
@[simp] theorem State.setEth_cells (s : State) (p : Nat) (x : EthPort) : (s.setEth p x).cells = s.cells := rfl
@[simp] theorem State.setEth_td (s : State) (p : Nat) (x : EthPort) : (s.setEth p x).td = s.td := rfl
@[simp] theorem State.setEth_tables (s : State) (p : Nat) (x : EthPort) : (s.setEth p x).tables = s.tables := rfl
@[simp] theorem State.setEth_inst (s : State) (p : Nat) (x : EthPort) : (s.setEth p x).inst = s.inst := rfl
@[simp] theorem State.setEth_sq (s : State) (p : Nat) (x : EthPort) : (s.setEth p x).sq = s.sq := rfl
@[simp] theorem State.setEth_ford (s : State) (p : Nat) (x : EthPort) : (s.setEth p x).ford = s.ford := rfl
@[simp] theorem State.setEth_eg (s : State) (p : Nat) (x : EthPort) : (s.setEth p x).eg = s.eg := rfl
@[simp] theorem State.setEth_bf (s : State) (p : Nat) (x : EthPort) : (s.setEth p x).bf = s.bf := rfl
@[simp] theorem State.setEth_ca (s : State) (p : Nat) (x : EthPort) : (s.setEth p x).ca = s.ca := rfl
@[simp] theorem State.setEth_mb (s : State) (p : Nat) (x : EthPort) : (s.setEth p x).mb = s.mb := rfl
@[simp] theorem State.setEth_mbQueue (s : State) (p : Nat) (x : EthPort) : (s.setEth p x).mbQueue = s.mbQueue := rfl
@[simp] theorem State.setEth_mbTaken (s : State) (p : Nat) (x : EthPort) : (s.setEth p x).mbTaken = s.mbTaken := rfl
@[simp] theorem State.setEth_sup (s : State) (p : Nat) (x : EthPort) : (s.setEth p x).sup = s.sup := rfl
@[simp] theorem State.setEth_dlogIn (s : State) (p : Nat) (x : EthPort) : (s.setEth p x).dlogIn = s.dlogIn := rfl
@[simp] theorem State.setEth_sl (s : State) (p : Nat) (x : EthPort) : (s.setEth p x).sl = s.sl := rfl
@[simp] theorem State.setEth_ecc (s : State) (p : Nat) (x : EthPort) : (s.setEth p x).ecc = s.ecc := rfl
@[simp] theorem State.setEth_mem (s : State) (p : Nat) (x : EthPort) : (s.setEth p x).mem = s.mem := rfl
@[simp] theorem State.setEth_out (s : State) (p : Nat) (x : EthPort) : (s.setEth p x).out = s.out := rfl
@[simp] theorem State.setEth_errors (s : State) (p : Nat) (x : EthPort) : (s.setEth p x).errors = s.errors := rfl

/-! ### setSq: a queue change -/

@[simp] theorem State.setSq_pending (s : State) (i q : Nat) (x : HostQueue) : (s.setSq i q x).pending = s.pending := rfl
@[simp] theorem State.setSq_now (s : State) (i q : Nat) (x : HostQueue) : (s.setSq i q x).now = s.now := rfl
@[simp] theorem State.setSq_mode (s : State) (i q : Nat) (x : HostQueue) : (s.setSq i q x).mode = s.mode := rfl
@[simp] theorem State.setSq_regs (s : State) (i q : Nat) (x : HostQueue) : (s.setSq i q x).regs = s.regs := rfl
@[simp] theorem State.setSq_tb (s : State) (i q : Nat) (x : HostQueue) : (s.setSq i q x).tb = s.tb := rfl
@[simp] theorem State.setSq_weir (s : State) (i q : Nat) (x : HostQueue) : (s.setSq i q x).weir = s.weir := rfl
@[simp] theorem State.setSq_seqs (s : State) (i q : Nat) (x : HostQueue) : (s.setSq i q x).seqs = s.seqs := rfl
@[simp] theorem State.setSq_cells (s : State) (i q : Nat) (x : HostQueue) : (s.setSq i q x).cells = s.cells := rfl
@[simp] theorem State.setSq_td (s : State) (i q : Nat) (x : HostQueue) : (s.setSq i q x).td = s.td := rfl
@[simp] theorem State.setSq_eth (s : State) (i q : Nat) (x : HostQueue) : (s.setSq i q x).eth = s.eth := rfl
@[simp] theorem State.setSq_tables (s : State) (i q : Nat) (x : HostQueue) : (s.setSq i q x).tables = s.tables := rfl
@[simp] theorem State.setSq_inst (s : State) (i q : Nat) (x : HostQueue) : (s.setSq i q x).inst = s.inst := rfl
@[simp] theorem State.setSq_ford (s : State) (i q : Nat) (x : HostQueue) : (s.setSq i q x).ford = s.ford := rfl
@[simp] theorem State.setSq_eg (s : State) (i q : Nat) (x : HostQueue) : (s.setSq i q x).eg = s.eg := rfl
@[simp] theorem State.setSq_bf (s : State) (i q : Nat) (x : HostQueue) : (s.setSq i q x).bf = s.bf := rfl
@[simp] theorem State.setSq_ca (s : State) (i q : Nat) (x : HostQueue) : (s.setSq i q x).ca = s.ca := rfl
@[simp] theorem State.setSq_mb (s : State) (i q : Nat) (x : HostQueue) : (s.setSq i q x).mb = s.mb := rfl
@[simp] theorem State.setSq_mbQueue (s : State) (i q : Nat) (x : HostQueue) : (s.setSq i q x).mbQueue = s.mbQueue := rfl
@[simp] theorem State.setSq_mbTaken (s : State) (i q : Nat) (x : HostQueue) : (s.setSq i q x).mbTaken = s.mbTaken := rfl
@[simp] theorem State.setSq_sup (s : State) (i q : Nat) (x : HostQueue) : (s.setSq i q x).sup = s.sup := rfl
@[simp] theorem State.setSq_dlogIn (s : State) (i q : Nat) (x : HostQueue) : (s.setSq i q x).dlogIn = s.dlogIn := rfl
@[simp] theorem State.setSq_sl (s : State) (i q : Nat) (x : HostQueue) : (s.setSq i q x).sl = s.sl := rfl
@[simp] theorem State.setSq_ecc (s : State) (i q : Nat) (x : HostQueue) : (s.setSq i q x).ecc = s.ecc := rfl
@[simp] theorem State.setSq_mem (s : State) (i q : Nat) (x : HostQueue) : (s.setSq i q x).mem = s.mem := rfl
@[simp] theorem State.setSq_out (s : State) (i q : Nat) (x : HostQueue) : (s.setSq i q x).out = s.out := rfl
@[simp] theorem State.setSq_errors (s : State) (i q : Nat) (x : HostQueue) : (s.setSq i q x).errors = s.errors := rfl

/-! ### modInst: an instance change -/

@[simp] theorem State.modInst_pending (s : State) (i : Nat) (f : Instance → Instance) : (s.modInst i f).pending = s.pending := rfl
@[simp] theorem State.modInst_now (s : State) (i : Nat) (f : Instance → Instance) : (s.modInst i f).now = s.now := rfl
@[simp] theorem State.modInst_mode (s : State) (i : Nat) (f : Instance → Instance) : (s.modInst i f).mode = s.mode := rfl
@[simp] theorem State.modInst_regs (s : State) (i : Nat) (f : Instance → Instance) : (s.modInst i f).regs = s.regs := rfl
@[simp] theorem State.modInst_tb (s : State) (i : Nat) (f : Instance → Instance) : (s.modInst i f).tb = s.tb := rfl
@[simp] theorem State.modInst_weir (s : State) (i : Nat) (f : Instance → Instance) : (s.modInst i f).weir = s.weir := rfl
@[simp] theorem State.modInst_seqs (s : State) (i : Nat) (f : Instance → Instance) : (s.modInst i f).seqs = s.seqs := rfl
@[simp] theorem State.modInst_cells (s : State) (i : Nat) (f : Instance → Instance) : (s.modInst i f).cells = s.cells := rfl
@[simp] theorem State.modInst_td (s : State) (i : Nat) (f : Instance → Instance) : (s.modInst i f).td = s.td := rfl
@[simp] theorem State.modInst_eth (s : State) (i : Nat) (f : Instance → Instance) : (s.modInst i f).eth = s.eth := rfl
@[simp] theorem State.modInst_tables (s : State) (i : Nat) (f : Instance → Instance) : (s.modInst i f).tables = s.tables := rfl
@[simp] theorem State.modInst_sq (s : State) (i : Nat) (f : Instance → Instance) : (s.modInst i f).sq = s.sq := rfl
@[simp] theorem State.modInst_ford (s : State) (i : Nat) (f : Instance → Instance) : (s.modInst i f).ford = s.ford := rfl
@[simp] theorem State.modInst_eg (s : State) (i : Nat) (f : Instance → Instance) : (s.modInst i f).eg = s.eg := rfl
@[simp] theorem State.modInst_bf (s : State) (i : Nat) (f : Instance → Instance) : (s.modInst i f).bf = s.bf := rfl
@[simp] theorem State.modInst_ca (s : State) (i : Nat) (f : Instance → Instance) : (s.modInst i f).ca = s.ca := rfl
@[simp] theorem State.modInst_mb (s : State) (i : Nat) (f : Instance → Instance) : (s.modInst i f).mb = s.mb := rfl
@[simp] theorem State.modInst_mbQueue (s : State) (i : Nat) (f : Instance → Instance) : (s.modInst i f).mbQueue = s.mbQueue := rfl
@[simp] theorem State.modInst_mbTaken (s : State) (i : Nat) (f : Instance → Instance) : (s.modInst i f).mbTaken = s.mbTaken := rfl
@[simp] theorem State.modInst_sup (s : State) (i : Nat) (f : Instance → Instance) : (s.modInst i f).sup = s.sup := rfl
@[simp] theorem State.modInst_dlogIn (s : State) (i : Nat) (f : Instance → Instance) : (s.modInst i f).dlogIn = s.dlogIn := rfl
@[simp] theorem State.modInst_sl (s : State) (i : Nat) (f : Instance → Instance) : (s.modInst i f).sl = s.sl := rfl
@[simp] theorem State.modInst_ecc (s : State) (i : Nat) (f : Instance → Instance) : (s.modInst i f).ecc = s.ecc := rfl
@[simp] theorem State.modInst_mem (s : State) (i : Nat) (f : Instance → Instance) : (s.modInst i f).mem = s.mem := rfl
@[simp] theorem State.modInst_out (s : State) (i : Nat) (f : Instance → Instance) : (s.modInst i f).out = s.out := rfl
@[simp] theorem State.modInst_errors (s : State) (i : Nat) (f : Instance → Instance) : (s.modInst i f).errors = s.errors := rfl

/-! ### tick: taking a free value -/

@[simp] theorem State.tick_pending (s : State) : s.tick.pending = s.pending := rfl
@[simp] theorem State.tick_now (s : State) : s.tick.now = s.now := rfl
@[simp] theorem State.tick_mode (s : State) : s.tick.mode = s.mode := rfl
@[simp] theorem State.tick_regs (s : State) : s.tick.regs = s.regs := rfl
@[simp] theorem State.tick_tb (s : State) : s.tick.tb = s.tb := rfl
@[simp] theorem State.tick_weir (s : State) : s.tick.weir = s.weir := rfl
@[simp] theorem State.tick_seqs (s : State) : s.tick.seqs = s.seqs := rfl
@[simp] theorem State.tick_cells (s : State) : s.tick.cells = s.cells := rfl
@[simp] theorem State.tick_td (s : State) : s.tick.td = s.td := rfl
@[simp] theorem State.tick_eth (s : State) : s.tick.eth = s.eth := rfl
@[simp] theorem State.tick_tables (s : State) : s.tick.tables = s.tables := rfl
@[simp] theorem State.tick_inst (s : State) : s.tick.inst = s.inst := rfl
@[simp] theorem State.tick_sq (s : State) : s.tick.sq = s.sq := rfl
@[simp] theorem State.tick_ford (s : State) : s.tick.ford = s.ford := rfl
@[simp] theorem State.tick_eg (s : State) : s.tick.eg = s.eg := rfl
@[simp] theorem State.tick_bf (s : State) : s.tick.bf = s.bf := rfl
@[simp] theorem State.tick_ca (s : State) : s.tick.ca = s.ca := rfl
@[simp] theorem State.tick_mb (s : State) : s.tick.mb = s.mb := rfl
@[simp] theorem State.tick_mbQueue (s : State) : s.tick.mbQueue = s.mbQueue := rfl
@[simp] theorem State.tick_mbTaken (s : State) : s.tick.mbTaken = s.mbTaken := rfl
@[simp] theorem State.tick_sup (s : State) : s.tick.sup = s.sup := rfl
@[simp] theorem State.tick_dlogIn (s : State) : s.tick.dlogIn = s.dlogIn := rfl
@[simp] theorem State.tick_sl (s : State) : s.tick.sl = s.sl := rfl
@[simp] theorem State.tick_ecc (s : State) : s.tick.ecc = s.ecc := rfl
@[simp] theorem State.tick_mem (s : State) : s.tick.mem = s.mem := rfl
@[simp] theorem State.tick_out (s : State) : s.tick.out = s.out := rfl
@[simp] theorem State.tick_errors (s : State) : s.tick.errors = s.errors := rfl

/-! ### setCore: a unit's core -/

@[simp] theorem State.setCore_pending (s : State) (u : EgUnit) (x : EgCore) : (s.setCore u x).pending = s.pending := by
  cases u <;> simp only [State.setCore, State.modThread] <;> split <;> rfl
@[simp] theorem State.setCore_now (s : State) (u : EgUnit) (x : EgCore) : (s.setCore u x).now = s.now := by
  cases u <;> simp only [State.setCore, State.modThread] <;> split <;> rfl
@[simp] theorem State.setCore_mode (s : State) (u : EgUnit) (x : EgCore) : (s.setCore u x).mode = s.mode := by
  cases u <;> simp only [State.setCore, State.modThread] <;> split <;> rfl
@[simp] theorem State.setCore_regs (s : State) (u : EgUnit) (x : EgCore) : (s.setCore u x).regs = s.regs := by
  cases u <;> simp only [State.setCore, State.modThread] <;> split <;> rfl
@[simp] theorem State.setCore_tb (s : State) (u : EgUnit) (x : EgCore) : (s.setCore u x).tb = s.tb := by
  cases u <;> simp only [State.setCore, State.modThread] <;> split <;> rfl
@[simp] theorem State.setCore_weir (s : State) (u : EgUnit) (x : EgCore) : (s.setCore u x).weir = s.weir := by
  cases u <;> simp only [State.setCore, State.modThread] <;> split <;> rfl
@[simp] theorem State.setCore_seqs (s : State) (u : EgUnit) (x : EgCore) : (s.setCore u x).seqs = s.seqs := by
  cases u <;> simp only [State.setCore, State.modThread] <;> split <;> rfl
@[simp] theorem State.setCore_cells (s : State) (u : EgUnit) (x : EgCore) : (s.setCore u x).cells = s.cells := by
  cases u <;> simp only [State.setCore, State.modThread] <;> split <;> rfl
@[simp] theorem State.setCore_td (s : State) (u : EgUnit) (x : EgCore) : (s.setCore u x).td = s.td := by
  cases u <;> simp only [State.setCore, State.modThread] <;> split <;> rfl
@[simp] theorem State.setCore_eth (s : State) (u : EgUnit) (x : EgCore) : (s.setCore u x).eth = s.eth := by
  cases u <;> simp only [State.setCore, State.modThread] <;> split <;> rfl
@[simp] theorem State.setCore_tables (s : State) (u : EgUnit) (x : EgCore) : (s.setCore u x).tables = s.tables := by
  cases u <;> simp only [State.setCore, State.modThread] <;> split <;> rfl
@[simp] theorem State.setCore_inst (s : State) (u : EgUnit) (x : EgCore) : (s.setCore u x).inst = s.inst := by
  cases u <;> simp only [State.setCore, State.modThread] <;> split <;> rfl
@[simp] theorem State.setCore_sq (s : State) (u : EgUnit) (x : EgCore) : (s.setCore u x).sq = s.sq := by
  cases u <;> simp only [State.setCore, State.modThread] <;> split <;> rfl
@[simp] theorem State.setCore_ford (s : State) (u : EgUnit) (x : EgCore) : (s.setCore u x).ford = s.ford := by
  cases u <;> simp only [State.setCore, State.modThread] <;> split <;> rfl
@[simp] theorem State.setCore_bf (s : State) (u : EgUnit) (x : EgCore) : (s.setCore u x).bf = s.bf := by
  cases u <;> simp only [State.setCore, State.modThread] <;> split <;> rfl
@[simp] theorem State.setCore_ca (s : State) (u : EgUnit) (x : EgCore) : (s.setCore u x).ca = s.ca := by
  cases u <;> simp only [State.setCore, State.modThread] <;> split <;> rfl
@[simp] theorem State.setCore_mb (s : State) (u : EgUnit) (x : EgCore) : (s.setCore u x).mb = s.mb := by
  cases u <;> simp only [State.setCore, State.modThread] <;> split <;> rfl
@[simp] theorem State.setCore_mbQueue (s : State) (u : EgUnit) (x : EgCore) : (s.setCore u x).mbQueue = s.mbQueue := by
  cases u <;> simp only [State.setCore, State.modThread] <;> split <;> rfl
@[simp] theorem State.setCore_mbTaken (s : State) (u : EgUnit) (x : EgCore) : (s.setCore u x).mbTaken = s.mbTaken := by
  cases u <;> simp only [State.setCore, State.modThread] <;> split <;> rfl
@[simp] theorem State.setCore_sup (s : State) (u : EgUnit) (x : EgCore) : (s.setCore u x).sup = s.sup := by
  cases u <;> simp only [State.setCore, State.modThread] <;> split <;> rfl
@[simp] theorem State.setCore_dlogIn (s : State) (u : EgUnit) (x : EgCore) : (s.setCore u x).dlogIn = s.dlogIn := by
  cases u <;> simp only [State.setCore, State.modThread] <;> split <;> rfl
@[simp] theorem State.setCore_sl (s : State) (u : EgUnit) (x : EgCore) : (s.setCore u x).sl = s.sl := by
  cases u <;> simp only [State.setCore, State.modThread] <;> split <;> rfl
@[simp] theorem State.setCore_ecc (s : State) (u : EgUnit) (x : EgCore) : (s.setCore u x).ecc = s.ecc := by
  cases u <;> simp only [State.setCore, State.modThread] <;> split <;> rfl
@[simp] theorem State.setCore_mem (s : State) (u : EgUnit) (x : EgCore) : (s.setCore u x).mem = s.mem := by
  cases u <;> simp only [State.setCore, State.modThread] <;> split <;> rfl
@[simp] theorem State.setCore_out (s : State) (u : EgUnit) (x : EgCore) : (s.setCore u x).out = s.out := by
  cases u <;> simp only [State.setCore, State.modThread] <;> split <;> rfl
@[simp] theorem State.setCore_errors (s : State) (u : EgUnit) (x : EgCore) : (s.setCore u x).errors = s.errors := by
  cases u <;> simp only [State.setCore, State.modThread] <;> split <;> rfl

/-! ### slotNext: a core's next slot -/

@[simp] theorem State.slotNext_pending (s : State) (u : EgUnit) : (s.slotNext u).pending = s.pending := by cases u <;> rfl
@[simp] theorem State.slotNext_now (s : State) (u : EgUnit) : (s.slotNext u).now = s.now := by cases u <;> rfl
@[simp] theorem State.slotNext_mode (s : State) (u : EgUnit) : (s.slotNext u).mode = s.mode := by cases u <;> rfl
@[simp] theorem State.slotNext_regs (s : State) (u : EgUnit) : (s.slotNext u).regs = s.regs := by cases u <;> rfl
@[simp] theorem State.slotNext_tb (s : State) (u : EgUnit) : (s.slotNext u).tb = s.tb := by cases u <;> rfl
@[simp] theorem State.slotNext_weir (s : State) (u : EgUnit) : (s.slotNext u).weir = s.weir := by cases u <;> rfl
@[simp] theorem State.slotNext_seqs (s : State) (u : EgUnit) : (s.slotNext u).seqs = s.seqs := by cases u <;> rfl
@[simp] theorem State.slotNext_cells (s : State) (u : EgUnit) : (s.slotNext u).cells = s.cells := by cases u <;> rfl
@[simp] theorem State.slotNext_td (s : State) (u : EgUnit) : (s.slotNext u).td = s.td := by cases u <;> rfl
@[simp] theorem State.slotNext_eth (s : State) (u : EgUnit) : (s.slotNext u).eth = s.eth := by cases u <;> rfl
@[simp] theorem State.slotNext_tables (s : State) (u : EgUnit) : (s.slotNext u).tables = s.tables := by cases u <;> rfl
@[simp] theorem State.slotNext_inst (s : State) (u : EgUnit) : (s.slotNext u).inst = s.inst := by cases u <;> rfl
@[simp] theorem State.slotNext_sq (s : State) (u : EgUnit) : (s.slotNext u).sq = s.sq := by cases u <;> rfl
@[simp] theorem State.slotNext_ford (s : State) (u : EgUnit) : (s.slotNext u).ford = s.ford := by cases u <;> rfl
@[simp] theorem State.slotNext_bf (s : State) (u : EgUnit) : (s.slotNext u).bf = s.bf := by cases u <;> rfl
@[simp] theorem State.slotNext_ca (s : State) (u : EgUnit) : (s.slotNext u).ca = s.ca := by cases u <;> rfl
@[simp] theorem State.slotNext_mb (s : State) (u : EgUnit) : (s.slotNext u).mb = s.mb := by cases u <;> rfl
@[simp] theorem State.slotNext_mbQueue (s : State) (u : EgUnit) : (s.slotNext u).mbQueue = s.mbQueue := by cases u <;> rfl
@[simp] theorem State.slotNext_mbTaken (s : State) (u : EgUnit) : (s.slotNext u).mbTaken = s.mbTaken := by cases u <;> rfl
@[simp] theorem State.slotNext_sup (s : State) (u : EgUnit) : (s.slotNext u).sup = s.sup := by cases u <;> rfl
@[simp] theorem State.slotNext_dlogIn (s : State) (u : EgUnit) : (s.slotNext u).dlogIn = s.dlogIn := by cases u <;> rfl
@[simp] theorem State.slotNext_sl (s : State) (u : EgUnit) : (s.slotNext u).sl = s.sl := by cases u <;> rfl
@[simp] theorem State.slotNext_ecc (s : State) (u : EgUnit) : (s.slotNext u).ecc = s.ecc := by cases u <;> rfl
@[simp] theorem State.slotNext_mem (s : State) (u : EgUnit) : (s.slotNext u).mem = s.mem := by cases u <;> rfl
@[simp] theorem State.slotNext_out (s : State) (u : EgUnit) : (s.slotNext u).out = s.out := by cases u <;> rfl
@[simp] theorem State.slotNext_errors (s : State) (u : EgUnit) : (s.slotNext u).errors = s.errors := by cases u <;> rfl

end Sys2Proof.Machine
end

