-- ==== Sys2Proof/Laws/Map.lean ====
section
/-! SUPPORT. The laws of the model's finite map: what a write changes, that it changes nothing else, and that every operation keeps
the canonical form. -/
namespace Sys2Proof.Machine

variable {α : Type}

@[simp] theorem NatMap.get_nil (d : α) (k : Nat) : NatMap.get d [] k = d := rfl

/-- Reading what was inserted. -/
@[simp] theorem NatMap.get_ins_same (d v : α) (m : NatMap α) (k : Nat) : NatMap.get d (NatMap.ins m k v) k = v := by
  induction m with
  | nil => simp [NatMap.ins, NatMap.get]
  | cons e m ih =>
    obtain ⟨k', v'⟩ := e
    simp only [NatMap.ins]
    split
    · simp [NatMap.get]
    · split
      · simp [NatMap.get]
      · simp_all [NatMap.get]

/-- An insertion changes no other key. -/
theorem NatMap.get_ins_ne (d v : α) (m : NatMap α) {j k : Nat} (h : j ≠ k) :
    NatMap.get d (NatMap.ins m k v) j = NatMap.get d m j := by
  induction m with
  | nil => simp [NatMap.ins, NatMap.get, h]
  | cons e m ih =>
    obtain ⟨k', v'⟩ := e
    simp only [NatMap.ins]
    split
    · subst_vars; simp [NatMap.get, h]
    · split
      · simp [NatMap.get, h]
      · simp only [NatMap.get, ih]

/-- A deleted key reads as an unlisted one. -/
@[simp] theorem NatMap.get_del_same (d : α) (m : NatMap α) (k : Nat) : NatMap.get d (NatMap.del m k) k = d := by
  induction m with
  | nil => rfl
  | cons e m ih =>
    obtain ⟨k', v'⟩ := e
    simp only [NatMap.del]
    split <;> simp_all [NatMap.get]

/-- A deletion changes no other key. -/
theorem NatMap.get_del_ne (d : α) (m : NatMap α) {j k : Nat} (h : j ≠ k) :
    NatMap.get d (NatMap.del m k) j = NatMap.get d m j := by
  induction m with
  | nil => rfl
  | cons e m ih =>
    obtain ⟨k', v'⟩ := e
    simp only [NatMap.del]
    split
    · subst_vars; simp [NatMap.get, h, ih]
    · simp only [NatMap.get, ih]

/-- A read after a write to the same key. -/
@[simp] theorem NatMap.get_put_same [DecidableEq α] (d v : α) (m : NatMap α) (k : Nat) :
    NatMap.get d (NatMap.put d m k v) k = v := by
  simp only [NatMap.put]
  split <;> simp_all

/-- A write changes no other key. -/
theorem NatMap.get_put_ne [DecidableEq α] (d e v : α) (m : NatMap α) {j k : Nat} (h : j ≠ k) :
    NatMap.get d (NatMap.put e m k v) j = NatMap.get d m j := by
  simp only [NatMap.put]
  split
  · exact NatMap.get_del_ne d m h
  · exact NatMap.get_ins_ne d v m h

/-- What a write leaves at every key. -/
theorem NatMap.get_put [DecidableEq α] (d v : α) (m : NatMap α) (j k : Nat) :
    NatMap.get d (NatMap.put d m k v) j = if j = k then v else NatMap.get d m j := by
  split
  · subst_vars; simp
  · exact NatMap.get_put_ne d d v m ‹_›

/-- A list write reaches its own keys alone. -/
theorem NatMap.get_putList_out [DecidableEq α] (d : α) (l : List α) (m : NatMap α) (j k : Nat) (h : j < k ∨ k + l.length ≤ j) :
    NatMap.get d (NatMap.putList d m k l) j = NatMap.get d m j := by
  induction l generalizing m k with
  | nil => rfl
  | cons v l ih =>
    simp only [NatMap.putList]
    rw [ih _ _ (by simp at h; omega), NatMap.get_put_ne]
    simp at h; omega

/-- A list write leaves its values at its keys. -/
theorem NatMap.get_putList_in [DecidableEq α] (d : α) (l : List α) (m : NatMap α) (i k : Nat) (h : i < l.length) :
    NatMap.get d (NatMap.putList d m k l) (k + i) = l[i] := by
  induction l generalizing m k i with
  | nil => simp at h
  | cons v l ih =>
    simp only [NatMap.putList]
    cases i with
    | zero => rw [NatMap.get_putList_out _ _ _ _ _ (by omega)]; simp
    | succ i =>
      have := ih (NatMap.put d m k v) i (k + 1) (by simpa using h)
      rw [show k + (i + 1) = k + 1 + i by omega, this]; simp

/-! ## The canonical form -/

section wf
variable [DecidableEq α] (d : α)

/-- A lower bound may be lowered. -/
theorem NatMap.wfFrom_mono {a b : Nat} {m : NatMap α} (h : NatMap.wfFrom d b m = true) (hab : a ≤ b) :
    NatMap.wfFrom d a m = true := by
  cases m with
  | nil => rfl
  | cons e m =>
    simp only [NatMap.wfFrom, Bool.and_eq_true, decide_eq_true_eq] at h ⊢
    exact ⟨⟨by omega, h.1.2⟩, h.2⟩

theorem NatMap.wfFrom_del {a : Nat} {m : NatMap α} (h : NatMap.wfFrom d a m = true) (k : Nat) :
    NatMap.wfFrom d a (NatMap.del m k) = true := by
  induction m generalizing a with
  | nil => rfl
  | cons e m ih =>
    simp only [NatMap.wfFrom, Bool.and_eq_true, decide_eq_true_eq] at h
    simp only [NatMap.del]
    split
    · exact NatMap.wfFrom_mono d (ih h.2) (by omega)
    · simp only [NatMap.wfFrom, Bool.and_eq_true, decide_eq_true_eq]
      exact ⟨h.1, ih h.2⟩

theorem NatMap.wfFrom_ins {a : Nat} {m : NatMap α} (h : NatMap.wfFrom d a m = true) {k : Nat} {v : α} (hv : v ≠ d) (hk : a ≤ k) :
    NatMap.wfFrom d a (NatMap.ins m k v) = true := by
  induction m generalizing a with
  | nil => simp [NatMap.ins, NatMap.wfFrom, hv, hk]
  | cons e m ih =>
    obtain ⟨k', v'⟩ := e
    simp only [NatMap.wfFrom, Bool.and_eq_true, decide_eq_true_eq] at h
    simp only [NatMap.ins]
    split
    · subst_vars; simp [NatMap.wfFrom, hv, hk, h.2]
    · split
      · simp only [NatMap.wfFrom, Bool.and_eq_true, decide_eq_true_eq]
        exact ⟨⟨hk, by simp [hv]⟩, ⟨⟨by omega, h.1.2⟩, h.2⟩⟩
      · simp only [NatMap.wfFrom, Bool.and_eq_true, decide_eq_true_eq]
        exact ⟨h.1, ih h.2 (by omega)⟩

/-- A write keeps the canonical form. -/
theorem NatMap.wf_put {m : NatMap α} (h : NatMap.wf d m = true) (k : Nat) (v : α) : NatMap.wf d (NatMap.put d m k v) = true := by
  simp only [NatMap.put]
  split
  · exact NatMap.wfFrom_del d h k
  · exact NatMap.wfFrom_ins d h ‹_› (Nat.zero_le k)

/-- A list write keeps the canonical form. -/
theorem NatMap.wf_putList {m : NatMap α} (h : NatMap.wf d m = true) (k : Nat) (l : List α) :
    NatMap.wf d (NatMap.putList d m k l) = true := by
  induction l generalizing m k with
  | nil => exact h
  | cons v l ih => exact ih (NatMap.wf_put d h k v) _

theorem NatMap.wfFrom_filter {a : Nat} {m : NatMap α} (h : NatMap.wfFrom d a m = true) (p : Nat × α → Bool) :
    NatMap.wfFrom d a (m.filter p) = true := by
  induction m generalizing a with
  | nil => rfl
  | cons e m ih =>
    simp only [NatMap.wfFrom, Bool.and_eq_true, decide_eq_true_eq] at h
    simp only [List.filter]
    split
    · simp only [NatMap.wfFrom, Bool.and_eq_true, decide_eq_true_eq]
      exact ⟨h.1, ih h.2⟩
    · exact NatMap.wfFrom_mono d (ih h.2) (by omega)

/-- Dropping entries keeps the canonical form. -/
theorem NatMap.wf_filter {m : NatMap α} (h : NatMap.wf d m = true) (p : Nat × α → Bool) : NatMap.wf d (m.filter p) = true :=
  NatMap.wfFrom_filter d h p

/-- Keeping the entries of some keys keeps the canonical form. -/
theorem NatMap.wf_keep {m : NatMap α} (h : NatMap.wf d m = true) (p : Nat → Bool) : NatMap.wf d (NatMap.keep p m) = true :=
  NatMap.wfFrom_filter d h _

end wf

/-- Looking a key up by `find?`, as the tables of threads, kernels and parses do. -/
theorem NatMap.find_ins_same {α : Type} (m : NatMap α) (k : Nat) (v : α) :
    (NatMap.ins m k v).find? (fun e => e.1 == k) = some (k, v) := by
  induction m with
  | nil => simp [NatMap.ins]
  | cons e m ih =>
    obtain ⟨j, w⟩ := e
    simp only [NatMap.ins]
    split
    · simp
    · split
      · simp
      · rw [List.find?_cons_of_neg (by simpa using fun h => ‹¬k = j› h.symm)]; exact ih

/-- Another key finds what it found before. -/
theorem NatMap.find_ins_ne {α : Type} (m : NatMap α) {j k : Nat} (v : α) (h : j ≠ k) :
    (NatMap.ins m k v).find? (fun e => e.1 == j) = m.find? (fun e => e.1 == j) := by
  induction m with
  | nil => simp [NatMap.ins, Ne.symm h]
  | cons e m ih =>
    obtain ⟨i, w⟩ := e
    simp only [NatMap.ins]
    split
    · subst_vars
      rw [List.find?_cons_of_neg (by simpa using Ne.symm h), List.find?_cons_of_neg (by simpa using Ne.symm h)]
    · split
      · rw [List.find?_cons_of_neg (by simpa using Ne.symm h)]
      · by_cases hij : i = j
        · simp [hij]
        · rw [List.find?_cons_of_neg (by simpa using hij), List.find?_cons_of_neg (by simpa using hij)]; exact ih

/-- A key that was removed is not found. -/
theorem NatMap.find_del_same {α : Type} (m : NatMap α) (k : Nat) :
    (NatMap.del m k).find? (fun e => e.1 == k) = none := by
  induction m with
  | nil => rfl
  | cons e m ih =>
    obtain ⟨j, w⟩ := e
    simp only [NatMap.del]
    split
    · exact ih
    · rw [List.find?_cons_of_neg (by simpa using fun h => ‹¬k = j› h.symm)]; exact ih

/-- Removing a key leaves the others. -/
theorem NatMap.find_del_ne {α : Type} (m : NatMap α) {j k : Nat} (h : j ≠ k) :
    (NatMap.del m k).find? (fun e => e.1 == j) = m.find? (fun e => e.1 == j) := by
  induction m with
  | nil => rfl
  | cons e m ih =>
    obtain ⟨i, w⟩ := e
    simp only [NatMap.del]
    split
    · subst_vars; rw [List.find?_cons_of_neg (by simpa using Ne.symm h)]; exact ih
    · by_cases hij : i = j
      · simp [hij]
      · rw [List.find?_cons_of_neg (by simpa using hij), List.find?_cons_of_neg (by simpa using hij)]; exact ih

/-- Dropping entries by key: a key that is kept reads as before, another reads as unlisted. -/
theorem NatMap.get_keep {α : Type} (d : α) (p : Nat → Bool) (m : NatMap α) (k : Nat) :
    NatMap.get d (NatMap.keep p m) k = if p k then NatMap.get d m k else d := by
  induction m with
  | nil => simp [NatMap.keep, NatMap.get]
  | cons e m ih =>
    obtain ⟨j, v⟩ := e
    simp only [NatMap.keep] at ih ⊢
    by_cases hj : p j <;> by_cases hk : k = j
    · subst hk; simp [hj, NatMap.get]
    · simp [hj, NatMap.get, hk, ih]
    · subst hk; simp [hj, ih]
    · simp [hj, NatMap.get, hk, ih]

/-- A list that was written reads back. -/
theorem NatMap.getList_putList {α : Type} [DecidableEq α] (d : α) (l : List α) (m : NatMap α) (k : Nat) :
    NatMap.getList d (NatMap.putList d m k l) k l.length = l := by
  induction l generalizing m k with
  | nil => rfl
  | cons v l ih =>
    simp only [List.length_cons, NatMap.getList, NatMap.putList, ih]
    rw [NatMap.get_putList_out _ _ _ _ _ (by omega)]; simp

/-- Keys that a write does not reach read as before. -/
theorem NatMap.getList_congr {α : Type} (d : α) (m m' : NatMap α) (k n : Nat)
    (h : ∀ j, k ≤ j → j < k + n → NatMap.get d m' j = NatMap.get d m j) :
    NatMap.getList d m' k n = NatMap.getList d m k n := by
  induction n generalizing k with
  | zero => rfl
  | succ n ih =>
    simp only [NatMap.getList]
    rw [h k (by omega) (by omega), ih (k + 1) (fun j a b => h j (by omega) (by omega))]

@[simp] theorem NatMap.length_getList {α : Type} (d : α) (m : NatMap α) (k n : Nat) : (NatMap.getList d m k n).length = n := by
  induction n generalizing k with
  | zero => rfl
  | succ n ih => simp [NatMap.getList, ih]

end Sys2Proof.Machine
end

