-- ==== Sys2Proof/Laws/Threads.lean ====
section
/-! SUPPORT. The tables of threads, parses and kernels: what a change of one context, Heron or group leaves of the others
(spec/07 R218, spec/08 R262). -/
namespace Sys2Proof.Machine

@[simp] theorem State.threadAt_setThread_same (s : State) (c t : Nat) (x : Thread) :
    (s.setThread c t x).threadAt c t = some x := by
  simp [State.threadAt, State.setThread, NatMap.find_ins_same]

theorem State.threadAt_setThread_ne (s : State) {c t c' t' : Nat} (x : Thread) (h : egId c' t' ≠ egId c t) :
    (s.setThread c t x).threadAt c' t' = s.threadAt c' t' := by
  simp [State.threadAt, State.setThread, NatMap.find_ins_ne _ _ h]

/-- The contexts of the six clusters have different numbers. -/
theorem egId_inj {c c' : Fin 6} {t t' : Fin 32} (h : egId c t = egId c' t') : c = c' ∧ t = t' := by
  simp only [egId] at h
  exact ⟨Fin.ext (by omega), Fin.ext (by omega)⟩

theorem State.modThread_of (s : State) {c t : Nat} {x : Thread} (f : Thread → Thread) (h : s.threadAt c t = some x) :
    s.modThread c t f = s.setThread c t (f x) := by
  simp [State.modThread, h]

theorem State.setCore_thread (s : State) {c : Fin 6} {t : Fin 32} {x : Thread} (y : EgCore) (h : s.threadAt c t = some x) :
    s.setCore (.thread c t) y = s.setThread c t { x with core := y } := by
  simp [State.setCore, State.modThread, h]

@[simp] theorem State.kernel_setKernel_same (s : State) (g : Nat) (k : Kernel) : (s.setKernel g k).kernel g = some k := by
  simp [State.kernel, State.setKernel, NatMap.find_ins_same]

theorem State.kernel_setKernel_ne (s : State) {g g' : Nat} (k : Kernel) (h : g' ≠ g) :
    (s.setKernel g k).kernel g' = s.kernel g' := by
  simp [State.kernel, State.setKernel, NatMap.find_ins_ne _ _ h]

end Sys2Proof.Machine
end

