-- ==== Sys2Proof/Laws/Egret.lean ====
section
/-! SUPPORT. What a row of the Egret instruction set answers, once for every row: in its unit's slot, a row whose word stands at
the PC runs its body on the core, in the state that the fetch and the slot leave. -/
namespace Sys2Proof.Machine

/-! ### What a fetch and a slot leave -/

theorem faultLog_eg (s : State) (r : ErrRec) : (s.faultLog r).eg = s.eg := by
  unfold State.faultLog
  extract_lets slot bytes u
  have hu : u.eg = s.eg := State.wrBytes_eg ..
  clear_value u
  split <;> exact hu

theorem collect_eg (s : State) (r : ErrRec) : (s.collect r).eg = s.eg := by
  unfold State.collect
  extract_lets full direct after r' later u kept
  have hu : u.eg = s.eg := by
    show (if direct = true then s.faultLog r' else s).eg = s.eg
    split
    · exact faultLog_eg ..
    · rfl
  clear_value u
  repeat' split
  all_goals first | exact hu | exact (State.bump_eg ..).trans hu

theorem record_eg (s : State) (e : ErrSrc) : (s.record e).eg = s.eg := by
  unfold State.record State.record.go
  repeat' split
  all_goals simp [collect_eg]

theorem eccNote_eg (s : State) (kind a : Nat) (w : Who) (port : Nat) : (s.eccNote kind a w port).eg = s.eg := by
  simp only [State.eccNote, State.eccNoteAs, record_eg, State.eccCount]
  repeat' split
  all_goals simp [State.tick]

/-- A read that is checked leaves the Egret clusters and the Herons as they are. -/
theorem rdChk_eg (s : State) (a n : Nat) (w : Who) (port : Nat) : (s.rdChk a n w port).1.eg = s.eg := by
  simp only [State.rdChk]
  generalize s.badGranules a n = l
  induction l generalizing s with
  | nil => rfl
  | cons e l ih =>
    rw [List.foldl_cons, ih]
    split <;> simp [State.setEcc, eccNote_eg]

/-- So does a fetch. -/
theorem egFetch_eg {s s' : State} {u : EgUnit} {x : EgCore} {f : Fetch} (h : s.egFetch u x = (s', f)) : s'.eg = s.eg := by
  have key {a n : Nat} {w : Who} {g : State → List Byte → Fetch} {e : Fetch} (h : (match s.rdChk a n w with
      | (s, some l) => (s, g s l)
      | (s, none) => (s, e)) = (s', f)) : s'.eg = s.eg := by
    generalize hr : s.rdChk a n w = r at h
    rw [← rdChk_eg s a n w 0xF, hr]
    obtain ⟨s₁, o⟩ := r
    cases o <;> simp only [Prod.mk.injEq] at h <;> rw [h.1]
  cases u with
  | thread c t =>
    simp only [State.egFetch] at h
    split at h
    · rw [← (Prod.mk.inj h).1]
    · exact key h
  | heron k =>
    simp only [State.egFetch] at h
    split at h
    · rw [← (Prod.mk.inj h).1]
    · exact key (g := fun s _ => _) h

/-- A slot moves on without a change of the threads. -/
@[simp] theorem threadAt_slotNext (s : State) (u : EgUnit) (c t : Nat) : (s.slotNext u).threadAt c t = s.threadAt c t := by
  cases u <;> rfl

@[simp] theorem heronAt_slotNext (s : State) (u : EgUnit) (k : Nat) : (s.slotNext u).heronAt k = s.heronAt k := by
  cases u <;> rfl

/-- While one of its contexts is runnable a core's next slot is not open. -/
theorem slotIdle_runs {s : State} {c : Fin 6} {t : Fin 32} {y : Thread} (h : s.threadAt c t = some y) (hr : y.runnable = true) :
    s.slotIdle (.thread c t) = s := by
  have e : 4 * (t.val / 4) + t.val % 4 = t.val := Nat.div_add_mod _ _
  have : (upTo 4).any (s.ctxRuns c (t.val / 4)) = true :=
    List.any_eq_true.mpr ⟨t.val % 4, by simp [upTo]; omega, by simp [State.ctxRuns, e, h, hr]⟩
  simp only [State.slotIdle, State.coreIdle, this, if_true]

@[simp] theorem slotIdle_heron (s : State) (k : Fin 16) : s.slotIdle (.heron k) = s := rfl

/-- After a word that works within a runnable thread's core, the core's next slot is not open. -/
theorem slotIdle_setCore {s : State} {c : Fin 6} {t : Fin 32} {y : Thread} (z : EgCore) (h : s.threadAt c t = some y)
    (hr : y.runnable = true) : (s.setCore (.thread c t) z).slotIdle (.thread c t) = s.setCore (.thread c t) z := by
  rw [State.setCore_thread s z h]
  exact slotIdle_runs (State.threadAt_setThread_same ..) hr

/-- The thread of a unit that may issue. -/
theorem unitCore_thread {s : State} {c : Fin 6} {t : Fin 32} {x : EgCore} (h : s.unitCore (.thread c t) = some x) :
    ∃ y, s.threadAt c t = some y ∧ y.runnable = true ∧ y.core = x := by
  simp only [State.unitCore] at h
  split at h
  · split at h
    · exact ⟨_, by assumption, by assumption, Option.some.inj h⟩
    · cases h
  · cases h

/-! ### Rows -/

/-- A row runs its body on the word at the PC. -/
theorem egRow_runs {s s' : State} {u : EgUnit} {x : EgCore} {w : Nat} {op : EgOp} {body : EgCore → Nat → State → State}
    (hx : s.unitCore u = some x) (ht : s.slotTurn u = true) (hf : s.egFetch u x = (s', .word w))
    (ho : egOp (isHeron u) w = op) (hi : op ≠ .illegal) : s.egRow u op body = (body x w (s'.slotNext u)).slotIdle u := by
  simp [State.egRow, hx, ht, hf, ho, hi]

/-- A unit that may not issue does nothing. -/
theorem egRow_idle {s : State} {u : EgUnit} {op : EgOp} {body : EgCore → Nat → State → State}
    (hx : s.unitCore u = none) : s.egRow u op body = s := by
  simp [State.egRow, hx]

/-- Nor does one whose slot it is not (R229). -/
theorem egRow_waits {s : State} {u : EgUnit} {op : EgOp} {body : EgCore → Nat → State → State}
    (ht : s.slotTurn u = false) : s.egRow u op body = s := by
  unfold State.egRow; split <;> simp [ht]

/-- A word of another row leaves the unit as it is. -/
theorem egRow_other {s s' : State} {u : EgUnit} {x : EgCore} {w : Nat} {op : EgOp} {body : EgCore → Nat → State → State}
    (hx : s.unitCore u = some x) (hf : s.egFetch u x = (s', .word w)) (ho : egOp (isHeron u) w ≠ op)
    (hi : egOp (isHeron u) w ≠ .illegal) : s.egRow u op body = s := by
  simp [State.egRow, hx, hf, ho, hi]

/-- A word within the core that does not trap. -/
theorem egPure_ok {s s' : State} {u : EgUnit} {x y : EgCore} {w : Nat} {op : EgOp} {f : Nat → EgCore → Except Nat EgCore}
    (hx : s.unitCore u = some x) (ht : s.slotTurn u = true) (hf : s.egFetch u x = (s', .word w))
    (ho : egOp (isHeron u) w = op) (hi : op ≠ .illegal) (hy : f w x = .ok y) :
    s.egPure u op f = (s'.slotNext u).setCore u y := by
  simp only [State.egPure, egRow_runs hx ht hf ho hi, hy]
  cases u with
  | heron k => rfl
  | thread c t =>
    obtain ⟨z, hz, hr, -⟩ := unitCore_thread hx
    refine slotIdle_setCore (y := z) y ?_ hr
    rw [threadAt_slotNext]
    simpa [State.threadAt, egFetch_eg hf] using hz

/-- A word within the core that traps. -/
theorem egPure_error {s s' : State} {u : EgUnit} {x : EgCore} {w v : Nat} {op : EgOp} {f : Nat → EgCore → Except Nat EgCore}
    (hx : s.unitCore u = some x) (ht : s.slotTurn u = true) (hf : s.egFetch u x = (s', .word w))
    (ho : egOp (isHeron u) w = op) (hi : op ≠ .illegal) (hv : f w x = .error v) :
    s.egPure u op f = ((s'.slotNext u).egTrap u x { vec := v }).slotIdle u := by
  simp [State.egPure, egRow_runs hx ht hf ho hi, hv]

/-- A system word's row runs its body on the thread. -/
theorem sysRow_runs {s s' : State} {c : Fin 6} {t : Fin 32} {x : EgCore} {y : Thread} {w : Nat} {op : EgOp}
    {body : Thread → Nat → State → State} (hx : s.unitCore (.thread c t) = some x) (ht : s.slotTurn (.thread c t) = true)
    (hf : s.egFetch (.thread c t) x = (s', .word w)) (ho : egOp false w = op) (hi : op ≠ .illegal)
    (hy : s'.threadAt c t = some y) :
    s.sysRow c t op body = (body y w (s'.slotNext (.thread c t))).slotIdle (.thread c t) := by
  simp only [State.sysRow, egRow_runs hx ht hf (show egOp (isHeron (.thread c t)) w = op from ho) hi, threadAt_slotNext, hy]

end Sys2Proof.Machine
end

