-- ==== Sys2Proof/Laws/EgretCore.lean ====
section
/-! SUPPORT. The registers of an Egret core: what a write of one changes, and what it leaves (spec/06 R184, R192). -/
namespace Sys2Proof.Machine

/-- The window, flag and control fields that `put` leaves. -/
theorem EgCore.put_frame (x : EgCore) (name v : Nat) :
    (x.put name v).pc = x.pc ∧ (x.put name v).cwp = x.cwp ∧ (x.put name v).c = x.c ∧ (x.put name v).z = x.z ∧
    (x.put name v).n = x.n ∧ (x.put name v).v = x.v ∧ (x.put name v).bm = x.bm ∧ (x.put name v).ts = x.ts := by
  unfold EgCore.put; split <;> (try split) <;> simp

/-- A register write leaves the pointers. -/
theorem EgCore.put_reg_p (x : EgCore) (name v : Nat) (h : name < 16) : (x.put name v).p = x.p := by
  unfold EgCore.put; split <;> (try split) <;> first | rfl | omega

/-- The register that was written reads the byte. -/
theorem EgCore.reg_put_same (x : EgCore) (name v : Nat) (h : name < 16) : (x.put name v).reg name = v % 256 := by
  by_cases h8 : name < 8 <;> simp [EgCore.put, EgCore.reg, h8, h]

/-- Another register reads as before. -/
theorem EgCore.reg_put_ne (x : EgCore) (name v r : Nat) (h : r ≠ name) (hr : r < 16) : (x.put name v).reg r = x.reg r := by
  by_cases h8 : name < 8 <;> by_cases h16 : name < 16 <;> by_cases r8 : r < 8 <;>
    simp only [EgCore.put, EgCore.reg, h8, h16, r8, if_true, if_false] <;> exact NatMap.get_put_ne _ _ _ _ (by omega)

/-- A pointer that was written reads the 16-bit value. -/
theorem EgCore.ptr_put_same (x : EgCore) (k v : Nat) : (x.put (16 + k) v).ptr k = v % 0x10000 := by
  unfold EgCore.put EgCore.ptr
  rw [if_neg (by omega), if_neg (by omega)]
  simp [show (16 + k) % 4 = k % 4 by omega]

/-- A reserved function has no result. -/
theorem aluFn_reserved {fn : Nat} (h : 10 ≤ fn) (a b : Nat) (c bm : Bool) : aluFn fn a b c bm = none := by
  unfold aluFn; split <;> first | omega | rfl

/-- Flags do not touch registers. -/
theorem EgCore.setFlags_reg (x : EgCore) (f : FlagW) (r : Nat) : (x.setFlags f).reg r = x.reg r := rfl

/-- The next word has the same registers. -/
theorem EgCore.next_reg (x : EgCore) (r : Nat) : x.next.reg r = x.reg r := rfl

end Sys2Proof.Machine
end

