-- ==== Sys2Proof/Laws/Mailbox.lean ====
section
/-! SUPPORT. What a command of Ohmyth and its answer do, once for every command (spec/11 R366, R373). -/
namespace Sys2Proof.Machine

/-- A command that has been taken up runs its body with its request and the instance that it acts for. -/
theorem mbRun_runs {s : State} {m op : Nat} {x : MbCmd} {body : MbCmd → Nat → State → State} (hc : (s.mbAt m).cmd = some x)
    (ht : x.taken = true) (hb : x.begun = false) (ho : x.op = op) (hm : s.mbTaken.contains m = true) (hs : s.serves = true)
    (hh : s.sup.hold = false) (hr : s.mbTurn m x = true) : s.mbRun m op body = body x ((x.for_ m).getD m) s := by
  simp only [State.mbRun, hc, ht, hb, ho, hm, hs, hh, hr]
  simp

/-- A mailbox without a command runs none. -/
theorem mbRun_idle {s : State} {m op : Nat} {body : MbCmd → Nat → State → State} (hc : (s.mbAt m).cmd = none) :
    s.mbRun m op body = s := by
  simp [State.mbRun, hc]

/-- A changed mailbox reads as changed. -/
@[simp] theorem mbAt_modMb_same (s : State) (m : Nat) (f : Mailbox → Mailbox) : (s.modMb m f).mbAt m = f (s.mbAt m) := by
  simp [State.mbAt, State.modMb, NatMap.mod]

/-- Every other mailbox keeps its contents. -/
theorem mbAt_modMb_ne (s : State) {m k : Nat} (h : k ≠ m) (f : Mailbox → Mailbox) : (s.modMb m f).mbAt k = s.mbAt k := by
  simp [State.mbAt, State.modMb, NatMap.mod, NatMap.get_put_ne _ _ _ _ h]

/-- An answer while Ohmyth serves and no window is open keeps a copy and writes the response. -/
theorem mbAnswer_serves {s : State} {m st : Nat} {x : MbCmd} {body : List Byte} (hc : (s.mbAt m).cmd = some x)
    (h1 : s.sup.halted = false) (h2 : s.sup.stopped = false) (h3 : s.sup.hold = false) :
    s.mbAnswer m st body =
      (s.modMb m fun b => { b with copy := mbResponse m x st body }).mbRespond m (mbResponse m x st body) := by
  simp [State.mbAnswer, hc, h1, h2, h3]

end Sys2Proof.Machine
end

