-- ==== Sys2Proof/Laws/Memory.lean ====
section
/-! SUPPORT. Memory: what a write of bytes changes and leaves, that every operation keeps the canonical form, and what a checked
access does where no error is marked (spec/09 R298, R330). -/
namespace Sys2Proof.Machine

/-! ## Reads and writes -/

theorem State.rd8_wr8 (s : State) (a b : Nat) (v : Byte) : (s.wr8 a v).rd8 b = if b = a then v else s.rd8 b :=
  NatMap.get_put _ _ _ _ _

theorem State.rd8_wrBytes_out (s : State) (a b : Nat) (l : List Byte) (h : b < a ∨ a + l.length ≤ b) :
    (s.wrBytes a l).rd8 b = s.rd8 b := NatMap.get_putList_out _ _ _ _ _ h

theorem State.rdBytes_wrBytes (s : State) (a : Nat) (l : List Byte) : (s.wrBytes a l).rdBytes a l.length = l :=
  NatMap.getList_putList _ _ _ _

theorem State.rdBytes_of_mem {s t : State} (h : t.mem = s.mem) (a n : Nat) : t.rdBytes a n = s.rdBytes a n := by
  simp [State.rdBytes, h]

theorem State.rd8_of_mem {s t : State} (h : t.mem = s.mem) (a : Nat) : t.rd8 a = s.rd8 a := by
  simp [State.rd8, h]

@[simp] theorem State.length_rdBytes (s : State) (a n : Nat) : (s.rdBytes a n).length = n := NatMap.length_getList _ _ _ _

theorem State.rd8_clearMem (s : State) (a n b : Nat) :
    (s.clearMem a n).rd8 b = if b < a ∨ a + n ≤ b then s.rd8 b else memDefault := by
  simp [State.rd8, State.clearMem, NatMap.get_keep]

/-! ## The canonical form -/

theorem wf_wr8 {s : State} (h : Memory.wf s.mem = true) (a : Nat) (v : Byte) : Memory.wf (s.wr8 a v).mem = true :=
  NatMap.wf_put _ h _ _

theorem wf_wrBytes {s : State} (h : Memory.wf s.mem = true) (a : Nat) (l : List Byte) : Memory.wf (s.wrBytes a l).mem = true :=
  NatMap.wf_putList _ h _ _

theorem wf_wrLe {s : State} (h : Memory.wf s.mem = true) (a n v : Nat) : Memory.wf (s.wrLe a n v).mem = true :=
  NatMap.wf_putList _ h _ _

theorem wf_clearMem {s : State} (h : Memory.wf s.mem = true) (a n : Nat) : Memory.wf (s.clearMem a n).mem = true :=
  NatMap.wf_keep memDefault (m := s.mem) h (fun k => k < a || a + n ≤ k)

theorem wf_filterMem {m : List Host.Cell} (h : Memory.wf m = true) (p : Host.Cell → Bool) : Memory.wf (m.filter p) = true :=
  NatMap.wf_filter _ h p

theorem wf_mergeMem {regs : NatMap Nat} {own image : List Host.Cell} (h : Memory.wf own = true) :
    Memory.wf (mergeMem regs own image) = true := by
  unfold mergeMem
  generalize image.filter _ = l
  have h0 : Memory.wf (own.filter fun c => !imageCovers regs c.1) = true := wf_filterMem h _
  generalize own.filter _ = m at h0
  induction l generalizing m with
  | nil => exact h0
  | cons c l ih => exact ih _ (NatMap.wf_put _ h0 _ _)

theorem wf_pbufStore {s : State} (h : Memory.wf s.mem = true) (place : Nat) (l : List Byte) :
    Memory.wf (s.pbufStore place l).mem = true := NatMap.wf_putList _ h _ _

@[simp] theorem State.pbufPoke_mem (s : State) (a n : Nat) : (s.pbufPoke a n).mem = s.mem := by
  unfold State.pbufPoke; split <;> rfl

/-! ## Payloads in the packet buffer (R17, R300) -/

theorem State.rd8_pbufStore_out (s : State) (place b : Nat) (l : List Byte)
    (h : b < pbufBase + 64 * place ∨ pbufBase + 64 * place + l.length ≤ b) : (s.pbufStore place l).rd8 b = s.rd8 b :=
  NatMap.get_putList_out _ _ _ _ _ h

theorem State.rdBytes_pbufStore (s : State) (place : Nat) (l : List Byte) :
    (s.pbufStore place l).rdBytes (pbufBase + 64 * place) l.length = l := NatMap.getList_putList _ _ _ _

/-! ## Checked accesses where no error is marked -/

theorem badGranules_clean {s : State} (h : s.ecc = []) (a n : Nat) : s.badGranules a n = [] := by
  simp [State.badGranules, h]

theorem rdChk_clean {s : State} (h : s.ecc = []) (a n : Nat) (w : Who) (p : Nat) : s.rdChk a n w p = (s, some (s.rdBytes a n)) := by
  simp [State.rdChk, State.badGranules, h]

theorem wrChk_clean {s : State} (h : s.ecc = []) (a : Nat) (l : List Byte) (w : Who) (p : Nat) :
    s.wrChk a l w p = (s.wrBytes a l, false) := by
  simp [State.wrChk, State.badGranules, h]

end Sys2Proof.Machine
end

