-- ==== Sys2Proof/Tests/Slice0.lean ====
section
/-! SUPPORT. The model's own tests: an ill-formed command for each check of WellFormed.lean, one step of a few commands against
what the rules say, and for every statement concrete states and operands that meet its hypotheses. -/
namespace Sys2Proof.Tests
open Sys2Proof Sys2Proof.Machine
set_option Elab.async false

/-! ## WellFormed -/

theorem test_wf_reg_view : (Instr.regWrite .pf 0x01000000 4 0).wf = false ∧ (Instr.regWrite .pf 0x00370024 4 0).wf = true := by
  decide
theorem test_wf_reg_vf : (Instr.rcRead (.vf 0) 0 4).wf = false ∧ (Instr.rcRead (.vf 1) 0x40000 4).wf = false ∧
    (Instr.rcRead (.vf 1) 0x3FFFC 4).wf = true := by decide
theorem test_wf_reg_size : (Instr.regWrite .pf 0 0 0).wf = false ∧ (Instr.regWrite .pf 0 9 0).wf = false := by decide
theorem test_wf_lower : (Instr.lowerWordRead .pf 2).wf = false ∧ (Instr.lowerWordRead .pf 4).wf = true := by decide
theorem test_wf_ca_state : (Instr.caStateWrite 0 0x10000 0).wf = false ∧ (Instr.caStateWrite 0 2 0).wf = false := by decide
theorem test_wf_ocm_scrub : (Instr.ocmScrubVisit 0x7FFFFFFF8 .none).wf = false ∧
    (Instr.ocmScrubVisit 0x800000004 .none).wf = false ∧ (Instr.ocmScrubVisit 0x10410000000 .none).wf = false := by decide
theorem test_wf_request_area : (Instr.requestAreaWrite 0 0x100 0).wf = false ∧ (Instr.requestAreaWrite 0 0xFC 0).wf = true := by
  decide
theorem test_wf_sq_entry : (Instr.sqEntryRead 0 0 (.data [0]) .failed).wf = false := by decide
theorem test_wf_frame : (Instr.frameReceived 0 [] true).wf = false := by decide
theorem test_wf_offsets : (Instr.syncReceived 0 (2 ^ 63)).wf = false ∧ (Instr.tbStep (-(2 ^ 63) - 1)).wf = false ∧
    (Instr.tbRateWrite (2 ^ 31)).wf = false ∧ (Instr.tbRateWrite (-(2 ^ 31))).wf = true := by decide
theorem test_wf_ford_body : fordBody (List.replicate 9281 0) = false ∧ fordBody (List.replicate 9280 0) = true := by
  exact ⟨by simp only [fordBody, List.length_replicate]; decide, by simp only [fordBody, List.length_replicate]; decide⟩
theorem test_wf_drain : (Instr.drainEnd 5 6).wf = false ∧ (Instr.drainBoundExpiry 5 5).wf = true := by decide
theorem test_wf_samples : (Instr.sensorSample ⟨[], 0, 0, 0, 0, 0, 0⟩).wf = false := by decide
theorem test_wf_viveram : (Instr.viveramRewrite 0x1005000000).wf = false ∧ (Instr.viveramRewrite 0x1004000000).wf = true := by
  decide
theorem test_wf_tap : (Instr.samplePreload [1] []).wf = false ∧ (Instr.extest []).wf = false ∧ (Instr.dbgUnlock []).wf = false := by
  decide

/-! ## Egret words -/

/-- A word of opcode `op` with fields (value, lowest bit). -/
def wd (op : Nat) (l : List (Nat × Nat)) : Nat := l.foldl (fun a f => a + f.1 * 2 ^ f.2) (op * 2 ^ 25)
/-- A thread of I0 at word 0. -/
def thd : Thread := { core := {}, gseq := 0, inst := 0, isCell := true, uid := 1 }
/-- Thread 0 of cluster 0 is `x`, and word 0 is `w`. -/
def th (x : Thread) (w : Nat) : State :=
  ({ mode := .lead, eg := { threads := [(0, x)] } } : State).wrBytes (progAddr 0) (leBytes 4 w)
/-- The thread is at word 0, which is `w`, a word of row `op`. -/
def at0 (s : State) (op : EgOp) (x : Thread) (w : Nat) : Bool :=
  s.threadAt 0 0 == some x && x.runnable && x.core.pc == 0 && s.ecc == [] && ofLe (s.rdBytes (progAddr 0) 4) == w &&
    egOp false w == op && s.slotTurn (.thread 0 0)

theorem at0_issues {s : State} {op : EgOp} {x : Thread} {w : Nat} (h : at0 s op x w = true) :
    s.issuesSys (s.slotNext (.thread 0 0)) 0 0 op x w := by
  simp only [at0, Bool.and_eq_true, beq_iff_eq] at h
  obtain ⟨⟨⟨⟨⟨⟨h1, h2⟩, h3⟩, h4⟩, h5⟩, h6⟩, h7⟩ := h
  refine ⟨⟨?_, h7, s, ?_, rfl⟩, h6, (threadAt_slotNext ..).trans h1⟩
  · simp [State.unitCore, h1, h2]
  · simp [State.egFetch, h3, h1, rdChk_clean h4, h5]

/-- Words of several rows that the thread `x` is about to run. -/
abbrev RunsEach (x : Thread) (l : List (EgOp × Nat)) : Prop := ∀ e ∈ l,
  (th x e.2).issuesSys ((th x e.2).slotNext (.thread 0 0)) 0 0 e.1 x e.2
theorem runsEach {x : Thread} {l : List (EgOp × Nat)} (h : l.all (fun e => at0 (th x e.2) e.1 x e.2) = true) : RunsEach x l :=
  fun e he => at0_issues (List.all_eq_true.mp h e he)

theorem witness_EgretComputeWords : RunsEach thd
    [(.alu, wd 1 [(9, 9)]), (.alui, wd 2 [(9, 13)]), (.shift, wd 3 [(1, 14)]), (.ldi, wd 4 []), (.paddi16, wd 8 []), (.paddr, wd 9 []),
     (.mul, wd 0xA [(14, 21)]), (.pair, 2 ^ 31)] ∧ (aluFn 9 0 0 false false).isSome ∧ (shortOp thd.core 0).isSome := by
  exact ⟨runsEach (by decide +kernel), by decide, by decide⟩
theorem witness_EgretComputeTraps : RunsEach thd
    [(.alu, wd 1 [(10, 9)]), (.alui, wd 2 [(15, 13)]), (.mul, wd 0xA [(15, 21)]), (.pair, 2 ^ 31 + 0x18 * 2 ^ 25),
     (.pair, 2 ^ 31 + 0x18 * 2 ^ 10), (.pair, 2 ^ 31 + 0x0B * 2 ^ 25 + 0x0B * 2 ^ 10)] ∧
    shortOp thd.core (0x18 * 2 ^ 10) = none ∧ (match shortOp thd.core (0x0B * 2 ^ 10) with
      | some a => pairHazard a a | none => false) = true := by
  exact ⟨runsEach (by decide +kernel), by rfl, by rfl⟩
/-- A thread whose p0 is `p`. -/
def thp (p : Nat) : Thread := { thd with core := { p := [(0, p)] } }
theorem witness_EgretFrameAccess : RunsEach (thp 0xFFF)
    [(.ld, wd 5 []), (.st, wd 6 []), (.ldx, wd 7 []), (.stx, wd 7 [(1, 14)])] ∧ RunsEach (thp 0xFFE) [(.ldp, wd 5 [(1, 16)]), (.stp, wd 6 [(1, 16)])] ∧
    (ldAddr (wd 5 []) (thp 0xFFF).core).1 = 0xFFF ∧ ldxAddr (wd 7 []) (thp 0xFFF).core = 0xFFF ∧
    (ldAddr (wd 5 [(1, 16)]) (thp 0xFFE).core).1 = 0xFFE ∧ (th (thp 0) 0).badGranules (frameAddr 0 0 + 0xFFE) 2 = [] := by
  exact ⟨runsEach (by decide +kernel), runsEach (by decide +kernel), by decide +kernel, by decide +kernel, by decide +kernel,
    by decide +kernel⟩
theorem witness_EgretAccessForms : RunsEach thd
    [(.ld, wd 5 []), (.ld, wd 5 [(2, 16)]), (.ldp, wd 5 [(1, 16)]), (.ldp, wd 5 [(1, 16), (1, 18)]), (.st, wd 6 []), (.st, wd 6 [(3, 16)]),
     (.stp, wd 6 [(1, 16)]), (.ldx, wd 7 []), (.stx, wd 7 [(1, 14)])] := runsEach (by decide +kernel)
theorem witness_EgretControlWords : RunsEach { thd with core := { bm := true } } [(.bcc, wd 0x10 [(14, 21)])] ∧ RunsEach thd
    [(.cbr, wd 0x11 [(14, 21)]), (.cbi, wd 0x12 []), (.cbp, wd 0x13 []), (.jmp, wd 0x14 []), (.mode, wd 0x3F [(6, 20)]),
     (.mfsr, wd 0x3F [(8, 20), (2, 0)]), (.mtsr, wd 0x3F [(9, 20), (2, 0)]), (.call, wd 0x14 [(1, 24)])] ∧
    RunsEach { thd with core := { depth := 1, residents := 2 } } [(.ret, wd 0x15 [])] ∧
    (condOf 14 false false false false).isSome ∧ (condCmp 14 8 0 0).isSome ∧ (condCmp 0 16 0 0).isSome := by
  exact ⟨runsEach (by decide +kernel), runsEach (by decide +kernel), runsEach (by decide +kernel), by decide, by decide, by decide⟩
theorem witness_EgretControlTraps : RunsEach thd [(.bcc, wd 0x10 [(14, 21)]), (.ret, wd 0x15 [])] ∧
    RunsEach { thd with core := { cwp := 0 } } [(.ret, wd 0x15 [])] ∧
    RunsEach { thd with core := { residents := 5, spp := 0x10, spl := 1 } } [(.call, wd 0x14 [(1, 24)])] := by
  exact ⟨runsEach (by decide +kernel), runsEach (by decide +kernel), runsEach (by decide +kernel)⟩
theorem witness_EgretTrapEntry : (th { thd with trapen := 0x800 } 0).threadAt 0 0 = some { thd with trapen := 0x800 } ∧
    thd.core.ts = false ∧ bitAt ({ thd with trapen := 0x800 } : Thread).trapen 11 = true := by decide +kernel
theorem witness_EgretTrapWords : RunsEach thd
    [(.trap, wd 0x3F [(4, 20)]), (.bkpt, wd 0x3F [(0xF, 20)]), (.fault, wd 0x3F [(0xE, 20)]), (.fence, wd 0x3F [(7, 20)])] ∧
    RunsEach { thd with core := { ts := true } } [(.rett, wd 0x3F [(5, 20)])] :=
  ⟨runsEach (by decide +kernel), runsEach (by decide +kernel)⟩

/-! ## Threads, channels and services -/

/-- A SYS word of sub-operation `k`. -/
def sys (k : Nat) (l : List (Nat × Nat)) : Nat := wd 0x3F ((k, 20) :: l)
def isData : MemAns → Bool
  | .data _ => true
  | .trap _ _ => false
def th1 : Thread := { thd with inst := 1 }

theorem witness_EgretForks : RunsEach thd [(.fork, sys 0 []), (.forkq, sys 1 [])] ∧ RunsEach th1 [(.fork, sys 0 []), (.forkq, sys 1 [])] ∧
    (th thd 0).followsSite 0x02 (fun e => e.master == egId 0 0) = false ∧ (th thd 0).threadsFor 0 0 < (th thd 0).threadQuota 0 0 ∧
    (th thd 0).pickContext 0 = some 4 ∧ (th th1 0).threadQuota 1 0 ≤ (th th1 0).threadsFor 1 0 := by
  exact ⟨runsEach (by decide +kernel), runsEach (by decide +kernel), by decide +kernel, by decide +kernel, by decide +kernel,
    by decide +kernel⟩
/-- A thread and its child. -/
def withChild (w : Nat) : State :=
  { th thd w with eg := { threads := [(0, thd), (31, { thd with isCell := false, parent := 0, parentUid := 1, uid := 2 })] } }
/-- An open cell of stream 1. -/
def cell0 : Cell := { hdr := { stream := 1 }, payload := [], stage := .opened, epoch := 0 }
theorem witness_EgretJoins : RunsEach thd [(.join, sys 2 []), (.exit, sys 3 [])] ∧ (th thd (sys 2 [])).hasChild 0 thd = false ∧
    at0 (withChild (sys 2 [])) .join thd (sys 2 []) = true ∧ (withChild (sys 2 [])).hasChild 0 thd = true ∧
    ((th thd (sys 3 [])).stopThread 0 0).cellThreads 0 = [] ∧ at0 (withChild (sys 3 [])) .exit thd (sys 3 []) = true ∧
    ((withChild (sys 3 [])).stopThread 0 0).cellThreads 0 ≠ [] ∧
    ((withChild (sys 3 [])).stopThread 0 0).mayDispose thd = false ∧
    (let s : State := { withChild (sys 3 []) with cells := [cell0] };
     at0 s .exit thd (sys 3 []) = true ∧ (s.stopThread 0 0).cellThreads 0 ≠ [] ∧ (s.stopThread 0 0).cellAt 0 = some cell0 ∧
     cell0.disposed = false) ∧
    (th { thd with wait := some .join } 0).hasChild 0 { thd with wait := some .join } = false ∧ thd.waitlim = 0 := by
  exact ⟨runsEach (by decide +kernel), by decide +kernel, by decide +kernel, by decide +kernel, by decide +kernel, by decide +kernel,
    by decide +kernel, by decide +kernel, by decide +kernel,
    by decide +kernel, by decide +kernel⟩

/-- The thread at a word, with device channel 0x3BF open to cluster 0 and holding `n` words. -/
def ch (x : Thread) (w n : Nat) : State :=
  let s := (th x w).setReg (0x00260000 + 4 * 0xBF) 0x101
  { s with eg := { s.eg with chans := NatMap.put [] [] (chanKey 0 0x3BF) (List.replicate n ⟨7, 0xFFFF⟩) } }
/-- What the sends ask: the word is read, and the channel takes it from this thread. -/
def sends (x : Thread) (w n id : Nat) : Bool :=
  let s := ch x w n
  isData (s.thReadAny 0 0 x 0 4).2 && (s.thReadAny 0 0 x 0 4).1.chanCheck 0 x id true == none &&
    (s.thReadAny 0 0 x 0 4).1.chanFollows 0 0 id == false && (s.chanAt 0 id).length == n
theorem witness_EgretChannelWords : (chanFields (sys 0xA [(0x3BF, 0)]) thd.core = (0x3BF, 0, 0)) ∧
    (∀ n ∈ [7, 8], at0 (ch thd (sys 0xA [(0x3BF, 0)]) n) .send thd (sys 0xA [(0x3BF, 0)]) = true ∧
      at0 (ch thd (sys 0xC [(0x3BF, 0)]) n) .sendq thd (sys 0xC [(0x3BF, 0)]) = true ∧ sends thd (sys 0xA [(0x3BF, 0)]) n 0x3BF = true) ∧
    (∀ n ∈ [0, 1], at0 (ch thd (sys 0xB [(0x3BF, 0)]) n) .recv thd (sys 0xB [(0x3BF, 0)]) = true ∧
      at0 (ch thd (sys 0xD [(0x3BF, 0)]) n) .recvq thd (sys 0xD [(0x3BF, 0)]) = true ∧
      (ch thd 0 n).chanCheck 0 thd 0x3BF false = none ∧ (ch thd 0 n).chanFollows 0 0 0x3BF = false) := by
  refine ⟨by decide +kernel, by decide +kernel, by decide +kernel⟩
theorem witness_EgretChannelWaits : ({ thd with wait := some (.send 0x3BF 5) } : Thread).waitlim = 0 ∧
    ((ch { thd with wait := some (.send 0x3BF 5) } 0 7).chanAt 0 0x3BF).length < 8 ∧
    ((ch { thd with wait := some (.recv 0x3BF 0xFFC) } 0 1).chanAt 0 0x3BF) = [⟨7, 0xFFFF⟩] ∧
    (ch { thd with wait := some (.recv 0x3BF 0xFFC) } 0 1).chanFollows 0 0 0x3BF = false := by decide +kernel
theorem witness_EgretServiceSends : (∀ id ∈ [0x3F0, 0x3F4, 0x3FF], chanFields (sys 0xA [(id, 0)]) thd.core = (id, 0, 0) ∧
      at0 (th thd (sys 0xA [(id, 0)])) .send thd (sys 0xA [(id, 0)]) = true) ∧
    isData ((th thd 0).thReadAny 0 0 thd 0 4).2 = true ∧ (th thd 0).chanCheck 0 thd 0x3F0 true = none ∧ (th thd 0).chanLoad 0 0x3F0 < 8 ∧ (th thd 0).chanFollows 0 0 0x3F0 = false ∧
    (th thd 0).chanCheck 0 thd 0x3FF true = some 3 ∧ ({ thd with outst := [(0, 8)] } : Thread).outstanding = 8 ∧
    ({ th thd 0 with eg := { launchReqs := List.replicate 8 ⟨0, 0, 0, 0, 0, 0, 0, 0, 0⟩ } } : State).chanLoad 0 0x3F4 = 8 := by
  decide +kernel

/-- Thread 0 of the open cell, with the first bytes of its frame. -/
def thc (w : Nat) (l : List Byte) : State := ({ th thd w with cells := [cell0] } : State).wrBytes (frameAddr 0 0) l
/-- The Weir is full. -/
def fullWeir (w : Nat) : State := { thc w [] with weir := List.replicate 16384 ⟨0, 2, 0, 0, 0, 0, none, .pending⟩ }
theorem witness_EgretDisposal : at0 (thc (sys 0x10 []) []) .fwd thd (sys 0x10 []) = true ∧ (thc 0 []).mayDispose thd = true ∧
    ((thc 0 []).forward 0).isSome = true ∧ (th thd (sys 0x10 [])).mayDispose thd = false ∧
    at0 (thc (sys 0x11 []) []) .consume thd (sys 0x11 []) = true ∧ (thc 0 []).cellAt 0 = some cell0 ∧
    at0 (thc (sys 0x12 []) [1, 0, 254]) .emit thd (sys 0x12 []) = true ∧ oneRegion 0 32 = true ∧
    isData ((thc 0 [1, 0, 254]).thRead 0 0 thd 0 32).2 = true ∧ emitStatus cell0 1 254 0 = 0 ∧
    (thc 0 []).emitRoom 0 ⟨1, 254, none, [], []⟩ = true := by decide +kernel
theorem witness_EgretDisposal_full : at0 (fullWeir (sys 0x10 [])) .fwd thd (sys 0x10 []) = true ∧
    ((fullWeir 0).forward 0).isNone = true := by decide +kernel
/-- A load that waits. -/
def ld0 : EgLoad := ⟨.reg 0, {}, 0, 0, false⟩
theorem witness_EgretWaitEnds : ((th { thd with wait := some (.far ld0 none (sharedAddr 5) 1) } 0).rdMem (sharedAddr 5) 1
      (thd.who 0 0)).2 = some [0] ∧ (th thd 0).followsSite 0x06 (fun e => e.master == egId 0 0 && leAt e.body 0 1 == 0) = false ∧
    (let s := { th { thd with wait := some (.send 0 0), waitlim := 1 } 0 with now := 1001 };
     s.threadAt 0 0 = some { thd with wait := some (.send 0 0), waitlim := 1 } ∧ s.followsSite 0x0A (fun e => e.master == egId 0 0) = false ∧ thd.since + 1000 * 1 < s.now) := by
  decide +kernel
/-- A DRAM access that is done, in error or not. -/
theorem witness_EgretWaitEnds_dram : ∀ b, ∃ a, ({ th { thd with wait := some (.far ld0 (some 1) 0 1) } 0 with
    sl := { accs := [(1, ⟨0, false, 0, [], {}, true, 0, b⟩)] } } : State).accAt 1 = some a ∧ a.done = true ∧ a.bad = b :=
  fun b => ⟨⟨0, false, 0, [], {}, true, 0, b⟩, rfl, rfl, rfl⟩

/-! ## Intake, parsing, tables, helpers -/

theorem witness_IntakeAccepts : (let s : State := { mode := .lead, eth := [(0, { ingress := [(5, [1])] })] };
      s.intakeFollows = false ∧ s.intakeStopped = false ∧ s.fairTo (.eth 0) = true ∧ (s.offerOf (.eth 0)).isSome = true ∧
        (s.offerOf (.eth 1)).isNone = true) ∧
    (let s : State := { mode := .shadow, ford := { role := .shadow, records := [⟨3, 0, 0x1000, [], 0⟩] } };
      s.ford.role ≠ .syncing ∧ s.bt.ckpt ≠ 1 ∧ (upTo 16).all (fun k => s.blockOut 3 k) = false ∧ s.pbufRoom [] = true) ∧
    (let s : State := { mode := .replay, replay := { records := [⟨3, 0, 0x1000, [], 0⟩] } };
      (s.recordRead ⟨3, 0, 0x1000, [], 0⟩).2 = true ∧ s.recordDue ⟨3, 0, 0x1000, [], 0⟩ = true ∧ s.bt.ckpt ≠ 1) := by decide +kernel
theorem witness_AcceptedCellHeader : (⟨7, 0x6000, .data, [], none⟩ : Input).marker = none ∧ 6 ≤ 0x6000 / 0x1000 ∧ 0x5FFF / 0x1000 < 6 ∧
    bitAt (State.regAtEpoch { regs := [(hnCtl, 1)] } (State.intakeEpoch { regs := [(hnCtl, 1)] }) hnCtl) 0 = true := by decide +kernel

/-- A parse on Heron 0 at word 0 of a VLAN port's cell. -/
def run0 (steps key : Nat) : HeronRun := { gseq := 0, core := {}, steps, key, limit := 64 }
/-- Heron 0 is at word 0, which is `w`. -/
def hn (r : HeronRun) (w : Nat) : State :=
  { mode := .lead, regs := [(0x00160000, 3)], eg := { herons := [(0, r)] }, tables := { parse := [(0, w)] }
    cells := [{ hdr := { src := 0x1000 }, payload := [], stage := .parsing 0, epoch := 0 }] }
def hn0 (r : HeronRun) (w : Nat) (op : EgOp) : Bool :=
  (hn r w).unitCore (.heron 0) == some r.core && egOp true w == op && (hn r w).heronAt 0 == some r &&
    (match (hn r w).egFetch (.heron 0) r.core with | (_, .word v) => v == w | _ => false)
theorem witness_HeronParse : hn0 (run0 0 0) (wd 0x3C [(23, 20)]) .kmov = true ∧ ((hn (run0 0 0) 0).hnRead (run0 0 0) 0 1).2 = some [0] ∧
    hn0 (run0 0 0) (wd 0x3C [(23, 20), (1, 16)]) .kmov = true ∧ hn0 (run0 0 0) (wd 0x3D [(23, 20)]) .kput = true ∧
    hn0 (run0 0 0) (wd 0x3D [(24, 20)]) .kput = true ∧ hn0 (run0 0 0) (wd 0x3E []) .kend = true ∧
    hn0 (run0 0 1) (wd 0x3E [(1, 23)]) .kend = true ∧ ((hn (run0 0 1) 0).hnRead (run0 0 1) 0 6).2 = some (List.replicate 6 0) ∧
    ((hn (run0 0 1) 0).probeOf (run0 0 1) 0).isSome = true ∧ (run0 64 0).limit ≤ (run0 64 0).steps ∧
    (let s := { hn (run0 0 0) 0 with eg := {}, cells := [{ cell0 with stage := .waiting }] };
     s.heronAt 0 = none ∧ s.runningBlock 3 0 = true ∧ s.cells.find? (fun c => c.stage == .waiting) = some { cell0 with stage := .waiting }) := by
  decide +kernel

/-- A learned station 0, of MAC 5 on VLAN 1, that port 2 reaches. -/
def lrn (l : Learning) (n : Nat) : State := { mode := .lead, regs := [(lrnCtl, 1)], tables := { station := [(0, stEntry 5 1 2 0 0 false)] }, learn := l, now := n }
theorem witness_Learning : (lrn { queue := [.probe ⟨1, 5, 2⟩] } 0).bit lrnCtl 0 = true ∧ ((lrn {} 0).doProbe ⟨1, 5, 2⟩).isSome = true ∧
    (lrn {} 0).commits = [] ∧ (lrn {} 0).followsLog = false ∧ (lrn {} 0).markers.any (·.learning) = false ∧
    (lrn {} 0).learn.lastCommit + 1000 * (lrn {} 0).fld lrnCtl 16 10 ≤ 1023000 := by decide +kernel
/-- A commit that has been accepted. -/
def commit0 (taken : Bool) : Commit := ⟨4, false, 1, taken, {}, [], [], []⟩
theorem witness_Commits : (let s : State := { commits := [commit0 false], cells := [cell0] };
      s.commits.find? (fun c => !c.takenOver) = some (commit0 false) ∧
        (s.cells.any fun c => before48 c.hdr.gseq 4 && !c.classifiedYet) = false) ∧
    (commit0 true).takenOver = true ∧ (commit0 true).askers = [] := by decide +kernel
/-- A classified cell of action 1, which cluster 5 runs. -/
def cls : State :=
  { mode := .lead, inst := [(0, { state := .active })], tables := { action := [(1, 0x20 * 2 ^ 16 + 2 ^ 24)] }
    cells := [{ cell0 with hdr := { stream := 1, action := 1 }, stage := .classified }] }
theorem witness_Dispatch : (cls.cells.filter fun c => c.stage == .classified).find? (fun c => cls.actionBad c || (cls.placeOf c).isSome) =
      cls.cells.head? ∧ (∀ c ∈ cls.cells, cls.actionBad c = false ∧ cls.placeOf c = some (5, 0) ∧
      cls.followsSite 0x01 (fun e => leAt e.body 0 6 == c.hdr.gseq) = false) ∧
    (let s : State := { regs := [(0x00188000, 1)], now := 3600000000000 };
     s.bit 0x00188000 0 = true ∧ s.followsLog = false ∧
      s.learn.lastPass + 1000000000 * clampNat 1 3600 (s.fld 0x00188004 0 12) ≤ s.now) := by decide +kernel

/-- A request of thread 0 to helper `k`, whose block at 0 holds `l`. -/
def req (op : Nat) : HelpReq := ⟨0, 0, 1, op, 0, 0, 0, 0, 0⟩
def hlp (k op : Nat) (cells : List Cell) (l : List Byte) : State :=
  ({ th thd 0 with cells, eg := { threads := [(0, thd)], helpers := [(k, [req op])] } } : State).wrBytes (frameAddr 0 0) l
theorem witness_HelpersAnswer_lookup : (∀ k ∈ [0, 1, 2], ((hlp k 0 [] []).helperTake 0 k).isSome = true) ∧ (hlp 0 0 [] []).blockOk (req 0) 0x18 = true ∧
    ((hlp 0 0 [] [0xFF, 0x0F]).blockRead (req 0) 0 2).2 = some [0xFF, 0x0F] ∧ ofLe [0xFF, 0x0F] < 4096 ∧ (hlp 0 0 [] []).inRange 0 0 0xFFF = true ∧
    (hlp 0 0 [] []).cellAt 0 = none ∧ ((hlp 0 0 [] []).rdChk (streamAddr 0xFFF) 16 { gseq := some 0, master := egId 0 0 }).2.isSome = true ∧
    (hlp 0 1 [cell0] []).cellAt 0 = some cell0 ∧ (hlp 0 0 [] []).inRange 0 1 0xFFF = true ∧
    ((hlp 0 0 [] []).rdChk (actionAddr 0xFFF) 16 { gseq := some 0, master := egId 0 0 }).2.isSome = true ∧ ofLe [0xFF, 0x03] < 1024 ∧
    ((hlp 0 0 [] []).rdChk (stationAddr 0x3FF) 16 { gseq := some 0, master := egId 0 0 }).2.isSome = true ∧ 2 < (req 3).op := by
  decide +kernel
theorem witness_HelpersAnswer_copy : (hlp 1 0 [] []).threadAt 0 0 = some thd ∧
    ((hlp 1 0 [] (List.replicate 18 0 ++ [1, 0])).blockRead (req 0) 0 0x14).2 = some (List.replicate 18 0 ++ [1, 0]) ∧
    leAt (List.replicate 18 0 ++ [1, 0]) 0x10 4 = 65536 ∧ leAt (List.replicate 20 0) 0x10 4 = 0 ∧ ((hlp 1 0 [] []).blockRead (req 0) 0 0x14).2.isSome = true := by
  decide +kernel
theorem witness_HelpersAnswer_crc : (hlp 2 2 [] []).blockOk (req 2) 12 = true ∧ (req 2).op % 128 ≤ 2 ∧
    ((hlp 2 2 [] [0, 0, 1, 0]).blockRead (req 2) 0 8).2 = some [0, 0, 1, 0, 0, 0, 0, 0] ∧ localOk 0 1 = true ∧ oneRegion 0 1 = true ∧
    isData ((hlp 2 2 [] [0, 0, 1, 0]).regionRead 0 0 { thd with core := { thd.core with sbank := 0 } } 0 1).2 = true := by decide +kernel
theorem witness_HelpersAnswer_time : ∀ op ∈ [0, 1], ∀ st ∈ [none, some 2],
    (let s : State := { th thd 0 with now := 9, tb := { count := 9 }, eg := { times := [⟨req op, 9, 0, st⟩] } };
     s.timeOf 0 0 (op == 1) = some ⟨req op, 9, 0, st⟩ ∧ 9 ≤ s.tb.count ∧ 0 + 9 ≤ s.now) := by decide +kernel
theorem witness_CopyMoves : ((th thd 0).copyOk (req 0) thd (.local_ 0xC000) 8).2 = false ∧ ((th thd 0).copyOk (req 0) thd (.local_ 0) 8).2 = true ∧
    (match ((th thd 0).copyRead (req 0) thd (.local_ 8) 8).2 with | .ok l => l == List.replicate 8 0 | .error _ => false) = true ∧
    (match ((th thd 0).copyRead (req 0) thd (.local_ 0x3640) 8).2 with | .ok _ => false | .error n => n == 2) = true := by decide +kernel
theorem witness_CompletionReaches : (th thd 0).threadAt 0 0 = some thd ∧ thd.uid = (req 0).uid ∧ thd.stopped = false ∧
    ({ thd with uid := 2 } : Thread).uid ≠ (req 0).uid ∧ (th thd 0).threadAt 0 1 = none := by decide +kernel

/-! ## Belfry and the Weir -/

/-- A request of thread 0 of cluster 0 on the shared word `sharedAddr 0`. -/
def bfr (op : Nat) (done : Option (Nat × Option Nat)) : BfReq :=
  { master := 0, inst := 0, op, addr := sharedAddr 0, opa := 3, opb := 4, form := .port 0 0 1, gseq := none, done }
def bfs (r : BfReq) (dir : List BfEntry) : State := { th thd 0 with bf := { queue := [r], dir } }
theorem witness_BelfryTakes : (∀ op ∈ [1, 2, 3, 4], (bfs (bfr op none) []).bfOf (egId 0 0) op = some (bfr op none) ∧
      (bfs (bfr op none) []).bf.queue.find? (fun q => bfIsLock q.op && q.done.isNone) = some (bfr op none)) ∧
    (∀ op ∈ [0x10, 0x11, 0x12, 0x13], (bfs (bfr op none) []).bfOf (egId 0 0) op = some (bfr op none) ∧
      (bfs (bfr op none) []).bf.queue.find? (fun q => (bfIsAtomic q.op && q.addr == (bfr op none).addr) && q.done.isNone) =
        some (bfr op none) ∧
      ((bfs (bfr op none) []).bf.queue.filter fun q => bfIsAtomic q.op && q.done.isSome).length < 16) ∧
    (bfs (bfr 1 none) []).dlogIn = [] ∧ (bfs (bfr 1 none) []).followsLog = false := by decide +kernel
theorem witness_BelfryArrival : ((th thd 0).bfCheck (bfr 0x10 none)).2 = none ∧
    (∀ q ∈ (bfs { bfr 0x10 none with master := 1 } []).bf.queue, q.at_ = 0 ∧ q.done = none ∧ (bfr 0x10 none).master < q.master) := by
  decide +kernel
theorem witness_BelfryEnds : (∀ st ∈ [0, 4], let s := bfs (bfr 0x10 (some (st, some 9))) [];
      s.followsLog = false ∧ s.bf.queue.find? (fun r => r.master == (0 : BitVec 12).toNat && r.done.isSome && s.bfReady r) =
        some (bfr 0x10 (some (st, some 9)))) ∧
    (let x : Thread := { thd with wait := some (.belfry ld0 false), waitlim := 1 };
     let s : State := { th x 0 with now := 1001, bf := { queue := [bfr 1 none] } };
     s.threadAt 0 0 = some x ∧ s.limitDue 0 0 x = true ∧ s.followsSite 0x0A (fun e => e.master == egId 0 0) = false ∧
      s.bf.queue.any (fun r => r.form == .port 0 0 x.uid) = true ∧ s.bf.dir = []) := by decide +kernel
/-- A lock's entry. -/
def ent (owner : Option Nat) (lost : Bool) : BfEntry := { slot := 0, addr := sharedAddr 0, owner, inst := 0, lost }
theorem witness_BelfryLockRules : (bfs (bfr 3 none) []).bfEntry (sharedAddr 0) = none ∧ (bfs (bfr 3 none) []).ecc = [] ∧
    (∀ o ∈ [none, some 0, some 1], ∀ l, (bfs (bfr 3 none) [ent o l]).bfEntry (sharedAddr 0) = some (ent o l)) := by decide +kernel
theorem witness_BelfryAtomicResult : (let s := (th thd 0).wrLe (sharedAddr 0) 8 3;
    Memory.wf s.mem = true ∧ s.ecc = [] ∧ s.makesLog = false ∧ s.followsSite 0x04 (isBfEntry (sharedAddr 0)) = false ∧
      s.rdLe (sharedAddr 0) 8 = 3) ∧ (th thd 0).rdLe (sharedAddr 0) 8 ≠ 3 ∧ 0x800000000 ≤ sharedAddr 0 ∧ sharedAddr 0 % 8 = 0 := by
  decide +kernel
theorem witness_BelfryGrantOrder : (let e : BfEntry := { ent none false with serve := 7, waiters := [⟨7, bfr 1 none⟩, ⟨8, bfr 1 none⟩] };
    e.owner = none ∧ e.gone = [] ∧ e.waiters = ⟨7, bfr 1 none⟩ :: [⟨8, bfr 1 none⟩] ∧ (7 = e.serve) ∧
      ∀ x ∈ [(⟨8, bfr 1 none⟩ : Ticket)], x.num ≠ 7) := by decide +kernel

/-- An entry of stream 1, and a Weir that holds it alone: H is 1, and the time is 5. -/
def we (gate : Option Nat) (item : WeirItem) : WeirEntry := ⟨0, 1, 0, 0, 0, 0, gate, item⟩
def wr (e : WeirEntry) : State := { mode := .commission, nextGseq := 1, weir := [e], tb := { count := 5 } }
/-- Its header, with a release time or none. -/
def hr (timed : Bool) (rel : Nat) : Header := { stream := 1, rel, hasRel := timed, egress := 0x5000 }
theorem witness_WeirReleases : (NatMap.get {} (wr (we none .pending)).seqs 1).restart = none ∧
    (wr (we none .pending)).weir.filter (fun e => e.stream == 0) = [] ∧
    (∀ i ∈ [.pending, .tail, .cell (hr false 0) [] false], (wr (we none i)).weir.filter (fun e => e.stream == 1) = [we none i]) ∧
    before48 0 (wr (we none .pending)).horizon = true ∧ before48 0 ({ wr (we none .pending) with nextGseq := 0 } : State).horizon = false ∧
    (∀ g ∈ [none, some 0], (wr (we g (.cell (hr true 6) [] false))).tableChk (streamAddr 1) (some 0) =
      (wr (we g (.cell (hr true 6) [] false)), false)) ∧
    (wr (we none .pending)).relPassed 6 = false ∧ (wr (we none .pending)).relPassed 4 = true ∧ (wr (we none .pending)).gateOpen 0 = true ∧
    6 % 2 ^ 48 ≠ (wr (we none .pending)).tb.count % 2 ^ 48 ∧ (wr (we none .pending)).supQueue.length < 64 := by decide +kernel

/-! ## Carillon and Kettle -/

/-- A word of opcode `op` with fields (value, lowest bit). -/
def cw (op : Nat) (l : List (Nat × Nat)) : Nat := l.foldl (fun a f => a + f.1 * 2 ^ f.2) (op * 2 ^ 26)
/-- A launch of thread 0. -/
def lau : Launch := ⟨⟨0, 0, 1, 0, 0, 0, 0, 0, 0⟩, 0, 1, true, false, 0, List.replicate 32 0⟩
/-- A kernel at word 0. -/
def kern : Kernel := { launch := lau, lnum := 0, uid := 1, pc := 0 }
/-- Kernel `k` runs on group 0, and word 0 is `w`. -/
def cg (k : Kernel) (w : Nat) : State :=
  ({ th thd 0 with ca := { groups := [(0, k)] } } : State).wrBytes codeAddr (leBytes 4 w)
def ca0 (s : State) (k : Kernel) (w : Nat) : Bool :=
  s.kernel 0 == some k && k.issues && k.pc == 0 && s.codeOk k.launch.req.inst 0 && s.ecc == [] &&
    ofLe (s.rdBytes codeAddr 4) == w && k.atLimit == false

theorem ca0_issues {s : State} {k : Kernel} {w : Nat} (h : ca0 s k w = true) : s.caIssues s 0 k w := by
  simp only [ca0, Bool.and_eq_true, beq_iff_eq] at h
  obtain ⟨⟨⟨⟨⟨⟨h1, h2⟩, h3⟩, h4⟩, h5⟩, h6⟩, h7⟩ := h
  refine ⟨h1, h2, ?_, h7⟩
  simp [State.caFetch, h3, h4, rdChk_clean h5, h6]

/-- Words of several rows that the kernel `k` is about to run. -/
abbrev CaEach (k : Kernel) (l : List (CaOp × Nat)) : Prop := ∀ e ∈ l, (cg k e.2).caIssues (cg k e.2) 0 k e.2 ∧ caOp e.2 = e.1
theorem caEach {k : Kernel} {l : List (CaOp × Nat)} (h : l.all (fun e => ca0 (cg k e.2) k e.2 && caOp e.2 == e.1) = true) :
    CaEach k l := fun e he => by
  have := List.all_eq_true.mp h e he
  simp only [Bool.and_eq_true, beq_iff_eq] at this
  exact ⟨ca0_issues this.1, this.2⟩

theorem witness_CarillonComputeWords : CaEach kern
    [(.ialu, cw 1 [(1, 6)]), (.imul, cw 2 []), (.falu, cw 3 [(3, 6)]), (.fspec, cw 4 [(2, 6)]), (.cvt, cw 5 []), (.set, cw 6 []), (.sel, cw 7 []),
     (.shfl, cw 8 []), (.vote, cw 9 []), (.mfs, cw 0xA [(2, 14)])] ∧
    (∀ w ∈ [cw 1 [(1, 6)], cw 2 [], cw 3 [(3, 6)], cw 4 [(2, 6)], cw 5 [], cw 6 [], cw 7 [], cw 8 [(3, 0)], cw 9 [(3, 0)], cw 0xA []], caLegal w = true) ∧
    (∀ w ∈ [cw 1 [(2, 6)], cw 2 [(2, 6)], cw 3 [], cw 4 [(5, 0)], cw 5 [(1, 6)], cw 6 [(16, 20), (1, 5)], cw 7 [(1, 6)], cw 8 [(4, 0)], cw 9 [(4, 0)],
      cw 0xA [(1, 6)]], caLegal w = false) := by
  exact ⟨caEach (by decide +kernel), by decide +kernel, by decide +kernel⟩
theorem witness_CarillonResults : rT (cw 3 [(2, 6)]) = 2 ∧ rT (cw 3 [(3, 6)]) = 3 ∧ rT (cw 4 [(2, 6)]) = 2 ∧ rFn (cw 5 []) = 0 ∧
    rT (cw 6 []) = 0 ∧ bitsOf (cw 0xA [(2, 14)]) 14 6 = 2 := by decide
theorem witness_CarillonWritesActiveLanes : NatMap.wf 0 ({ kern with v := [(63, 1), (64 * 31 + 63, 5)] } : Kernel).v = true ∧
    bitAt kern.exec 31 = true ∧ bitAt ({ kern with exec := 1 } : Kernel).exec 31 = false := by decide +kernel
theorem witness_CarillonImmediateWords : CaEach kern [(.movi, cw 0x18 []), (.movh, cw 0x19 []), (.addi, cw 0x1A [])] ∧
    caUses ⟨true, 15⟩ [] = true ∧ caUses ⟨true, 16⟩ [] = false ∧ caUses ⟨false, 63⟩ [⟨true, 16⟩] = false ∧ caUses ⟨false, 63⟩ [⟨true, 15⟩] = true := by
  exact ⟨caEach (by decide +kernel), by decide, by decide, by decide, by decide⟩
/-- A uniform access: to the last local word, to its last pair, or to the first far word. -/
def kat (a : Nat) : Kernel := { kern with u := [(0, a)] }
def uw (op : Nat) : Nat := cw op [(1, 12), (1, 13), (2, 20)]
theorem witness_CarillonLocalAccess : CaEach (kat 0x3FFFC) [(.ldw, uw 0x10), (.stw, uw 0x11)] ∧ CaEach (kat 0x3FFF8) [(.ldd, uw 0x12), (.std, uw 0x13)] ∧
    (∀ e ∈ [(0x3FFFC, 0x10, 4), (0x3FFFC, 0x11, 4), (0x3FFF8, 0x12, 8), (0x3FFF8, 0x13, 8)],
      caUses (iD (uw e.2.1)) [iA (uw e.2.1)] = true ∧ (iD (uw e.2.1)).even = true ∧
      ((kat e.1).lanesAt (uw e.2.1)).any (fun x => decide (0x80000000 ≤ x.2)) = false ∧
      ((cg (kat e.1) 0).lanesFault (kat e.1) ((kat e.1).lanesAt (uw e.2.1)) e.2.2 false).2 = none ∧
      (match ((cg (kat e.1) 0).loadFill 0 (kat e.1) ⟨2, true, e.2.2 == 8, [(0, e.1, none)]⟩).2 with | .ok _ => true | .error _ => false) = true) := by
  exact ⟨caEach (by decide +kernel), caEach (by decide +kernel), by decide +kernel⟩
theorem witness_CarillonFarAccess : CaEach (kat 0x80000000) [(.ldw, uw 0x10)] ∧ CaEach kern [(.fence, cw 0x32 [(1, 5)])] ∧
    CaEach { kern with posted := [⟨0, [], none⟩] } [(.fence, cw 0x32 [(1, 5)])] ∧ caLegal (cw 0x32 [(1, 5)]) = true ∧
    ((kat 0x80000000).lanesAt (uw 0x10)).any (fun e => decide (0x80000000 ≤ e.2)) = true ∧
    (let s := (cg (kat 0x80000000) 0).setReg slStat 3; let k := (kat 0x80000000)
     (match s.kernel 0 with | some _ => true | none => false) = true ∧ k.lanesAt (uw 0x10) = [(0, 0x80000000)]) ∧
    (match ((cg kern 0).loadFill 0 kern ⟨2, true, false, [(0, 0, none)]⟩).2 with | .ok _ => true | .error _ => false) = true := by
  exact ⟨caEach (by decide +kernel), caEach (by decide +kernel), caEach (by decide +kernel), by decide +kernel, by decide +kernel,
    by decide +kernel, by decide +kernel⟩
/-- A kernel with one entry on its mask stack. -/
def k1 (loop : Bool) (alt : Nat) : Kernel := { kern with depth := 1, saved := [(0, 3)], alt := [(0, alt)], mkind := b2n loop }
theorem witness_CarillonControlWords : CaEach kern
      [(.if_, cw 0x20 []), (.loop, cw 0x23 []), (.else_, cw 0x21 []), (.endif_, cw 0x22 []), (.brk, cw 0x24 []), (.endloop, cw 0x25 []),
       (.jmp, cw 0x27 []), (.bru, cw 0x26 [(15, 20)]), (.bru, cw 0x26 [(3, 16)]), (.bru, cw 0x26 [(4, 16)]), (.bru, cw 0x26 [(16, 20)])] ∧
    CaEach { kern with v := [(0, 1)] } [(.if_, cw 0x20 [])] ∧ ({ kern with v := [(0, 1)] } : Kernel).cond 0 = 1 ∧ kern.cond 0 = 0 ∧
    CaEach { kern with depth := 16 } [(.if_, cw 0x20 []), (.loop, cw 0x23 [])] ∧
    CaEach (k1 false 1) [(.else_, cw 0x21 []), (.endif_, cw 0x22 [])] ∧ CaEach (k1 false 0) [(.else_, cw 0x21 [])] ∧
    (k1 false 1).top false = true ∧ (k1 false 1).topAlt = 1 ∧ (k1 false 0).topAlt = 0 ∧ kern.top false = false ∧
    CaEach (k1 true 0) [(.brk, cw 0x24 [])] ∧ (k1 true 0).top true = true ∧ (k1 true 0).exec - (k1 true 0).cond 0 ≠ 0 ∧
    CaEach { k1 true 0 with exec := 1, v := [(0, 1)] } [(.brk, cw 0x24 [])] ∧
    ({ k1 true 0 with exec := 1, v := [(0, 1)] } : Kernel).exec - ({ k1 true 0 with exec := 1, v := [(0, 1)] } : Kernel).cond 0 = 0 := by
  exact ⟨caEach (by decide +kernel), caEach (by decide +kernel), by decide +kernel, by decide +kernel, caEach (by decide +kernel),
    caEach (by decide +kernel), caEach (by decide +kernel), by decide +kernel, by decide +kernel, by decide +kernel, by decide +kernel,
    caEach (by decide +kernel), by decide +kernel, by decide +kernel, caEach (by decide +kernel), by decide +kernel⟩
/-- A launch request whose block begins `l`. -/
def lrq (l : List Byte) : State := ({ th thd 0 with eg := { threads := [(0, thd)], launchReqs := [lau.req] } } : State).wrBytes (frameAddr 0 0) l
theorem witness_CarillonLaunches : (∀ l ∈ [[0, 0, 1, 1], []], (lrq l).eg.launchReqs = [lau.req] ∧ (lrq l).ca.queue.length < 32 ∧
      (lrq l).blockOk lau.req 64 = true ∧ ((lrq l).blockRead lau.req 0 64).2 = some (l ++ List.replicate (64 - l.length) 0)) ∧
    (lrq []).launchCheck lau.req ([0, 0, 1, 1] ++ List.replicate 60 0) = none ∧
    (lrq []).launchCheck lau.req (List.replicate 64 0) = some 3 ∧
    (let s : State := { th thd 0 with ca := { queue := [lau] } };
     s.followsSite 0x07 (fun _ => true) = false ∧
      s.ca.queue.findSome? (fun x => (lowest 8 (s.groupTakes x)).map fun g => (x, g)) = some (lau, 0)) ∧
    CaEach kern [(.exit, cw 0x28 []), (.bkpt, cw 0x29 [])] ∧ kern.unfinished = false ∧ kern.exitFault = none ∧
    (cg { kern with exiting := true } 0).kernel 0 = some { kern with exiting := true } ∧
    ({ kern with steps := 1, ilim := 1 } : Kernel).atLimit = true ∧ kern.atLimit = false ∧ caOp (cw 0x27 []) = .jmp := by
  exact ⟨by decide +kernel, by decide +kernel, by decide +kernel, by decide +kernel, caEach (by decide +kernel), by decide +kernel,
    by decide +kernel, by decide +kernel, by decide +kernel⟩
/-- A kernel that holds tokens `0` to `n - 1`. -/
def ktk (n : Nat) (st : KtStatus) : Kernel := { kern with toks := (upTo n).map fun t => ⟨t, 0, st⟩ }
/-- An operation of token 0, and a descriptor of MAP on one 16 by 16 tile. -/
def kop : KtOp := ⟨0, 1, 0, 0⟩
def kds : List Byte := [3] ++ List.replicate 3 0 ++ [16, 0, 16, 0] ++ List.replicate 56 0
theorem witness_KettleOperations : CaEach (ktk 7 .done) [(.kstart, cw 0x30 [(1, 4), (1, 5)])] ∧ CaEach (ktk 8 .done) [(.kstart, cw 0x30 [(1, 4), (1, 5)])] ∧
    caLegal (cw 0x30 [(1, 4), (1, 5)]) = true ∧ lowest 8 (fun t => ((ktk 7 .done).tok t).isNone) = some 7 ∧
    lowest 8 (fun t => ((ktk 8 .done).tok t).isNone) = none ∧ 0x3FFC0 % 64 = 0 ∧ 0x3FFC0 + 64 ≤ 0x40000 ∧
    (∀ k ∈ [ktk 1 .done, ktk 1 (.desc 5), kern], ca0 (cg k (cw 0x31 [(1, 4)])) k (cw 0x31 [(1, 4)]) = true) ∧ caOp (cw 0x31 [(1, 4)]) = .kwait ∧
    caLegal (cw 0x31 [(1, 4)]) = true ∧ (ktk 1 (.desc 5)).tok 0 = some ⟨0, 0, .desc 5⟩ ∧ kern.tok 0 = none ∧
    (let s : State := { cg kern 0 with ca := { groups := [(0, kern)], kettle := [(0, { queue := [kop] })] } };
     (s.kettleAt 0).run = none ∧ (s.kettleAt 0).pick = some kop ∧ (s.rdChk (localAddr 0) 64 kern.who).2.isSome = true) ∧
    (let s : State := { cg kern 0 with ca := { groups := [(0, kern)], kettle := [(0, { run := some (kop, kds, .waiting) })] } };
     (s.kettleAt 0).run = some (kop, kds, .waiting) ∧ s.ktKernel kop = some kern ∧ (s.ktWork 0 kern.who kds true).2 = .done) := by
  exact ⟨caEach (by decide +kernel), caEach (by decide +kernel), by decide +kernel, by decide +kernel, by decide +kernel, by decide,
    by decide, by decide +kernel, by decide +kernel, by decide +kernel, by decide +kernel, by decide +kernel, by decide +kernel, by decide +kernel⟩
/-- A parked group, whose held operations have ended or not. -/
def prk (since : Option Nat) : Kernel := { kern with park := some ⟨12, 0, 0, since⟩ }
theorem witness_CarillonParks : (∀ t ∈ [none, some 0], (cg (prk t) 0).kernel 0 = some (prk t)) ∧
    (∀ o ∈ [1, 2], ((cg (prk (some 0)) 0).parkOutcome 0 (prk (some 0)) o).isSome = true) ∧
    (let k := { prk (some 0) with pto := 1 };
     let s : State := { cg k 0 with now := 1000001 };
     s.kernel 0 = some k ∧ k.pto ≠ 0 ∧ 0 + 1000000 * k.pto < s.now ∧ (s.parkOutcome 0 k 2).isSome = true) := by decide +kernel

/-! ## Registers, Shoal and Sluice -/

theorem witness_UnimplementedOffsets : State.reset.viewHas .pf 0x00E00000 = true ∧ regAt (viewKey (viewFn .pf) 0x00E00000) = none ∧
    State.reset.mailboxAt .pf 0x00E00000 = none ∧ State.reset.mailboxAt .pf 0x00360220 = some (0, 0x220) ∧ regAt (viewKey (viewFn .pf) 0x00360220) = none := by
  decide +kernel
theorem witness_MisalignedAccess : State.reset.viewHas .pf 1 = true ∧ State.reset.viewOpen .pf = true := by decide +kernel
/-- The premises of RegisterReads at an offset, and whether a field there clears on a read. -/
def rr (off : Nat) : Option (Bool × Bool × List Nat) :=
  match regAt off with
  | some d => if State.reset.mailboxAt .pf off == none && !State.reset.bootFailed && (State.reset.tableRead off).isNone then
      some (isUpper off, d.fields.any (fun f => f.acc == .rc), uppersOf off) else none
  | none => none
theorem witness_RegisterReads : rr 0x00120008 = some (false, true, []) ∧ rr 0x00130020 = some (false, false, []) ∧
    rr 0x00130000 = some (false, false, [0x00130004]) ∧ rr 0x00130004 = some (true, false, []) := by decide +kernel
theorem witness_RegisterWrites : State.reset.gateOf 0x00260000 = .opened ∧ State.reset.gateOf 0x00200008 ≠ .opened ∧
    NatMap.has State.reset.heldRegs 0x00260000 = false ∧ State.reset.bootFailed = false ∧
    (regAt 0x00260000).any (fun d => d.fields.all (·.isH)) = true ∧ (regAt 0x0013000C).any (fun d => d.fields.all (fun f => f.acc == .w1c)) = true ∧
    ([0x00130020, 0x001A0010, 0x00200008].map fun o => (regAt o).map fun d => (d.fields.any (·.isL), d.fields.any (·.isS), d.fields.any (·.isH))) =
      [some (true, false, false), some (false, true, false), some (false, false, true)] := by decide +kernel
theorem witness_ShoalLookup : bitAt (2 ^ 416) 416 = true ∧ NatMap.wf 0 ([(0, 2 ^ 416), (600, 2 ^ 416 + 2 ^ 384)] : NatMap Nat) = true ∧
    (∃ t : NatMap Nat, shoalCands t (fun _ => 8) 5 = [(0, 0), (1, 1)] ∧ shoalPick (fun _ => 8) (shoalCands t (fun _ => 8) 5) = some (0, true) ∧
      shoalPick (fun b => 8 + b) (shoalCands t (fun b => 8 + b) 5) = some (1, false)) ∧ shoalCands [] (fun _ => 8) 5 = [] ∧
    ([(0, 0), (1, 1)] : List (Nat × Nat)).Pairwise (fun x y => x.1 < y.1) := by
  refine ⟨by decide +kernel, by decide +kernel, ⟨[(0, 2 ^ 416), (600, 2 ^ 416 + 2 ^ 384)], ?_⟩, ?_, ?_⟩ <;> decide +kernel
/-- Both channels trained, with one rank each. -/
def sl1 : State := State.reset.setReg slStat 3
def slAcc (w : Bool) (n : Nat) : DramAcc := { port := 0, write := w, addr := 0, data := List.replicate n 0, who := {} }
def slReq (w : Bool) : DramReq := ⟨1, 0, w, 0, 4, 0, false, 0⟩
/-- One access of `n` bytes is offered at port 0, and a request of it queued. -/
def slw (w : Bool) (n : Nat) : State := { sl1 with sl := { sl1.sl with accs := [(1, slAcc w n)], queued := [slReq w] } }
theorem witness_SluiceRequests : (∀ n ∈ [4, 2112], ((slw false n).dramFeed 0).sl.accs.find? (fun e => !e.2.split && e.2.port == 0) = some (1, slAcc false n) ∧
      (((slw false n).dramFeed 0).sl.waiting.filter (·.port == 0)).length + (bursts 0 n).length = if n = 4 then 1 else 33) ∧
    (slw false 4).dramPick 0 = some (slReq false) ∧ (slw false 4).dramPick 1 = none ∧ (slw false 4).ecc = [] ∧
    (∀ w, (slw w 4).accAt (slReq w).acc = some (slAcc w 4) ∧ (slw w 4).chanUp ((slw w 4).dramPlace (slReq w).addr).ch = true) := by decide +kernel
theorem witness_SluiceRules : bursts 60 8 = [(60, 4), (64, 4)] ∧ (slw false 4).dramPick ((0 : Fin 2).val) = some (slReq false) := by decide +kernel
/-- Rank 0 at an instant, with a due instant and refreshes postponed, and the request of port 0 waiting for 1 ms or none. -/
def rk (now due post : Nat) (q : Bool) : State :=
  let s : State := if q then slw false 4 else sl1
  ({ s with now := now } : State).setRank 0 0 { due := due, postponed := post }
theorem witness_SluiceUpkeep :
    (∀ e ∈ [(10, 10, 0, false), (10, 10, 8, false), (1000000, 10, 7, true), (1000000, 10, 8, true), (10, 11, 1, false), (1000000000, 10, 0, false)],
      let s := rk e.1 e.2.1 e.2.2.1 e.2.2.2
      s.rankUp 0 0 = true ∧ s.rankUrgent 0 0 = e.2.2.2 ∧ (s.rankAt 0 0).due = e.2.1 ∧ (s.rankAt 0 0).busyUntil ≤ s.now ∧ s.calFree 0 = true) ∧
    ((rk 1000000000 10 0 false).rankAt 0 0).zqAt + 128000000 ≤ 1000000000 ∧
    ((rk 1000000000 10 0 false).rankAt 0 0).driftAt + 1000000000 ≤ (rk 1000000000 10 0 false).now ∧
    ({ rk 10 10 0 false with sup := { (rk 10 10 0 false).sup with running := true, hold := false } } : State).ohmythUp = true := by decide +kernel
theorem witness_ScrubbersAndChannelFault :
    (∀ e ∈ [(0, 10), (1, 5), (2, 9)], let s : State := { sl1 with now := e.2, sl := { sl1.sl with scrubs := [(5, (e.1, 1))] } };
      NatMap.get (0, 0) s.sl.scrubs 5 = (e.1, 1) ∧ e.1 < 3 ∧ 1 + e.1 * 12 / 3 ≤ s.now) ∧ sl1.now < 1 + 1 * 12 / 3 ∧
    (let s := ({ slw true 4 with mode := .commission } : State).setBit slCtl 8;
     s.bit slCtl 8 = true ∧ s.mode ≠ .boot ∧ s.chanGranules 0 + s.chanGranules 1 ≠ 0 ∧
      (s.scrubTurn patrolKey (s.chanGranules 0 + s.chanGranules 1) (3600000000000 * zeroAs 1 (s.fld 0x0034000C 0 8)) 0).isSome = true ∧
      ((s.sl.queued ++ s.sl.waiting).any fun r => r.write && r.meets ⟨0, 11, true, 0, 8, 0, false, 0⟩) = true) ∧
    (sl1.setFld slCtl 8 1 0).bit slCtl 8 = false ∧ sl1.chanUp (sl1.dramPlace 0).ch = true ∧
    ((sl1.sl.queued ++ sl1.sl.waiting).any fun r => r.write && r.meets ⟨0, 11, true, 0, 8, 0, false, 0⟩) = false ∧
    sl1.chanUp ((1 : Fin 2).val) = true ∧
    (∀ a ∈ [0x1000000000, 0x1001000000], (sl1.ocmTurn a).map (·.eccAt a) = some 0) ∧ sl1.ocmTurn 0xFFFFFFFFF8 = none ∧
    sl1.ocmTurn 0x1000000008 = none := by decide +kernel

/-! ## Mailboxes and Ohmyth's commands -/

/-- A request with fields (offset, value), for an instance, that has been taken up. -/
def cmdOf (op i : Nat) (l : List (Nat × Nat)) : MbCmd :=
  { req := leBytes 256 (l.foldl (fun a f => a + f.2 * 256 ^ f.1) (op + i * 256 ^ 3)), seq := 1, taken := true }
/-- The command stands in mailbox 0 and is Ohmyth's turn. -/
def mbs (s : State) (x : MbCmd) : State := { s with mb := [(0, { cmd := some x })], mbTaken := [0] }
def tk (s : State) (op i : Nat) (x : MbCmd) : Bool :=
  (s.mbAt 0).cmd == some x && x.taken && !x.begun && x.op == op && s.mbTaken.contains 0 && s.serves && !s.sup.hold && s.mbTurn 0 x &&
    (x.for_ 0).getD 0 == i
theorem tk_takes {s : State} {op i : Nat} {x : MbCmd} (h : tk s op i x = true) : s.mbTakes 0 op x i := by
  simp only [tk, Bool.and_eq_true, beq_iff_eq, Bool.not_eq_true'] at h
  obtain ⟨⟨⟨⟨⟨⟨⟨⟨h1, h2⟩, h3⟩, h4⟩, h5⟩, h6⟩, h7⟩, h8⟩, h9⟩ := h
  exact ⟨h1, h2, h3, h4, h5, h6, h7, h8, h9⟩
/-- Commands (opcode, instance, fields) that Ohmyth runs in a state. -/
abbrev Takes (s : State) (l : List (Nat × Nat × List (Nat × Nat))) : Prop :=
  ∀ e ∈ l, (mbs s (cmdOf e.1 e.2.1 e.2.2)).mbTakes 0 e.1 (cmdOf e.1 e.2.1 e.2.2) e.2.1
theorem takes {s : State} {l : List (Nat × Nat × List (Nat × Nat))}
    (h : l.all (fun e => tk (mbs s (cmdOf e.1 e.2.1 e.2.2)) e.1 e.2.1 (cmdOf e.1 e.2.1 e.2.2)) = true) : Takes s l :=
  fun e he => tk_takes (List.all_eq_true.mp h e he)
/-- Ohmyth runs. -/
def om : State := { State.reset with sup := { running := true }, mode := .hold }

theorem witness_MailboxProtocol : om.mbReached 0 = true ∧ om.mbReady = true ∧ (om.mbAt 0).cmd = none ∧ om.ecc = [] ∧ om.resetting 0 = false ∧
    ({ om with inst := [(0, { state := .resetting })] } : State).resetting 0 = true ∧ (om.mbAt 0).lastSeq = 255 ∧
    (let s : State := { om with mbQueue := [0], mb := [(0, { cmd := some (cmdOf 0x0101 0 []) })] };
     s.serves = true ∧ s.sup.hold = false ∧ s.quickRuns = false ∧
     s.mbCheck 0 (cmdOf 0x0101 0 []) = none ∧ s.mbCheck 0 (cmdOf 0x0101 0 [(6, 1)]) = some 0x0102 ∧ s.mbCheck 0 (cmdOf 0x0199 0 []) = some 0x0101) := by
  decide +kernel
theorem witness_MailboxAnswers : ((mbs om (cmdOf 0x0101 0 [])).mbAt 0).cmd = some (cmdOf 0x0101 0 []) ∧ om.sup.halted = false ∧ om.sup.stopped = false ∧
    om.sup.hold = false ∧ om.ecc = [] := by decide +kernel
/-- A block that has been withdrawn. -/
def wdn (kind index : Nat) : State := { om with wd := { om.wd with state := [(blockKey kind index, .withdrawn)] } }
theorem witness_DeviceCommands : Takes om [(0x0101, 0, []), (0x0102, 0, [(8, 1)]), (0x0102, 0, [(8, 2)]), (0x0103, 0, [(8, 0x130020), (12, 1)]),
      (0x0104, 0, [(8, 0x130020), (12, 1)]), (0x0105, 0, [(8, 1), (9, 0)]), (0x0106, 0, [(8, 1), (9, 0)]), (0x0108, 0, []), (0x0109, 0, [])] ∧
    Takes (wdn 1 0) [(0x0105, 0, [(8, 1)]), (0x0106, 0, [(8, 1)]), (0x0107, 0, [(8, 1)])] ∧
    Takes om [(0x0103, 2, [(8, 0x130020), (12, 1)])] ∧ om.reachOk 2 0x130020 = false ∧ om.reachOk 0 0x130020 = true ∧
    Takes { om with mode := .commission } [(0x0102, 0, [(8, 1)]), (0x0102, 0, [(8, 2)])] ∧ Takes { om with mode := .lead } [(0x0102, 0, [(8, 5)])] ∧
    om.modeBusy = false ∧ (1 &&& stagedMask 0x130020) = 0 ∧ om.ford.role = .none ∧ om.wdState 1 0 = .running ∧ (wdn 1 0).wdState 1 0 = .withdrawn := by
  exact ⟨takes (by decide +kernel), takes (by decide +kernel), takes (by decide +kernel), by decide +kernel, by decide +kernel,
    takes (by decide +kernel), takes (by decide +kernel), by decide +kernel, by decide +kernel, by decide +kernel, by decide +kernel, by decide +kernel⟩
theorem witness_DeviceCommands_modes :
    (let s : State := { om with tb := { om.tb with state := .locked } };
     s.modeOk .commission = true ∧ s.modeOk .lead = true) ∧ (om.setBit 0x00370020 3).modeOk .lead = false ∧
    (let x : MbCmd := { cmdOf 0x0107 0 [(8, 1)] with begun := true };
     let s : State := mbs { om with wd := { om.wd with state := [(blockKey 1 0, .testing)] } } x;
     (s.mbAt 0).cmd = some x ∧ x.op = 0x0107 ∧ s.wdState (x.f 8 1) (x.f 9 2) = .testing) := by decide +kernel
/-- Instance 1 in a phase. -/
def ins (x : Instance) : State := { om with inst := [(1, x)] }
theorem witness_InstanceCommands : Takes om [(0x0201, 0, [(8, 1)]), (0x0201, 0, [(8, 1), (0x10, 0xFF)])] ∧
    Takes (ins { state := .active }) [(0x0201, 0, [(8, 1)]), (0x0202, 0, [(8, 1)]), (0x0203, 0, [(8, 1), (9, 1)]), (0x0204, 1, [(8, 1)]),
      (0x0205, 0, [(8, 1), (9, 1), (0x0A, 3), (0x10, 0x1000), (0x18, 1)])] ∧
    ({ om with numVfs := 15 } : State).createCheck 1 { state := .active } = 0 ∧ (ins { state := .active }).createCheck 1 { state := .active } = 0x0207 ∧
    (let s := ins { state := .resetting, reset := some ⟨false, 0, none, false, false, []⟩ };
     (match (s.instAt 1).reset with | some r => !r.stopped && !r.squash && decide (r.since + (s.instAt 1).drainNs ≤ 10 ^ 12) | none => false) = true ∧
      s.followsLog = false) ∧
    (let s := ins { state := .resetting, reset := some ⟨false, 0, none, false, true, []⟩ };
     s.ohmythUp = true ∧ s.instRestarted 1 = true) ∧
    (let s := ins { state := .destroying };
     s.ohmythUp = true ∧ (s.instAt 1).reset = none ∧ (s.instAt 1).destroyed = 0 ∧ s.destroyWaits 1 = false ∧ s.followsLog = false) ∧
    (om.setReg slStat 3).mapOk .engine 0x1000 4096 = true ∧
    (grantChange [] true true true 1 1).length ≤ 64 ∧ grantPages (grantChange [] true true true 1 1) ≤ (ins { state := .active, quota := 2 ^ 352 } |>.instAt 1).q 0x2C 4 ∧
    ((ins { state := .active }).instAt 1).q 0x2C 4 < grantPages (grantChange [] true true true 1 1) := by
  refine ⟨takes ?_, takes ?_, ?_, ?_, ?_, ?_, ?_, ?_, ?_, ?_, ?_⟩ <;> decide +kernel
theorem witness_TableCommands : Takes om [(0x0301, 0, [(0x0C, 1)]), (0x0302, 0, []), (0x0303, 0, []), (0x0304, 0, [(8, 0x001A0010), (0x0C, 1)]),
      (0x0305, 0, []), (0x0306, 0, []), (0x0307, 0, []), (0x0308, 0, [(8, 2)]), (0x0308, 0, [(8, 4)])] ∧ Takes om [(0x0301, 2, [(0x0C, 1)])] ∧
    om.bankOwner 0 = 0 ∧ om.learningBank 0 = false ∧ om.stageWaits 1 0 = false ∧ om.shoalEdits = 0 ∧
    (om.setReg lrnCtl 0x10).learningBank 0 = true ∧
    actionOk 0 = true ∧ om.actionOwner 0 = 0 ∧ om.stageWaits 2 0 = false ∧ streamOk 0 = true ∧ om.streamOwner 0 = 0 ∧
    om.egressOwned 0 (seEgress 0) = true ∧ om.stageWaits 3 0 = false ∧ (1 &&& stagedMask 0x001A0010) = 1 ∧ om.reachOk 0 0x001A0010 = true ∧
    om.commits = [] ∧ om.entryOwner 2 0 = 0 := by
  refine ⟨takes ?_, takes ?_, ?_, ?_, ?_, ?_, ?_, ?_, ?_, ?_, ?_, ?_, ?_, ?_, ?_, ?_, ?_, ?_⟩ <;> decide +kernel
theorem witness_TableCommands_full : (let t : NatMap (Option (Nat × Nat)) := (upTo 256).map fun k => (k, some (0, 0))
    let s : State := { om with staged := { om.staged with shoal := t } };
    256 ≤ s.shoalEdits ∧ NatMap.has s.staged.shoal 256 = false ∧ s.stageWaits 1 256 = false) := by decide +kernel
/-- A kernel parked on group 0. -/
def pkd : State := { om with ca := { groups := [(0, { kern with park := some ⟨0, 1, 1, some 0⟩ })] } }
theorem witness_ProgramCommands : Takes om [(0x0401, 0, [(0x0C, 1)]), (0x0402, 0, [(0x0C, 1)]), (0x0403, 0, [(0x0C, 1)]), (0x0404, 0, [(0x0C, 1)]),
      (0x0501, 0, [(0x0C, 1)]), (0x0502, 0, [(0x10, 24)]), (0x0502, 0, [(9, 1), (0x10, 4)]), (0x0503, 0, [(9, 1), (0x10, 4)]), (0x0504, 0, []), (0x0505, 0, [])] ∧
    Takes pkd [(0x0503, 0, [(9, 1), (0x10, 4)]), (0x0504, 0, []), (0x0505, 0, [])] ∧ Takes (wdn 1 0) [(0x0401, 0, [(0x0C, 1)])] ∧
    om.progOk 0 0 0 1 = true ∧ om.blockOut 1 0 = false ∧ (wdn 1 0).blockOut 1 0 = true ∧ om.stageWaits 5 0 = false ∧
    bitAt (om.shownWord (chanReg 0 0)) 0 = false ∧ om.bindRefused 0 0 0 [0] true false = none ∧ om.ecc = [] ∧ om.codeRange 0 0 1 = true ∧
    ({ om with wd := { om.wd with state := (upTo 8).map fun g => (blockKey 2 g, .withdrawn) } } : State).codeOpen 0 = true ∧
    om.groupOwner 0 = 0 ∧ spaceOk 1 0 0 4 = true ∧ om.parkedOn 0 = none ∧
    (match pkd.parkedOn 0 with
     | some k => (pkd.parkOutcome 0 k 1).isSome && (pkd.parkOutcome 0 k 2).isSome
     | none => false) = true := by
  refine ⟨takes ?_, takes ?_, takes ?_, ?_, ?_, ?_, ?_, ?_, ?_, ?_, ?_, ?_, ?_, ?_, ?_, ?_⟩ <;> decide +kernel
theorem witness_PortAndLockCommands : Takes om [(0x0601, 0, []), (0x0602, 0, []), (0x0603, 0, [(0x0A, 1)]), (0x0604, 0, []), (0x0605, 0, [(8, 1)]),
      (0x0A01, 0, []), (0x0A02, 0, []), (0x0A03, 0, []), (0x0A04, 0, []), (0x0A05, 0, [(8, 0x11), (0x10, 0x1000)])] ∧
    Takes { om with eth := [(0, { sched := { pending := some (0, ⟨[], 0, 0⟩, 0) } })] } [(0x0603, 0, [(0x0A, 1)])] ∧ om.portOwner 0 = 0 ∧
    (om.ethAt 0).sched.pending = none ∧ ({ om with eth := [(0, { sched := { pending := some (0, ⟨[], 0, 0⟩, 0) } })] } : State).portOwner 0 = 0 ∧
    om.bit (gongKey 0 + 0x28) 0 = false ∧ om.bfHost 0 = none ∧ bfIsLock 0x11 = false ∧
    (∀ e ∈ [(0x0A01, 1), (0x0A02, 2), (0x0A03, 3), (0x0A04, 4), (0x0A05, 5)],
      let x := cmdOf e.1 0 (if e.1 = 0x0A05 then [(8, 0x11), (0x10, 0x1000)] else [(8, 0x1000)])
      let r : BfReq := { master := 0x200, inst := 0, op := if e.1 = 0x0A05 then 0x11 else e.2, addr := 0x1000, opa := 0, opb := 0
                         form := .host 0, gseq := none }
      let t := ((mbs (om.setReg slStat 3) x).mbBegin 0).bfOffer r
      t.bfHost 0 = some { r with at_ := t.now, num := 0 } ∧ bfIsLock r.op = decide (e.1 ≠ 0x0A05) ∧ (t.mbAt 0).cmd = some { x with begun := true }) ∧
    (let x := { cmdOf 0x0A01 0 [(0x10, 1)] with begun := true };
     let s : State := { mbs om x with now := 1000 };
     (s.mbAt 0).cmd = some x ∧ x.op = 0x0A01 ∧ x.f 0x10 4 ≠ 0 ∧ x.since + 1000 * x.f 0x10 4 ≤ s.now) ∧
    (0 : Nat) < (cmdOf 0x0A01 0 [(0x10, 1)]).since + 1000 * (cmdOf 0x0A01 0 [(0x10, 1)]).f 0x10 4 := by
  refine ⟨takes ?_, takes ?_, ?_, ?_, ?_, ?_, ?_, ?_, ?_, ?_, ?_⟩ <;> decide +kernel
/-- A pair on a link that is up. -/
def prd (role peer : FordRole) (flags mode : Nat) : State :=
  { om with ford := { role, peerRole := peer, link := 2, peerFlags := flags, talign := true, peerMode := mode } }
theorem witness_TwinAndRecorderCommands : Takes om [(0x0701, 0, []), (0x0702, 0, [(8, 1)]), (0x0702, 0, []), (0x0705, 0, []), (0x0801, 0, [(0x10, 0x8000)]),
      (0x0802, 0, []), (0x0803, 0, []), (0x0804, 0, [(0x10, 128)])] ∧ Takes (prd .lead .shadow 4 3) [(0x0703, 0, []), (0x0705, 0, [])] ∧ Takes (prd .lead .none 0 5) [(0x0704, 0, [])] ∧
    Takes (prd .shadow .lead 0 2) [(0x0703, 0, [])] ∧ Takes { om with mode := .lead } [(0x0804, 0, [])] ∧ Takes { om with mode := .replay } [(0x0805, 0, [])] ∧
    (prd .lead .shadow 4 3).partnerFollows = true ∧ (prd .shadow .lead 0 2).partnerFollows = false ∧ bitAt (prd .lead .shadow 4 3).ford.peerFlags 2 = true ∧
    (prd .lead .none 0 5).ford.partnerReady = true ∧ om.bit 0x003B0000 0 = false ∧ 2 * om.slotSize + 32 * 2 ^ 20 ≤ 0x8000 * 2 ^ 20 ∧ om.bt.slot0.valid = false ∧
    om.bt.ckpt ≠ 2 ∧ (om.setBit 0x003B0000 0).bit 0x003B0000 0 = true := by
  refine ⟨takes ?_, takes ?_, takes ?_, takes ?_, takes ?_, takes ?_, ?_, ?_, ?_, ?_, ?_, ?_, ?_, ?_⟩ <;> decide +kernel
/-- The whole DRAM of both channels. -/
def omd : State := om.setReg slStat 3
/-- A case file of 128 bytes stands at address 0. -/
def casef : List Byte := leBytes 128 (0x43584D4C + 256 ^ 4 + 128 * 256 ^ 0x30 + 128 * 256 ^ 0x40 + 256 ^ 0x2C)
theorem witness_TwinAndRecorderCommands_memory : Takes omd [(0x0801, 0, [(0x10, 0x400), (8, 0x100000)])] ∧
    omd.mapOk .engine 0x100000 (0x400 * 2 ^ 20) = true ∧ 0x100000 ≠ omd.btBase ∧ 2 * omd.slotSize + 32 * 2 ^ 20 ≤ 0x400 * 2 ^ 20 ∧
    ((omd.wrBytes 0 casef).rdMem 0 128).2 = some casef ∧ (caseOf 0 casef).isSome = true ∧ omd.mapOk .engine 0 128 = true := by
  refine ⟨takes ?_, ?_, ?_, ?_, ?_, ?_, ?_⟩ <;> decide +kernel
/-- A patch file of one word. -/
def patch1 : List Byte := leBytes 288 (0x5441504F + 256 ^ 4 + State.reset.regW 0x00370008 * 256 ^ 8 + 256 ^ 0x0C)
theorem witness_UpdateAndErrorCommands : Takes omd [(0x0901, 0, [(8, 1)]), (0x0901, 0, []), (0x0902, 0, [(8, 1), (6, 16)]), (0x0903, 0, []), (0x0904, 0, [(8, 1)]),
      (0x0905, 0, [(0x10, 288)]), (0x0B01, 0, []), (0x0B02, 0, []), (0x0B03, 0, [])] ∧ omd.bootedFrom 0 = true ∧ omd.bootedFrom 1 = false ∧
    patchLen 1 = 288 ∧ omd.mapOk .sup 0 288 = true ∧ ((omd.wrBytes 0 patch1).rdMem 0 288).2 = some patch1 ∧
    (patchOf (omd.regW 0x00370008) patch1).isSome = true ∧ NatMap.get [] omd.errors.queues 0 = [] ∧ omd.ecc = [] ∧
    (let s : State := { omd with sup := { running := true, hold := true, loading := patch1 } };
     s.sup.hold = true ∧ s.sup.halted = false ∧ s.sup.stopped = false ∧ (patchOf (s.regW 0x00370008) s.sup.loading).isSome = true) := by
  refine ⟨takes ?_, ?_, ?_, ?_, ?_, ?_, ?_, ?_, ?_, ?_⟩ <;> decide +kernel

/-! ## The Supervisor, the host's queues, hints and resets -/

/-- Ohmyth is at patch word `a`, which is `w`. -/
def mic (a w : Nat) : State := { om with sup := { running := true, inPatch := true, upc := a, patch := [(a, w)] } }
theorem witness_SupervisorCommands : (om.microPlace = (false, 0) ∧ (om.microFetch false 0).2.isSome = true ∧ om.sup.halted = false ∧ om.sup.stopped = false) ∧
    (∀ e ∈ [(0, 1), (0, 2), (0, 65), (511, 65)], (mic e.1 e.2).microPlace = (true, e.1) ∧ ((mic e.1 e.2).microFetch true e.1).2 = some e.2 ∧
      microFieldsOk e.2 = true ∧ patchSeqOk e.2 = true ∧ bitsOf e.2 2 4 = 0) ∧ (∀ u : State, u.microCond 0 = true) ∧
    bitAt 1 6 = false ∧ bitAt 65 6 = true ∧ om.ohmythUp = true ∧ om.errors.svwdExp = false ∧ om.errors.svwdSince + 100000000 ≤ 10 ^ 9 ∧
    om.errors.fatalAt = none ∧ om.errors.bootEnd + 600000000000 ≤ 10 ^ 12 := by
  refine ⟨?_, by decide +kernel, fun _ => rfl, ?_, ?_, ?_, ?_, ?_, ?_, ?_⟩ <;> decide +kernel
/-- Instance 0 is ACTIVE, its SQ 0 and CQ 0 are enabled with 16 entries, and one command waits. -/
def hq : State := { (om.setReg (sqKey 0 0 + 0x0C) 1).setReg (cqKey 0 0 + 0x0C) 1 with
  mode := .lead, pcie := [(0, { busMaster := true })], sq := [(0, { tail := 1 })], cq := [(0, { tail := 1 })] }
theorem witness_HostQueues : hq.active 0 = true ∧ hq.bit (sqKey 0 0 + 0x0C) 0 = true ∧ hq.bit (cqKey 0 0 + 0x0C) 0 = true ∧
    hq.ringLen (sqKey 0 0) = 16 ∧ (2 + 16 - (hq.sqAt 0 0).tail) % 16 ≤ 16 - 1 - ((hq.sqAt 0 0).tail + 16 - (hq.sqAt 0 0).head) % 16 ∧
    16 - 1 - ((hq.sqAt 0 0).tail + 16 - (hq.sqAt 0 0).head) % 16 < (0 + 16 - (hq.sqAt 0 0).tail) % 16 ∧ hq.sqReady 0 0 = true ∧
    hq.xferOwns 0 0 = false ∧ (sqPayload (leBytes 64 48) []).isSome = true ∧ sqPayload (leBytes 64 49) [] = none ∧
    (sqPayload (leBytes 64 (49 + 2 ^ 16)) (List.replicate 49 0)).isSome = true ∧ om.bit (sqKey 0 0 + 0x0C) 0 = false ∧ om.active 0 = true := by
  decide +kernel
theorem witness_HintsAndDoze : om.active 0 = true ∧ om.active 1 = false ∧ (0x10000000 : Nat) &&& claimMask = 0 ∧ (om.setReg 0x00380040 0).blockClaimed 0 = false ∧
    (om.setReg 0x00380040 0).mayDoze 0 = true ∧ om.mayDoze 0 = false ∧ om.offered 0 = false := by decide +kernel
/-- FATAL at instant 0 with escalation enabled. -/
def fat : State := { om.setReg 0x003D0200 3 with errors := { om.errors with fatalAt := some 0 }, now := 10 ^ 7 }
theorem witness_Resets : fat.bit 0x003D0200 0 = true ∧ fat.mode ≠ .boot ∧ fat.viv.streak < 3 ∧
    0 + 1000000 * min 1000 (fat.fld 0x003D0200 1 10) ≤ fat.now ∧ om.bit 0x003D0200 0 = State.reset.bit 0x003D0200 0 ∧
    ({ om with numVfs := 15 } : State).numVfs = ((15 : Fin 16) : Nat) ∧ State.reset.mode = .boot ∧ om.tenants = [] := by decide +kernel

/-! ## Tideway, Ethernet and the Timebase -/

/-- Encoder 0 in a mode, sampled at every 1000 ns. -/
def en (w : Nat) (e : Encoder) : State :=
  { (om.setReg (encCtl 0) w).setReg (encCtl 0 + 4) 1000 with mode := .lead, td := { om.td with enc := [(0, e)] }, now := 10 ^ 6, tb := { om.tb with count := 10000 } }
theorem witness_TidewayEncoders : (en 1 {}).fld (encCtl 0) 0 2 = 1 ∧ quadStep ((en 1 {}).encAt 0).a ((en 1 {}).encAt 0).b true false = some 1 ∧
    ((en 1 {}).encAt 0).lastEdge = none ∧ quadStep ((en 1 {}).encAt 0).a ((en 1 {}).encAt 0).b true true = none ∧
    (en 5 {}).bit (encCtl 0) 2 = true ∧ (en 1 {}).bit (encCtl 0) 2 = false ∧ (en 1 {}).chanOut 0 = false ∧
    sampleInstant (en 2 {}).tb.count ((en 2 {}).regW (encCtl 0 + 4)) ((en 2 {}).regW (encCtl 0 + 8)) = true ∧
    (en 2 {}).fld (encCtl 0) 0 2 = 2 ∧ ((en 2 {}).encAt 0).ssiUntil = none ∧ ((en 2 {}).ssiValue 0 true 5 false).isSome = true ∧
    ((en 2 { ssiUntil := some 10 }).encAt 0).ssiUntil = some 10 ∧ 10 ≤ (en 2 {}).now := by decide +kernel
/-- Tideway outputs in progress. -/
def outs : State :=
  { ((om.setReg (spiCtl 0) 1).setReg (spiCtl 1) 2).setReg (spiCtl 1 + 8) 1000 with
    now := 10 ^ 6, tb := { om.tb with count := 10000 }
    td := { om.td with due := [⟨20000, false, 0, 1, 0, []⟩, ⟨9000, false, 0, 0, 0, []⟩], sd := [(0, { run := some ⟨5, 10, false, 0, 50⟩ }), (1, { run := some ⟨5, 10, false, 0, 50⟩, queue := [⟨3, 10⟩] })]
                       spi := [(0, { run := some ⟨0, 0, false, 0, 100, 0⟩, queue := [(1, false, 0)] }), (1, { run := some ⟨0, 0, false, 0, 100, 0⟩ })]
                       pwm := [(0, { running := true }), (1, { running := true, pending := some (5, 1) }), (2, { running := true, boundary := 10 ^ 7 })] } }
theorem witness_TidewayOutputs : firstDue outs.td.due = some ⟨9000, false, 0, 0, 0, []⟩ ∧ firstDue ([⟨20000, false, 0, 1, 0, []⟩] : List DueCell) = some ⟨20000, false, 0, 1, 0, []⟩ ∧
    (∀ n ∈ [0, 1], (outs.sdAt n).run = some ⟨5, 10, false, 0, 50⟩ ∧ (outs.spiAt n).run = some ⟨0, 0, false, 0, 100, 0⟩ ∧
      outs.fld (spiCtl n) 17 2 ≠ 1 ∧ outs.fld (spiCtl n) 0 2 = n + 1) ∧ (outs.sdAt 0).queue = [] ∧ (outs.sdAt 1).queue = [⟨3, 10⟩] ∧
    (outs.spiAt 0).queue = [(1, false, 0)] ∧ outs.chanOut (chSpi 1) = false ∧
    sampleInstant outs.tb.count (outs.regW (spiCtl 1 + 8)) (outs.regW (spiCtl 1 + 12)) = true ∧
    (outs.pwmAt 0).pending = none ∧ (outs.pwmAt 1).pending = some (5, 1) ∧ outs.now < (outs.pwmAt 2).boundary := by decide +kernel
/-- GPIO bank 0 selects the rising edge of pin 0, UART 0 and the parallel port receive. -/
def inps (par : Nat) : State :=
  { ((((om.setReg 0x00140504 1).setReg 0x0014050C 0x400).setReg (uartKey 0) 1).setReg 0x00140700 par).setReg 0x00140708 0x100 with
    mode := .lead, now := 10 ^ 9
    td := { om.td with gpio := [(1, { cell := some ⟨0, 1, 5, 1⟩ })], uart := [(0, { sending := some (65, 10), rx := { open_ := [1], cfg := 0x100 } })], par := { rx := { open_ := [1], cfg := 0x100 }, sending := some (7, 0) } } }
theorem witness_TidewayInputs : bitAt ((inps 1).gpioAt 0).input 0 = false ∧ bitAt (bitsOf ((inps 1).regW 0x00140504) 0 2) 0 = true ∧
    (inps 1).chanOut (chGpio 0) = false ∧ (inps 1).offersOwn = true ∧ ((inps 1).gpioAt 0).cell = none ∧ (inps 1).fld 0x0014050C 10 8 ≠ 0 ∧
    ((inps 1).gpioAt 1).cell = some ⟨0, 1, 5, 1⟩ ∧ (inps 1).bit (uartKey 0) 0 = true ∧ (inps 1).chanOut (chUart 0) = false ∧ (inps 1).bit (uartKey 0) 1 = false ∧
    (inps 1).fld (uartKey 0) 5 2 ≠ 2 ∧ ((inps 1).uartAt 0).sending = some (65, 10) ∧ bitsOf (inps 1).td.par.rx.cfg 8 8 ≠ 0 ∧ (inps 1).td.par.rx.open_ ≠ [] ∧
    100000 * bitsOf (inps 1).td.par.rx.cfg 8 8 ≤ (inps 1).now - (inps 1).td.par.rx.last ∧ (inps 1).fld 0x00140700 0 2 = 1 ∧ (inps 1).chanOut chPar = false ∧
    (inps 0x102).fld 0x00140700 0 2 = 2 ∧ (inps 0x102).td.par.sending.isSome = true ∧ (inps 0x102).fld 0x00140700 8 8 ≠ 0 ∧ (inps 0x102).td.par.acked = false ∧
    0 + 1000000 * (inps 0x102).fld 0x00140700 8 8 ≤ (inps 0x102).now := by decide +kernel
theorem witness_TidewayInputs_gap : (let s := inps 1;
    bitsOf (s.uartAt 0).rx.cfg 8 8 ≠ 0 ∧ (s.uartAt 0).rx.open_ ≠ [] ∧
      bitsOf (s.uartAt 0).rx.cfg 8 8 * s.uartBits 0 * max 17360 (s.regW (uartKey 0 + 4)) ≤ 16 * (s.now - (s.uartAt 0).rx.last)) ∧
    (let s := (inps 1).setGpio 0 { cell := some ⟨0, 2, 10 ^ 10, 1⟩ };
     (s.gpioAt 0).cell = some ⟨0, 2, 10 ^ 10, 1⟩ ∧ bitAt (s.gpioAt 0).input 0 ≠ true ∧ bitAt (bitsOf 1 0 2) 0 = true ∧ bitAt (bitsOf 1 2 2) 0 = false) ∧
    (let s : State := { inps 1 with td := { (inps 1).td with inputs := (upTo 4).map fun _ => { src := chUart 0, tstamp := 0, kind := .data, payload := [] } } };
     s.chanOut (chUart 0) = false ∧ s.offersOwn = true ∧ 4 ≤ s.buffered (chUart 0)) := by decide +kernel
/-- Port 0 is linked and on, in a mode, with a frame that waits in queue 3. -/
def etp (m : Mode) (dst : Nat) : State :=
  { om.setReg (enKey 0) 1 with
    mode := m, eth := [(0, { link := true, queues := [(3, [⟨{ src := 0x1001 }, beBytes 6 dst ++ List.replicate 54 0, false⟩])], sched := { pending := some (0, ⟨[], 0, 0⟩, 0) } })], sgates := [(0, { pending := some (0, ⟨[], 0, 0⟩, 0) })] }
/-- A frame of EtherType `t`, 60 bytes, to `dst`. -/
def frm (dst t : Nat) : List Byte := beBytes 6 dst ++ beBytes 6 0 ++ beBytes 2 t ++ beBytes 2 1 ++ List.replicate 44 0
theorem witness_EthernetPorts : (∀ m ∈ [Mode.lead, Mode.hold], ((etp m 5).ethAt 0).link = true ∧ (etp m 5).ethOn 0 = true ∧ (etp m 5).wdState 5 0 = .running) ∧
    (frm 5 0x0800).length = 60 ∧ ethType (frm 5 0x0800) = 0x0800 ∧ ((etp .lead 5).ethAt 0).buffered + 60 ≤ ethBuffer 0 ∧
    ethType (frm 5 0x8808) = 0x8808 ∧ beAt (frm 5 0x8808) 14 2 = 1 ∧ ethType (frm 0x0180C200000E 0x88F7) = 0x88F7 ∧
    (frm 0x0180C200000E 0x88F7).take 6 = [0x01, 0x80, 0xC2, 0x00, 0x00, 0x0E] ∧ (etp .lead 5).ohmythUp = true ∧
    (let s : State := { etp .lead 5 with eth := [] };
     s.ethOn 0 = true ∧ (s.ethAt 0).link = false) ∧
    ((etp .lead 5).ethAt 0).busyUntil ≤ (etp .lead 5).now ∧
    ((NatMap.get [] ((etp .lead 5).ethAt 0).queues 3).map fun f => (f.reserved 0, ((etp .lead 5).ethBuild 0 f).length)) = [(false, 60)] ∧
    (NatMap.get [] ((etp .lead 0x0180C2000000).ethAt 0).queues 3).map (·.reserved 0) = [true] ∧ (etp .lead 5).bit (enKey 0 + 0x60) 0 = false ∧
    (((etp .lead 5).ethAt 0).sched.take 0).isSome = true ∧ (((etp .lead 5).sgAt 0).take 0).isSome = true := by decide +kernel
/-- The Timebase of a device in HOLD. -/
def tbs (x : Timebase) : State := { om with tb := x }
theorem witness_TimebaseEvents : -(2 ^ 31) ≤ (5 : Int) ∧ (5 : Int) < 2 ^ 31 ∧ om.ohmythUp = true ∧ om.mode ≠ .boot ∧
    (let s := tbs { actConfigured := true, running := true, state := .acquire, everRan := true, refOk := true, pllLock := true };
     s.tb.actConfigured = true ∧ s.tb.running = true ∧ (0 : Byte).toNat = s.tb.actDomain ∧ s.weirTimed = false ∧ 0 ≤ (s.tb.count : Int) + 5) ∧
    (tbs {}).tb.actConfigured = false ∧ (0 : Byte).toNat = (tbs {}).tb.monDomain ∧ (tbs {}).tb.state = .free ∧ (tbs {}).tb.running = false := by decide +kernel

/-! ## The twins, the recorder, BOOT and the block -/

/-- A device of a pair, 1 ms after reset. -/
def twin (f : Ford) : State := { om.setReg fdCtl 1 with mode := .lead, now := 10 ^ 6, ford := f }
theorem witness_BatonAndLink : (let s := twin { claimAt := some 0, peerLine := true, twinId := 1 };
     s.ford.claimAt = some 0 ∧ 0 + 1000 ≤ s.now ∧ s.ford.entry = none ∧ ((s.setBit fdEvt 7).batonRelease).ford.entry = none) ∧
    (let s := twin { claimAt := some 0 };
     s.ford.peerLine = false ∧ s.batonHeld.ford.entry = none) ∧
    (let s := twin { holds := true, ownLine := true, role := .lead, link := 2 };
     (s.setReg fdBaton 1).keeperOk = true ∧ ({ s with mode := .hold } : State).keeperOk = false ∧ s.passed 2 10000 = true ∧ s.passed 1 10000 = true ∧
      s.ford.keepAt + 50000 ≤ s.now ∧ s.bit fdCtl 0 = true ∧ s.errors.fatalAt = none ∧ s.ford.hbStopped = false) ∧
    (let s := twin { role := .lead, peerRole := .shadow, link := 2, missed := 2, hbAt := some 0, ring := [⟨1, 1, 0, 0, [], 0⟩] };
     s.ford.hbAt.isSome = true ∧ s.ford.intervalAt + 10000 ≤ s.now ∧ s.partnerFollows = true ∧
      (∀ f ∈ s.ford.ring, f.at_ + 1000 * clampNat 5 100 (s.fld fdCtl 16 7) < s.now)) := by decide +kernel
theorem witness_FordFrames : ((twin { link := 2 }).fordTake ⟨1, 0, false, true⟩).isSome = true ∧ (twin { link := 2 }).fordTake ⟨2, 0, false, true⟩ = none ∧
    leAt (leBytes 4 0x1000000) 3 1 = 1 ∧ leAt (leBytes 4 0) 3 1 ≠ 1 ∧
    (let s := twin { link := 2, role := .shadow, closed := [(0, {})] };
     (s.fordTake ⟨1, 0, false, true⟩).any (fun t => t.following && t.ford.role == .shadow && (t.ford.closed.find? fun x => x.1 == leAt [] 0 6).isSome) = true) ∧
    (let s := twin { link := 2, role := .lead, peerRole := .shadow };
     (s.fordTake ⟨1, 0, false, true⟩).any (fun t => t.ford.role == .lead && t.partnerFollows && !t.following && t.driving) = true) ∧
    ((twin { link := 2, role := .syncing }).fordTake ⟨1, 0, false, true⟩).any (fun t => t.ford.role == .syncing && !t.ford.imageOk) = true ∧
    (ingressRecords 16 (leBytes 16 5)).getLast?.isSome = true ∧ (twin { role := .syncing, imageOk := true }).ford.lag < 50000 := by decide +kernel
/-- Bittern records. -/
def btn (b : Bittern) : State := { om.setReg 0x003B0000 0x101 with mode := .lead, now := 10 ^ 12, nextGseq := 1, cells := [{ cell0 with stage := .classified }], bt := b }
theorem witness_RecorderEvents : (btn {}).records = true ∧ (btn {}).cells.find? (fun c => !c.recorded) = some { cell0 with stage := .classified } ∧
    Cell.classifiedYet { cell0 with stage := .classified } = true ∧ before48 cell0.hdr.gseq (btn {}).horizon = true ∧
    (btn {}).bt.closeAt + 1000000 ≤ (btn {}).now ∧ (btn {}).fld 0x003B0000 8 8 ≠ 0 ∧ (btn {}).bt.retryAt = none ∧
    (btn {}).bt.lastCkpt + (btn {}).fld 0x003B0000 8 8 * 1000000000 ≤ (btn {}).now ∧ (btn { ckpt := 1, g0 := 1 }).quiesced = false ∧
    (btn { ckpt := 1, g0 := 0 }).quiesced = true ∧ (btn { ckpt := 1 }).bt.since + 25000 ≤ (btn {}).now ∧ (btn { retryAt := some 5 }).bt.ckpt = 0 ∧
    om.bit 0x003B0000 0 = false ∧ (om.bit 0x003B00A0 0 = false ∧ (om.putReg 0x003B00A0 0xFFFFFFFF 1).1.bit 0x003B00A0 0 = true) ∧
    (let s := (om.setReg 0x003B00A0 1).setReg 0x003B00AC 8;
     s.bit 0x003B00A0 0 = true ∧ s.bit 0x003B00A0 5 = false ∧ s.bt.moved ≤ s.xferLen ∧ s.xferLen ≠ 0 ∧ s.mapOk .engine s.xferBase s.xferLen = false) ∧
    (let s : State := { om with mode := .replay, dlogIn := [⟨1, 16, 0, []⟩], now := 10 ^ 9 };
     s.replay.stuck = false ∧ s.replay.done = false ∧ s.replay.moved + 100000000 ≤ s.now ∧ s.replay.records = [] ∧ s.cells = []) := by decide +kernel
/-- The whole of a boot, stage by stage. -/
def bts (k : Nat) : State := { State.reset with sup := { State.reset.sup with stage := k, running := decide (6 ≤ k) }, tb := { State.reset.tb with running := true } }
theorem witness_BootSteps : (∀ k ∈ [0, 1, 2, 3, 4, 5, 6, 7], (bts k).bootAt k = true) ∧ ({ bts 0 with tap := { unread := false } } : State).tap.unread = false ∧ (bts 1).tb.running = true ∧
    (bts 5).sup.halted = false ∧ (bts 6).ohmythUp = true ∧ (bts 7).markers = [] ∧ (bts 7).commits = [] ∧ om.mode ≠ .boot := by decide +kernel
/-- A block drains. -/
def drn (kind index since : Nat) : State := { om with wd := { om.wd with state := [(blockKey kind index, .draining)], since := [(blockKey kind index, since)] }, now := 10 ^ 7 }
theorem witness_DrainsAndHealth : (blockOk 1 0 = true ∧ (drn 1 0 5).wdState 1 0 = .draining ∧ (drn 1 0 5).wdDrained 1 0 = true ∧
      NatMap.get 0 (drn 1 0 5).wd.since (blockKey 1 0) ≤ (drn 1 0 5).now ∧ ((drn 1 0 5).wdForce 1 0).wdDrained 1 0 = true ∧
      (drn 1 0 (10 ^ 8)).now < NatMap.get 0 (drn 1 0 (10 ^ 8)).wd.since (blockKey 1 0)) ∧
    (let s : State := { drn 1 0 5 with eg := { threads := [(0, thd)] } };
     s.wdDrained 1 0 = false) ∧ (blockOk 5 0 = true ∧ (drn 5 0 5).wdState 5 0 = .draining ∧ NatMap.get 0 (drn 5 0 5).wd.since (blockKey 5 0) ≤ (drn 5 0 5).now) ∧
    (drn 1 0 5).passed 3 1000000 = true ∧ om.passed 3 1000000 = false ∧
    hottest ((upTo 8).map fun k => ([some 300, none, some 1050] : List (Option Int)).getD k none) = some (2, 1050) ∧
    (cfgStoreAddr ≤ cfgStoreAddr ∧ cfgStoreAddr < supRamAddr ∧ cfgStoreAddr % 8 = 0 ∧ om.eccAt cfgStoreAddr = 0 ∧ (om.setEcc cfgStoreAddr 1).eccAt cfgStoreAddr = 1) := by
  decide +kernel
theorem witness_TestAccessPort : om.padsOk = true ∧ ({ om with mode := .lead } : State).padsOk = false ∧
    (let v : BitVec 272 := BitVec.ofNat 272 (0x5A * 2 ^ 264 + 5)
     (om.tapLoad 0x20).tap.prog = none ∧ bitsOf v.toNat 264 8 = 0x5A ∧ bitsOf v.toNat 256 8 = 0 ∧ (om.tapLoad 0x20).tap.keyHash = 0 ∧ bitsOf v.toNat 0 256 ≠ 0) ∧
    (({ om with tap := { keyHash := 5 } } : State).tapLoad 0x31).tap.permits = false ∧
    (let s : State := { om with tap := { om.tap with token := true } };
     (s.tapLoad 0x31).tap.permits = true ∧ ((s.tapLoad 0x31).supRead supRamAddr 4).2.isSome = true ∧ supRamAddr % 4 = 0) := by decide +kernel
/-! ## Clauses about turns, waits and refusals -/

theorem witness_EgretSlots : (let s := th thd 0;
      s.ctxRuns 0 0 0 = true ∧ s.ctxRuns 0 0 1 = false ∧ s.slotNames 0 0 3 = 3 ∧ (∀ i' ∈ [0], s.ctxRuns 0 0 ((3 + i') % 4) = false) ∧ (3 + 1) % 4 = 0 ∧
      s.fld (slotKey 0 0) 9 2 = 0) ∧ (th thd 0).slotTurn (.thread 0 0) = true ∧ (th thd 0).slotTurn (.thread 0 1) = false ∧
    (let s := (th thd 0).setFld (slotKey 0 0) 9 2 1;
     s.fld (slotKey 0 0) 9 2 = 1 ∧ s.ctxRuns 0 0 1 = false ∧ s.ctxRuns 0 0 0 = true) := by decide +kernel
theorem witness_EgretFunctionResults : (∃ v k, (1 = 0 ∧ v = 255 + 1 ∨ 1 = 1 ∧ v = 255 + 0 + b2n true) ∧ k = decide (256 ≤ v)) ∧
    (∃ q k, (3 = 2 ∧ q = 0 ∨ 3 = 3 ∧ q = 1 - b2n false) ∧ k = decide (255 + q ≤ 255)) ∧ (7 = 4 ∧ 0 = 255 &&& 255 ∨ 7 = 7 ∧ 0 = 255 &&& (255 - 255)) :=
  ⟨⟨_, _, .inr ⟨rfl, rfl⟩, rfl⟩, ⟨_, _, .inr ⟨rfl, rfl⟩, rfl⟩, .inr ⟨rfl, by decide⟩⟩
theorem witness_IntakeFairness : (let s : State := { mode := .lead, eth := [(1, { ingress := [(5, [1])] })], passedOver := [(srcNum (.eth 1), 16)] };
    (s.offerOf (.eth 1)).isSome = true ∧ 16 ≤ NatMap.get 0 s.passedOver (srcNum (.eth 1)) ∧
      NatMap.get 0 s.passedOver (srcNum (.eth 0)) < NatMap.get 0 s.passedOver (srcNum (.eth 1))) := by decide +kernel
theorem witness_HeronParse_frames : (let s : State := { hn (run0 0 0) 0 with regs := [(0x00160000, 3 + 7 * 16)] };
     let c : Cell := { hdr := { src := 0x1000 }, payload := List.replicate 60 0, stage := .parsing 0, epoch := 0 };
     c.hdr.src / 0x1000 = 1 ∧ beAt c.payload 12 2 ≠ 0x8100 ∧ s.fld 0x00160000 4 12 = 7) ∧
    (let f := List.replicate 12 0 ++ [0x81, 0, 0x20, 0] ++ List.replicate 44 0; beAt f 12 2 = 0x8100 ∧ beAt f 14 2 % 0x1000 = 0) := by decide +kernel
theorem witness_TablesAndDispatch_more : (let s := State.reset;
      (s.scrubTurn shoalBase 4096 10000000 0).isSome = true ∧ s.scrubTurn shoalBase 4096 10000000 1 = none ∧ s.ecc = [] ∧
        NatMap.get none s.staged.shoal 0 = none ∧ s.bit 0x00188000 1 = false) ∧
    (∀ hit aged, let e := putBits (putBits (stEntry 5 1 2 0 0 false) 74 1 hit) 75 1 aged
      hit < 2 → aged < 2 → stValid e = true ∧ stStatic e = false) ∧
    (∀ e ∈ [stEntry 5 1 2 0 0 false, putBits (stEntry 5 1 2 0 0 false) 74 1 1, putBits (stEntry 5 1 2 0 0 false) 75 1 1],
      stValid e = true ∧ stStatic e = false) := by
  refine ⟨by decide +kernel, ?_, by decide +kernel⟩
  intro hit aged e h1 h2
  have : hit = 0 ∨ hit = 1 := by omega
  have : aged = 0 ∨ aged = 1 := by omega
  rcases ‹hit = 0 ∨ hit = 1› with rfl | rfl <;> rcases ‹aged = 0 ∨ aged = 1› with rfl | rfl <;> decide +kernel
theorem witness_Commands_refused : om.writeReach 1 0x00130020 0xFFFFFFFF = false ∧ Takes (ins { state := .active }) [(0x0104, 1, [(8, 0x130020), (12, 1)])] ∧
    (0x001 &&& stagedMask 0x130020) = 0 ∧ om.mbTaken.contains ((1 : Fin 16) : Nat) = false ∧
    ({ om with mbTaken := [1] } : State).mbTaken.contains ((1 : Fin 16) : Nat) = true ∧
    Takes { om with wd := { om.wd with state := [(blockKey 2 0, .running)] } } [(0x0501, 0, [(0x0C, 1)]), (0x0501, 0, [(0x0C, 1), (0x10, 5)])] ∧
    om.codeOpen 0 = false ∧ (cmdOf 0x0501 0 [(0x0C, 1)]).words 1 = [0] ∧ (cmdOf 0x0501 0 [(0x0C, 1), (0x10, 5)]).words 1 = [5] ∧
    om.rdBytes codeAddr 4 = leBytes 4 0 ∧ Takes om [(0x0601, 0, [(8, 1)])] ∧ om.chanOwner 0 = 0 ∧
    Takes (om.setBit (gongKey 0 + 0x28) 0) [(0x0604, 0, [])] ∧ Takes (ins { state := .active }) [(0x0604, 1, [])] ∧
    (let x := { cmdOf 0x0A01 0 [(0x10, 1)] with begun := true };
     let s : State := mbs { om with sup := { running := true, hold := true } } x;
     (s.mbAt 0).cmd = some x ∧ s.sup.hold = true) := by
  refine ⟨?_, takes ?_, ?_, ?_, ?_, takes ?_, ?_, ?_, ?_, ?_, takes ?_, ?_, takes ?_, takes ?_, ?_⟩ <;> decide +kernel
theorem witness_TwinAndUpdate_refused : Takes (omd.setBit 0x003B0000 0) [(0x0801, 0, [(0x10, 0x400), (8, 0x100000), (0x12, 1)])] ∧
    (cmdOf 0x0801 0 [(0x10, 0x400), (8, 0x100000), (0x12, 1)]).f 0x12 1 ≠ 0 ∧
    Takes omd [(0x0804, 0, [(8, 0x800000000), (0x10, 128)]), (0x0905, 0, [(8, 0x7FFFFFF80), (0x10, 288)])] ∧
    omd.mapOk .sup 0x7FFFFFF80 288 = false ∧ omd.sup.hold = false ∧ omd.mode = .hold ∧ omd.ford.role = .none ∧
    ({ omd with sup := { running := true, hold := true, loading := patch1 } } : State).mbTaken = [] := by
  refine ⟨takes ?_, ?_, takes ?_, ?_, ?_, ?_, ?_, ?_⟩ <;> decide +kernel
theorem witness_Tideway_due : (let s : State := { en 1 {} with td := { (en 1 {}).td with due := [⟨9000, false, 0, 0, 0, []⟩] } };
      firstDue (s.td.due.filter fun x => x.chan == (0 : Fin 16).val) = some ⟨9000, false, 0, 0, 0, []⟩ ∧ 9000 ≤ s.tb.count) ∧
    (∀ x ∈ (en 1 {}).td.due, x.chan = 0 → (en 1 {}).tb.count < x.at_) ∧
    ((en 2 { ssiUntil := some (10 ^ 7) }).encAt 0).ssiUntil = some (10 ^ 7) ∧ (en 2 {}).now < 10 ^ 7 ∧
    (let d : DueCell := ⟨9000, false, 16, 0, 0, []⟩; ([d] : List DueCell) = [d] ∧ 16 ≤ d.chan) ∧
    (outs.spiAt 1).run.isSome = true ∧ ({ outs with td := { outs.td with spi := [] } } : State).spiAt 1 = {} ∧
    outs.pwmForced 1 = none ∧ (inps 1).td.gpio ≠ [] := by decide +kernel
/-- Port 0 with a gPTP frame that waits, or with a gate that is closed. -/
def etg : State := (etp .lead 5).setEth 0 { (etp .lead 5).ethAt 0 with mgmt := [(List.replicate 46 0, .nothing)] }
def etc : State := ((etp .lead 5).setEth 0 { (etp .lead 5).ethAt 0 with gates := 0 }).setBit (enKey 0 + 0x60) 0
theorem witness_EthernetPorts_sends : ((etp .lead 5).ethAt 0).mgmt = [] ∧ (etg.ethAt 0).mgmt.length = 1 ∧
    (etg.ethAt 0).link = true ∧ etg.ethOn 0 = true ∧ (etg.ethAt 0).busyUntil ≤ etg.now ∧
    (etc.ethAt 0).mgmt = [] ∧ etc.bit (enKey 0 + 0x60) 0 = true ∧ bitAt (etc.ethAt 0).gates 3 = false ∧ (etc.ethAt 0).sched.tooLong 3 1000 = false ∧
    (let s : State := { etp .lead 5 with frer := [(0, { takeAny := false })], tb := { om.tb with count := 10 ^ 12 } };
     (NatMap.get {} s.frer 0).takeAny = false ∧ s.oldestFrame = none ∧
      (NatMap.get {} s.frer 0).last + clampNat 1 65535 (NatMap.get {} s.frer 0).timeout * 1000000 ≤ s.tb.count) ∧
    (let s : State := { etp .lead 5 with tb := { om.tb with count := 10 }, frer := [(0, { takeAny := false })], eth := [(0, { ingress := [(5, [1])] })] };
     s.oldestFrame = some 5 ∧ 5 < (NatMap.get {} s.frer 0).last + clampNat 1 65535 (NatMap.get {} s.frer 0).timeout * 1000000) ∧
    (((etp .lead 5).sgAt 0).take 0 (etp .lead 5).oldestFrame).isSome = true := by decide +kernel
theorem witness_TimebaseEvents_rate : (tbs { state := .locked }).ohmythUp = true ∧ (tbs { state := .locked }).tb.state ≠ .holdSync ∧
    (tbs {}).alignsToLead = false ∧ (tbs {}).tb.state = .free ∧ (tbs { rates := [5, 6] }).tb.rates.take 16 = [5, 6] ∧
    ([5, 6] : List Int).foldl (· + ·) 0 = 11 ∧ (0 : Int) + -1 < 0 := by decide +kernel
theorem witness_FordFrames_app : (let s := twin { link := 2, role := .lead };
    (s.fordTake ⟨1, 0, false, true⟩).any (fun t => t.driving) = true ∧ leAt (leBytes 64 (9217 * 256 ^ 0x1C)) 0x1C 2 = 9217 ∧
      leAt (leBytes 64 (9216 * 256 ^ 0x1C)) 0x1C 2 ≤ 9216) ∧
    ((twin { link := 2, role := .shadow }).fordTake ⟨1, 0, false, true⟩).any (fun t => t.driving) = true ∧
    (({ twin { link := 2, role := .shadow } with mode := .shadow } : State).fordTake ⟨1, 0, false, true⟩).any (fun t => !t.driving) = true := by decide +kernel

/-! ## The block as a whole -/

theorem witness_StepRunsFront : ({ State.reset with pending := [.syncLoss] } : State).pending = [.syncLoss] := rfl
theorem witness_EmptyQueueTicks : State.reset.pending = [] ∧ State.reset.tb.running = false ∧ (tbs { running := true }).tb.state ≠ .holdRef ∧
    -(2 ^ 32 : Int) ≤ (tbs { running := true }).tb.rate := by decide +kernel
theorem witness_WordFrames : State.reset.ecc = [] ∧ (match ((th thd 5).egFetch (.thread 0 0) thd.core).2 with | .word w => w == 5 | _ => false) = true ∧
    (match ((cg kern 5).caFetch kern).2 with | .ok w => w == 5 | _ => false) = true ∧ (EgUnit.thread 0 0 ≠ EgUnit.thread 0 1) := by decide +kernel
theorem witness_StepKeepsMemoryCanonical : State.reset.inv = true := by decide +kernel

end Sys2Proof.Tests
end

section
/-! PROOFS. Offsets at which a view implements nothing (spec/00 R8): where no register is, a read gives 0 and a write changes
nothing. The ranges that the views treat by offset (windows, doorbells, enables, MSI-X tables) hold a register at each of their
aligned offsets, so an unimplemented offset lies in none of them. -/
namespace Sys2Proof.Machine

/-! ### Where registers stand -/

theorem findReg_append_eq_none {l m : List RegDesc} {off : Nat} :
    findReg (l ++ m) off = none ↔ findReg l off = none ∧ findReg m off = none := by
  simp [findReg, List.find?_append, Option.or_eq_none_iff]

/-- An offset at which a list places no register is in none of its arrays of registers. -/
theorem not_in_array {l : List RegDesc} {base stride count off : Nat} {fields : List RegField}
    (hnone : findReg l off = none) (hd : { base, fields, stride, count : RegDesc } ∈ l) :
    ¬ (base ≤ off ∧ (off - base) % stride = 0 ∧ (off - base) / stride < count) := by
  have hcov := List.find?_eq_none.mp hnone _ hd
  simpa [RegDesc.covers, and_assoc] using hcov

theorem viewKey_zero (off : Nat) : viewKey 0 off = off := by simp [viewKey]

theorem regAt_pf {off : Nat} (hlo : 0x6000 ≤ off) (hlt : off < 0x01000000) : regAt off = findReg (pfRegsAt off) off := by
  simp [regAt, Nat.mod_eq_of_lt hlt, Nat.div_eq_of_lt hlt, Nat.not_lt.mpr hlo]

theorem regAt_pf_block {off : Nat} (hlt : off < 0x6000) : regAt (viewKey 0 off) = findReg blockRegs off := by
  have hdiv : off / 0x01000000 = 0 := by omega
  have hmod : off % 0x01000000 = off := by omega
  simp [regAt, viewKey_zero, hdiv, hmod, hlt]

theorem regAt_vf {i off : Nat} (hi : i ≠ 0) (hlt : off < 0x01000000) : regAt (viewKey i off) = findReg vfRegs off := by
  have hdiv : viewKey i off / 0x01000000 = i := by unfold viewKey; omega
  have hmod : viewKey i off % 0x01000000 = off := by unfold viewKey; omega
  simp [regAt, hdiv, hmod, hi]

/-- Every view has the registers of `blockRegs`, the PF's below 0x6000. -/
theorem findReg_blockRegs_of_regAt {i off : Nat} (hi : i = 0 → off < 0x6000) (hlt : off < 0x01000000)
    (hreg : regAt (viewKey i off) = none) : findReg blockRegs off = none := by
  by_cases h0 : i = 0
  · subst h0
    rwa [regAt_pf_block (hi rfl)] at hreg
  · rw [regAt_vf h0 hlt, vfRegs, findReg_append_eq_none, findReg_append_eq_none] at hreg
    exact hreg.1.1

theorem findReg_msixRegs_of_regAt {i off : Nat} (hi : i ≠ 0) (hlt : off < 0x01000000)
    (hreg : regAt (viewKey i off) = none) : findReg (msixRegs 0x30000 16) off = none := by
  rw [regAt_vf hi hlt, vfRegs, findReg_append_eq_none] at hreg
  exact hreg.2

theorem findReg_tableWindows_of_regAt {off : Nat} (hlo : 0x00160000 ≤ off) (hhi : off < 0x00200000)
    (hreg : regAt off = none) : findReg tableWindows off = none := by
  have hpf : pfRegsAt off = ethernetRegs ++ tableWindows ++ heronRegs := by
    rw [pfRegsAt, if_neg (by omega), if_neg (by omega), if_pos hhi]
  rw [regAt_pf (by omega) (by omega), hpf, findReg_append_eq_none, findReg_append_eq_none] at hreg
  exact hreg.1.2

theorem findReg_carillonRegs_of_regAt {off : Nat} (hlo : 0x00280000 ≤ off) (hhi : off < 0x00340000)
    (hreg : regAt off = none) : findReg carillonRegs off = none := by
  have hpf : pfRegsAt off = carillonRegs := by
    rw [pfRegsAt, if_neg (by omega), if_neg (by omega), if_neg (by omega), if_neg (by omega), if_pos hhi]
  rwa [regAt_pf (by omega) (by omega), hpf] at hreg

/-! ### Reads -/

theorem not_in_tableWindow {base n off : Nat} (hd : { base, count := n, fields := [fRO 0 32] : RegDesc } ∈ tableWindows)
    (hb : 0x00160000 ≤ base ∧ base % 4 = 0 ∧ base + 4 * n ≤ 0x00200000) (ha : off % 4 = 0) (hreg : regAt off = none) :
    ¬ (base ≤ off ∧ off < base + 4 * n) := fun h =>
  not_in_array (findReg_tableWindows_of_regAt (by omega) (by omega) hreg) hd (by omega)

theorem not_in_codeWindow {off : Nat} (ha : off % 4 = 0) (hreg : regAt off = none) :
    ¬ (0x00300000 ≤ off ∧ off < 0x00310000) := fun h =>
  not_in_array (base := 0x00300000) (stride := 4) (count := 16384) (fields := [fH 0 32])
    (findReg_carillonRegs_of_regAt (by omega) (by omega) hreg) (by simp [carillonRegs]) (by omega)

theorem tableRead_of_regAt_none (s : State) {off : Nat} (ha : off % 4 = 0) (hreg : regAt off = none) :
    s.tableRead off = none := by
  have hstream := not_in_tableWindow (base := 0x00170000) (n := 16384) (by simp [tableWindows]) (by decide) ha hreg
  have hstation := not_in_tableWindow (base := 0x00180000) (n := 4096) (by simp [tableWindows]) (by decide) ha hreg
  have haction := not_in_tableWindow (base := 0x00190000) (n := 16384) (by simp [tableWindows]) (by decide) ha hreg
  have hparse := not_in_tableWindow (base := 0x001A4000) (n := 4096) (by simp [tableWindows]) (by decide) ha hreg
  have hshoal := not_in_tableWindow (base := 0x001C0000) (n := 65536) (by simp [tableWindows]) (by decide) ha hreg
  simp only [State.tableRead, Bool.and_eq_true, decide_eq_true_eq]
  rw [if_neg hshoal, if_neg (not_in_codeWindow ha hreg), if_neg hstream, if_neg hstation, if_neg haction, if_neg hparse]
  rfl

/-- R8: the read of an aligned key without a register. -/
theorem readReg_of_regAt_none (s : State) {key : Nat} (ha : key % 4 = 0) (hreg : regAt key = none) :
    s.readReg key = (s, 0) := by
  simp [State.readReg, tableRead_of_regAt_none s ha hreg, hreg]

/-! ### Writes -/

theorem putReg_of_regAt_none (s : State) {key : Nat} (mask val : Nat) (hreg : regAt key = none) :
    s.putReg key mask val = (s, false) := by
  simp [State.putReg, hreg]

theorem not_in_msixTable {base n off : Nat} (hb : base % 16 = 0) (ha : off % 4 = 0)
    (hnone : findReg (msixRegs base n) off = none) : ¬ (base ≤ off ∧ off < base + 16 * n) := by
  rintro ⟨hlo, hhi⟩
  have h0 := not_in_array (base := base) (stride := 16) (count := n) (fields := [fL 2 30]) hnone (by simp [msixRegs])
  have h4 := not_in_array (base := base + 4) (stride := 16) (count := n) (fields := [fL 0 32]) hnone (by simp [msixRegs])
  have h8 := not_in_array (base := base + 8) (stride := 16) (count := n) (fields := [fL 0 32]) hnone (by simp [msixRegs])
  have h12 := not_in_array (base := base + 12) (stride := 16) (count := n) (fields := [fL 0 1 1]) hnone (by simp [msixRegs])
  omega

/-- R8: a write in a VF's view or in I0's own block, outside the registers. -/
theorem blockWriteReg_of_regAt_none (s : State) {i off : Nat} (val : Nat) (hi : i = 0 → off < 0x6000)
    (hlt : off < 0x01000000) (ha : off % 4 = 0) (hreg : regAt (viewKey i off) = none) : s.blockWriteReg i off val = s := by
  have hblock := findReg_blockRegs_of_regAt hi hlt hreg
  have hdoorbell : ¬ (0x1000 ≤ off ∧ off < 0x1040) := fun h =>
    not_in_array (base := 0x1000) (stride := 4) (count := 16) (fields := [fWO 0 12]) hblock
      (by simp [blockRegs, queueRegs]) (by omega)
  have hsq : ¬ (off < 0x200 ∧ off % 0x40 = 0x0C) := fun h =>
    not_in_array (base := 0x000C) (stride := 0x40) (count := 8) (fields := [fL 0 1]) hblock
      (by simp [blockRegs, queueRegs]) (by omega)
  have hcq : ¬ ((0x200 ≤ off ∧ off < 0x400) ∧ off % 0x40 = 0x0C) := fun h =>
    not_in_array (base := 0x020C) (stride := 0x40) (count := 8) (fields := [fL 0 1, fL 1 1]) hblock
      (by simp [blockRegs, queueRegs]) (by omega)
  have hien : off ≠ 0x3004 := fun h =>
    not_in_array (base := 0x3004) (stride := 4) (count := 1) (fields := [fL 0 19]) hblock
      (by simp [blockRegs, instanceRegs]) (by omega)
  have hhint : off ≠ 0x5000 := fun h =>
    not_in_array (base := 0x5000) (stride := 4) (count := 1) (fields := [fL 0 6, fL 8 8, fL 16 4]) hblock
      (by simp [blockRegs, instanceRegs]) (by omega)
  have hmsix : ¬ (0x30000 ≤ off ∧ off < 0x30100) := fun h =>
    not_in_msixTable (base := 0x30000) (n := 16) (by decide) ha
      (findReg_msixRegs_of_regAt (fun h0 => by have := hi h0; omega) hlt hreg) h
  have hput := putReg_of_regAt_none s 0xFFFFFFFF val hreg
  simp only [State.blockWriteReg, Bool.and_eq_true, decide_eq_true_eq, beq_iff_eq, hdoorbell, hsq, hcq, hien, hhint, hmsix,
    if_false, hput, ite_self]

theorem pfWrite_of_regAt_none (s : State) {off : Nat} (mask val : Nat) (hlt : off < 0x01000000) (ha : off % 4 = 0)
    (hreg : regAt off = none) : s.pfWrite off mask val = (s, false) := by
  by_cases hb : off < 0x6000
  · have hblock := blockWriteReg_of_regAt_none s (i := 0) val (fun _ => hb) hlt ha (by rwa [viewKey_zero])
    simp [State.pfWrite, hb, hblock]
  · simp [State.pfWrite, hb, hreg]

/-! ### Mailbox blocks -/

theorem vf_ne_zero {s : State} {n : Fin 16} {off : Nat} (hv : s.viewHas (.vf n) off = true) : n.val ≠ 0 := by
  simp only [State.viewHas, Bool.and_eq_true, decide_eq_true_eq] at hv
  omega

theorem mbKey_eq_viewKey {s : State} {v : View} {off m o : Nat} (hv : s.viewHas v off = true)
    (hm : s.mailboxAt v off = some (m, o)) : mbKey m + o = viewKey (viewFn v) off := by
  cases v with
  | pf =>
    simp only [State.mailboxAt, Bool.and_eq_true, decide_eq_true_eq, Option.ite_none_right_eq_some, Option.some.injEq,
      Prod.mk.injEq] at hm
    obtain ⟨hrange, rfl, rfl⟩ := hm
    simp only [mbKey, viewFn, viewKey_zero, if_true]
    omega
  | vf n =>
    simp only [State.mailboxAt, mailboxOff, Bool.and_eq_true, decide_eq_true_eq, Option.ite_none_right_eq_some,
      Option.some.injEq, Prod.mk.injEq] at hm
    obtain ⟨⟨⟨hrange, -⟩, -⟩, rfl, rfl⟩ := hm
    simp only [mbKey, viewFn, viewKey, if_neg (vf_ne_zero hv)]
    omega

/-- R8: the control part of a mailbox block, outside its registers. -/
theorem mbRead_of_regAt_none (s : State) {m o : Nat} (ho : 0x200 ≤ o) (ha : (mbKey m + o) % 4 = 0)
    (hreg : regAt (mbKey m + o) = none) : s.mbRead m o = (s, 0) := by
  rw [State.mbRead, if_neg (by omega), readReg_of_regAt_none s ha hreg]

theorem regAt_doorbell_ne_none (m : Nat) : regAt (mbKey m + 0x200) ≠ none := by
  intro hreg
  by_cases h0 : m = 0
  · subst h0
    exact absurd (congrArg Option.isSome hreg) (by decide)
  · rw [show mbKey m + 0x200 = viewKey m 0x2200 by simp [mbKey, viewKey, h0], regAt_vf h0 (by decide)] at hreg
    exact absurd (congrArg Option.isSome hreg) (by decide)

theorem mbWrite_of_regAt_none (s : State) {m o : Nat} (val : Nat) (ho : 0x200 ≤ o) (hreg : regAt (mbKey m + o) = none) :
    s.mbWrite m o val = s := by
  have hdb : o ≠ 0x200 := by rintro rfl; exact regAt_doorbell_ne_none m hreg
  rw [State.mbWrite, if_neg (by omega), if_neg (by omega), if_neg hdb, putReg_of_regAt_none s _ _ hreg]

/-! ### The views -/

theorem viewHas_lt {s : State} {v : View} {off : Nat} (hv : s.viewHas v off = true) : off < 0x01000000 := by
  cases v <;> simp only [State.viewHas, Bool.and_eq_true, decide_eq_true_eq] at hv <;> omega

theorem viewKey_mod_four {i off : Nat} (ha : off % 4 = 0) : viewKey i off % 4 = 0 := by
  unfold viewKey; omega

/-- IN_STATE, which a VF's view still shows where its tenant is not ACTIVE (R415), is a register of every view. -/
theorem ne_inStateOffset {i off : Nat} (hlt : off < 0x01000000) (hreg : regAt (viewKey i off) = none) : off ≠ 0x3008 := fun h =>
  not_in_array (base := 0x3008) (stride := 4) (count := 1) (fields := [fRO 0 2, fRO 2 1])
    (findReg_blockRegs_of_regAt (fun _ => by omega) hlt hreg) (by simp [blockRegs, instanceRegs]) (by omega)

section unimplemented
variable {s : State} {v : View} {off : Nat} (hv : s.viewHas v off = true) (ha : off % 4 = 0)
  (hreg : regAt (viewKey (viewFn v) off) = none) (hmb : ∀ m o, s.mailboxAt v off = some (m, o) → 0x200 ≤ o)
include hv ha hreg hmb

/-- R8: what a view reads where it implements nothing. -/
theorem viewRead_unimplemented : s.viewRead v off 4 = (s, 0) := by
  cases hat : s.mailboxAt v off with
  | some p =>
    obtain ⟨m, o⟩ := p
    have hkey := mbKey_eq_viewKey hv hat
    have hread : s.mbRead m o = (s, 0) :=
      mbRead_of_regAt_none s (hmb m o hat) (by rw [hkey]; exact viewKey_mod_four ha) (by rwa [hkey])
    simp [State.viewRead, hat, ha, hread]
  | none =>
    have hstat := ne_inStateOffset (viewHas_lt hv) hreg
    have hread := readReg_of_regAt_none s (viewKey_mod_four ha) hreg
    cases v with
    | pf =>
      rw [viewFn, viewKey_zero] at hread
      simp [State.viewRead, hat, ha, hstat, viewFn, hread]
    | vf n =>
      rw [viewFn] at hread
      simp [State.viewRead, hat, ha, hstat, viewFn, vf_ne_zero hv, hread]

/-- R8: a write of a view where it implements nothing. -/
theorem doRegWrite_unimplemented (val : Nat) : doRegWrite v off 4 val s = s := by
  have hlt := viewHas_lt hv
  cases hat : s.mailboxAt v off with
  | some p =>
    obtain ⟨m, o⟩ := p
    have hwrite : s.mbWrite m o val = s :=
      mbWrite_of_regAt_none s val (hmb m o hat) (by rwa [mbKey_eq_viewKey hv hat])
    simp [doRegWrite, hv, hat, ha, hwrite]
  | none =>
    cases v with
    | pf =>
      rw [viewFn, viewKey_zero] at hreg
      have hwrite := pfWrite_of_regAt_none s 0xFFFFFFFF val hlt ha hreg
      simp [doRegWrite, hv, hat, ha, viewFn, hwrite]
    | vf n =>
      have hn := vf_ne_zero hv
      have hwrite : s.blockWriteReg n.val off val = s :=
        blockWriteReg_of_regAt_none s val (fun h0 => absurd h0 hn) hlt ha hreg
      simp [doRegWrite, hv, hat, ha, viewFn, hn, hwrite]

end unimplemented

/-- Settles O25: where a view has no register and no mailbox area, a read gives 0 and a write leaves the state as it is. -/
theorem unimplementedOffsets : Obligations.UnimplementedOffsets := by
  intro s v off val hv ha hreg hmb
  have hread : doViewRead v off 4 s = s.emit .regData (viewFn v) off (leBytes 4 0) := by
    simp [doViewRead, hv, viewRead_unimplemented hv ha hreg hmb]
  exact ⟨congrArg Host.Outcome.next hread, congrArg Host.Outcome.next hread,
    congrArg Host.Outcome.next (doRegWrite_unimplemented hv ha hreg hmb val.toNat)⟩

end Sys2Proof.Machine
end

section
/-! PROOFS. The Weir's work for one stream (spec/01 R24, R29 to R31, R44): what `weirStream` does with a stream's head, one
lemma per case, and what one release takes and sends. -/
namespace Sys2Proof.Machine

/-! ### Release times (R31) -/

theorem relPassed_eq_false_iff (s : State) (rel : Nat) : s.relPassed rel = false ↔ sub48 rel s.tb.count ≤ 2 ^ 47 - 1 := by
  rw [State.relPassed, decide_eq_false_iff_not]
  omega

theorem sub48_eq_zero_iff (a b : Nat) : sub48 a b = 0 ↔ a % 2 ^ 48 = b % 2 ^ 48 := by
  unfold sub48
  omega

/-! ### The head of a stream (R29) -/

theorem weirHead_of_filter {s : State} {stream : Nat} {e : WeirEntry} {es : List WeirEntry}
    (hq : s.weir.filter (fun x => x.stream == stream) = e :: es) : s.weirHead stream = some e := by
  rw [State.weirHead, ← List.head?_filter, hq, List.head?_cons]

/-- A new value of the head, at the head's own key, is the head. -/
theorem weirHead_weirSet {s : State} {stream : Nat} {e d : WeirEntry} (he : s.weirHead stream = some e)
    (hs : d.stream = e.stream) (hg : d.gseq = e.gseq) (hb : d.sub = e.sub) :
    (s.weirSet d).weirHead stream = some d := by
  have hsame : (fun x : WeirEntry => x.stream == stream) ∘
      (fun x => if x.stream == d.stream && x.gseq == d.gseq && x.sub == d.sub then d else x) = fun x => x.stream == stream := by
    funext x
    simp only [Function.comp_apply]
    split <;> simp_all
  have hfind : s.weir.find? (fun x => x.stream == stream) = some e := he
  simp only [State.weirHead, State.weirSet, List.find?_map, hsame, hfind]
  simp [hs, hg, hb]

theorem weirRestart_of_none {s : State} {stream : Nat} (hr : (NatMap.get {} s.seqs stream).restart = none) :
    s.weirRestart stream = s := by
  simp [State.weirRestart, hr]

/-! ### Eligibility and permission to release (R30, R457) -/

/-- R30: a head without a release time is never late. -/
theorem becomeEligible_untimed {s : State} {e : WeirEntry} {h : Header} {p : List Byte} {l : Bool} (hrel : h.hasRel = false) :
    s.becomeEligible e h p l = s.weirSet { e with gate := some s.gateMark } := by
  simp [State.becomeEligible, hrel]

theorem gateOpen_of_mode {s : State} (hm : s.mode ≠ .lead) (m : Nat) : s.gateOpen m = true := by
  simp [State.gateOpen, hm]

theorem mayRelease_iff {s : State} {e : WeirEntry} {h : Header} {m : Nat} (hg : e.gate = some m) :
    s.mayRelease e h = true ↔ s.gateOpen m = true ∧
      (h.hasRel = false ∨ h.late = true ∨ s.relPassed h.rel = true ∨ h.rel % 2 ^ 48 = s.tb.count % 2 ^ 48 ∨
        (s.mode = .replay ∧ s.bit 0x003B0080 0 = false)) := by
  simp only [State.mayRelease, hg, Bool.and_eq_true, Bool.or_eq_true, Bool.not_eq_true', beq_iff_eq, sub48_eq_zero_iff, or_assoc]

/-! ### The cases of the Weir's work (R29, R30) -/

section heads
variable {s : State} {stream : Nat} {e : WeirEntry} (hr : (NatMap.get {} s.seqs stream).restart = none)
  (he : s.weirHead stream = some e)
include hr he

/-- R29: a pending entry or a tail placeholder holds its stream. -/
theorem weirStream_awaited (hi : e.item = .pending ∨ e.item = .tail) (n : Nat) : s.weirStream stream (n + 1) = s := by
  rcases hi with hi | hi <;> simp [State.weirStream, weirRestart_of_none hr, he, hi]

variable {h : Header} {p : List Byte} {l : Bool} (hi : e.item = .cell h p l)
include hi

/-- R29: a cell that H has not passed holds its stream. -/
theorem weirStream_beyond_horizon (hb : before48 e.gseq s.horizon = false) (n : Nat) : s.weirStream stream (n + 1) = s := by
  simp [State.weirStream, weirRestart_of_none hr, he, hi, hb]

variable (hb : before48 e.gseq s.horizon = true)
  (hk : h.kind = .hole ∨ s.entryChk (s.epochOf h.repoch) (streamAddr stream) (some h.gseq) = (s, false))
include hb hk

/-- A head that has been eligible before is released when it may be, and the work goes on with the next. -/
theorem weirStream_gated {m : Nat} (hg : e.gate = some m) (n : Nat) : s.weirStream stream (n + 1) =
    if s.mayRelease e h then (s.weirRelease e h p).weirStream stream n else s := by
  rcases hk with hk | hk <;> simp [State.weirStream, weirRestart_of_none hr, he, hi, hb, hk, hg]

/-- R30: a head that has not been eligible before becomes so first, and is then released when it may be. -/
theorem weirStream_ungated (hg : e.gate = none) {d : WeirEntry} {h' : Header} {p' : List Byte} {l' : Bool}
    (hd : (s.becomeEligible e h p l).weirHead stream = some d) (hdi : d.item = .cell h' p' l') (n : Nat) :
    s.weirStream stream (n + 1) =
      if (s.becomeEligible e h p l).mayRelease d h' then
        ((s.becomeEligible e h p l).weirRelease d h' p').weirStream stream n
      else s.becomeEligible e h p l := by
  rcases hk with hk | hk <;> simp [State.weirStream, weirRestart_of_none hr, he, hi, hb, hk, hg, hd, hdi]

end heads

/-! ### The command on a stream whose queue is known -/

theorem exec_weirReleaseDue (s : State) (stream : Fin 4096) :
    exec (.weirReleaseDue stream) s =
      .next (s.weirStream stream (s.weir.filter fun e => e.stream == stream.val).length) := by
  rfl

theorem exec_weirReleaseDue_cons {s : State} {stream : Fin 4096} {e : WeirEntry} {es : List WeirEntry}
    (hq : s.weir.filter (fun x => x.stream == stream.val) = e :: es) :
    exec (.weirReleaseDue stream) s = .next (s.weirStream stream (es.length + 1)) := by
  rw [exec_weirReleaseDue, hq, List.length_cons]

/-! ### What one release takes and sends (R20, R24) -/

theorem payloadUe_of_len_zero (s : State) {h : Header} (hl : h.len = 0) : s.payloadUe h = (s, false) := by
  simp [State.payloadUe, hl]

@[simp] theorem blackBox_supQueue (s : State) (h : Header) (b : Bool) : (s.blackBox h b).supQueue = s.supQueue := by
  unfold State.blackBox
  extract_lets
  split <;> rfl
@[simp] theorem blackBox_seqs (s : State) (h : Header) (b : Bool) : (s.blackBox h b).seqs = s.seqs := by
  unfold State.blackBox
  extract_lets
  split <;> rfl
@[simp] theorem blackBox_weir (s : State) (h : Header) (b : Bool) : (s.blackBox h b).weir = s.weir := by
  unfold State.blackBox
  extract_lets
  split <;> rfl

@[simp] theorem digestAdd_supQueue (s : State) (h : Header) (p : List Byte) : (s.digestAdd h p).supQueue = s.supQueue := rfl
@[simp] theorem digestAdd_seqs (s : State) (h : Header) (p : List Byte) : (s.digestAdd h p).seqs = s.seqs := rfl
@[simp] theorem digestAdd_weir (s : State) (h : Header) (p : List Byte) : (s.digestAdd h p).weir = s.weir := rfl

@[simp] theorem weirDel_supQueue (s : State) (stream gseq sub : Nat) : (s.weirDel stream gseq sub).supQueue = s.supQueue := rfl
@[simp] theorem weirDel_seqs (s : State) (stream gseq sub : Nat) : (s.weirDel stream gseq sub).seqs = s.seqs := rfl

theorem mem_weirDel {s : State} {stream gseq sub : Nat} {d : WeirEntry} :
    d ∈ (s.weirDel stream gseq sub).weir ↔ d ∈ s.weir ∧ ¬(d.stream = stream ∧ d.gseq = gseq ∧ d.sub = sub) := by
  simp only [State.weirDel, State.pbufFree, List.mem_filter, Bool.not_eq_true', ← Bool.not_eq_true, Bool.and_eq_true, beq_iff_eq,
    and_assoc]

@[simp] theorem modCell_supQueue (s : State) (g : Nat) (f : Cell → Cell) : (s.modCell g f).supQueue = s.supQueue := rfl

/-- R24: a release of a cell without payload in the packet buffer takes the entry from the Weir, gives the cell the stream's
next ESEQ and epoch bit, advances ESEQ, and sends the cell to its egress. -/
theorem weirRelease_routes (s : State) (e : WeirEntry) {h : Header} (p : List Byte) (hk : h.kind ≠ .hole) (hl : h.len = 0)
    {q : StreamSeq} (hq : q = NatMap.get {} s.seqs e.stream) :
    ∃ t : State, s.weirRelease e h p = t.route e.entry { h with eseq := q.eseq, eepoch := q.epoch } p false ∧
      t.supQueue = s.supQueue ∧
      t.seqs = NatMap.put {} s.seqs e.stream { q with eseq := (q.eseq + 1) % 0x10000 } ∧
      t.weir = (s.weirDel e.stream e.gseq e.sub).weir := by
  subst hq
  simp only [State.weirRelease, payloadUe_of_len_zero s hl, beq_iff_eq, hk, if_false, Bool.false_and, Bool.false_eq_true]
  exact ⟨_, rfl, by simp, by simp, by simp⟩

/-- R19, R20: a cell for the Supervisor goes to its input queue. -/
theorem route_supervisor (s : State) (entry : Nat) {h : Header} (p : List Byte) (b : Bool) (he : h.egress = 0x5000) :
    s.route entry h p b = s.supRelease h p := by
  simp [State.route, he, badEgress]

theorem supRelease_of_room {s : State} (h : Header) (p : List Byte) (hroom : s.supQueue.length < 64) :
    s.supRelease h p = { s with supQueue := s.supQueue ++ [(h, p)] } := by
  rw [State.supRelease, if_neg (by omega)]

/-- Settles O17: the Weir's work for one stream, by the head that it finds, and one release to the Supervisor. -/
theorem weirReleases : Obligations.WeirReleases := by
  intro s stream hr
  refine ⟨relPassed_eq_false_iff s, ?none, ?awaited, ?horizon, ?early, ?due, ?eligible, ?release⟩
  case none =>
    intro hq
    rw [exec_weirReleaseDue, hq, List.length_nil, State.weirStream, weirRestart_of_none hr]
  case awaited =>
    intro e es hq hi
    rw [exec_weirReleaseDue_cons hq, weirStream_awaited hr (weirHead_of_filter hq) hi]
  case horizon =>
    intro e es h p l hq hi hb
    rw [exec_weirReleaseDue_cons hq, weirStream_beyond_horizon hr (weirHead_of_filter hq) hi hb]
  case early =>
    intro e es h p l m hq hi hb hk hg hmode hrel hlate hpass hnow
    have hwait : ¬ s.mayRelease e h = true := by
      simpa [mayRelease_iff hg, hmode, hrel, hlate, hpass] using fun _ => hnow
    rw [exec_weirReleaseDue_cons hq, weirStream_gated hr (weirHead_of_filter hq) hi hb hk hg, if_neg hwait]
  case due =>
    intro e h p l m hq hi hb hk hg hopen hdue
    have hmay : s.mayRelease e h = true := (mayRelease_iff hg).mpr ⟨hopen, hdue.imp_right (·.imp_right (·.imp_right .inl))⟩
    rw [exec_weirReleaseDue_cons hq, weirStream_gated hr (weirHead_of_filter hq) hi hb hk hg, if_pos hmay]
    rfl
  case eligible =>
    intro e h p l hq hi hg hb hk hrel hmode
    have he := weirHead_of_filter hq
    have hset := becomeEligible_untimed (s := s) (e := e) (p := p) (l := l) hrel
    have hd : (s.becomeEligible e h p l).weirHead stream = some { e with gate := some s.gateMark } := by
      rw [hset]
      exact weirHead_weirSet he rfl rfl rfl
    have hopen : (s.becomeEligible e h p l).gateOpen s.gateMark = true := by
      rw [hset]
      exact gateOpen_of_mode hmode _
    have hmay := (mayRelease_iff (e := { e with gate := some s.gateMark }) rfl).mpr ⟨hopen, .inl hrel⟩
    refine ⟨_, _, hd, hi, ?_, rfl⟩
    rw [exec_weirReleaseDue_cons hq, weirStream_ungated hr he hi hb hk hg hd hi, if_pos hmay]
    rfl
  case release =>
    intro e h p q hq heg hk hl hroom
    obtain ⟨t, hsend, hsup, hseqs, hweir⟩ := weirRelease_routes s e p hk hl hq
    have hqueue := (hsend.trans (route_supervisor t e.entry p false heg)).trans (supRelease_of_room _ p (by rwa [hsup]))
    refine ⟨_, hqueue, by rw [hsup], by simp [hseqs], ?_⟩
    intro d hd hstream hkey
    rw [hweir, mem_weirDel] at hd
    exact hd.2 ⟨hstream, hkey⟩

end Sys2Proof.Machine
end

section
/-! PROOFS. The Shoal lookup (spec/05 R165, R166): the candidate of a bank is the entry with the lowest index among its matches, the
pick takes the first of the candidates of highest PRIO, and a lookup in a state without marked errors is that pick. -/
namespace Sys2Proof.Machine

/-! ### The first match of a map with rising keys -/

section keys
variable {α : Type} {m : NatMap α}

theorem NatMap.le_key_of_wfFrom [DecidableEq α] {d : α} {a : Nat} (h : NatMap.wfFrom d a m = true) {x : Nat × α} (hx : x ∈ m) :
    a ≤ x.1 := by
  induction m generalizing a with
  | nil => cases hx
  | cons e m ih =>
    simp only [NatMap.wfFrom, Bool.and_eq_true, decide_eq_true_eq] at h
    obtain ⟨⟨hlo, -⟩, hrest⟩ := h
    rcases List.mem_cons.mp hx with rfl | hx
    · exact hlo
    · have := ih hrest hx
      omega

theorem NatMap.keys_rise_of_wfFrom [DecidableEq α] {d : α} {a : Nat} (h : NatMap.wfFrom d a m = true) :
    m.Pairwise fun x y => x.1 < y.1 := by
  induction m generalizing a with
  | nil => exact .nil
  | cons e m ih =>
    simp only [NatMap.wfFrom, Bool.and_eq_true] at h
    exact .cons (fun y hy => NatMap.le_key_of_wfFrom h.2 hy) (ih h.2)

/-- Where the keys rise, `find?` gives the matching pair with the lowest key. -/
theorem NatMap.find?_eq_some_iff_lowest (h : m.Pairwise fun x y => x.1 < y.1) {p : Nat × α → Bool} {x : Nat × α} :
    m.find? p = some x ↔ x ∈ m ∧ p x = true ∧ ∀ y ∈ m, p y = true → x.1 ≤ y.1 := by
  induction m with
  | nil => simp
  | cons e m ih =>
    obtain ⟨hfirst, hrest⟩ := List.pairwise_cons.mp h
    cases hp : p e with
    | true =>
      rw [List.find?_cons_of_pos hp, Option.some_inj]
      constructor
      · rintro rfl
        refine ⟨List.mem_cons_self, hp, fun y hy _ => ?_⟩
        rcases List.mem_cons.mp hy with rfl | hy
        · exact Nat.le_refl _
        · exact Nat.le_of_lt (hfirst y hy)
      · rintro ⟨hx, -, hlow⟩
        rcases List.mem_cons.mp hx with rfl | hx
        · rfl
        · exact absurd (hlow e List.mem_cons_self hp) (Nat.not_le_of_lt (hfirst x hx))
    | false =>
      have hne : ∀ y, p y = true → y ≠ e := by
        rintro y hy rfl
        simp [hy] at hp
      rw [List.find?_cons_of_neg (by simp [hp]), ih hrest]
      constructor
      · rintro ⟨hx, hpx, hlow⟩
        exact ⟨List.mem_cons_of_mem e hx, hpx, fun y hy hpy => hlow y (List.mem_of_ne_of_mem (hne y hpy) hy) hpy⟩
      · rintro ⟨hx, hpx, hlow⟩
        exact ⟨List.mem_of_ne_of_mem (hne x hpx) hx, hpx, fun y hy => hlow y (List.mem_cons_of_mem e hy)⟩

end keys

/-! ### Matching (R165) and the candidates of the banks (R166, rule 1) -/

theorem shMatches_iff {e key : Nat} :
    shMatches e key = true ↔ bitAt e 416 = true ∧ (key ^^^ bitsOf e 0 192) &&& bitsOf e 192 192 = 0 := by
  simp [shMatches, shValid, shValue, shMask]

theorem mem_shoalCands {t : NatMap Nat} {banks : Nat → Nat} {key b r : Nat} :
    (b, r) ∈ shoalCands t banks key ↔ b < 8 ∧ bitAt (banks b) 3 = true ∧
      ∃ x, t.find? (fun x => x.1 / 512 == b && shMatches x.2 key) = some x ∧ shResult x.2 = r := by
  simp only [shoalCands, upTo, List.mem_filterMap, List.mem_range]
  constructor
  · rintro ⟨b', hlt, hcand⟩
    split at hcand
    next hen =>
      obtain ⟨x, hfind, hx⟩ := Option.map_eq_some_iff.mp hcand
      obtain ⟨rfl, hres⟩ := Prod.mk.inj hx
      exact ⟨hlt, hen, x, hfind, hres⟩
    next => cases hcand
  · rintro ⟨hlt, hen, x, hfind, hres⟩
    exact ⟨b, hlt, by rw [if_pos hen, hfind, Option.map_some, hres]⟩

theorem mem_shoalCands_iff_lowest {t : NatMap Nat} (ht : NatMap.wf 0 t = true) {banks : Nat → Nat} {key b r : Nat} :
    (b, r) ∈ shoalCands t banks key ↔ b < 8 ∧ bitAt (banks b) 3 = true ∧ ∃ i e, i / 512 = b ∧ (i, e) ∈ t ∧
      shMatches e key = true ∧ r = bitsOf e 384 32 ∧ ∀ j f, (j, f) ∈ t → j / 512 = b → shMatches f key = true → i ≤ j := by
  rw [mem_shoalCands]
  simp only [NatMap.find?_eq_some_iff_lowest (NatMap.keys_rise_of_wfFrom ht), Bool.and_eq_true, beq_iff_eq, Prod.exists, Prod.forall]
  refine and_congr_right fun _ => and_congr_right fun _ => exists_congr fun i => exists_congr fun e => ?_
  constructor
  · rintro ⟨⟨hmem, ⟨hbank, hmatch⟩, hlow⟩, hres⟩
    exact ⟨hbank, hmem, hmatch, hres.symm, fun j f hj hb hf => hlow j f hj ⟨hb, hf⟩⟩
  · rintro ⟨hbank, hmem, hmatch, hres, hlow⟩
    exact ⟨⟨hmem, ⟨hbank, hmatch⟩, fun j f hj hf => hlow j f hj hf.1 hf.2⟩, hres.symm⟩

/-! ### The pick (R166, rules 2 and 3) -/

section pick
variable (banks : Nat → Nat)

/-- PRIO of a candidate's bank. -/
def shPrio (x : Nat × Nat) : Nat := bitsOf (banks x.1) 0 3

/-- The highest PRIO among the candidates, 0 where there is none. -/
def shTop (c : List (Nat × Nat)) : Nat := c.foldl (fun m x => max m (shPrio banks x)) 0

/-- The candidates that share the highest PRIO, in the order of the list. -/
def shLeaders (c : List (Nat × Nat)) : List (Nat × Nat) := c.filter fun x => shPrio banks x == shTop banks c

variable {banks}

theorem foldl_max_le_iff {α : Type} (f : α → Nat) {c : List α} {a n : Nat} :
    c.foldl (fun m x => max m (f x)) a ≤ n ↔ a ≤ n ∧ ∀ x ∈ c, f x ≤ n := by
  induction c generalizing a with
  | nil => simp
  | cons y c ih => rw [List.foldl_cons, ih, Nat.max_le, and_assoc, List.forall_mem_cons]

theorem shTop_le_iff {c : List (Nat × Nat)} {n : Nat} : shTop banks c ≤ n ↔ ∀ x ∈ c, shPrio banks x ≤ n := by
  rw [shTop, foldl_max_le_iff]
  exact and_iff_right (Nat.zero_le n)

theorem shPrio_le_shTop {c : List (Nat × Nat)} {x : Nat × Nat} (hx : x ∈ c) : shPrio banks x ≤ shTop banks c :=
  shTop_le_iff.mp (Nat.le_refl _) x hx

theorem mem_shLeaders {c : List (Nat × Nat)} {x : Nat × Nat} :
    x ∈ shLeaders banks c ↔ x ∈ c ∧ ∀ y ∈ c, shPrio banks y ≤ shPrio banks x := by
  rw [shLeaders, List.mem_filter, beq_iff_eq]
  refine and_congr_right fun hx => ?_
  rw [← shTop_le_iff]
  exact ⟨fun htop => Nat.le_of_eq htop.symm, Nat.le_antisymm (shPrio_le_shTop hx)⟩

/-- Were there no leader, every PRIO would be below the highest, and so would the highest. -/
theorem shLeaders_eq_nil_iff {c : List (Nat × Nat)} : shLeaders banks c = [] ↔ c = [] := by
  constructor
  · intro hnone
    have hne : ∀ x ∈ c, shPrio banks x ≠ shTop banks c := fun x hx =>
      mt beq_iff_eq.mpr (List.filter_eq_nil_iff.mp hnone x hx)
    have hlt : ∀ x ∈ c, shPrio banks x < shTop banks c := fun x hx => Nat.lt_of_le_of_ne (shPrio_le_shTop hx) (hne x hx)
    have hpred : shTop banks c ≤ shTop banks c - 1 := shTop_le_iff.mpr fun x hx => Nat.le_sub_one_of_lt (hlt x hx)
    refine List.eq_nil_iff_forall_not_mem.mpr fun x hx => ?_
    have := hlt x hx
    omega
  · rintro rfl
    rfl

/-- The leaders stand in the order of their banks. -/
theorem shLeaders_banks_rise {c : List (Nat × Nat)} (hc : c.Pairwise fun x y => x.1 < y.1) :
    (shLeaders banks c).Pairwise fun x y => x.1 < y.1 :=
  hc.filter _

theorem shoalPick_of_no_leader {c : List (Nat × Nat)} (h : shLeaders banks c = []) : shoalPick banks c = none := by
  unfold shLeaders shTop shPrio at h
  simp only [shoalPick, h]

theorem shoalPick_of_leaders {c l : List (Nat × Nat)} {x : Nat × Nat} (h : shLeaders banks c = x :: l) :
    shoalPick banks c = some (x.2, !l.isEmpty) := by
  unfold shLeaders shTop shPrio at h
  cases l <;> simp only [shoalPick, h, List.isEmpty_nil, List.isEmpty_cons, Bool.not_true, Bool.not_false]

theorem shoalPick_eq_none_iff {c : List (Nat × Nat)} : shoalPick banks c = none ↔ c = [] := by
  rw [← shLeaders_eq_nil_iff (banks := banks)]
  refine ⟨fun hnone => ?_, shoalPick_of_no_leader⟩
  cases hl : shLeaders banks c with
  | nil => rfl
  | cons x l => simp [shoalPick_of_leaders hl] at hnone

theorem shoalPick_eq_some_iff {c : List (Nat × Nat)} {r : Nat} {tie : Bool} :
    shoalPick banks c = some (r, tie) ↔ ∃ b l, shLeaders banks c = (b, r) :: l ∧ tie = !l.isEmpty := by
  constructor
  · intro hpick
    cases hl : shLeaders banks c with
    | nil => simp [shoalPick_of_no_leader hl] at hpick
    | cons x l =>
      obtain ⟨rfl, rfl⟩ := Prod.mk.inj (Option.some.inj ((shoalPick_of_leaders hl).symm.trans hpick))
      exact ⟨x.1, l, rfl, rfl⟩
  · rintro ⟨b, l, hl, rfl⟩
    exact shoalPick_of_leaders hl

section leaders
variable {c l : List (Nat × Nat)} {b r : Nat} (hl : shLeaders banks c = (b, r) :: l)
include hl

theorem first_leader_has_top_prio : (b, r) ∈ c ∧ ∀ y ∈ c, shPrio banks y ≤ shPrio banks (b, r) :=
  mem_shLeaders.mp (hl ▸ List.mem_cons_self)

variable (hc : c.Pairwise fun x y => x.1 < y.1)
include hc

theorem first_leader_bank_lt {x : Nat × Nat} (hx : x ∈ l) : b < x.1 := by
  have hrise := shLeaders_banks_rise (banks := banks) hc
  rw [hl] at hrise
  exact (List.pairwise_cons.mp hrise).1 x hx

/-- The first leader has the lowest bank among the candidates of its PRIO. -/
theorem le_bank_of_first_leader {x : Nat × Nat} (hx : x ∈ c) (hprio : shPrio banks x = shPrio banks (b, r)) : b ≤ x.1 := by
  have hlead : x ∈ shLeaders banks c := mem_shLeaders.mpr ⟨hx, fun y hy => hprio ▸ (first_leader_has_top_prio hl).2 y hy⟩
  rw [hl] at hlead
  rcases List.mem_cons.mp hlead with rfl | hlead
  · exact Nat.le_refl _
  · exact Nat.le_of_lt (first_leader_bank_lt hl hc hlead)

/-- A second leader stands for two banks that share the highest PRIO. -/
theorem second_leader_iff_shared :
    l ≠ [] ↔ ∃ x ∈ c, ∃ y ∈ c, x.1 ≠ y.1 ∧ shPrio banks x = shPrio banks y ∧ ∀ z ∈ c, shPrio banks z ≤ shPrio banks x := by
  constructor
  · intro hne
    obtain ⟨y, l, rfl⟩ := List.exists_cons_of_ne_nil hne
    obtain ⟨hx, hxmax⟩ := first_leader_has_top_prio hl
    obtain ⟨hy, hymax⟩ := mem_shLeaders.mp (show y ∈ shLeaders banks c by simp [hl])
    have hbank := first_leader_bank_lt hl hc List.mem_cons_self
    exact ⟨(b, r), hx, y, hy, Nat.ne_of_lt hbank, Nat.le_antisymm (hymax _ hx) (hxmax _ hy), hxmax⟩
  · rintro ⟨x, hx, y, hy, hbank, hprio, hmax⟩ rfl
    have hxlead := mem_shLeaders.mpr ⟨hx, hmax⟩
    have hylead := mem_shLeaders.mpr ⟨hy, fun z hz => hprio ▸ hmax z hz⟩
    rw [hl, List.mem_singleton] at hxlead hylead
    exact hbank (by rw [hxlead, hylead])

end leaders

end pick

/-! ### The lookup (R166) -/

section lookup
variable {s : State} (hecc : s.ecc = []) {key : Nat} {c : List (Nat × Nat)}
  (hc : c = shoalCands s.tables.shoal (fun b => s.regW (shBank b)) key)
include hecc

theorem shoalChkAll_clean : s.shoalChkAll = s := by
  rw [State.shoalChkAll, badGranules_clean hecc, List.foldl_nil]

include hc

theorem shoalLookup_of_pick {r : Nat} {tie : Bool} (hpick : shoalPick (fun b => s.regW (shBank b)) c = some (r, tie)) :
    s.shoalLookup (some key) = (if tie then s.bump 0x001B0040 else s, putBits r 24 1 (b2n tie)) := by
  subst hc
  cases tie <;> simp [State.shoalLookup, shoalChkAll_clean hecc, hpick, b2n]

theorem shoalLookup_of_no_candidate (hnone : c = []) :
    s.shoalLookup (some key) = (s.bump 0x001B0044, putBits (s.regW shNoMatch) 24 1 0) := by
  have hpick := (shoalPick_eq_none_iff (banks := fun b => s.regW (shBank b))).mpr (hc.symm.trans hnone)
  simp [State.shoalLookup, shoalChkAll_clean hecc, hpick]

end lookup

/-- Settles O28: the match, the candidates as the lowest matches of their banks, the pick as the first of the leaders, and the
lookup as that pick. -/
theorem shoalLookup : Obligations.ShoalLookup := by
  refine ⟨fun _ _ => shMatches_iff, ?allZeroMask, fun _ _ _ _ _ ht => mem_shoalCands_iff_lowest ht, ?pick,
    fun _ _ => shoalPick_eq_none_iff, ?lookup⟩
  case allZeroMask =>
    intro e key hvalid hmask
    exact shMatches_iff.mpr ⟨hvalid, by rw [hmask, Nat.and_zero]⟩
  case pick =>
    intro banks c r tie hc hpick
    obtain ⟨b, l, hl, rfl⟩ := shoalPick_eq_some_iff.mp hpick
    obtain ⟨hmem, hmax⟩ := first_leader_has_top_prio hl
    refine ⟨⟨b, hmem, hmax, fun x hx hprio => le_bank_of_first_leader hl hc hx hprio⟩, ?_⟩
    rw [Bool.not_eq_true', ← Bool.not_eq_true, List.isEmpty_iff]
    exact second_leader_iff_shared hl hc
  case lookup =>
    intro s key hecc c hc
    exact ⟨fun r hpick => shoalLookup_of_pick hecc hc hpick, fun r hpick => shoalLookup_of_pick hecc hc hpick,
      shoalLookup_of_no_candidate hecc hc⟩

end Sys2Proof.Machine
end
section
/-! PROOFS. The block as a whole: steps, runs, the empty queue, the reset state, and what a word's fetch and write-back leave
(spec/00, spec/02 R57, spec/06, spec/08, spec/17 R532). -/
namespace Sys2Proof.Machine

/-! ### Steps and runs -/

/-- Settles O55: `step` is by definition the front command on the state with the rest of the queue. -/
theorem stepRunsFront : Obligations.StepRunsFront := by
  intro s c rest hq
  simp [step, hq]

/-- Every arm of the dispatch answers a next state. -/
theorem exec_next (s : State) (i : Instr) : ∃ t, exec i s = .next t := by
  cases i <;> exact ⟨_, rfl⟩

theorem step_next (s : State) : ∃ t, step s = .next t := by
  unfold step
  split
  · exact ⟨_, rfl⟩
  · exact exec_next _ _

theorem completes_all (k : Nat) : ∀ s : State, completes k s := by
  induction k with
  | zero => exact fun s => ⟨s, rfl⟩
  | succ k ih =>
    intro s
    obtain ⟨t, ht⟩ := step_next s
    obtain ⟨t', ht'⟩ := ih t
    exact ⟨t', by simp only [Host.Core.run]; rw [show core.step s = .next t from ht]; exact ht'⟩

/-- Settles O59: every command answers a next state, so by induction on their number every sequence of steps completes. -/
theorem everyRunCompletes : Obligations.EveryRunCompletes := ⟨exec_next, fun s k => completes_all k s⟩

/-! ### The empty queue (R57, R62) -/

theorem tbTick_stopped {s : State} (h : s.tb.running = false) : s.tbTick = s := by simp [State.tbTick, h]

/-- Outside HOLD_REF a tick adds 1 ns and the rate to the accumulator. -/
theorem tbTick_running {s : State} {acc : Nat} (h : s.tb.running = true) (hs : s.tb.state ≠ .holdRef)
    (hacc : (acc : Int) = ((s.tb.count * 2 ^ 32 + s.tb.frac : Nat) : Int) + 2 ^ 32 + s.tb.rate) :
    s.tbTick = { s with tb := { s.tb with count := acc / 2 ^ 32, frac := acc % 2 ^ 32 } } := by
  have hb : (s.tb.state == .holdRef) = false := by simpa using hs
  simp only [State.tbTick, h, hb, if_true, Bool.false_eq_true, if_false, ← hacc, Int.toNat_natCast]

/-- Settles O56: on an empty queue only the clock and the Timebase's accumulator move. -/
theorem emptyQueueTicks : Obligations.EmptyQueueTicks := by
  intro s hq
  refine ⟨by simp [step, hq], rfl, fun hr => by rw [State.elapse, tbTick_stopped hr], ?running⟩
  case running =>
    intro hr hs hrate
    obtain ⟨acc, hacc⟩ := Int.eq_ofNat_of_zero_le
      (show 0 ≤ ((s.tb.count * 2 ^ 32 + s.tb.frac : Nat) : Int) + 2 ^ 32 + s.tb.rate by omega)
    rw [State.elapse, tbTick_running hr hs hacc.symm]
    refine ⟨Nat.mod_lt _ (by decide), ?_⟩
    simp only []
    omega

/-! ### The reset state (R532) -/

theorem regW_reset {k : Nat} (h : k ≠ 0x00370024) : State.reset.regW k = regReset k := by
  simp [State.regW, State.reset, NatMap.get, h]

/-- Settles O57. -/
theorem resetState : Obligations.ResetState := by
  rintro s rfl
  refine ⟨rfl, rfl, rfl, rfl, rfl, rfl, rfl, rfl, rfl, rfl, rfl, rfl, rfl, rfl, rfl, rfl, rfl, fun k => regW_reset,
    by simp [State.regW, State.reset, NatMap.get], fun i hi => by simp [State.instAt, State.reset, NatMap.get, hi], by decide⟩

/-! ### Fetches and write-backs (spec/06, spec/08) -/

theorem egFetch_clean {s s' : State} {u : EgUnit} {x : EgCore} {w : Nat} (hecc : s.ecc = [])
    (h : s.egFetch u x = (s', .word w)) : s' = s := by
  cases u <;> simp only [State.egFetch, rdChk_clean hecc] at h <;> split at h <;> simp_all

theorem caFetch_clean {s s' : State} {k : Kernel} {w : Nat} (hecc : s.ecc = []) (h : s.caFetch k = (s', .ok w)) : s' = s := by
  simp only [State.caFetch, rdChk_clean hecc] at h
  split at h <;> simp_all

theorem heronAt_setCore_thread (s : State) (c : Fin 6) (t : Fin 32) (x : EgCore) (k : Nat) :
    (s.setCore (.thread c t) x).heronAt k = s.heronAt k := by
  simp only [State.setCore, State.modThread]; split <;> rfl

theorem threadAt_setCore_ne (s : State) {u : EgUnit} {c : Fin 6} {t : Fin 32} (x : EgCore) (h : u ≠ .thread c t) :
    (s.setCore u x).threadAt c t = s.threadAt c t := by
  cases u with
  | heron k => simp only [State.setCore]; split <;> rfl
  | thread c' t' =>
    simp only [State.setCore, State.modThread]
    split
    · refine State.threadAt_setThread_ne _ _ fun e => h ?_
      obtain ⟨rfl, rfl⟩ := egId_inj e
      rfl
    · rfl

theorem heronAt_setCore_ne (s : State) {u : EgUnit} {k : Fin 16} (x : EgCore) (h : u ≠ .heron k) :
    (s.setCore u x).heronAt k = s.heronAt k := by
  cases u with
  | thread c t => exact heronAt_setCore_thread ..
  | heron k' =>
    have hk : (k : Nat) ≠ k' := fun e => h (by rw [Fin.ext e])
    simp only [State.setCore]
    split
    · simp [State.heronAt, NatMap.find_ins_ne _ _ hk]
    · rfl

/-- Settles O58: a clean fetch reads without a mark, and a write-back changes one core or one group. -/
theorem wordFrames : Obligations.WordFrames := by
  refine ⟨fun s s' u x w => egFetch_clean, fun s s' k w => caFetch_clean, ?core, ?group⟩
  case core =>
    rintro s u x t rfl
    simp only [State.setCore_regs, State.setCore_mem, State.setCore_ecc, State.setCore_cells, State.setCore_weir,
      State.setCore_seqs, State.setCore_tb, State.setCore_ca, State.setCore_bf, State.setCore_mb, State.setCore_ford,
      State.setCore_td, State.setCore_out, State.setCore_pending, true_and]
    exact ⟨fun c t => threadAt_setCore_ne s x, fun k => heronAt_setCore_ne s x⟩
  case group =>
    rintro s g k t rfl
    exact ⟨rfl, rfl, rfl, rfl, rfl, rfl, rfl, rfl, rfl, rfl, rfl, rfl, rfl, rfl, fun g' h => State.kernel_setKernel_ne s k h⟩

end Sys2Proof.Machine
end

section
/-! PROOFS. Memory stays in its canonical form (spec/09 R298): what every operation of the model does to `Canon`. -/
namespace Sys2Proof.Machine

/-- Memory is in its canonical form. -/
def Canon (s : State) : Prop := Memory.wf s.mem = true

section rules
variable {s t : State} {α : Type}

/-- An update of other fields. -/
theorem Canon.upd
    {pending now fresh mode regs heldRegs stagedRegs latches tb weir seqs nextGseq cells pbufUsed supQueue supOffers td
    eth learn sgates meters blocked frer tables epoch oldTables staged lateStages commits markers errors inst sq cq pcie
    numVfs linkSpeed linkWidth wd ford eg bf ca mb mbQueue mbTaken viv sup dlogIn dlogOut bt replay tap hotN hl dozing
    passedOver sl ecc timers out} (h : Canon s) :
    Canon
      { pending, now, fresh, mode, regs, heldRegs, stagedRegs, latches, tb, weir, seqs, nextGseq, cells, pbufUsed,
        supQueue, supOffers, td, eth, learn, sgates, meters, blocked, frer, tables, epoch, oldTables, staged,
        lateStages, commits, markers, errors, inst, sq, cq, pcie, numVfs, linkSpeed, linkWidth, wd, ford, eg, bf, ca,
        mb, mbQueue, mbTaken, viv, sup, dlogIn, dlogOut, bt, replay, tap, hotN, hl, dozing, passedOver, sl, ecc, timers,
        mem := s.mem, out } := h

theorem Canon.ite {c : Prop} [Decidable c] (hs : Canon s) (ht : Canon t) : Canon (if c then s else t) := by
  split <;> assumption

theorem Canon.of_fst {p : State × α} {v : α} (e : p = (t, v)) (h : Canon p.1) : Canon t := by
  rwa [e] at h

theorem Canon.pair {v : α} (h : Canon s) : Canon (s, v).1 := h

theorem Canon.pair_snd {v : α} (h : Canon s) : Canon (v, s).2 := h

theorem Canon.ite_fst {c : Prop} [Decidable c] {p q : State × α} (hp : Canon p.1) (hq : Canon q.1) :
    Canon (if c then p else q).1 := by
  split <;> assumption

theorem Canon.ite_snd {c : Prop} [Decidable c] {p q : α × State} (hp : Canon p.2) (hq : Canon q.2) :
    Canon (if c then p else q).2 := by
  split <;> assumption

theorem Canon.foldl {f : State → α → State} {l : List α} (h : Canon s) (hf : ∀ s a, Canon s → Canon (f s a)) :
    Canon (l.foldl f s) := by
  induction l generalizing s with
  | nil => exact h
  | cons a l ih => exact ih (hf s a h)

theorem Canon.foldl_fst {β : Type} {f : State × β → α → State × β} {l : List α} {p : State × β} (h : Canon p.1)
    (hf : ∀ p a, Canon p.1 → Canon (f p a).1) : Canon (l.foldl f p).1 := by
  induction l generalizing p with
  | nil => exact h
  | cons a l ih => exact ih (hf p a h)

/-- The state that an operation answers, if it answers one, is canonical. -/
def OptCanon (o : Option State) : Prop := ∀ t, o = some t → Canon t

theorem OptCanon.none : OptCanon none := fun _ e => nomatch e

theorem OptCanon.some (h : Canon s) : OptCanon (some s) := fun _ e => Option.some.inj e ▸ h

theorem OptCanon.ite {c : Prop} [Decidable c] {o p : Option State} (ho : OptCanon o) (hp : OptCanon p) :
    OptCanon (if c then o else p) := by
  split <;> assumption

theorem Canon.of_some {o : Option State} (e : o = Option.some s) (h : OptCanon o) : Canon s := h s e

theorem Canon.getD {o : Option State} (h : Canon s) (ho : OptCanon o) : Canon (o.getD s) := by
  cases o with
  | none => exact h
  | some t => exact ho t rfl

theorem Canon.elim {o : Option α} {f : α → State} (h : Canon s) (hf : ∀ a, Canon (f a)) : Canon (o.elim s f) := by
  cases o with
  | none => exact h
  | some a => exact hf a

/-! ### The named operations over registers, counters, outputs, interrupts, memory and errors -/

theorem Canon.wr8 {a : Nat} {v : Byte} (h : Canon s) : Canon (s.wr8 a v) := wf_wr8 h a v

theorem Canon.wrBytes {a : Nat} {l : List Byte} (h : Canon s) : Canon (s.wrBytes a l) := wf_wrBytes h a l

theorem Canon.clearMem {a n : Nat} (h : Canon s) : Canon (s.clearMem a n) := wf_clearMem h a n

theorem Canon.setReg {key v : Nat} (h : Canon s) : Canon (s.setReg key v) := .upd h

theorem Canon.setFld {key lo w v : Nat} (h : Canon s) : Canon (s.setFld key lo w v) := .setReg h

theorem Canon.phaseNorm {key : Nat} (h : Canon s) : Canon (s.phaseNorm key) :=
  .ite (.ite (.upd (.setReg h)) (.setReg h)) h

theorem Canon.setBit {key i : Nat} (h : Canon s) : Canon (s.setBit key i) := .setFld h

theorem Canon.bumpBy {key n : Nat} (h : Canon s) : Canon (s.bumpBy key n) := .setReg h

theorem Canon.bump {key : Nat} (h : Canon s) : Canon (s.bump key) := .bumpBy h

theorem Canon.tick (h : Canon s) : Canon s.tick := .upd h

theorem Canon.emit {k : OutKind} {who addr : Nat} {data : List Byte} (h : Canon s) : Canon (s.emit k who addr data) :=
  .upd h

theorem Canon.modInst {i : Nat} {f : Instance → Instance} (h : Canon s) : Canon (s.modInst i f) := .upd h

theorem Canon.stamp {k : Nat} (h : Canon s) : Canon (s.stamp k) := .upd h

theorem Canon.msix {i vec : Nat} (h : Canon s) : Canon (s.msix i vec) := .ite h (.ite (.upd h) (.emit h))

theorem Canon.cause1 {i k : Nat} (h : Canon s) : Canon (s.cause1 i k) := .ite h (.ite (.msix (.setBit h)) (.setBit h))

theorem Canon.cause {i k : Nat} (h : Canon s) : Canon (s.cause i k) := .ite (.cause1 (.cause1 h)) (.cause1 h)

theorem Canon.causeAll {k : Nat} (h : Canon s) : Canon (s.causeAll k) := .foldl h (fun _ _ h3 => .ite (.cause h3) h3)

theorem Canon.faultLog {r : ErrRec} (h : Canon s) : Canon (s.faultLog r) := .ite (.upd (.wrBytes h)) (.upd (.wrBytes h))

theorem Canon.collect {r : ErrRec} (h : Canon s) : Canon (s.collect r) :=
  .ite (.ite (.ite (.faultLog h) h) (.bump (.ite (.faultLog h) h))) (.upd (.ite (.faultLog h) h))

theorem Canon.record_go {e : ErrSrc} {suppr : Nat} (h : Canon s) : Canon (State.record.go e s suppr) :=
  .collect (.upd (.bump h))

theorem Canon.record {e : ErrSrc} (h : Canon s) : Canon (s.record e) := by
  dsimp only [State.record]
  split
  · exact .ite (.upd h) (.record_go h)
  · exact .record_go h

theorem Canon.logEntry {type master : Nat} {body : List Byte} {size : Nat} (h : Canon s) :
    Canon (s.logEntry type master body size) := .ite (.upd h) h

theorem Canon.siteTake {type : Nat} {p : DEntry → Bool} (h : Canon s) : Canon (s.siteTake type p) := .upd h

/-! ### The device address map, DRAM addressing and the ECC policy of every protected memory -/

theorem Canon.refuseChannel {c : Nat} (h : Canon s) : Canon (s.refuseChannel c) := .setBit (.setBit h)

theorem Canon.checkGeometry (h : Canon s) : Canon s.checkGeometry := by
  dsimp only [State.checkGeometry]
  exact .ite (.refuseChannel (.foldl h (fun _ _ h3 => .ite (.refuseChannel h3) h3))) (.foldl h (fun _ _ h6 => .ite
      (.refuseChannel h6) h6))

theorem Canon.geometryWritten {key : Nat} (h : Canon s) : Canon (s.geometryWritten key) := .ite (.checkGeometry h) h

theorem Canon.mapErr (h : Canon s) : Canon s.mapErr := .bump (.setBit h)

theorem Canon.setEcc {a k : Nat} (h : Canon s) : Canon (s.setEcc a k) := .upd h

theorem Canon.eccCount {kind a port : Nat} (h : Canon s) : Canon (s.eccCount kind a port) := by
  dsimp only [State.eccCount]
  exact .setReg (.setReg (.setReg (.setBit (.ite (.bump (.tick h)) (.ite (.ite (.bump (.tick h)) (.bump (.tick h))) (.ite
      (.ite (.bump (.tick h)) (.bump (.tick h))) (.ite (.bump (.tick h)) (.bump (.tick h)))))))))

theorem Canon.eccNoteAs {kind a code sev : Nat} {w : Who} {port : Nat} (h : Canon s) :
    Canon (s.eccNoteAs kind a code sev w port) := .record (.eccCount h)

theorem Canon.eccNote {kind a : Nat} {w : Who} {port : Nat} (h : Canon s) : Canon (s.eccNote kind a w port) :=
  .eccNoteAs h

theorem Canon.rdChk {a n : Nat} {w : Who} {port : Nat} (h : Canon s) : Canon (s.rdChk a n w port).1 :=
  .foldl h (fun _ _ h3 => .ite (.setEcc (.eccNote h3)) (.eccNote h3))

theorem Canon.wrChk {a : Nat} {l : List Byte} {w : Who} {port : Nat} (h : Canon s) : Canon (s.wrChk a l w port).1 := by
  dsimp only [State.wrChk]
  exact .foldl (.wrBytes (.foldl h (fun _ _ h3 => .ite (.setEcc h3) (.ite (.setEcc (.eccNote h3)) (.setEcc (.eccNote
      h3)))))) (fun _ _ h6 => .wrBytes h6)

theorem Canon.rewritten {l : List (Nat × Nat)} (h : Canon s) : Canon (s.rewritten l) :=
  .foldl h (fun _ _ h3 => .ite (.setEcc h3) (.ite (.setEcc (.eccNote h3)) (.setEcc (.eccNote h3))))

theorem Canon.pbufStore {place : Nat} {payload : List Byte} (h : Canon s) : Canon (s.pbufStore place payload) :=
  .wrBytes (.upd h)

theorem Canon.pbufPoke {a n : Nat} (h : Canon s) : Canon (s.pbufPoke a n) := .ite h (.upd h)

theorem OptCanon.scrubTurn {k n period i : Nat} (h : Canon s) : OptCanon (s.scrubTurn k n period i) :=
  .ite (.some (.upd h)) .none

theorem OptCanon.ocmTurn {a : Nat} (h : Canon s) : OptCanon (s.ocmTurn a) := by
  unfold State.ocmTurn
  split
  · exact .scrubTurn h
  · exact .none

theorem Canon.scrub {a k port : Nat} (h : Canon s) : Canon (s.scrub a k port) :=
  .ite h (.ite (.setEcc (.eccNote h)) (.eccNote (.setEcc h)))

/-! ### The class S tables in the epoch of a cell, the Shoal lookup, and the learning set -/

theorem Canon.trimOld (h : Canon s) : Canon s.trimOld := .upd h

theorem Canon.tableChk {a : Nat} {gseq : Option Nat} (h : Canon s) : Canon (s.tableChk a gseq).1 := by
  unfold State.tableChk
  split
  next e4 => exact .pair (.of_fst e4 (.rdChk h))
  next e7 => exact .pair (.setEcc (.setEcc (.of_fst e7 (.rdChk h))))

theorem Canon.killIn {sel : Tables → NatMap Nat} {set : Tables → NatMap Nat → Tables} {i v : Nat} (h : Canon s) :
    Canon (s.killIn sel set i v) := .upd h

theorem Canon.killStream {i : Nat} (h : Canon s) : Canon (s.killStream i) := .killIn h

theorem Canon.killAction {i : Nat} (h : Canon s) : Canon (s.killAction i) := .killIn h

theorem Canon.killShoal {i : Nat} (h : Canon s) : Canon (s.killShoal i) := .killIn h

theorem Canon.killAt {epoch a : Nat} (h : Canon s) : Canon (s.killAt epoch a) := by
  dsimp only [State.killAt]
  exact .ite (.ite (.killStream h) (.killAction h)) (.upd h)

theorem Canon.entryChk {epoch a : Nat} {gseq : Option Nat} (h : Canon s) : Canon (s.entryChk epoch a gseq).1 := by
  unfold State.entryChk
  split
  next e3 => exact .pair (.killAt (.of_fst e3 (.tableChk h)))
  next e6 => exact .pair (.of_fst e6 (.tableChk h))

theorem Canon.keepMarks {places : List (Nat × Nat)} (h : Canon s) : Canon (s.keepMarks places) :=
  .foldl h (fun _ _ h3 => .foldl h3 (fun _ _ h6 => .setEcc h6))

theorem Canon.shoalChk {e : Nat} (h : Canon s) : Canon (s.shoalChk e) := by
  dsimp only [State.shoalChk]
  split
  · exact .foldl h (fun _ _ h5 => .setEcc (.ite (.eccNote h5) h5))
  · exact .setBit (.killShoal (.eccNote (.foldl h (fun _ _ h12 => .setEcc (.ite (.eccNote h12) h12)))))

theorem Canon.shoalChkAll (h : Canon s) : Canon s.shoalChkAll := .foldl h (fun _ _ h3 => .ite (.shoalChk h3) h3)

theorem Canon.shoalLookup {key : Option Nat} (h : Canon s) : Canon (s.shoalLookup key).1 := by
  dsimp only [State.shoalLookup]
  split
  · exact .pair (.bump (.shoalChkAll h))
  · exact .pair (.shoalChkAll h)
  · exact .pair (.bump (.shoalChkAll h))

theorem Canon.stageStation {st e : Nat} (h : Canon s) : Canon (s.stageStation st e) := .upd h

theorem Canon.putStation {st e : Nat} (h : Canon s) : Canon (s.putStation st e) := .upd h

theorem Canon.hitStation {st : Nat} (h : Canon s) : Canon (s.hitStation st) := by
  dsimp only [State.hitStation]
  split
  · exact .ite (.stageStation (.ite (.putStation h) h)) (.upd (.ite (.putStation h) h))
  · exact .ite (.putStation h) h

theorem Canon.hitOnly {st : Nat} (h : Canon s) : Canon (s.hitOnly st) := .ite (.putStation h) h

theorem OptCanon.doProbe {p : Probe} (h : Canon s) : OptCanon (s.doProbe p) := by
  dsimp only [State.doProbe]
  split
  · exact .ite (.some (.ite (.hitOnly h) (.hitStation h))) (.ite (.some (.bump h)) (.ite (.some (.hitOnly h)) (.ite .none
        (.some (.bump (.stageStation (.hitStation h)))))))
  · split
    · exact .ite (.some (.bump h)) (.ite (.some h) (.ite .none (.some (.bump (.stageStation h)))))
    · exact .some (.bump h)

theorem Canon.probeIn {p : Probe} (h : Canon s) : Canon (s.probeIn p) := .ite h (.ite (.bump h) (.upd h))

/-! ### Tideway's pin stage and Gong as shared operations: input cells, channel starts and stops -/

theorem Canon.setEnc {n : Nat} {e : Encoder} (h : Canon s) : Canon (s.setEnc n e) := .upd h

theorem Canon.setSd {n : Nat} {e : StepDir} (h : Canon s) : Canon (s.setSd n e) := .upd h

theorem Canon.setSpi {n : Nat} {e : Spi} (h : Canon s) : Canon (s.setSpi n e) := .upd h

theorem Canon.setGpio {b : Nat} {e : Gpio} (h : Canon s) : Canon (s.setGpio b e) := .upd h

theorem Canon.setUart {u : Nat} {e : Uart} (h : Canon s) : Canon (s.setUart u e) := .upd h

theorem Canon.setPar {p : ParPort} (h : Canon s) : Canon (s.setPar p) := .upd h

theorem Canon.setPwm {k : Nat} {e : Pwm} (h : Canon s) : Canon (s.setPwm k e) := .upd h

theorem Canon.tdPortError {ch bit : Nat} (h : Canon s) : Canon (s.tdPortError ch bit) := .record (.tick (.setBit h))

theorem Canon.tdOverflow (h : Canon s) : Canon s.tdOverflow := .bump (.setBit h)

theorem Canon.tdSlip (h : Canon s) : Canon s.tdSlip := .bump (.setBit h)

theorem Canon.pinCell {tstamp src : Nat} {payload : List Byte} {kind : CellKind} (h : Canon s) :
    Canon (s.pinCell tstamp src payload kind) := .ite (.upd h) h

theorem Canon.applyForces (h : Canon s) : Canon s.applyForces := by
  dsimp only [State.applyForces]
  split
  · exact h
  · refine .foldl (.foldl h (fun _ _ h5 => .ite h5 (.setGpio h5))) ?_
    intro _ _ h8
    split
    · exact h8
    · split
      · exact .setPwm h8
      · exact h8

theorem Canon.sdStart {n : Nat} {seg : Segment} {t : Nat} (h : Canon s) : Canon (s.sdStart n seg t) := .emit (.setSd h)

theorem Canon.sdStop {n : Nat} (h : Canon s) : Canon (s.sdStop n) := by
  dsimp only [State.sdStop]
  split
  · exact .setSd h
  · exact .setSd h

theorem Canon.sdStatus {n evt : Nat} (h : Canon s) : Canon (s.sdStatus n evt) :=
  .ite h (.ite (.tdOverflow h) (.pinCell h))

theorem Canon.spiStart {n data : Nat} {safe : Bool} {start apply_ tstamp : Nat} (h : Canon s) :
    Canon (s.spiStart n data safe start apply_ tstamp) := .emit (.setSpi h)

theorem Canon.spiAux {n at_ : Nat} (h : Canon s) : Canon (s.spiAux n at_) := .emit h

theorem Canon.spiUnsend {n at_ : Nat} (h : Canon s) : Canon (s.spiUnsend n at_) := .upd h

theorem Canon.spiSafe {n : Nat} (h : Canon s) : Canon (s.spiSafe n) := by
  dsimp only [State.spiSafe]
  split
  · split
    · exact .ite (.spiStart (.setSpi (.spiUnsend h))) (.setSpi h)
    · exact .spiStart (.setSpi h)
  · exact h

theorem Canon.rxMove {ch : Nat} {rx : RxPath} (h : Canon s) : Canon ((s.rxMove ch rx).2) :=
  .foldl h (fun _ _ h3 => .pinCell h3)

theorem Canon.rxClose {ch : Nat} {rx : RxPath} {stat : Nat} {close : Byte} (h : Canon s) :
    Canon ((s.rxClose ch rx stat close).2) := .ite_snd (.pair_snd h) (.rxMove h)

theorem Canon.uartKick {u : Nat} (h : Canon s) : Canon (s.uartKick u) := by
  dsimp only [State.uartKick]
  split
  · exact h
  · exact .emit (.setUart h)
  · split
    · exact h
    · split
      · exact h
      · exact .emit (.setUart h)

theorem Canon.uartMarks {u : Nat} (h : Canon s) : Canon (s.uartMarks u) :=
  .ite h (.ite (.uartKick (.setUart h)) (.ite (.uartKick (.setUart h)) h))

theorem Canon.uartTaken {u : Nat} (h : Canon s) : Canon (s.uartTaken u) := .uartMarks (.setUart (.rxMove h))

theorem Canon.parMarks (h : Canon s) : Canon s.parMarks := .ite (.setPar h) (.ite (.setPar h) h)

theorem Canon.parTaken (h : Canon s) : Canon s.parTaken := .parMarks (.setPar (.rxMove h))

theorem Canon.parKick (h : Canon s) : Canon s.parKick := by
  dsimp only [State.parKick]
  split
  · exact h
  · split
    · exact .emit (.emit (.setPar h))
    · exact h

theorem Canon.chanSafe {ch : Nat} (h : Canon s) : Canon (s.chanSafe ch) :=
  .ite h (.ite (.sdStop h) (.ite (.spiSafe h) (.ite (.setGpio h) (.ite (.setUart h) (.ite (.setPar h) (.setPwm h))))))

theorem Canon.gongAct {k : Nat} (h : Canon s) : Canon (s.gongAct k) := by
  dsimp only [State.gongAct]
  split
  · exact .applyForces h
  · exact .foldl h (fun _ _ h7 => .ite (.sdStatus (.setSd (.sdStop h7))) h7)
  · exact .applyForces h
  · exact .foldl h (fun _ _ h14 => .ite (.spiSafe h14) h14)
  · exact h

theorem Canon.gongFire {k : Nat} (h : Canon s) : Canon (s.gongFire k) := .pinCell (.bump (.gongAct (.upd h)))

theorem Canon.gongRun_go {n : Nat} (h : Canon s) : Canon (State.gongRun.go n s) := by
  induction n generalizing s with
  | zero => exact h
  | succ n ih =>
    unfold State.gongRun.go
    split
    · exact ih (.gongFire h)
    · exact h

theorem Canon.gongRun (h : Canon s) : Canon s.gongRun := .ite (.gongRun_go h) h

theorem Canon.gongRearm {mask : Nat} (h : Canon s) : Canon (s.gongRearm mask) := .gongRun (.applyForces (.upd h))

theorem Canon.chansSafe {chs : List Nat} (h : Canon s) : Canon (s.chansSafe chs) :=
  .gongRun (.applyForces (.foldl h (fun _ _ h3 => .chanSafe h3)))

theorem Canon.outEnFall (h : Canon s) : Canon s.outEnFall := .ite (.chansSafe (.upd h)) h

theorem Canon.outEnRise (h : Canon s) : Canon s.outEnRise := .ite h (.gongRun (.applyForces (.upd h)))

/-! ### Ethernet ports, gate lists, Qci and FRER as shared operations -/

theorem Canon.setEth {p : Nat} {x : EthPort} (h : Canon s) : Canon (s.setEth p x) := .upd h

theorem Canon.ethLine {p : Nat} (h : Canon s) : Canon (s.ethLine p) := .record h

theorem Canon.ethLinkDown {p : Nat} (h : Canon s) : Canon (s.ethLinkDown p) := .ite (.ethLine (.setEth (.bumpBy h))) h

theorem Canon.ethChange {p : Nat} (h : Canon s) : Canon (s.ethChange p) := by
  dsimp only [State.ethChange]
  split
  · exact .setEth h
  · exact .setBit h

theorem Canon.setSg {g : Nat} {x : GateSched} (h : Canon s) : Canon (s.setSg g x) := .upd h

theorem Canon.sgChange {g : Nat} (h : Canon s) : Canon (s.sgChange g) := by
  dsimp only [State.sgChange]
  split
  · exact .setSg h
  · exact .setBit h

theorem Canon.qci {p filter tstamp len : Nat} (h : Canon s) : Canon (s.qci p filter tstamp len).1 := by
  unfold State.qci
  obtain ⟨run, erun⟩ := exists_eq' (a' := @Meter.run)
  rw [erun]
  refine .ite_fst (.pair h) (.ite_fst (.pair (.bump h)) (.ite_fst (.pair (.bump (.ite (.upd h) h))) ?_))
  refine .ite_fst (.pair (.bump h)) (.ite_fst (.pair h) ?_)
  exact .ite_fst (.pair (.bump h)) (.ite_fst (.pair (.bump (.upd h))) (.pair (.upd h)))

theorem Canon.ethEnqueue {p tc : Nat} {f : TxFrame} (h : Canon s) : Canon (s.ethEnqueue p tc f) :=
  .ite (.bump h) (.ite (.bump h) (.setEth h))

theorem Canon.ethRelease {index entry : Nat} {hd : Header} {payload : List Byte} (h : Canon s) :
    Canon (s.ethRelease index entry hd payload) :=
  .ite h (.ite (.bump h) (.ite (.bump h) (.ite (.bump h) (.foldl h (fun _ _ h3 => .ethEnqueue h3)))))

/-! ### The gPTP time-aware system that Ohmyth runs on the ports: the management path, link delay -/

theorem Canon.gptpQueue {p : Nat} {l : List (List Byte × GptpThen)} (h : Canon s) : Canon (s.gptpQueue p l) := .setEth h

theorem Canon.modGptp {p : Nat} {f : GptpPort → GptpPort} (h : Canon s) : Canon (s.modGptp p f) := .setEth h

theorem Canon.gptpRoles {mon : Bool} (h : Canon s) : Canon (s.gptpRoles mon) := .foldl h (fun _ _ h3 => .modGptp h3)

theorem Canon.gptpRelay {p : Nat} {mon : Bool} {t : Nat} {info : List Byte} (h : Canon s) :
    Canon (s.gptpRelay p mon t info) := .foldl (.tick h) (fun _ _ h3 => .gptpQueue h3)

theorem Canon.gptpReceive {p : Nat} {f : List Byte} (h : Canon s) : Canon (s.gptpReceive p f) := by
  dsimp only [State.gptpReceive]
  split
  · exact .gptpQueue (.tick h)
  · exact .ite (.modGptp h) h
  · split
    · exact .ite (.modGptp h) h
    · exact h
  · split
    · exact .ite h (.ite (.modGptp h) (.gptpRelay h))
    · exact h
  · split
    · exact .gptpRelay (.modGptp h)
    · exact h
  · split
    · exact .gptpRoles (.modGptp h)
    · exact h
  · exact h

theorem Canon.gptpSent {p : Nat} {after : GptpThen} (h : Canon s) : Canon (s.gptpSent p after) := by
  dsimp only [State.gptpSent]
  split
  · exact h
  · exact .modGptp h
  · exact .gptpQueue h
  · exact .gptpQueue h

theorem Canon.gptpTasks {p : Nat} (h : Canon s) : Canon (s.gptpTasks p) := by
  dsimp only [State.gptpTasks]
  refine .foldl (.tick h) ?_
  intro _ _ h3
  split
  · exact .gptpQueue (.tick h3)
  · exact .ite (.gptpQueue (.tick h3)) h3
  · exact .ite (.gptpQueue (.tick h3)) h3
  · exact h3

theorem Canon.gptpTimed (h : Canon s) : Canon s.gptpTimed := .ite (.foldl h (fun _ _ h3 => .gptpTasks h3)) h

/-! ### The commands of the Ethernet ports, gate lists, learning and Avocet -/

theorem Canon.doFrameReceived {p : Nat} {frame : List Byte} {fcsOk : Bool} (h : Canon s) : Canon (doFrameReceived p frame
    fcsOk s) := by
  dsimp only [Machine.doFrameReceived]
  exact .ite h (.ite (.ethLine (.bump h)) (.ite (.bump h) (.ite (.ite (.setEth h) (.bump (.setEth h))) (.ite (.ite
      (.gptpReceive (.emit (.setEth h))) (.setEth h)) (.ite (.bump (.setEth h)) (.ite (.setEth h) (.ite (.bump (.setEth
      h)) (.ite (.bump (.setEth h)) (.setEth (.setEth h))))))))))

theorem Canon.doLinkUp {p speed : Nat} {full : Bool} (h : Canon s) : Canon (doLinkUp p speed full s) :=
  .ite h (.ite (.setEth h) (.setEth h))

theorem Canon.doLinkDown {p : Nat} (h : Canon s) : Canon (doLinkDown p s) := .ite (.ethLinkDown h) (.setEth h)

theorem Canon.ethSend {p : Nat} {x : EthPort} {l : List Byte} (h : Canon s) : Canon (s.ethSend p x l) :=
  .emit (.setEth h)

theorem Canon.doFrameTransmit {p q : Nat} (h : Canon s) : Canon (doFrameTransmit p q s) := by
  dsimp only [Machine.doFrameTransmit]
  split
  · exact h
  · split
    · exact .gptpSent (.ethSend h)
    · exact h
    · exact .ite (.setEth (.bump h)) (.ite (.setEth (.bump h)) (.ite h (.ethSend h)))

theorem Canon.doGateStateChange {p : Nat} (h : Canon s) : Canon (doGateStateChange p s) := .setEth h

theorem Canon.doConfigChange {p val : Nat} (h : Canon s) : Canon (doConfigChange p val s) :=
  .ite (.ethChange (.setFld h)) (.setFld h)

theorem Canon.doConfigChangeTime {g : Nat} (h : Canon s) : Canon (doConfigChangeTime g s) := by
  dsimp only [Machine.doConfigChangeTime]
  split
  · split
    · exact .setEth h
    · exact h
  · split
    · exact .setSg h
    · exact h

theorem Canon.doSgConfigChange {g : Nat} (h : Canon s) : Canon (doSgConfigChange g s) := .sgChange h

theorem Canon.doFrerResetTimeout {r : Nat} (h : Canon s) : Canon (doFrerResetTimeout r s) := .upd h

theorem OptCanon.staticChange {m : Nat} {add : Bool} {vid mac port inst : Nat} (h : Canon s) : OptCanon (s.staticChange m
    add vid mac port inst) := by
  dsimp only [State.staticChange]
  split
  · exact .ite .none (.ite (.some (.upd (.stageStation h))) (.some (.upd (.stageStation h))))
  · split
    · exact .some (.upd h)
    · split
      · exact .ite .none (.some (.upd (.stageStation h)))
      · exact .some (.upd h)

theorem Canon.doLearningProbe (h : Canon s) : Canon (doLearningProbe s) := by
  dsimp only [Machine.doLearningProbe]
  split
  · exact h
  · split
    · exact h
    · split
      next e11 =>
        refine .upd (.of_some e11 ?_)
        split
        · exact .doProbe h
        · exact .staticChange h
      · exact h

theorem Canon.doLearningCommit (h : Canon s) : Canon (doLearningCommit s) := .ite h (.upd h)

theorem OptCanon.avocetVisit {st : Nat} (h : Canon s) : OptCanon (s.avocetVisit st) := by
  dsimp only [State.avocetVisit]
  exact .ite (.some h) (.ite (.some h) (.ite (.some (.putStation h)) (.ite (.some (.putStation h)) (.ite .none (.some
      (.bump (.stageStation h)))))))

theorem Canon.avocetFrom {l : List Nat} (h : Canon s) : Canon (State.avocetFrom l s) := by
  induction l generalizing s with
  | nil => exact .bump (.upd h)
  | cons st l ih =>
    unfold State.avocetFrom
    split
    next e => exact ih (.of_some e (.avocetVisit h))
    · exact .upd h

theorem Canon.doAvocetPass (h : Canon s) : Canon (doAvocetPass s) := by
  dsimp only [Machine.doAvocetPass]
  split
  · exact h
  · split
    · exact .avocetFrom h
    · exact .ite h (.avocetFrom (.upd h))

/-! ### The mailboxes' answers -/

theorem Canon.modMb {m : Nat} {f : Mailbox → Mailbox} (h : Canon s) : Canon (s.modMb m f) := .upd h

theorem Canon.mbDone {m : Nat} (h : Canon s) : Canon (s.mbDone m) := by
  dsimp only [State.mbDone]
  exact .ite (.cause (.ite (.upd (.modMb h)) (.setBit (.upd (.modMb h))))) (.ite (.upd (.modMb h)) (.setBit (.upd (.modMb
      h))))

theorem Canon.mbRespond {m : Nat} {bytes : List Byte} (h : Canon s) : Canon (s.mbRespond m bytes) := .mbDone (.wrChk h)

theorem Canon.mbAnswer {m status : Nat} {body : List Byte} (h : Canon s) : Canon (s.mbAnswer m status body) := by
  dsimp only [State.mbAnswer]
  split
  · exact h
  · exact .ite h (.ite (.upd h) (.mbRespond (.modMb h)))

theorem Canon.mbFlush (h : Canon s) : Canon s.mbFlush := .foldl (.upd h) (fun _ _ h3 => .mbAnswer h3)

theorem Canon.mbInternal {m : Nat} (h : Canon s) : Canon (s.mbInternal m) := by
  dsimp only [State.mbInternal]
  split
  · exact h
  · exact .mbAnswer (.record h)

theorem Canon.mbHardware {m status : Nat} (h : Canon s) : Canon (s.mbHardware m status) := by
  unfold State.mbHardware
  split
  · exact h
  · exact .mbRespond h

/-! ### The Sluice DRAM controller -/

theorem Canon.modAcc {id : Nat} {f : DramAcc → DramAcc} (h : Canon s) : Canon (s.modAcc id f) := .upd h

theorem Canon.dramOffer {x : DramAcc} (h : Canon s) : Canon (s.dramOffer x).1 := .upd h

theorem Canon.dramTake {id : Nat} (h : Canon s) : Canon (s.dramTake id) := .upd h

theorem Canon.lateCount {r : DramReq} (h : Canon s) : Canon (s.lateCount r) := .ite (.bump h) h

theorem Canon.maxLat {r : DramReq} (h : Canon s) : Canon (s.maxLat r) := .setReg h

theorem Canon.dramDo {r : DramReq} (h : Canon s) : Canon (s.dramDo r) := by
  dsimp only [State.dramDo]
  split
  · exact .maxLat (.lateCount h)
  · split
    · exact .modAcc (.maxLat (.lateCount h))
    · split
      · exact .modAcc (.wrChk (.maxLat (.lateCount h)))
      · split
        next e13 => exact .modAcc (.of_fst e13 (.rdChk (.maxLat (.lateCount h))))
        next e16 => exact .modAcc (.of_fst e16 (.rdChk (.maxLat (.lateCount h))))

theorem Canon.inordTrim (h : Canon s) : Canon s.inordTrim := .upd h

theorem Canon.drainTrim (h : Canon s) : Canon s.drainTrim := .upd h

theorem OptCanon.dramJoin {r : DramReq} (h : Canon s) : OptCanon (s.dramJoin r) :=
  .ite .none (.some (.upd (.ite (.bump h) h)))

theorem Canon.dramFeed {p : Nat} (h : Canon s) : Canon (s.dramFeed p) := by
  dsimp only [State.dramFeed]
  refine .upd (.foldl_fst (.pair h) ?_)
  intro _ _ h3
  split
  · exact .pair h3
  · split
    next e8 => exact .pair (.of_some e8 (.dramJoin h3))
    · exact .pair h3

theorem Canon.doDramRequest {p : Nat} (h : Canon s) : Canon (doDramRequest p s) := by
  dsimp only [Machine.doDramRequest]
  split
  · exact .dramFeed h
  · exact .ite (.dramFeed h) (.dramFeed (.upd (.modAcc (.dramFeed h))))

theorem Canon.dramIssue {r : DramReq} (h : Canon s) : Canon (s.dramIssue r) :=
  .inordTrim (.drainTrim (.upd (.dramDo h)))

theorem Canon.doDramCommandIssue {ch : Nat} (h : Canon s) : Canon (doDramCommandIssue ch s) := by
  unfold Machine.doDramCommandIssue
  split
  · exact .dramIssue h
  · exact h

theorem Canon.dramOne {ch : Nat} (h : Canon s) : Canon (s.dramOne ch) := by
  unfold State.dramOne
  split
  · exact .dramIssue h
  · exact .dramIssue h
  · exact h

theorem Canon.dramWork {p : Nat} {goal : State → Bool} {n : Nat} (h : Canon s) : Canon (State.dramWork p goal n s) := by
  induction n generalizing s with
  | zero => exact h
  | succ n ih =>
    unfold State.dramWork
    exact .ite h (ih (.dramFeed (.dramOne (.dramOne h))))

theorem Canon.dramUntil {p : Nat} {goal : State → Bool} (h : Canon s) : Canon (s.dramUntil p goal) := .dramWork h

theorem Canon.dramPush {id : Nat} {x : DramAcc} {b : Nat × Nat} (h : Canon s) : Canon (s.dramPush id x b) :=
  .dramFeed (.upd (.dramUntil h))

theorem Canon.dramFinish {id : Nat} (h : Canon s) : Canon (s.dramFinish id) := by
  dsimp only [State.dramFinish]
  split
  · exact h
  · exact .dramUntil (.ite h (.foldl (.modAcc h) (fun _ _ h8 => .dramPush h8)))

theorem Canon.dramEndWrite {id : Nat} (h : Canon s) : Canon (s.dramEndWrite id).1 := .dramTake (.dramFinish h)

theorem Canon.rdMem {a n : Nat} {w : Who} {port : Nat} (h : Canon s) : Canon (s.rdMem a n w port).1 :=
  .ite_fst (.pair (.dramTake (.dramFinish (.dramOffer h)))) (.rdChk h)

theorem Canon.wrMem {a : Nat} {l : List Byte} {w : Who} {port : Nat} (h : Canon s) : Canon (s.wrMem a l w port).1 := by
  unfold State.wrMem
  split
  · split
    next e5 => exact .dramEndWrite (.of_fst e5 (.dramOffer h))
  · split
    next e10 => exact .pair (.pbufPoke (.of_fst e10 (.wrChk h)))

theorem Canon.doUrgencyRise {p : Nat} (h : Canon s) : Canon (doUrgencyRise p s) := .upd (.bumpBy h)

theorem Canon.setRank {c r : Nat} {x : Rank} (h : Canon s) : Canon (s.setRank c r x) := .upd h

theorem Canon.blockRank {c r dur : Nat} (h : Canon s) : Canon (s.blockRank c r dur) := .upd (.setRank h)

theorem Canon.doRefreshDue {c r : Nat} (h : Canon s) : Canon (doRefreshDue c r s) := by
  dsimp only [Machine.doRefreshDue]
  exact .ite h (.ite (.ite (.blockRank (.setRank h)) (.ite (.setRank h) (.blockRank (.bump (.setRank h))))) (.ite
      (.blockRank (.setRank h)) h))

theorem Canon.doZqCalibration {c r : Nat} (h : Canon s) : Canon (doZqCalibration c r s) :=
  .ite (.blockRank (.setRank h)) h

theorem Canon.doDriftRecentre {c r : Nat} (h : Canon s) : Canon (doDriftRecentre c r s) :=
  .ite (.blockRank (.setRank h)) h

theorem Canon.doHotPoll {c : Nat} {reading : Option Int} (h : Canon s) : Canon (doHotPoll c reading s) :=
  .ite h (.setFld h)

theorem Canon.patrolVisit {a u : Nat} (h : Canon s) : Canon (s.patrolVisit a u) :=
  .ite (.ite h (.setEcc h)) (.rdMem (.ite h (.setEcc h)))

theorem Canon.doDramScrubVisit {u : Nat} (h : Canon s) : Canon (doDramScrubVisit u s) := by
  dsimp only [Machine.doDramScrubVisit]
  split
  · exact h
  · split
    next e5 => exact .patrolVisit (.of_some e5 (.scrubTurn h))
    · exact h

theorem Canon.doChannelFault {c : Nat} (h : Canon s) : Canon (doChannelFault c s) :=
  .ite h (.inordTrim (.drainTrim (.upd (.foldl (.record (.setBit h)) (fun _ _ h3 => .dramDo h3)))))

/-! ### The Ford link's sending side, the release gate, digests and the black box -/

theorem Canon.fordPut {type : Nat} {body : List Byte} (h : Canon s) : Canon (s.fordPut type body) :=
  .ite h (.emit (.upd (.ite (.wrMem h) h)))

theorem Canon.partnerGone {tell : Bool} (h : Canon s) : Canon (s.partnerGone tell) :=
  .setBit (.bump (.upd (.ite (.fordPut h) h)))

theorem Canon.ringOverflow (h : Canon s) : Canon s.ringOverflow := by
  dsimp only [State.ringOverflow]
  split
  · exact h
  · exact .mbInternal (.partnerGone (.upd (.record h)))

theorem Canon.fordSend {type : Nat} {body : List Byte} (h : Canon s) : Canon (s.fordSend type body) :=
  .ite (.ringOverflow (.fordPut h)) (.fordPut h)

theorem Canon.sendEntry {e : DEntry} (h : Canon s) : Canon (s.sendEntry e) := .ite (.fordSend h) h

theorem Canon.decision {type master : Nat} {body : List Byte} {size : Nat} (h : Canon s) :
    Canon (s.decision type master body size) := .ite (.sendEntry (.logEntry h)) h

theorem Canon.configEntry {kind offset mask value : Nat} (h : Canon s) : Canon (s.configEntry kind offset mask value) :=
  .decision h

theorem Canon.digestAdd {hd : Header} {payload : List Byte} (h : Canon s) : Canon (s.digestAdd hd payload) := .upd h

theorem Canon.blackBox {hd : Header} {timed : Bool} (h : Canon s) : Canon (s.blackBox hd timed) :=
  .ite h (.upd (.wrBytes h))

theorem Canon.fordRelease {hd : Header} {payload : List Byte} (h : Canon s) : Canon (s.fordRelease hd payload) :=
  .ite h (.fordSend h)

/-! ### Host queues, doorbells, interrupt enables and PCI Express configuration -/

theorem Canon.setSq {i q : Nat} {x : HostQueue} (h : Canon s) : Canon (s.setSq i q x) := .upd h

theorem Canon.setCq {i q : Nat} {x : HostQueue} (h : Canon s) : Canon (s.setCq i q x) := .upd h

theorem Canon.badDoorbell {i : Nat} (h : Canon s) : Canon (s.badDoorbell i) := .bump (.setBit h)

theorem Canon.doSqTailDoorbell {i q val : Nat} (h : Canon s) : Canon (doSqTailDoorbell i q val s) :=
  .ite h (.ite (.setSq h) (.badDoorbell h))

theorem Canon.doCqHeadDoorbell {i q val : Nat} (h : Canon s) : Canon (doCqHeadDoorbell i q val s) :=
  .ite h (.ite (.setCq h) (.badDoorbell h))

theorem Canon.sqStop {i q : Nat} (h : Canon s) : Canon (s.sqStop i q) :=
  .emit (.record (.cause (.setBit (.setBit (.setSq h)))))

theorem Canon.sqSkip {i q : Nat} (h : Canon s) : Canon (s.sqSkip i q) := .setSq h

theorem Canon.xferRefuse (h : Canon s) : Canon s.xferRefuse := .upd (.setBit (.setBit h))

theorem Canon.doSqEntryRead {i q : Nat} {entry payload : HostRead} (h : Canon s) : Canon (doSqEntryRead i q entry payload
    s) := by
  dsimp only [Machine.doSqEntryRead]
  split
  · exact h
  · split
    · exact .sqStop h
    · split
      · exact .xferRefuse h
      · split
        · split
          · exact .sqStop h
          · split
            · exact .setSq h
            · exact .sqSkip (.setSq (.bump h))
        · split
          · exact .setSq h
          · exact .sqSkip (.setSq (.bump h))

theorem Canon.doPcieCompletionTimeout {i q : Nat} (h : Canon s) : Canon (doPcieCompletionTimeout i q s) :=
  .ite (.sqStop h) h

theorem Canon.doSqErrClear {i q : Nat} (h : Canon s) : Canon (doSqErrClear i q s) := .ite (.setFld h) h

theorem Canon.doQueueEnable {i : Nat} {cq : Bool} {q val : Nat} (h : Canon s) : Canon (doQueueEnable i cq q val s) :=
  .ite h (.ite (.ite (.setCq (.setReg h)) (.setSq (.setReg h))) (.ite (.setSq (.setReg h)) (.setReg h)))

theorem Canon.cqDrop {i q : Nat} (h : Canon s) : Canon (s.cqDrop i q) := .bump (.setCq h)

theorem Canon.cqWrite {i q : Nat} {hd : Header} {payload : List Byte} {perr raw : Bool} (h : Canon s) : Canon (s.cqWrite i
    q hd payload perr raw) := by
  dsimp only [State.cqWrite]
  split
  · exact .bump h
  · split
    · exact .cqDrop h
    · split
      · exact .cqDrop h
      · exact .ite (.cause (.ite (.record (.tick (.setBit (.modInst (.setCq (.emit (.ite (.emit h) h))))))) (.modInst
            (.setCq (.emit (.ite (.emit h) h)))))) (.ite (.record (.tick (.setBit (.modInst (.setCq (.emit (.ite (.emit h)
            h))))))) (.modInst (.setCq (.emit (.ite (.emit h) h)))))

theorem Canon.cqRelease {i q : Nat} {hd : Header} {payload : List Byte} {perr : Bool} (h : Canon s) :
    Canon (s.cqRelease i q hd payload perr) := .ite (.ite (.cqDrop h) (.bump h)) (.cqWrite h)

theorem Canon.doInIenWrite {i val : Nat} (h : Canon s) : Canon (doInIenWrite i val s) :=
  .ite h (.foldl (.setReg h) (fun _ _ h3 => .ite (.msix h3) h3))

theorem Canon.msixFlush {fn : Nat} (h : Canon s) : Canon (s.msixFlush fn) :=
  .foldl h (fun _ _ h3 => .ite (.msix (.upd h3)) h3)

theorem Canon.doPcieConfigWrite {fn : Nat} {cfg : PcieCfg} (h : Canon s) : Canon (doPcieConfigWrite fn cfg s) := by
  dsimp only [Machine.doPcieConfigWrite]
  split
  · exact h
  · split
    · exact .msixFlush (.upd h)
    · exact .upd h
    · exact .upd h
    · exact .msixFlush (.upd h)

/-! ### The commands of the Tideway ports and of Gong -/

theorem Canon.encCell {n cause tstamp : Nat} (h : Canon s) : Canon (s.encCell n cause tstamp) :=
  .ite h (.ite (.tdOverflow (.setEnc h)) (.pinCell (.setEnc h)))

theorem Canon.encFollow {n : Nat} (h : Canon s) : Canon (s.encFollow n) := .setEnc h

theorem Canon.encChanged {n : Nat} {old : Encoder} {tstamp : Nat} (h : Canon s) : Canon (s.encChanged n old tstamp) :=
  .ite h (.gongRun (.ite (.encCell h) h))

theorem Canon.encWindow {n tstamp : Nat} (h : Canon s) : Canon (s.encWindow n tstamp) := .encChanged (.encFollow h)

theorem Canon.encCount {n : Nat} {a b : Bool} (h : Canon s) : Canon (s.encCount n a b) := by
  dsimp only [State.encCount]
  split
  · exact h
  · split
    · exact .tdPortError (.setEnc h)
    · exact .encWindow (.ite (.tdPortError (.tick (.setEnc h))) (.setEnc h))

theorem Canon.doEncZEdge {n : Nat} (h : Canon s) : Canon (doEncZEdge n s) :=
  .ite h (.ite (.encCell (.setEnc h)) (.setEnc h))

theorem Canon.ssiSample {n : Nat} {v : Option Nat} (h : Canon s) : Canon (s.ssiSample n v) := by
  dsimp only [State.ssiSample]
  refine .encChanged (.encCell (.encFollow ?_))
  split
  · exact .setEnc (.emit h)
  · exact .tdPortError (.setEnc (.emit h))

theorem Canon.doEncSample {n : Nat} {ready : Bool} {bits : Nat} {parity : Bool} (h : Canon s) :
    Canon (doEncSample n ready bits parity s) := .ite h (.ite (.encCell h) (.ite (.setEnc h) (.ssiSample h)))

theorem Canon.doSsiMonoflopEnd {n : Nat} (h : Canon s) : Canon (doSsiMonoflopEnd n s) := by
  dsimp only [Machine.doSsiMonoflopEnd]
  split
  · exact .ite (.setEnc h) h
  · exact h

theorem Canon.sdEnd {n t : Nat} (h : Canon s) : Canon (s.sdEnd n t) := by
  dsimp only [State.sdEnd]
  split
  · exact h
  · split
    · exact .sdStatus (.ite (.sdStatus (.setSd h)) (.setSd h))
    · exact .sdStart (.setSd (.ite (.sdStatus (.setSd h)) (.setSd h)))

theorem Canon.sdApply {n : Nat} {p : List Byte} {t : Nat} (h : Canon s) : Canon (s.sdApply n p t) := by
  dsimp only [State.sdApply]
  split
  · exact h
  · split
    · split
      · exact .sdStart h
      · exact .ite (.sdStatus (.setBit (.bump h))) (.setSd h)
    · split
      · exact .sdStart (.sdStop h)
      · exact .ite (.sdEnd (.setSd (.sdStop h))) (.setSd (.sdStop h))
    · exact .sdStop h

theorem Canon.spiApply {n : Nat} {p : List Byte} {t : Nat} (h : Canon s) : Canon (s.spiApply n p t) := by
  dsimp only [State.spiApply]
  exact .ite (.setSpi h) (.ite (.spiStart (.setSpi h)) (.ite (.spiStart (.tdSlip (.setSpi h))) (.ite (.tdOverflow (.setSpi
      h)) (.setSpi (.tdSlip (.setSpi h))))))

theorem Canon.gpioApply {b : Nat} {p : List Byte} (h : Canon s) : Canon (s.gpioApply b p) :=
  .ite (.setGpio (.ite (.bump h) h)) (.setGpio (.ite (.bump h) h))

theorem Canon.uartApply {u : Nat} {p : List Byte} (h : Canon s) : Canon (s.uartApply u p) :=
  .ite h (.ite (.tdOverflow h) (.uartKick (.setUart h)))

theorem Canon.parApply {p : List Byte} (h : Canon s) : Canon (s.parApply p) :=
  .ite h (.ite (.tdOverflow h) (.parKick (.setPar h)))

theorem Canon.pwmStart {k : Nat} {x : Pwm} {t : Nat} (h : Canon s) : Canon (s.pwmStart k x t) := .emit (.setPwm h)

theorem Canon.pwmApply {k : Nat} {p : List Byte} {t : Nat} (h : Canon s) : Canon (s.pwmApply k p t) :=
  .ite (.setPwm h) (.ite (.setPwm (.bump h)) (.ite (.setPwm h) (.pwmStart h)))

theorem Canon.applyDue {d : DueCell} {t : Nat} (h : Canon s) : Canon (s.applyDue d t) := by
  dsimp only [State.applyDue]
  exact .ite (.bump h) (.ite (.bump (.setBit h)) (.ite (.setEnc (.ite (.tdSlip h) h)) (.ite (.sdApply (.ite (.tdSlip h)
      h)) (.ite (.spiApply (.ite (.tdSlip h) h)) (.ite (.gpioApply (.ite (.tdSlip h) h)) (.ite (.uartApply (.ite (.tdSlip
      h) h)) (.ite (.parApply (.ite (.tdSlip h) h)) (.pwmApply (.ite (.tdSlip h) h)))))))))

theorem Canon.applyAt {at_ : Nat} {p : DueCell → Bool} (h : Canon s) : Canon (s.applyAt at_ p) :=
  .gongRun (.foldl (.foldl (.upd h) (fun _ _ h3 => .applyDue h3)) (fun _ _ h6 => .encChanged (.encFollow h6)))

theorem Canon.doOutputApply (h : Canon s) : Canon (doOutputApply s) := by
  unfold Machine.doOutputApply
  split
  · exact h
  · exact .ite h (.applyAt h)

theorem Canon.doEncEdge {n : Nat} {a b : Bool} (h : Canon s) : Canon (doEncEdge n a b s) := by
  dsimp only [Machine.doEncEdge]
  refine .encCount ?_
  split
  · exact .ite (.applyAt h) h
  · exact h

theorem Canon.tidewayRelease {hd : Header} {payload : List Byte} (h : Canon s) : Canon (s.tidewayRelease hd payload) :=
  .ite h (.ite (.upd h) (.upd (.tick h)))

theorem Canon.doSdSegmentEnd {n : Nat} (h : Canon s) : Canon (doSdSegmentEnd n s) := by
  dsimp only [Machine.doSdSegmentEnd]
  split
  · exact h
  · exact .ite h (.sdEnd h)

theorem Canon.spiCell {n rx tstamp : Nat} (h : Canon s) : Canon (s.spiCell n rx tstamp) :=
  .ite h (.ite (.tdOverflow (.setSpi h)) (.pinCell (.setSpi h)))

theorem Canon.doSpiFrameEnd {n rx : Nat} (h : Canon s) : Canon (doSpiFrameEnd n rx s) := by
  dsimp only [Machine.doSpiFrameEnd]
  split
  · exact h
  · split
    · exact h
    · split
      · exact .ite (.ite (.spiAux (.setSpi h)) (.setSpi h)) (.ite (.spiCell (.ite (.spiAux (.setSpi h)) (.setSpi h)))
            (.ite (.spiCell (.ite (.spiAux (.setSpi h)) (.setSpi h))) (.ite (.spiAux (.setSpi h)) (.setSpi h))))
      · exact .spiStart (.setSpi (.ite (.ite (.spiAux (.setSpi h)) (.setSpi h)) (.ite (.spiCell (.ite (.spiAux (.setSpi
            h)) (.setSpi h))) (.ite (.spiCell (.ite (.spiAux (.setSpi h)) (.setSpi h))) (.ite (.spiAux (.setSpi h))
            (.setSpi h))))))

theorem Canon.doAdcSample {n : Nat} (h : Canon s) : Canon (doAdcSample n s) :=
  .ite h (.ite (.setSpi h) (.spiStart (.ite (.spiAux h) h)))

theorem Canon.doPwmPeriodBoundary {k : Nat} (h : Canon s) : Canon (doPwmPeriodBoundary k s) := by
  dsimp only [Machine.doPwmPeriodBoundary]
  split
  · exact h
  · split
    · exact .pwmStart h
    · exact .pwmStart (.bump h)
    · exact .pwmStart h

theorem Canon.gpioClose {b : Nat} (h : Canon s) : Canon (s.gpioClose b) := by
  dsimp only [State.gpioClose]
  split
  · exact h
  · exact .ite (.setGpio h) (.ite (.pinCell (.setGpio h)) (.tdOverflow (.upd (.setGpio h))))

theorem Canon.doGpioEdge {b p : Nat} {level : Bool} (h : Canon s) : Canon (doGpioEdge b p level s) := by
  dsimp only [Machine.doGpioEdge]
  split
  · exact h
  · split
    · exact .ite (.gongRun (.setGpio h)) (.setGpio (.gongRun (.setGpio h)))
    · exact .ite (.gongRun (.setGpio h)) (.ite (.gpioClose (.setGpio (.gongRun (.setGpio h)))) (.setGpio (.gongRun
          (.setGpio h))))

theorem Canon.doGpioCoalClose {b : Nat} (h : Canon s) : Canon (doGpioCoalClose b s) := by
  unfold Machine.doGpioCoalClose
  split
  · exact .ite h (.gpioClose h)
  · exact h

theorem Canon.rxByte {ch key : Nat} {rx : RxPath} {b : Byte} (h : Canon s) : Canon ((s.rxByte ch key rx b).2) :=
  .ite_snd (.pair_snd (.tdPortError h)) (.ite_snd (.rxClose h) (.ite_snd (.rxClose h) (.pair_snd h)))

theorem Canon.doUartRxChar {u : Nat} {b : Byte} {parityErr framingErr brk : Bool} (h : Canon s) : Canon (doUartRxChar u b
    parityErr framingErr brk s) := by
  dsimp only [Machine.doUartRxChar]
  exact .ite h (.ite (.tdPortError (.setUart (.rxClose (.ite h (.tick h))))) (.ite (.uartKick (.setUart h)) (.uartMarks
      (.setUart (.rxByte h)))))

theorem Canon.doUartGapClose {n : Nat} (h : Canon s) : Canon (doUartGapClose n s) :=
  .ite (.ite h (.setUart (.rxClose h))) (.ite h (.setPar (.rxClose h)))

theorem Canon.doUartCtsChange {u : Nat} {deasserted : Bool} (h : Canon s) : Canon (doUartCtsChange u deasserted s) :=
  .uartKick (.setUart h)

theorem Canon.doUartTxCharEnd {u : Nat} (h : Canon s) : Canon (doUartTxCharEnd u s) := by
  dsimp only [Machine.doUartTxCharEnd]
  split
  · exact .ite h (.uartKick (.setUart h))
  · exact h

theorem Canon.doParStrobeIn {data : Byte} (h : Canon s) : Canon (doParStrobeIn data s) :=
  .ite h (.parMarks (.emit (.setPar (.rxByte h))))

theorem Canon.parDone (h : Canon s) : Canon s.parDone := .ite (.parKick (.setPar h)) h

theorem Canon.doParAckIn (h : Canon s) : Canon (doParAckIn s) := .ite h (.parDone (.setPar h))

theorem Canon.doParBusyChange {busy : Bool} (h : Canon s) : Canon (doParBusyChange busy s) :=
  .ite (.setPar h) (.ite (.parDone (.setPar h)) (.parKick (.setPar h)))

theorem Canon.doParAckTimeout (h : Canon s) : Canon (doParAckTimeout s) := by
  dsimp only [Machine.doParAckTimeout]
  split
  · exact .ite h (.parKick (.tdPortError (.setPar (.rxClose (.setPar h)))))
  · exact h

theorem Canon.doGgRearm {hi : Bool} {val : Nat} (h : Canon s) : Canon (doGgRearm hi val s) := .gongRearm h

/-! ### The Timebase and the margin monitor -/

theorem Canon.tbEnter {st : TbState} (h : Canon s) : Canon (s.tbEnter st) := by
  dsimp only [State.tbEnter]
  exact .ite h (.ite (.record (.setBit (.ite (.causeAll (.ite (.upd (.setBit (.setBit (.upd h)))) (.setBit (.upd h))))
      (.ite (.upd (.setBit (.setBit (.upd h)))) (.setBit (.upd h)))))) (.ite (.causeAll (.ite (.upd (.setBit (.setBit
      (.upd h)))) (.setBit (.upd h)))) (.ite (.upd (.setBit (.setBit (.upd h)))) (.setBit (.upd h)))))

theorem Canon.doSyncReceived {domain : Nat} {offset : Int} (h : Canon s) : Canon (doSyncReceived domain offset s) := by
  dsimp only [Machine.doSyncReceived]
  split
  · exact h
  · split
    · refine .upd ?_
      split
      · exact .upd (.tbEnter (.upd h))
      · exact .upd (.tbEnter (.upd h))
      · exact .ite (.tbEnter (.upd h)) (.upd h)
      · exact .ite (.tbEnter (.upd h)) (.upd h)
      · exact .upd h
    · exact .ite (.upd h) h

theorem Canon.doSyncLoss (h : Canon s) : Canon (doSyncLoss s) := .ite (.upd (.tbEnter (.tick h))) h

theorem Canon.enterHoldRef (h : Canon s) : Canon s.enterHoldRef := .tbEnter (.tick (.upd h))

theorem Canon.doRefLost (h : Canon s) : Canon (doRefLost s) := .ite (.upd (.enterHoldRef h)) (.upd h)

theorem Canon.doPllLockLost (h : Canon s) : Canon (doPllLockLost s) := .ite (.upd (.ite h (.enterHoldRef h))) h

theorem Canon.doRefRestored (h : Canon s) : Canon (doRefRestored s) :=
  .ite (.ite (.tbEnter (.upd h)) (.upd (.tbEnter (.upd h)))) (.upd h)

theorem Canon.doPllLock (h : Canon s) : Canon (doPllLock s) := .ite (.ite (.upd h) h) (.upd h)

theorem Canon.stepTo {count : Int} (h : Canon s) : Canon (s.stepTo count) := .ite (.setBit (.upd h)) h

theorem Canon.doTbStep {delta : Int} (h : Canon s) : Canon (doTbStep delta s) := .ite (.stepTo h) h

theorem Canon.doTbRateWrite {rate : Int} (h : Canon s) : Canon (doTbRateWrite rate s) := .ite h (.upd h)

theorem Canon.tbTick (h : Canon s) : Canon s.tbTick := .ite (.upd (.ite (.tick h) h)) h

theorem Canon.doDroop (h : Canon s) : Canon (doDroop s) := .upd (.bump h)

theorem Canon.monitor {hd : Header} (h : Canon s) : Canon (s.monitor hd) := by
  dsimp only [State.monitor]
  exact .ite h (.ite (.ite (.bump (.ite (.upd h) h)) (.ite (.cause (.setBit (.bump (.ite (.upd h) h)))) (.setBit (.bump
      (.ite (.upd h) h))))) (.ite (.upd h) h))

theorem Canon.mmReload (h : Canon s) : Canon s.mmReload := .upd h

theorem Canon.doTbMmMinRead (h : Canon s) : Canon (doTbMmMinRead s) := .mmReload (.emit h)

theorem Canon.elapse (h : Canon s) : Canon s.elapse := .upd (.tbTick h)

/-! ### The Weir: entries, arrival, the release rule, HOLEs, completion and faults of cells -/

theorem Canon.modCell {g : Nat} {f : Cell → Cell} (h : Canon s) : Canon (s.modCell g f) := .upd h

theorem Canon.reap (h : Canon s) : Canon s.reap := .upd h

theorem Canon.weirAdd {stream gseq sub entry granules : Nat} {item : WeirItem} (h : Canon s) :
    Canon (s.weirAdd stream gseq sub entry granules item) := .setFld (.upd h)

theorem Canon.pbufFree {n : Nat} (h : Canon s) : Canon (s.pbufFree n) := .upd h

theorem Canon.weirDel {stream gseq sub : Nat} (h : Canon s) : Canon (s.weirDel stream gseq sub) := .pbufFree (.upd h)

theorem Canon.weirArrive {hd : Header} {payload : List Byte} {entry granules : Nat} (h : Canon s) : Canon (s.weirArrive hd
    payload entry granules) := by
  dsimp only [State.weirArrive]
  exact .ite (.weirAdd (.pbufFree (.ite (.siteTake (.bump h)) (.decision (.bump h))))) (.ite (.weirAdd (.ite (.bump
      (.monitor h)) (.monitor h))) (.ite (.weirAdd (.pbufFree (.bump h))) (.weirAdd h)))

theorem Canon.payloadUe {hd : Header} (h : Canon s) : Canon (s.payloadUe hd).1 := by
  unfold State.payloadUe
  split
  · exact .pair h
  · split
    next e6 => exact .pair (.of_fst e6 (.rdChk h))
    next e9 => exact .pair (.of_fst e9 (.rdChk h))

theorem Canon.supRelease {hd : Header} {payload : List Byte} (h : Canon s) : Canon (s.supRelease hd payload) :=
  .ite (.bump h) (.upd h)

theorem Canon.route {entry : Nat} {hd : Header} {payload : List Byte} {perr : Bool} (h : Canon s) : Canon (s.route entry
    hd payload perr) := by
  dsimp only [State.route]
  split
  · exact .bump h
  · split
    · exact .tidewayRelease h
    · exact .ethRelease h
    · exact .cqRelease h
    · exact .fordRelease h
    · exact .supRelease h

theorem Canon.weirRelease {e : WeirEntry} {hd : Header} {payload : List Byte} (h : Canon s) : Canon (s.weirRelease e hd
    payload) := by
  dsimp only [State.weirRelease]
  exact .route (.digestAdd (.blackBox (.ite (.bump (.bump (.modCell (.upd (.weirDel (.ite_fst (.pair h) (.payloadUe
      h))))))) (.modCell (.upd (.weirDel (.ite_fst (.pair h) (.payloadUe h))))))))

theorem Canon.weirRestart {stream : Nat} (h : Canon s) : Canon (s.weirRestart stream) := by
  dsimp only [State.weirRestart]
  split
  · exact h
  · exact .ite h (.upd h)

theorem Canon.weirSet {e : WeirEntry} (h : Canon s) : Canon (s.weirSet e) := .upd h

theorem Canon.becomeEligible {e : WeirEntry} {hd : Header} {payload : List Byte} {lateArr : Bool} (h : Canon s) : Canon
    (s.becomeEligible e hd payload lateArr) := by
  dsimp only [State.becomeEligible]
  exact .ite (.ite (.weirSet (.pbufFree (.ite (.siteTake (.bump (.bump h))) (.decision (.bump (.bump h)))))) (.weirSet
      (.ite (.siteTake (.bump (.bump h))) (.decision (.bump (.bump h)))))) (.weirSet h)

theorem Canon.weirStream {stream n : Nat} (h : Canon s) : Canon (State.weirStream stream n s) := by
  induction n generalizing s with
  | zero => exact .weirRestart h
  | succ n ih =>
    unfold State.weirStream
    extract_lets s₁
    have h₁ : Canon s₁ := .weirRestart h
    split
    · exact h₁
    · split
      · exact h₁
      · exact h₁
      · refine .ite h₁ ?_
        split
        next e =>
        have h₂ := Canon.of_fst e (.ite_fst (.pair h₁) (.entryChk h₁))
        extract_lets s₃
        have h₃ : Canon s₃ := .ite (.weirSet (.pbufFree h₂)) h₂
        split
        · exact h₃
        · extract_lets s₄
          have h₄ : Canon s₄ := by
            refine .ite ?_ h₃
            split
            · exact .becomeEligible h₃
            · exact h₃
          split
          · exact h₄
          · split
            · exact .ite (ih (.weirRelease h₄)) h₄
            · exact h₄

theorem Canon.weirEval {stream : Nat} (h : Canon s) : Canon (s.weirEval stream) := .weirStream h

theorem Canon.flushProbes (h : Canon s) : Canon s.flushProbes := .foldl (.upd h) (fun _ _ h3 => .probeIn h3)

theorem Canon.weirRun (h : Canon s) : Canon s.weirRun := .foldl (.flushProbes h) (fun _ _ h3 => .weirEval h3)

theorem Canon.consume {c : Cell} (h : Canon s) : Canon (s.consume c) := .ite h (.modCell (.weirDel h))

theorem Canon.freeCell {c : Cell} (h : Canon s) : Canon (s.freeCell c) := by
  dsimp only [State.freeCell]
  refine .modCell ?_
  split
  · exact .weirSet h
  · exact .pbufFree h

theorem Canon.completeCell {g : Nat} (h : Canon s) : Canon (s.completeCell g) := by
  dsimp only [State.completeCell]
  split
  · exact h
  · exact .ite h (.weirRun (.trimOld (.reap (.modCell (.freeCell (.foldl (.consume h) (fun _ _ h8 => .weirDel h8)))))))

theorem Canon.holeForTail {stream gseq sub entry : Nat} {hd : Header} (h : Canon s) :
    Canon (s.holeForTail stream gseq sub entry hd) := .weirAdd (.weirDel h)

theorem Canon.abandonCell {g reason : Nat} (h : Canon s) : Canon (s.abandonCell g reason) := by
  dsimp only [State.abandonCell]
  split
  · exact h
  · exact .completeCell (.foldl (.modCell (.ite h (.ite (.holeForTail h) (.holeForTail (.weirDel h))))) (fun _ _ h8 =>
        .holeForTail h8))

theorem Canon.restorePending {c : Cell} (h : Canon s) : Canon (s.restorePending c) := .ite h (.weirAdd h)

theorem Canon.rerunCell {g : Nat} (h : Canon s) : Canon (s.rerunCell g) := by
  dsimp only [State.rerunCell]
  split
  · exact h
  · exact .restorePending (.modCell (.foldl h (fun _ _ h8 => .weirDel h8)))

theorem Canon.faultCell {g : Nat} (h : Canon s) : Canon (s.faultCell g) := by
  unfold State.faultCell
  split
  · exact h
  · exact .ite (.rerunCell h) (.abandonCell h)

theorem OptCanon.forward {g : Nat} (h : Canon s) : OptCanon (s.forward g) := by
  dsimp only [State.forward]
  split
  · exact .some h
  · exact .ite (.some h) (.ite (.some (.weirRun (.modCell (.weirDel h)))) (.ite .none (.some (.weirRun (.weirArrive
        (.modCell (.weirDel h)))))))

theorem Canon.emitCell {g stream sub : Nat} {rel : Option Nat} {mb payload : List Byte} (h : Canon s) : Canon (s.emitCell
    g stream sub rel mb payload) := by
  dsimp only [State.emitCell]
  split
  · exact h
  · exact .weirRun (.weirArrive (.modCell (.upd (.pbufStore (.tick h)))))

/-! ### Classification of cells and the takeover of commits -/

theorem Canon.freeHeron {k : Nat} (h : Canon s) : Canon (s.freeHeron k) := .upd h

theorem Canon.streamStays {c : Cell} {stream : Nat} (h : Canon s) : Canon (s.streamStays c stream).1 := by
  dsimp only [State.streamStays]
  exact .ite_fst (.pair h) (.ite_fst (.pair (.bump (.ite_fst (.entryChk h) (.pair h)))) (.ite_fst (.pair (.ite_fst (.qci
      (.ite_fst (.entryChk h) (.pair h))) (.pair (.ite_fst (.entryChk h) (.pair h))))) (.ite_fst (.pair (.upd (.ite_fst
      (.qci (.ite_fst (.entryChk h) (.pair h))) (.pair (.ite_fst (.entryChk h) (.pair h)))))) (.pair (.ite_fst (.qci
      (.ite_fst (.entryChk h) (.pair h))) (.pair (.ite_fst (.entryChk h) (.pair h))))))))

theorem Canon.directForward {g : Nat} (h : Canon s) : Canon (s.directForward g) := by
  dsimp only [State.directForward]
  split
  · exact h
  · exact .ite (.modCell (.ite h (.bump h))) (.freeHeron (.modCell (.weirArrive h)))

theorem Canon.toAction {g : Nat} (h : Canon s) : Canon (s.toAction g) := by
  dsimp only [State.toAction]
  split
  · exact h
  · exact .ite (.modCell h) (.freeHeron (.foldl (.ite (.modCell h) (.weirAdd (.modCell h))) (fun _ _ h8 => .weirAdd h8)))

theorem Canon.toNull {g : Nat} (h : Canon s) : Canon (s.toNull g) := by
  unfold State.toNull
  split
  · exact h
  · exact .freeHeron (.modCell (.pbufFree h))

theorem Canon.classifyKey {c : Cell} {key : HeldKey} (h : Canon s) : Canon (s.classifyKey c key) := by
  dsimp only [State.classifyKey]
  split
  · exact .ite (.toAction (.modCell (.streamStays (.shoalLookup h)))) (.ite (.directForward (.modCell (.streamStays
        (.shoalLookup h)))) (.toNull (.modCell (.streamStays (.shoalLookup h)))))
  · exact .ite (.toAction (.modCell (.streamStays (.shoalLookup h)))) (.ite (.directForward (.modCell (.streamStays
        (.shoalLookup h)))) (.toNull (.modCell (.streamStays (.shoalLookup h)))))
  · exact .ite (.toAction (.modCell (.streamStays (.pair h)))) (.ite (.directForward (.modCell (.streamStays (.pair h))))
        (.toNull (.modCell (.streamStays (.pair h)))))

theorem Canon.classifyCell {g : Nat} (h : Canon s) : Canon (s.classifyCell g) := by
  unfold State.classifyCell
  split
  · exact h
  · split
    · exact h
    · exact .ite h (.ite (.directForward h) (.ite (.toAction h) (.classifyKey h)))

theorem Canon.classifyReady (h : Canon s) : Canon s.classifyReady :=
  .weirRun (.trimOld (.reap (.foldl h (fun _ _ h3 => .classifyCell h3))))

theorem Canon.doCommitTakeover (h : Canon s) : Canon (doCommitTakeover s) := by
  dsimp only [Machine.doCommitTakeover]
  split
  · exact h
  · exact .ite h (.classifyReady (.trimOld (.foldl (.upd (.rewritten (.keepMarks h))) (fun _ _ h8 => .setReg h8))))

theorem Canon.shoalVisit {e g u : Nat} (h : Canon s) : Canon (s.shoalVisit e g u) := by
  dsimp only [State.shoalVisit]
  split
  · exact .upd (.foldl (.eccNote (.foldl (.shoalChk (.setEcc h)) (fun _ _ h11 => .setEcc (.eccNote h11)))) (fun _ _ h14 =>
        .setEcc h14))
  · exact .foldl (.shoalChk (.setEcc h)) (fun _ _ h20 => .setEcc (.eccNote h20))

theorem Canon.doShoalScrubVisit {e g u : Nat} (h : Canon s) : Canon (doShoalScrubVisit e g u s) := by
  unfold Machine.doShoalScrubVisit
  split
  next e3 => exact .shoalVisit (.of_some e3 (.scrubTurn h))
  · exact h

/-! ### Threads, contexts, grants, completions and the decision log's sites of threads -/

theorem Canon.setThread {c t : Nat} {x : Thread} (h : Canon s) : Canon (s.setThread c t x) := .upd h

theorem Canon.modThread {c t : Nat} {f : Thread → Thread} (h : Canon s) : Canon (s.modThread c t f) := by
  unfold State.modThread
  split
  · exact .setThread h
  · exact h

theorem Canon.freeContext {c t : Nat} (h : Canon s) : Canon (s.freeContext c t) := .upd h

theorem Canon.claimOver {b : Nat} (h : Canon s) : Canon (s.claimOver b) := .foldl h (fun _ _ h3 => .ite (.bump h3) h3)

theorem Canon.blockTakes {b i : Nat} (h : Canon s) : Canon (s.blockTakes b i) := .upd (.ite (.claimOver h) h)

theorem Canon.startThread {c t : Nat} {core : EgCore} {gseq inst : Nat} {isCell : Bool} {parent parentUid : Nat} (h : Canon s) :
    Canon (s.startThread c t core gseq inst isCell parent parentUid) := .setThread (.upd (.clearMem (.blockTakes h)))

theorem Canon.masterTake {type m : Nat} (h : Canon s) : Canon (s.masterTake type m) := .siteTake h

theorem Canon.waitEnds {c t k : Nat} (h : Canon s) : Canon (s.waitEnds c t k) :=
  .ite h (.ite (.masterTake h) (.decision h))

theorem Canon.finishLoad {c t : Nat} {l : EgLoad} {v : Nat} (h : Canon s) : Canon (s.finishLoad c t l v) := .modThread h

theorem Canon.requestDone {c t svc : Nat} (h : Canon s) : Canon (s.requestDone c t svc) := by
  dsimp only [State.requestDone]
  split
  · exact h
  · exact .ite (.freeContext h) (.setThread h)

theorem Canon.svcErr {c svc status : Nat} (h : Canon s) : Canon (s.svcErr c svc status) := .ite h (.bump h)

theorem Canon.complete {r : HelpReq} {svc status : Nat} (h : Canon s) : Canon (s.complete r svc status) := by
  dsimp only [State.complete]
  split
  · exact .svcErr h
  · exact .ite (.svcErr h) (.ite (.requestDone (.svcErr h)) (.setThread (.svcErr h)))

theorem Canon.blockRead {r : HelpReq} {off n : Nat} (h : Canon s) : Canon (s.blockRead r off n).1 := .rdMem h

theorem Canon.blockWrite {r : HelpReq} {off : Nat} {l : List Byte} (h : Canon s) : Canon (s.blockWrite r off l) :=
  .wrMem h

/-! ### Belfry: the directory, grants, abandonment and atomics -/

theorem Canon.bfCheck {r : BfReq} (h : Canon s) : Canon (s.bfCheck r).1 :=
  .ite_fst (.pair h) (.ite_fst (.pair h) (.ite_fst (.pair (.mapErr h)) (.ite_fst (.pair h) (.pair h))))

theorem Canon.bfComplete {r : BfReq} {status : Nat} {result : Option Nat} (h : Canon s) : Canon (s.bfComplete r status
    result) := by
  dsimp only [State.bfComplete]
  split
  · exact .upd h
  · split
    · refine .complete ?_
      split
      · exact .blockWrite h
      · exact h
    · split
      · exact .svcErr h
      · split
        · exact .svcErr h
        · split
          · exact .requestDone (.svcErr h)
          · split
            · exact .finishLoad (.tick (.waitEnds (.requestDone (.setThread (.svcErr h)))))
            · exact .requestDone (.setThread (.svcErr h))
    · exact .mbAnswer h
    · exact h

theorem Canon.bfPut {e : BfEntry} (h : Canon s) : Canon (s.bfPut e) := .upd h

theorem Canon.bfChk {e : BfEntry} (h : Canon s) : Canon (s.bfChk e) := by
  dsimp only [State.bfChk]
  exact .ite h (.ite (.setEcc (.eccNote h)) (.foldl (.bfPut (.record (.setBit (.setEcc (.eccCount h))))) (fun _ _ h3 =>
      .bfComplete h3)))

theorem Canon.bfGrant {e : BfEntry} (h : Canon s) : Canon (s.bfGrant e) := by
  dsimp only [State.bfGrant]
  split
  · exact .bfPut h
  · split
    · exact .bfPut h
    · exact .ite (.bfPut h) (.bfComplete (.bfPut h))

theorem Canon.bfLeave {e : BfEntry} {marked : Bool} (h : Canon s) : Canon (s.bfLeave e marked) := .bfGrant h

theorem Canon.bfAbandon {e : BfEntry} {master inst : Nat} (h : Canon s) : Canon (s.bfAbandon e master inst) :=
  .bfLeave (.record (.bump h))

theorem Canon.bfAlloc {r : BfReq} (h : Canon s) : Canon (s.bfAlloc r).1 :=
  .ite_fst (.pair (.setBit (.bump h))) (.ite_fst (.pair (.setBit (.bump h))) (.pair (.setFld (.setEcc (.upd h)))))

theorem Canon.bfLog {r : BfReq} {ticket status : Nat} (h : Canon s) : Canon (s.bfLog r ticket status) :=
  .ite (.siteTake h) (.decision h)

theorem Canon.bfEnds {r : BfReq} {status ticket : Nat} {result : Option Nat} (h : Canon s) :
    Canon (s.bfEnds r status ticket result) := .bfComplete (.bfLog h)

theorem Canon.bfTicket {r : BfReq} {e : BfEntry} (h : Canon s) : Canon (s.bfTicket r e) := .bfGrant (.bfLog h)

theorem Canon.bfLock {r : BfReq} (h : Canon s) : Canon (s.bfLock r) := by
  unfold State.bfLock
  extract_lets s₁
  have h₁ : Canon s₁ := by
    unfold s₁
    split
    · exact .ite h (.bfChk h)
    · exact h
  split
  · refine .ite ?_ (.bfEnds h₁)
    split
    next e => exact .bfTicket (.of_fst e (.bfAlloc h₁))
    next e => exact .bfEnds (.of_fst e (.bfAlloc h₁))
  · exact .ite (.bfEnds h₁) (.ite (.ite (.bfEnds h₁) (.ite (.bfEnds h₁) (.bfTicket h₁)))
      (.ite (.bfEnds h₁) (.ite (.bfEnds (.bump h₁)) (.bfLeave (.bfEnds h₁)))))

theorem Canon.bfAtomic {r : BfReq} (h : Canon s) : Canon (s.bfAtomic r).1 := by
  dsimp only [State.bfAtomic]
  split
  · exact .pair (.bfLog h)
  · split
    next e5 => exact .pair (.of_fst e5 (.rdMem (.bfLog h)))
    next e9 =>
      split
      · exact .pair (.ite (.bump (.of_fst e9 (.rdMem (.bfLog h)))) (.of_fst e9 (.rdMem (.bfLog h))))
      · split
        next e17 =>
          exact .pair (.of_fst e17 (.wrMem (.ite (.bump (.of_fst e9 (.rdMem (.bfLog h)))) (.of_fst e9 (.rdMem (.bfLog
              h))))))
        next e20 =>
          exact .pair (.of_fst e20 (.wrMem (.ite (.bump (.of_fst e9 (.rdMem (.bfLog h)))) (.of_fst e9 (.rdMem (.bfLog
              h))))))

theorem Canon.bfOffer {r : BfReq} (h : Canon s) : Canon (s.bfOffer r) := by
  dsimp only [State.bfOffer]
  split
  next e4 => exact .bfComplete (.of_fst e4 (.bfCheck h))
  next e7 => exact .upd (.of_fst e7 (.bfCheck h))

theorem Canon.bfPop {r : BfReq} (h : Canon s) : Canon (s.bfPop r) := .upd h

theorem Canon.bfHosts {n : Nat} (h : Canon s) : Canon (State.bfHosts n s) := by
  induction n generalizing s with
  | zero => exact h
  | succ n ih =>
    dsimp only [State.bfHosts]
    split
    · exact h
    · exact ih (.ite (.bfAtomic (.tick (.tick h))) (.bfLock h))

theorem Canon.bfRetry (h : Canon s) : Canon s.bfRetry := by
  unfold State.bfRetry
  split
  · exact h
  · refine .foldl h ?_
    intro _ _ h5
    split
    · exact .ite (.bfGrant h5) h5
    · exact h5

theorem Canon.bfWithdraw {e : BfEntry} {p : BfReq → Bool} (h : Canon s) : Canon (s.bfWithdraw e p) := by
  dsimp only [State.bfWithdraw]
  split
  · exact h
  · refine .bfGrant (.foldl h ?_)
    intro _ _ h5
    split
    · exact .requestDone h5
    · exact .requestDone h5
    · exact h5

theorem Canon.bfFinish {master inst : Nat} (h : Canon s) : Canon (s.bfFinish master inst) := by
  dsimp only [State.bfFinish]
  split
  · exact h
  · refine .foldl ?_ ?_
    · refine .foldl h ?_
      intro _ _ h5
      split
      · exact .bfWithdraw h5
      · exact h5
    · intro _ _ h13
      split
      · exact .ite (.bfAbandon h13) h13
      · exact h13

theorem Canon.bfPerform {r : BfReq} (h : Canon s) : Canon (s.bfPerform r) := by
  dsimp only [State.bfPerform]
  split
  · exact .bfComplete (.bfPop h)
  · exact .ite (.bfLock (.bfPop h)) (.bfComplete (.bfAtomic (.bfPop h)))

theorem Canon.bfTakeLock {r : BfReq} (h : Canon s) : Canon (s.bfTakeLock r) := by
  dsimp only [State.bfTakeLock]
  exact .ite (.bfRetry (.bfHosts h)) (.ite (.bfFinish (.bfPerform (.bfRetry (.bfHosts h)))) (.bfLock (.bfPop (.bfRetry
      (.bfHosts h)))))

theorem Canon.bfTakeAtomic {r : BfReq} (h : Canon s) : Canon (s.bfTakeAtomic r) := by
  dsimp only [State.bfTakeAtomic]
  exact .ite (.bfRetry (.bfHosts h)) (.ite (.bfFinish (.bfPerform (.bfRetry (.bfHosts h)))) (.upd (.bfAtomic (.bfRetry
      (.bfHosts h)))))

theorem Canon.bfHostEnd {m : Nat} (h : Canon s) : Canon (s.bfHostEnd m) := by
  dsimp only [State.bfHostEnd]
  refine .foldl (.upd h) ?_
  intro _ _ h3
  split
  · exact .bfWithdraw h3
  · exact h3

theorem Canon.bfDrain {n master : Nat} (h : Canon s) : Canon (State.bfDrain n master s) := by
  induction n generalizing s with
  | zero => exact h
  | succ n ih =>
    dsimp only [State.bfDrain]
    split
    · exact ih (.bfPerform (.bfHosts h))
    · exact .bfHosts h

theorem Canon.bfEnd {master inst : Nat} (h : Canon s) : Canon (s.bfEnd master inst) := .bfFinish (.bfDrain (.upd h))

/-! ### Traps, parking, stopping and the data address maps of Egret threads and Herons -/

theorem Canon.postedDone {c t : Nat} {p : Posted} (h : Canon s) : Canon (s.postedDone c t p) := by
  dsimp only [State.postedDone]
  split
  · exact h
  · split
    · exact .ite (.record (.tick (.modThread (.dramEndWrite h)))) (.modThread (.dramEndWrite h))
    · exact .ite (.record (.tick (.modThread (.wrMem h)))) (.modThread (.wrMem h))

theorem Canon.postedAll {c t : Nat} (h : Canon s) : Canon (s.postedAll c t) := by
  unfold State.postedAll
  split
  · exact .foldl h (fun _ _ h6 => .postedDone h6)
  · exact h

theorem Canon.slotNext {u : EgUnit} (h : Canon s) : Canon (s.slotNext u) := by
  dsimp only [State.slotNext]
  split
  · exact .upd h
  · exact h

theorem Canon.coreIdle {c k : Nat} (h : Canon s) : Canon (s.coreIdle c k) := .ite h (.tick (.upd h))

theorem Canon.slotIdle {u : EgUnit} (h : Canon s) : Canon (s.slotIdle u) := by
  unfold State.slotIdle
  split
  · exact .coreIdle h
  · exact h

theorem Canon.stopThread {c t : Nat} (h : Canon s) : Canon (s.stopThread c t) := by
  dsimp only [State.stopThread]
  split
  · exact .postedAll h
  · split
    · exact .postedAll h
    · split
      · refine .coreIdle ?_
        split
        · refine .freeContext (.bfEnd (.setThread ?_))
          split
          · exact .dramTake (.postedAll h)
          · exact .postedAll h
        · refine .bfEnd (.setThread ?_)
          split
          · exact .dramTake (.postedAll h)
          · exact .postedAll h
      · refine .coreIdle (.bfEnd (.setThread ?_))
        split
        · exact .dramTake (.postedAll h)
        · exact .postedAll h

theorem Canon.stopCell {g : Nat} (h : Canon s) : Canon (s.stopCell g) := .foldl h (fun _ _ h3 => .stopThread h3)

theorem Canon.park {c t cause : Nat} {core : EgCore} (h : Canon s) : Canon (s.park c t cause core) := by
  dsimp only [State.park]
  split
  · exact h
  · exact .faultCell (.stopCell (.ite (.setBit (.bump (.setBit (.bump (.record h))))) (.setBit (.bump (.record h)))))

theorem Canon.abortParse {k bit : Nat} (h : Canon s) : Canon (s.abortParse k bit) := by
  dsimp only [State.abortParse]
  split
  · exact h
  · exact .weirRun (.trimOld (.reap (.classifyCell (.modCell (.setBit (.bump h))))))

theorem Canon.thTrap {c t : Nat} {x : EgCore} {tr : Trap} (h : Canon s) : Canon (s.thTrap c t x tr) :=
  .ite (.park h) (.ite (.park h) (.bump (.modThread h)))

theorem Canon.egTrap {u : EgUnit} {x : EgCore} {tr : Trap} (h : Canon s) : Canon (s.egTrap u x tr) := by
  unfold State.egTrap
  split
  · exact .abortParse h
  · exact .thTrap h

theorem Canon.chanFault {c t : Nat} {x : EgCore} {cause chan slot : Nat} {pair : Bool} (h : Canon s) :
    Canon (s.chanFault c t x cause chan slot pair) := .thTrap (.bump (.setReg h))

theorem Canon.setCore {u : EgUnit} {x : EgCore} (h : Canon s) : Canon (s.setCore u x) := by
  dsimp only [State.setCore]
  split
  · exact .modThread h
  · split
    · exact .upd h
    · exact h

theorem Canon.egFetch {u : EgUnit} {x : EgCore} (h : Canon s) : Canon (s.egFetch u x).1 := by
  cases u with
  | thread c t =>
    dsimp only [State.egFetch]
    refine .ite_fst (.pair h) ?_
    split
    next e => exact .pair (.of_fst e (.rdChk h))
    next e => exact .pair (.of_fst e (.rdChk h))
  | heron k =>
    dsimp only [State.egFetch]
    refine .ite_fst (.pair h) ?_
    split
    next e => exact .pair (.of_fst e (.rdChk h))
    next e => exact .pair (.of_fst e (.rdChk h))

theorem Canon.egRow {u : EgUnit} {op : EgOp} {body : EgCore → Nat → State → State} (h : Canon s) (hbody : ∀ (a : EgCore)
    (a_1 : Nat) (a_2 : State), Canon a_2 → Canon (body a a_1 a_2)) : Canon (s.egRow u op body) := by
  dsimp only [State.egRow]
  split
  · exact h
  · split
    · exact h
    · split
      next e11 => exact .slotIdle (.egTrap (.slotNext (.of_fst e11 (.egFetch h))))
      next e15 =>
        exact .ite (.slotIdle (.egTrap (.slotNext (.of_fst e15 (.egFetch h))))) (.ite (.slotIdle (hbody _ _ _ (.slotNext
            (.of_fst e15 (.egFetch h))))) h)

theorem Canon.egPure {u : EgUnit} {op : EgOp} {f : Nat → EgCore → Except Nat EgCore} (h : Canon s) : Canon (s.egPure u op
    f) := by
  unfold State.egPure
  refine .egRow h ?_
  intro _ _ _ h4
  split
  · exact .setCore h4
  · exact .egTrap h4

theorem Canon.farOk {inst : Nat} {x : EgCore} {dev n : Nat} {rd wr : Bool} (h : Canon s) :
    Canon ((s.farOk inst x dev n rd wr).1) := .ite_fst (.pair h) (.ite_fst (.pair (.mapErr h)) (.pair h))

theorem Canon.payloadRead {g off n : Nat} (h : Canon s) : Canon (s.payloadRead g off n).1 := by
  dsimp only [State.payloadRead]
  split
  · exact .pair h
  · refine .pair ?_
    split
    · exact .pair h
    · split
      next e11 => exact .pair (.of_fst e11 (.rdChk h))
      next e14 => exact .pair (.of_fst e14 (.rdChk h))

theorem Canon.payloadWrite {g off : Nat} {l : List Byte} (h : Canon s) : Canon (s.payloadWrite g off l).1 := by
  dsimp only [State.payloadWrite]
  split
  · exact .pair h
  · exact .pair (.modCell (.foldl (.foldl h (fun _ _ h8 => .ite (.setEcc h8) (.ite (.setEcc (.eccNote h8)) (.setEcc
        (.eccNote h8))))) (fun _ _ h11 => .ite h11 (.wr8 h11))))

theorem Canon.headerWrite {g off : Nat} {l : List Byte} (h : Canon s) : Canon (s.headerWrite g off l) := by
  dsimp only [State.headerWrite]
  split
  · exact h
  · exact .ite (.modCell (.pbufFree h)) (.modCell h)

theorem Canon.regionRead {c t : Nat} {x : Thread} {a n : Nat} (h : Canon s) : Canon (s.regionRead c t x a n).1 := by
  dsimp only [State.regionRead]
  split
  · split
    next e6 => exact .pair (.of_fst e6 (.rdChk h))
    next e9 => exact .pair (.of_fst e9 (.rdChk h))
  · exact .pair h
  · split
    next e17 => exact .pair (.of_fst e17 (.payloadRead h))
    next e20 => exact .pair (.of_fst e20 (.payloadRead h))
  · split
    · exact .pair h
    · split
      next e28 => exact .pair (.of_fst e28 (.rdChk h))
      next e31 => exact .pair (.of_fst e31 (.rdChk h))
  · exact .pair h
  · exact .pair h
  · exact .pair h

theorem Canon.thRead {c t : Nat} {x : Thread} {a n : Nat} (h : Canon s) : Canon (s.thRead c t x a n).1 := by
  have hfar := @Canon.farOk
  have hrd := @Canon.rdMem
  unfold State.thRead
  obtain ⟨far, efar⟩ := exists_eq' (a' := @State.farOk)
  rw [efar] at hfar ⊢
  obtain ⟨rd, erd⟩ := exists_eq' (a' := @State.rdMem)
  rw [erd] at hrd ⊢
  refine .ite_fst ?_ (.regionRead h)
  extract_lets dev
  split
  next e => exact .pair (.of_fst e (hfar h))
  next e =>
    split
    next e' => exact .pair (.of_fst e' (hrd (.of_fst e (hfar h))))
    next e' => exact .pair (.of_fst e' (hrd (.of_fst e (hfar h))))

theorem Canon.storeCheck {c : Nat} {x : Thread} {a n : Nat} (h : Canon s) : Canon (s.storeCheck c x a n).1 := by
  dsimp only [State.storeCheck]
  split
  · exact .pair h
  · split
    · exact .pair h
    · split
      next e14 => exact .pair (.of_fst e14 (.farOk h))
      next e17 => exact .pair (.of_fst e17 (.farOk h))

theorem Canon.postedBefore {c t : Nat} {x : Thread} {dev n : Nat} (h : Canon s) : Canon (s.postedBefore c t x dev n) :=
  .foldl h (fun _ _ h3 => .postedDone h3)

theorem Canon.postStore {c t dev : Nat} {l : List Byte} {who : Who} (h : Canon s) : Canon (s.postStore c t dev l who) := by
  unfold State.postStore
  split
  next e4 =>
    refine .modThread (.of_fst e4 ?_)
    split
    · dsimp only
      exact .dramOffer h
    · exact .pair h

theorem Canon.thPut {c t : Nat} {x : Thread} {a : Nat} {l : List Byte} (h : Canon s) : Canon (s.thPut c t x a l).1 := by
  unfold State.thPut
  extract_lets who
  split
  next s₁ _ e₁ =>
  have h₁ : Canon s₁ := by
    refine .of_fst e₁ ?_
    split
    · exact .wrChk h
    · exact .pair h
  extract_lets s₂
  have h₂ : Canon s₂ := by
    unfold s₂
    split
    · exact .headerWrite h₁
    · exact h₁
  split
  next s₃ _ e₃ =>
  have h₃ : Canon s₃ := by
    refine .of_fst e₃ ?_
    split
    · exact .payloadWrite h₂
    · exact .pair h₂
  split
  next s₄ _ e₄ =>
  have h₄ : Canon s₄ := by
    refine .of_fst e₄ ?_
    split
    · exact .wrChk (.postedBefore h₃)
    · exact .pair h₃
  extract_lets s₅ s₆
  have h₅ : Canon s₅ := by
    unfold s₅
    split
    · exact .modThread h₄
    · exact h₄
  have h₆ : Canon s₆ := by
    unfold s₆
    split
    · exact h₅
    · exact .postStore h₅
  exact h₆

theorem Canon.thStore {c t : Nat} {x : Thread} {a : Nat} {l : List Byte} (h : Canon s) : Canon ((s.thStore c t x a l).1)
    := by
  unfold State.thStore
  split
  · exact .pair h
  · split
    next e6 => exact .pair (.of_fst e6 (.storeCheck h))
    next e9 => exact .pair (.thPut (.of_fst e9 (.storeCheck h)))

theorem Canon.hnRead {r : HeronRun} {a n : Nat} (h : Canon s) : Canon (s.hnRead r a n).1 := by
  dsimp only [State.hnRead]
  split
  · exact .pair h
  · refine .foldl_fst (.pair h) ?_
    intro _ _ h5
    split
    next h5 => exact h5
    next h5 =>
      split
      · exact .pair h5
      · split
        · exact .pair h5
        · split
          next e18 => exact .pair (.of_fst e18 (.payloadRead h5))
          next e21 => exact .pair (.of_fst e21 (.payloadRead h5))

/-! ### The words of the Egret instruction set that Egret threads and Herons share -/

theorem Canon.thLoad {c t : Nat} {l : EgLoad} {n : Nat} (h : Canon s) : Canon (s.thLoad c t l n) := by
  dsimp only [State.thLoad]
  split
  · exact h
  · split
    · exact .thTrap h
    · split
      · split
        next e11 => exact .thTrap (.of_fst e11 (.farOk h))
        next e14 => exact .ite (.setThread (.dramOffer (.of_fst e14 (.farOk h)))) (.setThread (.of_fst e14 (.farOk h)))
      · split
        · exact .setThread h
        · split
          · exact .ite h (.ite (.chanFault h) (.ite (.bfComplete (.setThread h)) (.bfOffer (.setThread h))))
          · split
            next e23 => exact .finishLoad (.of_fst e23 (.regionRead h))
            next e28 => exact .thTrap (.of_fst e28 (.regionRead h))

theorem Canon.egLoad {u : EgUnit} {l : EgLoad} {n : Nat} (h : Canon s) : Canon (s.egLoad u l n) := by
  unfold State.egLoad
  split
  · exact .thLoad h
  · split
    · exact h
    · split
      · exact .abortParse h
      · split
        next e15 => exact .abortParse (.of_fst e15 (.hnRead h))
        next e19 => exact .setCore (.of_fst e19 (.hnRead h))

theorem Canon.egStore {u : EgUnit} {x post : EgCore} {a : Nat} {bytes : List Byte} {slot : Nat} {pair : Bool} (h : Canon
    s) : Canon (s.egStore u x post a bytes slot pair) := by
  dsimp only [State.egStore]
  split
  · split
    · exact h
    · split
      next e13 => exact .thTrap (.of_fst e13 (.thStore h))
      next e16 => exact .setCore (.of_fst e16 (.thStore h))
  · split
    · exact h
    · exact .ite (.setCore (.upd h)) (.abortParse h)

theorem Canon.doPairWord {u : EgUnit} (h : Canon s) : Canon (doPairWord u s) := by
  dsimp only [Machine.doPairWord]
  refine .egRow h ?_
  intro _ _ _ h4
  split
  · exact .egTrap h4
  · exact .egTrap h4
  · split
    · exact .egTrap h4
    · split
      · exact .setCore h4
      · exact .egLoad h4
      · exact .egStore h4

theorem Canon.doLd {u : EgUnit} (h : Canon s) : Canon (doLd u s) :=
  .egRow h (fun _ _ _ h4 => .ite (.egTrap h4) (.egLoad h4))

theorem Canon.doLdp {u : EgUnit} (h : Canon s) : Canon (doLdp u s) :=
  .egRow h (fun _ _ _ h4 => .ite (.egTrap h4) (.egLoad h4))

theorem Canon.doSt {u : EgUnit} (h : Canon s) : Canon (doSt u s) :=
  .egRow h (fun _ _ _ h4 => .ite (.egTrap h4) (.egStore h4))

theorem Canon.doStp {u : EgUnit} (h : Canon s) : Canon (doStp u s) := .egRow h (fun _ _ _ h4 => .egStore h4)

theorem Canon.doLdx {u : EgUnit} (h : Canon s) : Canon (doLdx u s) := .egRow h (fun _ _ _ h4 => .egLoad h4)

theorem Canon.doStx {u : EgUnit} (h : Canon s) : Canon (doStx u s) := .egRow h (fun _ _ _ h4 => .egStore h4)

theorem Canon.doCall {u : EgUnit} (h : Canon s) : Canon (doCall u s) := by
  dsimp only [Machine.doCall]
  refine .egRow h ?_
  intro _ _ _ h4
  split
  · exact .abortParse h4
  · exact .ite (.setCore h4) (.ite (.thTrap h4) (.ite (.thTrap h4) (.setCore (.bump (.wrChk h4)))))

theorem Canon.doRet {u : EgUnit} (h : Canon s) : Canon (doRet u s) := by
  dsimp only [Machine.doRet]
  refine .egRow h ?_
  intro _ _ _ h4
  split
  · exact .abortParse h4
  · split
    · exact .thTrap h4
    · split
      · exact .thTrap h4
      · split
        · exact .setCore h4
        · split
          · exact .thTrap h4
          · split
            next e20 => exact .thTrap (.of_fst e20 (.rdChk h4))
            next e24 => exact .setCore (.bump (.of_fst e24 (.rdChk h4)))

/-! ### System words of Egret threads: forks and joins, traps, channels, disposal and emits -/

theorem Canon.sysRow {c : Fin 6} {t : Fin 32} {op : EgOp} {body : Thread → Nat → State → State} (h : Canon s) (hbody : ∀
    (a : Thread) (a_1 : Nat) (a_2 : State), Canon a_2 → Canon (body a a_1 a_2)) : Canon (s.sysRow c t op body) := by
  unfold State.sysRow
  refine .egRow h ?_
  intro _ _ _ h4
  split
  · exact hbody _ _ _ h4
  · exact h4

theorem Canon.thDone {c t : Nat} {core : EgCore} (h : Canon s) : Canon (s.thDone c t core) := .modThread h

theorem Canon.thWait {c t : Nat} {w : EgWait} (h : Canon s) : Canon (s.thWait c t w) := .modThread h

theorem OptCanon.forkTry {c t : Nat} {x : Thread} {rd target : Nat} (h : Canon s) : OptCanon (s.forkTry c t x rd target)
    := by
  dsimp only [State.forkTry]
  split
  · split
    · exact .none
    · exact .ite (.some (.thDone (.startThread (.masterTake h)))) .none
  · split
    · exact .none
    · split
      · exact .none
      · exact .some (.thDone (.startThread (.decision h)))

theorem Canon.doFork {c : Fin 6} {t : Fin 32} (h : Canon s) : Canon (doFork c t s) := by
  unfold Machine.doFork
  refine .sysRow h ?_
  intro _ _ _ h4
  split
  · exact h4
  · split
    next e9 => exact .of_some e9 (.forkTry h4)
    · exact .thWait (.bump h4)

theorem Canon.doForkUnblock {c : Fin 6} {t : Fin 32} (h : Canon s) : Canon (doForkUnblock c t s) := by
  unfold Machine.doForkUnblock
  split
  · split
    · exact .getD h (.forkTry h)
    · exact h
  · exact h

theorem Canon.doForkq {c : Fin 6} {t : Fin 32} (h : Canon s) : Canon (doForkq c t s) := by
  dsimp only [Machine.doForkq]
  refine .sysRow h ?_
  intro _ _ _ h4
  split
  · exact h4
  · split
    · split
      · exact h4
      · split
        · exact .thDone (.bump (.masterTake h4))
        · split
          next e17 => exact .modThread (.of_some e17 (.forkTry h4))
          · exact h4
    · split
      next e23 => exact .modThread (.of_some e23 (.forkTry h4))
      · exact .thDone (.bump (.decision h4))

theorem Canon.doJoin {c : Fin 6} {t : Fin 32} (h : Canon s) : Canon (doJoin c t s) :=
  .sysRow h (fun _ _ _ h4 => .ite (.thWait h4) (.thDone h4))

theorem Canon.doJoinReturn {c : Fin 6} {t : Fin 32} (h : Canon s) : Canon (doJoinReturn c t s) := by
  unfold Machine.doJoinReturn
  split
  · exact .ite (.thDone (.waitEnds h)) h
  · exact h

theorem Canon.exitConsumes {x : Thread} (h : Canon s) : Canon (s.exitConsumes x) := by
  unfold State.exitConsumes
  split
  · exact h
  · split
    · exact .weirRun (.consume h)
    · exact h

theorem Canon.doExit {c : Fin 6} {t : Fin 32} (h : Canon s) : Canon (doExit c t s) :=
  .sysRow h (fun _ _ _ h4 => .ite h4 (.ite (.completeCell (.stopThread h4)) (.exitConsumes (.stopThread h4))))

theorem Canon.doTrap {c : Fin 6} {t : Fin 32} (h : Canon s) : Canon (doTrap c t s) :=
  .sysRow h (fun _ _ _ h4 => .thTrap h4)

theorem Canon.doBkpt {c : Fin 6} {t : Fin 32} (h : Canon s) : Canon (doBkpt c t s) :=
  .sysRow h (fun _ _ _ h4 => .thTrap h4)

theorem Canon.doFault {c : Fin 6} {t : Fin 32} (h : Canon s) : Canon (doFault c t s) :=
  .sysRow h (fun _ _ _ h4 => .park h4)

theorem Canon.doFence {c : Fin 6} {t : Fin 32} (h : Canon s) : Canon (doFence c t s) :=
  .sysRow h (fun _ _ _ h4 => .ite h4 (.setThread h4))

theorem Canon.chanMark {c t id sender : Nat} {send failed : Bool} (h : Canon s) :
    Canon (s.chanMark c t id sender send failed) := .ite (.siteTake h) (.decision h)

theorem Canon.timeReceive {r : HelpReq} (h : Canon s) : Canon (s.timeReceive r) := by
  dsimp only [State.timeReceive]
  split
  · exact .upd h
  · split
    · exact .upd h
    · split
      next e7 => exact .upd (.of_fst e7 (.blockRead h))
      next e11 => exact .ite (.upd (.of_fst e11 (.blockRead h))) (.upd (.of_fst e11 (.blockRead h)))

theorem Canon.belfryReceive {r : HelpReq} (h : Canon s) : Canon (s.belfryReceive r) := by
  dsimp only [State.belfryReceive]
  split
  · exact .complete h
  · split
    next e5 => exact .complete (.of_fst e5 (.blockRead h))
    next e9 => exact .ite (.bfComplete (.of_fst e9 (.blockRead h))) (.bfOffer (.of_fst e9 (.blockRead h)))

theorem Canon.serviceSend {c t : Nat} {x : Thread} {svc v : Nat} (h : Canon s) : Canon (s.serviceSend c t x svc v) := by
  dsimp only [State.serviceSend]
  split
  · exact .timeReceive (.modThread h)
  · exact .upd (.modThread h)
  · exact .belfryReceive (.modThread h)
  · exact .upd (.modThread h)

theorem Canon.readCheck {c : Nat} {x : Thread} {a n : Nat} (h : Canon s) : Canon (s.readCheck c x a n).1 := by
  dsimp only [State.readCheck]
  split
  · exact .pair h
  · split
    · exact .pair h
    · split
      next e14 => exact .pair (.of_fst e14 (.farOk h))
      next e17 => exact .pair (.of_fst e17 (.farOk h))

theorem Canon.thReadAny {c t : Nat} {x : Thread} {a n : Nat} (h : Canon s) : Canon (s.thReadAny c t x a n).1 := by
  unfold State.thReadAny
  split
  · exact .thRead h
  · split
    next e7 => exact .pair (.of_fst e7 (.readCheck h))
    next e10 =>
      refine .foldl_fst (.pair (.of_fst e10 (.readCheck h))) ?_
      intro _ _ h13
      split
      next h13 =>
        split
        next e20 => exact .pair (.of_fst e20 (.thRead h13))
        · exact .thRead h13
      · exact h13

theorem Canon.sendRow {c : Fin 6} {t : Fin 32} {op : EgOp} {go : Thread → Nat → Nat → Nat → State → State} (h : Canon s)
    (hgo : ∀ (a : Thread) (a_1 a_2 a_3 : Nat) (a_4 : State), Canon a_4 → Canon (go a a_1 a_2 a_3 a_4)) : Canon (s.sendRow
    c t op go) := by
  unfold State.sendRow
  refine .sysRow h ?_
  intro _ _ _ h4
  split
  · split
    · exact h4
    · split
      next e16 => exact .thTrap (.of_fst e16 (.thReadAny h4))
      next e20 =>
        split
        · exact .chanFault (.of_fst e20 (.thReadAny h4))
        · exact .ite (.chanFault (.of_fst e20 (.thReadAny h4))) (hgo _ _ _ _ _ (.of_fst e20 (.thReadAny h4)))

theorem Canon.chanPut {c t id v : Nat} (h : Canon s) : Canon (s.chanPut c t id v) := .upd h

theorem OptCanon.sendTry {c t : Nat} {x : Thread} {id v : Nat} (h : Canon s) : OptCanon (s.sendTry c t x id v) :=
  .ite .none (.some (.ite (.serviceSend (.chanMark h)) (.chanPut (.chanMark h))))

theorem Canon.doSend {c : Fin 6} {t : Fin 32} (h : Canon s) : Canon (doSend c t s) := by
  unfold Machine.doSend
  refine .sendRow h ?_
  intro _ _ _ _ _ h6
  split
  next e9 => exact .thDone (.of_some e9 (.sendTry h6))
  · exact .thWait h6

theorem Canon.doSendUnblock {c : Fin 6} {t : Fin 32} (h : Canon s) : Canon (doSendUnblock c t s) := by
  unfold Machine.doSendUnblock
  split
  · split
    · split
      · exact h
      · split
        next e12 => exact .thDone (.waitEnds (.of_some e12 (.sendTry h)))
        · exact h
    · exact h
  · exact h

theorem Canon.doSendq {c : Fin 6} {t : Fin 32} (h : Canon s) : Canon (doSendq c t s) := by
  dsimp only [Machine.doSendq]
  refine .sendRow h ?_
  intro _ _ _ _ _ h6
  split
  · exact h6
  · exact .thDone (.chanMark h6)
  · split
    next e15 => exact .thDone (.of_some e15 (.sendTry h6))
    · exact .ite h6 (.thDone (.chanMark h6))

theorem Canon.chanTake {c t : Nat} {x : Thread} {id : Nat} {q : State × Nat × Nat} (h : Canon s)
    (e : s.chanTake c t x id = some q) : Canon q.1 := by
  unfold State.chanTake at e
  split at e
  · dsimp only at e
    split at e
    · cases e
    · obtain rfl := Option.some.inj e
      exact .pair (.requestDone (.setThread h))
  · split at e
    · cases e
    · obtain rfl := Option.some.inj e
      exact .pair (.upd h)

theorem OptCanon.recvTry {c t : Nat} {x : Thread} {id a : Nat} {core : EgCore} (h : Canon s) : OptCanon (s.recvTry c t x
    id a core) := by
  dsimp only [State.recvTry]
  split
  · exact .none
  · split
    · exact .none
    next e9 =>
      split
      · exact .some (.chanMark (.chanTake h e9))
      · exact .some (.thDone (.thPut (.chanMark (.chanTake h e9))))

theorem Canon.recvRow {c : Fin 6} {t : Fin 32} {op : EgOp} {go : Thread → Nat → Nat → Nat → State → State} (h : Canon s)
    (hgo : ∀ (a : Thread) (a_1 a_2 a_3 : Nat) (a_4 : State), Canon a_4 → Canon (go a a_1 a_2 a_3 a_4)) : Canon (s.recvRow
    c t op go) := by
  unfold State.recvRow
  refine .sysRow h ?_
  intro _ _ _ h4
  split
  · split
    next e14 => exact .thTrap (.of_fst e14 (.storeCheck h4))
    next e17 =>
      split
      · exact .chanFault (.of_fst e17 (.storeCheck h4))
      · exact hgo _ _ _ _ _ (.of_fst e17 (.storeCheck h4))

theorem Canon.doRecv {c : Fin 6} {t : Fin 32} (h : Canon s) : Canon (doRecv c t s) := by
  unfold Machine.doRecv
  refine .recvRow h ?_
  intro _ _ _ _ _ h6
  split
  next e9 => exact .of_some e9 (.recvTry h6)
  · exact .thWait h6

theorem Canon.doRecvUnblock {c : Fin 6} {t : Fin 32} (h : Canon s) : Canon (doRecvUnblock c t s) := by
  unfold Machine.doRecvUnblock
  split
  · split
    · split
      · exact h
      · split
        · exact .thTrap (.waitEnds h)
        next e20 _ => exact .waitEnds (.of_some e20 (.recvTry h))
        · exact h
    · exact h
  · exact h

theorem Canon.doRecvq {c : Fin 6} {t : Fin 32} (h : Canon s) : Canon (doRecvq c t s) := by
  dsimp only [Machine.doRecvq]
  refine .recvRow h ?_
  intro _ _ _ _ _ h6
  split
  · exact h6
  · exact .thDone (.chanMark h6)
  · split
    next e15 => exact .of_some e15 (.recvTry h6)
    · exact .ite h6 (.thDone (.chanMark h6))

theorem Canon.doFwd {c : Fin 6} {t : Fin 32} (h : Canon s) : Canon (doFwd c t s) := by
  unfold Machine.doFwd
  refine .sysRow h ?_
  intro _ _ _ h4
  split
  · exact .chanFault h4
  · split
    · exact h4
    · split
      next e11 => exact .thDone (.of_some e11 (.forward h4))
      · exact .thWait (.bump h4)

theorem Canon.doConsume {c : Fin 6} {t : Fin 32} (h : Canon s) : Canon (doConsume c t s) := by
  unfold Machine.doConsume
  refine .sysRow h ?_
  intro _ _ _ h4
  split
  · exact .chanFault h4
  · split
    · exact .weirRun (.consume (.thDone h4))
    · exact h4

theorem Canon.emitGo {c t : Nat} {x : Thread} {rd : Nat} {e : Emit} (h : Canon s) : Canon (s.emitGo c t x rd e) :=
  .emitCell (.thDone h)

theorem Canon.emitWord {c t : Nat} {x : Thread} {rd : Nat} {d : List Byte} (h : Canon s) : Canon (s.emitWord c t x rd d)
    := by
  dsimp only [State.emitWord]
  split
  · exact h
  · split
    · exact .thTrap h
    · split
      · exact .modCell (.thDone h)
      · split
        · exact .thDone (.bump h)
        · split
          next e16 => exact .thTrap (.of_fst e16 (.ite_fst (.pair h) (.thRead h)))
          next e20 =>
            exact .ite (.emitGo (.of_fst e20 (.ite_fst (.pair h) (.thRead h)))) (.thWait (.bump (.of_fst e20 (.ite_fst
                (.pair h) (.thRead h)))))

theorem Canon.doEmit {c : Fin 6} {t : Fin 32} (h : Canon s) : Canon (doEmit c t s) := by
  dsimp only [Machine.doEmit]
  refine .sysRow h ?_
  intro _ _ _ h4
  split
  · exact h4
  · split
    · exact .thTrap h4
    · split
      next e13 => exact .thTrap (.of_fst e13 (.thRead h4))
      next e17 => exact .emitWord (.of_fst e17 (.thRead h4))

theorem Canon.emitAgain {c t : Nat} {x : Thread} {rd : Nat} {e : Emit} (h : Canon s) : Canon (s.emitAgain c t x rd e) := by
  dsimp only [State.emitAgain]
  split
  · exact h
  · exact .ite (.ite (.emitGo h) h) (.thDone (.bump h))

theorem Canon.doWeirWaitEnd {w : WeirWaiter} (h : Canon s) : Canon (doWeirWaitEnd w s) := by
  unfold Machine.doWeirWaitEnd
  split
  · exact .weirRun (.trimOld (.reap (.classifyCell h)))
  · split
    · exact h
    · split
      · split
        next e15 => exact .thDone (.of_some e15 (.forward h))
        · exact h
      · exact .emitAgain h
      · exact h

theorem Canon.doWeirReleaseDue {stream : Nat} (h : Canon s) : Canon (doWeirReleaseDue stream s) := .weirEval h

theorem Canon.doFarLoadData {c t : Nat} (h : Canon s) : Canon (doFarLoadData c t s) := by
  dsimp only [Machine.doFarLoadData]
  split
  · exact h
  · split
    · split
      · split
        next e16 => exact .finishLoad (.of_fst e16 (.rdMem h))
        next e19 => exact .thTrap (.of_fst e19 (.rdMem h))
      · split
        · exact .ite h (.ite (.thTrap (.dramTake h)) (.finishLoad (.dramTake h)))
        · exact .thTrap h
    · exact h

theorem Canon.doPostedStoreComplete {c t : Nat} (h : Canon s) : Canon (doPostedStoreComplete c t s) := by
  dsimp only [Machine.doPostedStoreComplete]
  split
  · exact h
  · split
    · exact .postedDone h
    · exact h

theorem Canon.doWaitLimitExpiry {c t : Nat} (h : Canon s) : Canon (doWaitLimitExpiry c t s) := by
  dsimp only [Machine.doWaitLimitExpiry]
  split
  · exact h
  · split
    · exact .ite (.chanFault (.waitEnds h)) h
    · exact h

theorem Canon.doBelfryWaitLimit {c t : Nat} (h : Canon s) : Canon (doBelfryWaitLimit c t s) := by
  dsimp only [Machine.doBelfryWaitLimit]
  split
  · exact h
  · split
    · split
      · exact h
      · refine .chanFault ?_
        split
        · exact .requestDone (.upd (.waitEnds h))
        · refine .foldl (.upd (.waitEnds h)) ?_
          intro _ _ h16
          split
          · exact .bfWithdraw h16
          · exact h16
    · exact h

theorem Canon.doTimePortSample {c t : Nat} (h : Canon s) : Canon (doTimePortSample c t s) := by
  dsimp only [Machine.doTimePortSample]
  split
  · exact h
  · split
    · split
      · split
        · exact .finishLoad (.setThread (.siteTake h))
        · exact h
      · exact .finishLoad (.setThread (.decision h))
    · exact h

/-! ### Heron parses, dispatch, the helpers and Belfry's requests from threads -/

theorem Canon.modHeron {k : Nat} {f : HeronRun → HeronRun} (h : Canon s) : Canon (s.modHeron k f) := by
  dsimp only [State.modHeron]
  split
  · exact .upd h
  · exact h

theorem Canon.doHeronParseStart {k : Nat} (h : Canon s) : Canon (doHeronParseStart k s) := by
  dsimp only [Machine.doHeronParseStart]
  split
  · exact h
  · split
    · exact h
    · exact .modCell (.upd h)

theorem Canon.hnRow {k : Fin 16} {op : EgOp} {body : HeronRun → EgCore → Nat → State → State} (h : Canon s) (hbody : ∀ (a
    : HeronRun) (a_1 : EgCore) (a_2 : Nat) (a_3 : State), Canon a_3 → Canon (body a a_1 a_2 a_3)) : Canon (s.hnRow k op
    body) := by
  unfold State.hnRow
  refine .egRow h ?_
  intro _ _ _ h4
  split
  · exact hbody _ _ _ _ h4
  · exact h4

theorem Canon.doKmov {k : Fin 16} (h : Canon s) : Canon (doKmov k s) := by
  dsimp only [Machine.doKmov]
  refine .hnRow h ?_
  intro _ _ _ _ h5
  split
  · exact .abortParse h5
  · split
    next e10 => exact .abortParse (.of_fst e10 (.hnRead h5))
    next e14 => exact .setCore (.modHeron (.of_fst e14 (.hnRead h5)))

theorem Canon.doKput {k : Fin 16} (h : Canon s) : Canon (doKput k s) :=
  .hnRow h (fun _ _ _ _ h5 => .ite (.abortParse h5) (.setCore (.modHeron h5)))

theorem Canon.doKend {k : Fin 16} (h : Canon s) : Canon (doKend k s) := by
  dsimp only [Machine.doKend]
  refine .hnRow h ?_
  intro _ _ _ _ h5
  split
  next e8 => exact .abortParse (.of_fst e8 (.ite_fst (.hnRead h5) (.pair h5)))
  next e12 =>
    refine .weirRun (.trimOld (.reap (.classifyCell (.modCell ?_))))
    split
    · exact .upd (.of_fst e12 (.ite_fst (.hnRead h5) (.pair h5)))
    · exact .of_fst e12 (.ite_fst (.hnRead h5) (.pair h5))

theorem Canon.doStepLimitAbort {k : Nat} (h : Canon s) : Canon (doStepLimitAbort k s) := by
  dsimp only [Machine.doStepLimitAbort]
  split
  · exact h
  · exact .ite (.abortParse h) h

theorem Canon.actionMove {g : Nat} (h : Canon s) : Canon (s.actionMove g) := .modCell (.completeCell (.bump h))

theorem Canon.actionChk {c : Cell} (h : Canon s) : Canon (s.actionChk c) := .entryChk h

theorem Canon.doDispatch (h : Canon s) : Canon (doDispatch s) := by
  dsimp only [Machine.doDispatch]
  split
  · exact .foldl h (fun _ _ h5 => .restorePending (.actionChk h5))
  · refine .classifyReady ?_
    split
    · exact .actionMove (.foldl h (fun _ _ h12 => .restorePending (.actionChk h12)))
    · split
      · exact .foldl h (fun _ _ h18 => .restorePending (.actionChk h18))
      · exact .modCell (.startThread (.ite (.siteTake (.foldl h (fun _ _ h25 => .restorePending (.actionChk h25))))
            (.decision (.foldl h (fun _ _ h28 => .restorePending (.actionChk h28))))))

theorem Canon.helperTake {c k : Nat} {q : State × HelpReq} (h : Canon s) (e : s.helperTake c k = some q) : Canon q.1 := by
  unfold State.helperTake at e
  split at e
  · cases e
  · obtain rfl := Option.some.inj e
    exact .pair (.upd h)

theorem Canon.doLookup {c : Nat} (h : Canon s) : Canon (doLookup c s) := by
  dsimp only [Machine.doLookup]
  split
  · exact h
  next e6 =>
    split
    · exact .complete (.helperTake h e6)
    · split
      · exact .complete (.helperTake h e6)
      · split
        next e13 => exact .complete (.of_fst e13 (.blockRead (.helperTake h e6)))
        next e17 =>
          split
          · exact .complete (.of_fst e17 (.blockRead (.helperTake h e6)))
          · split
            · exact .complete (.of_fst e17 (.blockRead (.helperTake h e6)))
            · split
              next e24 => exact .complete (.of_fst e24 (.rdChk (.of_fst e17 (.blockRead (.helperTake h e6)))))
              next e28 => exact .complete (.blockWrite (.of_fst e28 (.rdChk (.of_fst e17 (.blockRead (.helperTake h e6))))))

theorem Canon.copyRead {r : HelpReq} {x : Thread} {e : CopyEnd} {n : Nat} (h : Canon s) : Canon ((s.copyRead r x e n).1)
    := by
  unfold State.copyRead
  split
  · split
    · exact .pair (.mapErr h)
    · split
      · exact .pair h
      · split
        next e10 => exact .pair (.of_fst e10 (.rdMem h))
        next e13 => exact .pair (.of_fst e13 (.rdMem h))
  · split
    · exact .pair h
    · refine .foldl_fst (.pair h) ?_
      intro _ _ h20
      split
      next h20 => exact h20
      next h20 =>
        split
        next e30 => exact .pair (.of_fst e30 (.regionRead h20))
        next e35 => exact .pair (.of_fst e35 (.regionRead h20))

theorem Canon.copyOk {r : HelpReq} {x : Thread} {e : CopyEnd} {n : Nat} (h : Canon s) : Canon (s.copyOk r x e n).1 := by
  unfold State.copyOk
  split
  · exact .ite_fst (.pair (.mapErr h)) (.pair h)
  · exact .pair h

theorem Canon.copyWrite {r : HelpReq} {x : Thread} {e : CopyEnd} {l : List Byte} (h : Canon s) : Canon ((s.copyWrite r x e
    l).1) := by
  unfold State.copyWrite
  split
  · split
    next e5 => exact .pair (.of_fst e5 (.wrMem h))
    next e8 => exact .pair (.of_fst e8 (.wrMem h))
  · split
    next e13 => exact .pair (.of_fst e13 (.thPut h))
    next e16 => exact .pair (.of_fst e16 (.thPut h))

theorem Canon.copyGo {r : HelpReq} {x : Thread} {src dst : CopyEnd} {n : Nat} (h : Canon s) : Canon (s.copyGo r x src dst
    n) := by
  unfold State.copyGo
  split
  next e3 => exact .complete (.of_fst e3 (.copyOk h))
  next e6 =>
    split
    next e10 => exact .complete (.of_fst e10 (.copyRead (.of_fst e6 (.copyOk h))))
    next e14 =>
      split
      next e18 => exact .complete (.of_fst e18 (.copyWrite (.of_fst e14 (.copyRead (.of_fst e6 (.copyOk h))))))

theorem Canon.doCopy {c : Nat} (h : Canon s) : Canon (doCopy c s) := by
  dsimp only [Machine.doCopy]
  split
  · exact h
  next e6 =>
    split
    · exact .helperTake h e6
    · split
      · exact .complete (.helperTake h e6)
      · split
        · exact .complete (.helperTake h e6)
        · split
          next e18 => exact .complete (.of_fst e18 (.blockRead (.helperTake h e6)))
          next e22 =>
            exact .ite (.complete (.of_fst e22 (.blockRead (.helperTake h e6)))) (.ite (.complete (.of_fst e22 (.blockRead
                (.helperTake h e6)))) (.copyGo (.of_fst e22 (.blockRead (.helperTake h e6)))))

theorem Canon.doCrc {c : Nat} (h : Canon s) : Canon (doCrc c s) := by
  dsimp only [Machine.doCrc]
  split
  · exact h
  next e6 =>
    split
    · exact .helperTake h e6
    · split
      · exact .complete (.helperTake h e6)
      · split
        · exact .complete (.helperTake h e6)
        · split
          next e18 => exact .complete (.of_fst e18 (.blockRead (.helperTake h e6)))
          next e22 =>
            split
            · exact .complete (.of_fst e22 (.blockRead (.helperTake h e6)))
            · split
              next e29 =>
                exact .complete (.of_fst e29 (.ite_fst (.pair (.of_fst e22 (.blockRead (.helperTake h e6)))) (.regionRead
                    (.of_fst e22 (.blockRead (.helperTake h e6))))))
              next e33 =>
                exact .complete (.blockWrite (.of_fst e33 (.ite_fst (.pair (.of_fst e22 (.blockRead (.helperTake h e6))))
                    (.regionRead (.of_fst e22 (.blockRead (.helperTake h e6)))))))

theorem Canon.timeDone {q : TimeReq} {status : Nat} (h : Canon s) : Canon (s.timeDone q status) := by
  dsimp only [State.timeDone]
  split
  · split
    · exact .complete (.siteTake (.upd h))
    · exact h
  · exact .complete (.decision (.upd h))

theorem Canon.timeEnd {c t : Nat} {for_ : Bool} (h : Canon s) : Canon (s.timeEnd c t for_) := by
  unfold State.timeEnd
  split
  · exact h
  · exact .timeDone h

theorem Canon.doWaitUntil {c t : Nat} (h : Canon s) : Canon (doWaitUntil c t s) := .timeEnd h

theorem Canon.doWaitFor {c t : Nat} (h : Canon s) : Canon (doWaitFor c t s) := .timeEnd h

theorem Canon.bfThreadLock {c t op : Nat} (h : Canon s) : Canon (s.bfThreadLock c t op) := by
  unfold State.bfThreadLock
  split
  · exact .bfTakeLock h
  · exact h

theorem Canon.bfThreadAtomic {c t op : Nat} (h : Canon s) : Canon (s.bfThreadAtomic c t op) := by
  unfold State.bfThreadAtomic
  split
  · exact .bfTakeAtomic h
  · exact h

theorem Canon.doAtomicDone {master : Nat} (h : Canon s) : Canon (doAtomicDone master s) := by
  dsimp only [Machine.doAtomicDone]
  split
  · exact .bfRetry h
  · exact .ite (.bfFinish (.bfPerform (.bfRetry h))) (.bfPerform (.bfRetry h))

/-! ### Carillon groups over the whole state: ownership, memory, parking, ending, and one step -/

theorem Canon.setKernel {g : Nat} {k : Kernel} (h : Canon s) : Canon (s.setKernel g k) := .upd h

theorem Canon.freeGroup {g : Nat} (h : Canon s) : Canon (s.freeGroup g) := .upd h

theorem Canon.lanesFault {k : Kernel} {l : List (Nat × Nat)} {n : Nat} {wr : Bool} (h : Canon s) :
    Canon ((s.lanesFault k l n wr).1) := .foldl h (fun _ _ h3 => .ite (.mapErr h3) h3)

theorem Canon.loadOffer {k : Kernel} {l : List (Nat × Nat)} {n : Nat} (h : Canon s) : Canon (s.loadOffer k l n).1 :=
  .foldl_fst (.pair h) (fun _ _ h3 => .pair (.dramOffer h3))

theorem Canon.laneData {g : Nat} {k : Kernel} {n : Nat} {e : Nat × Nat × Option (Nat × Nat)} (h : Canon s) : Canon
    ((s.laneData g k n e).1) := by
  dsimp only [State.laneData]
  split
  · exact .rdChk h
  · dsimp only
    split
    · split
      · exact .pair h
      · exact .pair h
    · exact .rdMem h

theorem Canon.loadFill {g : Nat} {k : Kernel} {x : CaLoad} (h : Canon s) : Canon (s.loadFill g k x).1 := by
  dsimp only [State.loadFill]
  refine .foldl_fst (.pair h) ?_
  intro _ _ h3
  split
  next h3 => exact h3
  next h3 =>
    split
    next e12 => exact .pair (.of_fst e12 (.laneData h3))
    next e16 => exact .pair (.of_fst e16 (.laneData h3))

theorem Canon.caLoad {g : Nat} {k : Kernel} {w : Nat} {pair : Bool} (h : Canon s) : Canon (s.caLoad g k w pair).1 := by
  dsimp only [State.caLoad]
  split
  · exact .pair h
  · split
    next e6 => exact .pair (.of_fst e6 (.lanesFault h))
    next e9 =>
      split
      · exact .pair (.loadOffer (.of_fst e9 (.lanesFault h)))
      · split
        next e15 => exact .pair (.of_fst e15 (.loadFill (.of_fst e9 (.lanesFault h))))
        next e19 => exact .pair (.of_fst e19 (.loadFill (.of_fst e9 (.lanesFault h))))

theorem Canon.caStore {g : Nat} {k : Kernel} {w : Nat} {pair : Bool} (h : Canon s) : Canon (s.caStore g k w pair).1 := by
  have hoffer := @Canon.dramOffer
  have hfault := @Canon.lanesFault
  unfold State.caStore
  obtain ⟨offer, eoffer⟩ := exists_eq' (a' := @State.dramOffer)
  rw [eoffer] at hoffer ⊢
  obtain ⟨fault, efault⟩ := exists_eq' (a' := @State.lanesFault)
  rw [efault] at hfault ⊢
  obtain ⟨far, efar⟩ := exists_eq' (a' := (0x80000000 : Nat))
  obtain ⟨chip, echip⟩ := exists_eq' (a' := (0x800000000 : Nat))
  rw [efar, echip]
  obtain ⟨dev, edev⟩ := exists_eq' (a' := Kernel.farDev)
  rw [edev]
  refine .ite_fst (.pair h) ?_
  extract_lets
  split
  next e => exact .pair (.of_fst e (hfault h))
  next e =>
    refine .pair (.foldl_fst (.pair (.of_fst e (hfault h))) fun p a hp => ?_)
    obtain ⟨s', k'⟩ := p
    dsimp only
    split
    · exact .pair (.wrChk hp)
    · exact .pair (.ite_fst (.pair (hoffer hp)) (.pair hp))

theorem Canon.caPostedDone {g : Nat} {k : Kernel} {p : Posted} (h : Canon s) : Canon (s.caPostedDone g k p).1 := by
  dsimp only [State.caPostedDone]
  split
  · exact .ite (.record (.tick (.dramEndWrite h))) (.dramEndWrite h)
  · exact .ite (.record (.tick (.wrMem h))) (.wrMem h)

theorem Canon.caPostedAll {g : Nat} {k : Kernel} (h : Canon s) : Canon (s.caPostedAll g k).1 :=
  .foldl_fst (.pair h) (fun _ _ h3 => .caPostedDone h3)

theorem Canon.dropLoad {k : Kernel} (h : Canon s) : Canon (s.dropLoad k) := by
  unfold State.dropLoad
  split
  · exact .foldl h (fun _ _ h6 => .dramTake h6)
  · exact h

theorem Canon.abandonKernel {g : Nat} {k : Kernel} {cause : Nat} (h : Canon s) : Canon (s.abandonKernel g k cause) :=
  .complete (.freeGroup (.bump (.blockWrite (.dropLoad h))))

theorem Canon.parkWrite {g : Nat} {k : Kernel} {space lane off : Nat} {l : List Byte} {w : Who} (h : Canon s) :
    Canon ((s.parkWrite g k space lane off l w).1) := .ite_fst (.wrChk h) (.pair (.setKernel h))

theorem Canon.parkApply {g : Nat} (h : Canon s) : Canon (s.parkApply g) := by
  dsimp only [State.parkApply]
  split
  · exact .siteTake (.parkWrite h)
  · exact h

theorem OptCanon.parkOutcome {g : Nat} {k : Kernel} {outcome : Nat} (h : Canon s) : OptCanon (s.parkOutcome g k outcome)
    := by
  dsimp only [State.parkOutcome]
  split
  · split
    · exact .ite .none (.some (.foldl (.siteTake h) (fun _ _ h7 => .parkApply h7)))
    · exact .none
  · exact .some (.foldl (.decision h) (fun _ _ h13 => .decision h13))

theorem Canon.abandonParked {g : Nat} (h : Canon s) : Canon (s.abandonParked g) := by
  unfold State.abandonParked
  split
  · exact h
  · split
    · exact h
    · split
      · exact h
      · split
        · exact h
        next e17 => exact .abandonKernel (.of_some e17 (.parkOutcome h))

theorem Canon.parkFinish {g : Nat} (h : Canon s) : Canon (s.parkFinish g) := by
  dsimp only [State.parkFinish]
  split
  · exact h
  · split
    · exact h
    · exact .ite h (.ite (.abandonParked (.cause (.cause (.bump (.setBit (.setReg (.record (.setKernel h)))))))) (.cause
          (.cause (.bump (.setBit (.setReg (.record (.setKernel h))))))))

theorem Canon.caPark {g : Nat} {k : Kernel} {cause tok sub : Nat} {addr : Option Nat} (h : Canon s) : Canon (s.caPark g k
    cause tok sub addr) := by
  dsimp only [State.caPark]
  refine .parkFinish (.setKernel ?_)
  split
  · exact .setReg (.caPostedAll h)
  · exact .caPostedAll h

theorem Canon.modKettle {n : Nat} {f : Kettle → Kettle} (h : Canon s) : Canon (s.modKettle n f) := .upd h

theorem Canon.ktQueue {g : Nat} {k : Kernel} {tok addr : Nat} (h : Canon s) : Canon (s.ktQueue g k tok addr) :=
  .modKettle h

theorem Canon.caKstart {g : Nat} {k : Kernel} {w : Nat} (h : Canon s) : Canon (s.caKstart g k w).1 := by
  dsimp only [State.caKstart]
  split
  · exact .pair h
  · split
    · exact .pair h
    · exact .pair (.ktQueue h)

theorem Canon.caBody {g : Nat} {k : Kernel} {w : Nat} (h : Canon s) : Canon (s.caBody g k w).1 := by
  unfold State.caBody
  split
  · exact .pair h
  · exact .caLoad h
  · exact .caLoad h
  · exact .caStore h
  · exact .caStore h
  · exact .pair h
  · exact .pair h
  · exact .pair h
  · exact .pair h
  · exact .pair h
  · exact .pair h
  · exact .pair h
  · exact .pair h
  · exact .pair h
  · exact .pair h
  · exact .ite_fst (.caKstart h) (.pair h)
  · exact .pair h
  · exact .pair h
  · exact .pair h
  · exact .pair h
  · exact .pair h
  · exact .pair h

theorem Canon.caFetch {k : Kernel} (h : Canon s) : Canon (s.caFetch k).1 := by
  unfold State.caFetch
  split
  · exact .pair h
  · split
    next e6 => exact .pair (.of_fst e6 (.rdChk h))
    next e9 => exact .pair (.of_fst e9 (.rdChk h))

theorem Canon.caStep {g : Nat} {p : CaOp → Bool} (h : Canon s) : Canon (s.caStep g p) := by
  unfold State.caStep
  split
  · exact h
  · split
    · exact h
    · split
      next e12 => exact .caPark (.of_fst e12 (.caFetch h))
      next e16 =>
        split
        · exact h
        · split
          next e25 => exact .ite (.caPark (.of_fst e16 (.caFetch h))) (.caPark (.of_fst e25 (.caBody (.of_fst e16 (.caFetch h)))))
          next e28 => exact .ite (.caPark (.of_fst e28 (.caBody (.of_fst e16 (.caFetch h))))) h
          next e32 => exact .ite (.caPark (.of_fst e16 (.caFetch h))) (.setKernel (.of_fst e32 (.caBody (.of_fst e16 (.caFetch h)))))

theorem Canon.caRow {g : Nat} {op : CaOp} (h : Canon s) : Canon (s.caRow g op) := .caStep h

/-! ### The commands of the Carillon groups, the launch service and the Kettle units -/

theorem Canon.doLaunchRequest (h : Canon s) : Canon (doLaunchRequest s) := by
  dsimp only [Machine.doLaunchRequest]
  split
  · exact h
  · split
    · exact h
    · split
      · exact .complete (.bump (.upd h))
      · split
        next e13 => exact .complete (.bump (.of_fst e13 (.blockRead (.upd h))))
        next e17 =>
          split
          · exact .complete (.bump (.of_fst e17 (.blockRead (.upd h))))
          · exact .upd (.of_fst e17 (.blockRead (.upd h)))

theorem Canon.startKernel {x : Launch} {g : Nat} (h : Canon s) : Canon (s.startKernel x g) :=
  .setKernel (.bump (.blockTakes (.upd h)))

theorem Canon.doKernelStart (h : Canon s) : Canon (doKernelStart s) := by
  dsimp only [Machine.doKernelStart]
  split
  · split
    · exact h
    · split
      · exact .ite (.startKernel (.siteTake h)) h
      · exact h
  · split
    · exact h
    · exact .startKernel (.decision h)

theorem Canon.doKernelEnd {g : Nat} (h : Canon s) : Canon (doKernelEnd g s) := by
  dsimp only [Machine.doKernelEnd]
  split
  · exact h
  · exact .ite h (.complete (.freeGroup (.bump (.blockWrite (.blockWrite h)))))

theorem Canon.doIlimit {g : Nat} (h : Canon s) : Canon (doIlimit g s) := by
  unfold Machine.doIlimit
  split
  · exact h
  · exact .ite (.caStep h) h

theorem Canon.doCaFarLoadData {g : Nat} (h : Canon s) : Canon (doCaFarLoadData g s) := by
  dsimp only [Machine.doCaFarLoadData]
  split
  · exact h
  · split
    · exact h
    · split
      · exact h
      · split
        · exact .setKernel (.dropLoad (.loadFill h))
        · exact .caPark (.dropLoad (.loadFill h))

theorem Canon.doCaPostedStoreComplete {g : Nat} (h : Canon s) : Canon (doCaPostedStoreComplete g s) := by
  dsimp only [Machine.doCaPostedStoreComplete]
  split
  · exact h
  · split
    · exact h
    · exact .setKernel (.caPostedDone h)

theorem Canon.requeue {g : Nat} {k : Kernel} (h : Canon s) : Canon (s.requeue g k) := by
  dsimp only [State.requeue]
  split
  · split
    · split
      · exact .ite (.setKernel h) (.setKernel (.ktQueue h))
      · exact .setKernel h
    · split
      · split
        · split
          · exact .ite (.setKernel h) (.setKernel (.ktQueue h))
          · exact .setKernel h
        · exact .setKernel h
      · exact .setKernel h
  · exact .setKernel h

theorem Canon.resumeParked {g : Nat} (h : Canon s) : Canon (s.resumeParked g) := by
  unfold State.resumeParked
  split
  · exact h
  · split
    · exact h
    · split
      · exact h
      next e15 =>
        split
        · exact .requeue (.of_some e15 (.parkOutcome h))
        · exact .of_some e15 (.parkOutcome h)

theorem Canon.doResume {g : Nat} (h : Canon s) : Canon (doResume g s) := .resumeParked h

theorem Canon.doAbandon {g : Nat} (h : Canon s) : Canon (doAbandon g s) := .abandonParked h

theorem Canon.doParkTimeout {g : Nat} (h : Canon s) : Canon (doParkTimeout g s) := by
  unfold Machine.doParkTimeout
  split
  · exact h
  · split
    · exact .ite (.abandonParked h) h
    · exact h

theorem Canon.doCaStateWrite {g off v : Nat} (h : Canon s) : Canon (doCaStateWrite g off v s) := by
  unfold Machine.doCaStateWrite
  split
  · exact h
  · split
    · exact .ite (.setBit h) (.setKernel h)
    · exact .setBit h

theorem Canon.ktRead {g : Nat} {w : Who} {x : KtMat} (h : Canon s) : Canon (s.ktRead g w x).1 := by
  unfold State.ktRead
  refine .foldl_fst (.pair h) ?_
  intro _ _ h3
  split
  next h3 => exact h3
  next h3 =>
    split
    next e11 => exact .pair (.of_fst e11 (.rdChk h3))
    next e15 => exact .pair (.of_fst e15 (.rdChk h3))

theorem Canon.ktPartial {g : Nat} {w : Who} {x : KtMat} (h : Canon s) : Canon (s.ktPartial g w x).1 := by
  dsimp only [State.ktPartial]
  refine .foldl_fst (.pair h) ?_
  intro _ _ h3
  refine .foldl_fst h3 ?_
  intro _ _ h6
  split
  next e10 => exact .pair (.of_fst e10 (.rdChk h6))
  next e13 => exact .pair (.of_fst e13 (.rdChk h6))

theorem Canon.ktWork {g : Nat} {w : Who} {d : List Byte} {live : Bool} (h : Canon s) : Canon (s.ktWork g w d live).1 := by
  unfold State.ktWork
  extract_lets srcs need
  split
  next s₁ _ e₁ =>
  have h₁ : Canon s₁ := by
    refine .of_fst e₁ (.foldl_fst h ?_)
    rintro ⟨s', _ | ms⟩ m h'
    · exact h'
    · dsimp only
      split
      next e => exact .of_fst e (.ktRead h')
      next e => exact .of_fst e (.ktRead h')
  split
  · exact h₁
  · extract_lets x
    split
    next e => exact .of_fst e (.ktPartial h₁)
    next e =>
      have h₂ := Canon.of_fst e (.ktPartial h₁)
      exact .ite_fst h₂ (.foldl h₂ fun _ _ h' => .wrChk h')

theorem Canon.doKettleOpStart {n : Nat} (h : Canon s) : Canon (doKettleOpStart n s) := by
  dsimp only [Machine.doKettleOpStart]
  split
  · exact h
  · split
    · exact h
    · refine .modKettle (.upd ?_)
      split
      next e10 => exact .pair (.of_fst e10 (.rdChk h))
      next e14 => exact .pair (.of_fst e14 (.rdChk h))

theorem Canon.doKettleOpEnd {n : Nat} (h : Canon s) : Canon (doKettleOpEnd n s) := by
  dsimp only [Machine.doKettleOpEnd]
  split
  · exact h
  · split
    · refine .modKettle ?_
      split
      · exact .setBit (.ite_fst (.ktWork h) (.pair h))
      · exact .setBit (.ite_fst (.ktWork h) (.pair h))
      · exact .bumpBy (.bump (.ite_fst (.ktWork h) (.pair h)))
    · refine .parkFinish (.setKernel (.modKettle ?_))
      split
      · exact .setBit (.ite_fst (.ktWork h) (.pair h))
      · exact .setBit (.ite_fst (.ktWork h) (.pair h))
      · exact .bumpBy (.bump (.ite_fst (.ktWork h) (.pair h)))

/-! ### Reading registers: what each read-only field shows, the latches of 64-bit pairs -/

theorem Canon.windowRead {a v : Nat} (h : Canon s) : Canon (s.windowRead a v).1 := by
  unfold State.windowRead
  split
  next e4 => exact .pair (.of_fst e4 (.rdChk h))
  next e7 => exact .pair (.of_fst e7 (.rdChk h))

theorem Canon.tableRead {off : Nat} {q : State × Nat} (h : Canon s) (e : s.tableRead off = some q) : Canon q.1 := by
  unfold State.tableRead at e
  extract_lets w at e
  have hw {base size step t a q} (e : w base size step t a = some q) : Canon q.1 := by
    simp only [w] at e
    split at e
    · obtain rfl := Option.some.inj e
      exact .windowRead h
    · cases e
  clear_value w
  split at e
  · obtain rfl := Option.some.inj e
    exact .pair (.shoalChk h)
  · split at e
    · obtain rfl := Option.some.inj e
      split
      next e' => exact .pair (.of_fst e' (.rdChk h))
      next e' => exact .pair (.of_fst e' (.rdChk h))
    · simp only [Option.orElse_eq_or, Option.or_eq_some_iff] at e
      rcases e with e | ⟨-, e | ⟨-, e | ⟨-, e⟩⟩⟩ <;> exact hw e

theorem Canon.clearRc {key : Nat} {d : RegDesc} (h : Canon s) : Canon (s.clearRc key d) := .setReg h

theorem Canon.readReg {key : Nat} (h : Canon s) : Canon (s.readReg key).1 := by
  unfold State.readReg
  split
  next e =>
    split at e
    · exact .tableRead h e
    · cases e
  · split
    · exact .pair h
    · exact .ite_fst (.pair h) (.ite_fst (.pair (.mmReload (.upd h))) (.ite_fst (.pair (.clearRc (.upd h))) (.pair (.upd h))))

theorem Canon.mbRead {m o : Nat} (h : Canon s) : Canon (s.mbRead m o).1 := by
  unfold State.mbRead
  split
  · split
    next e5 => exact .pair (.of_fst e5 (.rdChk h))
    next e8 => exact .pair (.of_fst e8 (.rdChk h))
  · exact .readReg h

theorem Canon.viewRead {v : View} {off bytes : Nat} (h : Canon s) : Canon (s.viewRead v off bytes).1 := by
  dsimp only [State.viewRead]
  split
  · exact .ite_fst (.pair (.bump h)) (.ite_fst (.pair h) (.mbRead h))
  · exact .ite_fst (.pair h) (.ite_fst (.pair (.bump h)) (.ite_fst (.pair h) (.ite_fst (.readReg h) (.ite_fst (.pair h)
        (.readReg h)))))

theorem Canon.doViewRead {v : View} {off bytes : Nat} (h : Canon s) : Canon (doViewRead v off bytes s) := by
  unfold Machine.doViewRead
  split
  · exact h
  · split
    next e6 => exact .emit (.of_fst e6 (.viewRead h))

/-! ### Idle hints, privileged claims and dozing blocks -/

theorem Canon.doInHintWrite {i val : Nat} (h : Canon s) : Canon (doInHintWrite i val s) := .ite h (.bumpBy (.setReg h))

theorem Canon.doInClaimWrite {val : Nat} (h : Canon s) : Canon (doInClaimWrite val s) :=
  .setReg (.foldl h (fun _ _ h3 => .claimOver h3))

theorem Canon.doBlockDoze {b : Nat} (h : Canon s) : Canon (doBlockDoze b s) := .ite (.upd h) h

theorem Canon.doBlockWake {b : Nat} (h : Canon s) : Canon (doBlockWake b s) := .ite (.upd h) h

/-! ### The mailboxes: doorbells, the request area, and the take-up of commands with its checks -/

theorem Canon.doDoorbell {i val : Nat} (h : Canon s) : Canon (doDoorbell i val s) := by
  dsimp only [Machine.doDoorbell]
  exact .ite h (.ite (.bump (.setBit h)) (.ite (.mbHardware (.modMb (.rdChk (.setFld h)))) (.ite (.mbHardware (.modMb
      (.rdChk (.setFld h)))) (.ite (.mbHardware (.modMb (.rdChk (.setFld h)))) (.upd (.modMb (.rdChk (.setFld h))))))))

theorem Canon.doRequestAreaWrite {i off val : Nat} (h : Canon s) : Canon (doRequestAreaWrite i off val s) :=
  .ite h (.ite (.setBit h) (.wrChk h))

theorem Canon.mbTakeUp (h : Canon s) : Canon s.mbTakeUp := by
  dsimp only [State.mbTakeUp]
  split
  · exact h
  · split
    · exact .upd h
    · split
      · exact .ite (.mbRespond (.tick (.upd h))) (.mbRespond (.upd h))
      · split
        · exact .mbAnswer (.modMb (.upd h))
        · exact .upd (.modMb (.upd h))

theorem Canon.doTakeUp (h : Canon s) : Canon (doTakeUp s) := .ite h (.mbTakeUp h)

theorem Canon.mbRun {m op : Nat} {body : MbCmd → Nat → State → State} (h : Canon s) (hbody : ∀ (a : MbCmd) (a_1 : Nat)
    (a_2 : State), Canon a_2 → Canon (body a a_1 a_2)) : Canon (s.mbRun m op body) := by
  unfold State.mbRun
  split
  · exact h
  · exact .ite (hbody _ _ _ h) h

theorem Canon.mbBegin {m : Nat} (h : Canon s) : Canon (s.mbBegin m) := .modMb h

/-! ### Writing registers: the change classes, where class H fields may be written -/

theorem Canon.stageBits {i key mask val : Nat} (h : Canon s) : Canon (s.stageBits i key mask val) := .upd h

theorem Canon.stageReg {key mask val : Nat} (h : Canon s) : Canon (s.stageReg key mask val) :=
  .ite (.stageBits h) (.upd h)

theorem Canon.putReg {key mask val : Nat} (h : Canon s) : Canon (s.putReg key mask val).1 := by
  dsimp only [State.putReg]
  split
  · exact .pair h
  · split
    · split
      · exact .pair (.setReg h)
      · split
        · exact .pair (.geometryWritten (.phaseNorm (.setReg (.setReg h))))
        · exact .pair (.phaseNorm (.upd (.setReg h)))
        · exact .pair (.foldl (.setReg h) (fun _ _ h18 => .setBit h18))
    · split
      · exact .pair (.stageReg (.setReg h))
      · split
        · exact .pair (.geometryWritten (.phaseNorm (.setReg (.stageReg (.setReg h)))))
        · exact .pair (.phaseNorm (.upd (.stageReg (.setReg h))))
        · exact .pair (.foldl (.stageReg (.setReg h)) (fun _ _ h31 => .setBit h31))

theorem Canon.recStart (h : Canon s) : Canon s.recStart := .upd h

theorem Canon.btCtlWrite {mask val : Nat} (h : Canon s) : Canon (s.btCtlWrite mask val) :=
  .ite (.recStart (.putReg h)) (.putReg h)

theorem Canon.xferWrite {mask val : Nat} (h : Canon s) : Canon (s.xferWrite mask val) :=
  .ite (.upd (.setFld (.putReg h))) (.putReg h)

theorem Canon.almWrite {mask val : Nat} (h : Canon s) : Canon (s.almWrite mask val) := .setFld (.putReg h)

theorem Canon.fdCtlWrite {mask val : Nat} (h : Canon s) : Canon (s.fdCtlWrite mask val).1 := by
  dsimp only [State.fdCtlWrite]
  exact .ite (.upd (.putReg h)) (.ite (.upd (.putReg h)) (.putReg h))

theorem Canon.codeBusy {i : Nat} (h : Canon s) : Canon (s.codeBusy i) := .foldl h (fun _ _ h3 => .ite (.setBit h3) h3)

theorem Canon.codeWrite {off mask val : Nat} (h : Canon s) : Canon (s.codeWrite off mask val).1 :=
  .ite_fst (.pair (.wrChk h)) (.ite_fst (.pair h) (.pair (.codeBusy h)))

theorem Canon.privWrite {off mask val : Nat} (h : Canon s) : Canon (s.privWrite off mask val).1 := by
  dsimp only [State.privWrite]
  exact .ite_fst (.pair (.setBit h)) (.ite_fst (.pair (.gongRearm h)) (.ite_fst (.pair (.gongRearm h)) (.ite_fst (.pair
      (.gongRun (.applyForces (.putReg h)))) (.ite_fst (.pair (.doConfigChange h)) (.ite_fst (.pair (.ite
      (.doSgConfigChange h) h)) (.ite_fst (.pair (.ite (.abandonParked h) (.ite (.resumeParked h) h))) (.ite_fst (.pair
      (.doCaStateWrite h)) (.ite_fst (.codeWrite h) (.ite_fst (.pair (.doInClaimWrite h)) (.ite_fst (.fdCtlWrite h)
      (.ite_fst (.pair (.btCtlWrite h)) (.ite_fst (.pair (.xferWrite h)) (.ite_fst (.pair (.almWrite h)) (.ite_fst (.pair
      h) (.ite_fst (.pair (.msixFlush (.putReg h))) (.putReg h))))))))))))))))

theorem Canon.blockWriteReg {i off val : Nat} (h : Canon s) : Canon (s.blockWriteReg i off val) := by
  dsimp only [State.blockWriteReg]
  exact .ite h (.ite (.ite (.doSqTailDoorbell h) (.doCqHeadDoorbell h)) (.ite (.doQueueEnable h) (.ite (.doQueueEnable h)
      (.ite (.doInIenWrite h) (.ite (.doInHintWrite h) (.ite (.msixFlush (.putReg h)) (.putReg h)))))))

theorem Canon.pfWrite {off mask val : Nat} (h : Canon s) : Canon (s.pfWrite off mask val).1 :=
  .ite_fst (.pair (.blockWriteReg h)) (.ite_fst (.pair h) (.pair (.ite (.configEntry (.privWrite h)) (.privWrite h))))

theorem Canon.mbWrite {m o val : Nat} (h : Canon s) : Canon (s.mbWrite m o val) :=
  .ite (.doRequestAreaWrite h) (.ite h (.ite (.doDoorbell h) (.putReg h)))

theorem Canon.doRegWrite {v : View} {off bytes val : Nat} (h : Canon s) : Canon (doRegWrite v off bytes val s) := by
  dsimp only [Machine.doRegWrite]
  split
  · exact h
  · split
    · exact .ite (.bump h) (.ite h (.mbWrite h))
    · exact .ite h (.ite (.bump h) (.ite (.ite h (.pfWrite h)) (.blockWriteReg h)))

/-! ### The software staged set, the staged copies, and the making of commits -/

theorem Canon.stageEntry {t i inst v : Nat} (h : Canon s) : Canon (s.stageEntry t i inst v) := .upd h

theorem Canon.unstage {t i : Nat} (h : Canon s) : Canon (s.unstage t i) := .upd h

theorem Canon.sendStaged {kind t i v : Nat} (h : Canon s) : Canon (s.sendStaged kind t i v) :=
  .foldl h (fun _ _ h3 => .configEntry h3)

theorem Canon.stage {t i inst v : Nat} (h : Canon s) : Canon (s.stage t i inst v) := .sendStaged (.stageEntry h)

theorem Canon.discardEdits {p : Nat → Bool} (h : Canon s) : Canon (s.discardEdits p) := by
  dsimp only [State.discardEdits]
  exact .foldl (.upd (.foldl h (fun _ _ h3 => .foldl h3 (fun _ _ h6 => .sendStaged (.unstage h6))))) (fun _ _ h9 =>
      .configEntry h9)

theorem Canon.acceptCommit {g : Nat} {learning : Bool} {askers : List (Nat × Nat)} (h : Canon s) : Canon (s.acceptCommit g
    learning askers) := by
  dsimp only [State.acceptCommit]
  split
  · refine .upd (.foldl h ?_)
    intro _ _ h4
    split
    · exact .sendStaged h4
    · exact h4
  · exact .upd h

/-! ### Withdrawal, drains and return of blocks -/

theorem Canon.wdSet {kind index : Nat} {st : WdState} (h : Canon s) : Canon (s.wdSet kind index st) := .upd h

theorem Canon.wdSend {kind index v : Nat} (h : Canon s) : Canon (s.wdSend kind index v) := .configEntry h

theorem Canon.chanDrain {ch : Nat} (h : Canon s) : Canon (s.chanDrain ch) := .ite (.setSpi h) (.ite (.chanSafe h) h)

theorem Canon.wdFinish {kind index : Nat} (h : Canon s) : Canon (s.wdFinish kind index) := by
  dsimp only [State.wdFinish]
  exact .ite (.ite (.ethLinkDown (.upd (.wdSet h))) (.ite (.chansSafe (.upd (.wdSet h))) (.upd (.wdSet h)))) (.mbAnswer
      (.ite (.ethLinkDown (.upd (.wdSet h))) (.ite (.chansSafe (.upd (.wdSet h))) (.upd (.wdSet h)))))

theorem Canon.wdStart {kind index asker : Nat} (h : Canon s) : Canon (s.wdStart kind index asker) := by
  dsimp only [State.wdStart]
  exact .ite (.wdFinish (.ite (.chanDrain (.upd (.wdSet (.wdSend h)))) (.upd (.wdSet (.wdSend h))))) (.ite (.chanDrain
      (.upd (.wdSet (.wdSend h)))) (.upd (.wdSet (.wdSend h))))

theorem Canon.applyHeld (h : Canon s) : Canon s.applyHeld := by
  dsimp only [State.applyHeld]
  refine .foldl h ?_
  intro _ _ h3
  split
  · exact h3
  · split
    · exact .phaseNorm (.upd (.setReg h3))
    · exact h3

theorem Canon.wdReturn {kind index : Nat} (h : Canon s) : Canon (s.wdReturn kind index) := by
  dsimp only [State.wdReturn]
  exact .ite (.gongRun (.applyForces (.ite (.upd (.applyHeld (.wdSet (.wdSend h)))) (.applyHeld (.wdSet (.wdSend h))))))
      (.ite (.upd (.applyHeld (.wdSet (.wdSend h)))) (.applyHeld (.wdSet (.wdSend h))))

theorem Canon.forced1 {index : Nat} {gseq inst : Option Nat} (h : Canon s) : Canon (s.forced1 index gseq inst) :=
  .bump (.record h)

theorem Canon.resetEntry {g inst outcome : Nat} (h : Canon s) : Canon (s.resetEntry g inst outcome) := .decision h

theorem Canon.forceCell {c g : Nat} (h : Canon s) : Canon (s.forceCell c g) :=
  .faultCell (.stopCell (.forced1 (.ite (.siteTake h) (.resetEntry h))))

theorem Canon.forceCluster {c : Nat} (h : Canon s) : Canon (s.forceCluster c) := .foldl h (fun _ _ h3 => .forceCell h3)

theorem Canon.forceGroup {g : Nat} (h : Canon s) : Canon (s.forceGroup g) := by
  dsimp only [State.forceGroup]
  split
  · exact h
  · split
    · exact .ite (.forced1 (.abandonParked h)) h
    · split
      · exact h
      next e12 => exact .forced1 (.abandonKernel (.caPostedAll (.of_some e12 (.parkOutcome h))))

theorem Canon.forcePort {p : Nat} (h : Canon s) : Canon (s.forcePort p) := .forced1 (.bumpBy (.setEth h))

theorem Canon.cutChannel {ch : Nat} (h : Canon s) : Canon (s.cutChannel ch) :=
  .ite h (.ite (.setSd h) (.ite (.setSpi h) (.ite (.setGpio h) (.ite (.setUart h) (.ite (.setPar h) h)))))

theorem Canon.wdForce {kind index : Nat} (h : Canon s) : Canon (s.wdForce kind index) := by
  unfold State.wdForce
  split
  · exact .forceCluster h
  · exact .forceGroup h
  · exact .forcePort h
  · exact .cutChannel h
  · exact h

/-! ### Grants, and the reset and the destruction of a tenant -/

theorem Canon.sendGrant {i : Nat} {add rd wr : Bool} {page pages : Nat} (h : Canon s) :
    Canon (s.sendGrant i add rd wr page pages) := .configEntry h

theorem Canon.unbind {i c id : Nat} (h : Canon s) : Canon (s.unbind i c id) :=
  .ite (.configEntry (.setFld (.ite (.upd h) h))) (.ite (.configEntry (.ite (.upd h) h)) (.ite (.upd h) h))

theorem Canon.mbForget {m : Nat} (h : Canon s) : Canon (s.mbForget m) := .upd h

theorem Canon.endCommandsFor {i : Nat} {asker : Option Nat} (h : Canon s) : Canon (s.endCommandsFor i asker) := by
  unfold State.endCommandsFor
  refine .foldl h ?_
  intro _ _ h3
  split
  · exact .ite (.mbAnswer (.bfHostEnd (.mbForget h3))) h3
  · exact h3

theorem Canon.squashCell {g : Nat} (h : Canon s) : Canon (s.squashCell g) := .abandonCell (.stopCell h)

theorem Canon.dropLaunch {r : HelpReq} (h : Canon s) : Canon (s.dropLaunch r) := by
  unfold State.dropLaunch
  split
  · exact .ite (.requestDone h) h
  · exact h

theorem Canon.stopKernel {g : Nat} (h : Canon s) : Canon (s.stopKernel g) := by
  unfold State.stopKernel
  split
  · exact h
  · split
    next e9 => exact .dropLaunch (.freeGroup (.dropLoad (.of_fst e9 (.caPostedAll h))))

theorem Canon.instStopWork {i : Nat} (h : Canon s) : Canon (s.instStopWork i) := by
  dsimp only [State.instStopWork]
  refine .discardEdits (.bfEnd (.foldl (.upd (.foldl (.foldl (.foldl h (fun _ _ h3 => .stopThread h3)) ?_) (fun _ _ h14 =>
      .stopKernel h14))) (fun _ _ h17 => .dropLaunch h17)))
  intro _ _ h6
  split
  · exact .ite (.completeCell h6) h6
  · exact h6

theorem Canon.restartStream {st : Nat} (h : Canon s) : Canon (s.restartStream st) := by
  dsimp only [State.restartStream]
  split
  · exact .upd h
  · exact .upd h

theorem Canon.chanReset {ch : Nat} (h : Canon s) : Canon (s.chanReset ch) := by
  dsimp only [State.chanReset]
  exact .chansSafe (.ite (.uartMarks (.setUart (.upd h))) (.ite (.parMarks (.setPar (.upd h))) (.ite (.setGpio (.upd h))
      (.upd h))))

theorem Canon.instStop {i : Nat} (h : Canon s) : Canon (s.instStop i) := by
  dsimp only [State.instStop]
  exact .modInst (.foldl (.weirRun (.foldl (.instStopWork h) (fun _ _ h3 => .restartStream h3))) (fun _ _ h6 => .chanReset
      h6))

theorem Canon.instSquash {i : Nat} (h : Canon s) : Canon (s.instSquash i) :=
  .instStop (.foldl (.foldl h (fun _ _ h3 => .resetEntry h3)) (fun _ _ h6 => .squashCell (.resetEntry h6)))

theorem Canon.sendInst {i : Nat} (h : Canon s) : Canon (s.sendInst i) := .configEntry h

theorem Canon.instReset {i : Nat} {squash : Bool} {asker : Option Nat} {destroy : Bool} (h : Canon s) : Canon (s.instReset
    i squash asker destroy) := by
  dsimp only [State.instReset]
  exact .ite (.instSquash (.endCommandsFor (.ite (.mbHardware (.foldl (.sendInst (.modInst h)) (fun _ _ h3 => .setSq h3)))
      (.foldl (.sendInst (.modInst h)) (fun _ _ h6 => .setSq h6))))) (.endCommandsFor (.ite (.mbHardware (.foldl
      (.sendInst (.modInst h)) (fun _ _ h9 => .setSq h9))) (.foldl (.sendInst (.modInst h)) (fun _ _ h12 => .setSq h12))))

theorem Canon.blockReset {i : Nat} (h : Canon s) : Canon (s.blockReset i) := .upd h

theorem Canon.clearAreas {i : Nat} (h : Canon s) : Canon (s.clearAreas i) := .clearMem h

theorem Canon.instDone {i : Nat} (h : Canon s) : Canon (s.instDone i) := by
  dsimp only [State.instDone]
  split
  · exact h
  · split
    · exact .ite (.cause1 (.bump (.ite (.modInst (.clearAreas (.blockReset h))) (.sendInst (.modInst (.clearAreas
          (.blockReset h))))))) (.mbAnswer (.cause1 (.bump (.ite (.modInst (.clearAreas (.blockReset h))) (.sendInst
          (.modInst (.clearAreas (.blockReset h))))))))
    · exact .cause1 (.bump (.ite (.modInst (.clearAreas (.blockReset h))) (.sendInst (.modInst (.clearAreas (.blockReset
          h))))))

theorem Canon.stageDestroy {i : Nat} (h : Canon s) : Canon (s.stageDestroy i) := by
  dsimp only [State.stageDestroy]
  exact .foldl (.foldl (.foldl h (fun _ _ h3 => .configEntry (.stageBits h3))) (fun _ _ h6 => .ite (.stage h6) h6)) (fun _
      _ h9 => .ite (.stage h9) h9)

theorem Canon.instRelease {i : Nat} (h : Canon s) : Canon (s.instRelease i) := by
  dsimp only [State.instRelease]
  exact .sendInst (.upd (.foldl (.configEntry (.setFld (.foldl h (fun _ _ h3 => .unbind h3)))) (fun _ _ h6 => .configEntry
      (.setFld h6))))

theorem Canon.destroyAnswer {i : Nat} (h : Canon s) : Canon (s.destroyAnswer i) := by
  unfold State.destroyAnswer
  refine .foldl h ?_
  intro _ _ h3
  split
  · exact .ite (.mbAnswer h3) h3
  · exact h3

theorem Canon.destroyCommit {i : Nat} (h : Canon s) : Canon (s.destroyCommit i) := .upd (.modInst h)

theorem Canon.destroyStep {i : Nat} (h : Canon s) : Canon (s.destroyStep i) := by
  dsimp only [State.destroyStep]
  split
  · exact h
  · split
    · exact .destroyCommit (.stageDestroy (.discardEdits h))
    · split
      · exact .destroyAnswer (.instRelease h)
      · exact .destroyCommit (.foldl h (fun _ _ h11 => .stage h11))

theorem Canon.instFollow {i : Nat} (h : Canon s) : Canon (s.instFollow i) := by
  dsimp only [State.instFollow]
  split
  · split
    · exact h
    · refine .instStop (.foldl h ?_)
      intro _ _ h8
      split
      · exact .ite (.squashCell (.siteTake h8)) (.siteTake h8)
      · exact h8
  · split
    · exact h
    · refine .instStop (.foldl h ?_)
      intro _ _ h20
      split
      · exact .ite (.squashCell (.siteTake h20)) (.siteTake h20)
      · exact h20

/-! ### Applying the lead's or the recording's CONFIG entries -/

theorem Canon.applyWd {off mask val : Nat} (h : Canon s) : Canon (s.applyWd off mask val) := by
  unfold State.applyWd
  refine .foldl h ?_
  intro _ _ h3
  split
  · exact h3
  · split
    · exact h3
    · exact .ite (.wdStart h3) (.wdReturn h3)

theorem Canon.applyInst {i val : Nat} (h : Canon s) : Canon (s.applyInst i val) := by
  dsimp only [State.applyInst]
  split
  · exact .upd h
  · exact .ite (.modInst h) h
  · exact .ite (.instReset h) h
  · exact .ite (.instReset h) h

theorem Canon.applyStaged {off mask val : Nat} (h : Canon s) : Canon (s.applyStaged off mask val) := by
  dsimp only [State.applyStaged]
  split
  · exact .ite (.upd h) (.ite (.unstage h) (.stageEntry h))
  · exact .stageBits h

theorem Canon.applyConfig {e : DEntry} (h : Canon s) : Canon (s.applyConfig e) := by
  dsimp only [State.applyConfig]
  split
  · exact .ite (.applyWd h) (.ite (.applyInst h) (.ite (.setFld h) (.pfWrite h)))
  · exact .applyStaged h
  · exact .applyStaged h
  · exact .wrChk h
  · exact .wrChk h
  · exact .modInst h
  · exact h

theorem Canon.applyConfigs {g : Nat} (h : Canon s) : Canon (s.applyConfigs g) :=
  .foldl (.upd h) (fun _ _ h3 => .applyConfig h3)

/-! ### The Intake: which input it accepts next, and the cell that it makes of it -/

theorem Canon.countPass {x : Source} (h : Canon s) : Canon (s.countPass x) := .upd h

theorem Canon.takeInput {a1 : Source} (h : Canon s) : Canon (s.takeInput a1) := by
  dsimp only [State.takeInput]
  split
  · split
    · exact .ite (.uartTaken (.upd h)) (.ite (.parTaken (.upd h)) (.upd h))
    · exact h
  · exact .setEth h
  · exact .sqSkip (.modInst (.setSq h))
  · exact .upd h
  · exact .ite (.upd h) (.upd h)

theorem Canon.makeCell {x : Input} (h : Canon s) : Canon (s.makeCell x) := by
  dsimp only [State.makeCell]
  refine .classifyReady (.upd (.pbufStore (.tick ?_)))
  split
  · exact .acceptCommit h
  · exact h

theorem Canon.sendIngress {g : Nat} {x : Input} (h : Canon s) : Canon (s.sendIngress g x) := .ite (.fordSend h) h

theorem Canon.takeRecord {r : IngressRec} (h : Canon s) : Canon (s.takeRecord r) := .makeCell (.upd (.applyConfigs h))

theorem Canon.caseError {r : IngressRec} (h : Canon s) : Canon (s.caseError r) := .record (.setBit (.upd h))

theorem Canon.recordRead {r : IngressRec} (h : Canon s) : Canon (s.recordRead r).1 := by
  unfold State.recordRead
  split
  · exact .pair h
  · split
    next e6 => exact .pair (.of_fst e6 (.rdMem h))

theorem Canon.doIntakeAccept {src : Source} (h : Canon s) : Canon (doIntakeAccept src s) := by
  dsimp only [Machine.doIntakeAccept]
  split
  · split
    · exact h
    · split
      · exact h
      · split
        · exact h
        · split
          · split
            next e15 => exact .takeRecord (.upd (.of_fst e15 (.recordRead h)))
            next e18 => exact .caseError (.of_fst e18 (.recordRead h))
          · exact .takeRecord (.upd h)
  · split
    · exact h
    · split
      · exact h
      · exact .sendIngress (.makeCell (.takeInput (.countPass h)))

/-! ### What instances reach through its commands -/

theorem Canon.maskWrite {off mask val : Nat} (h : Canon s) : Canon (s.maskWrite off mask val).1 := by
  unfold State.maskWrite
  split
  · exact .pair h
  · split
    · exact .pair (.mbWrite h)
    · exact .ite_fst (.ite_fst (.pair (.blockWriteReg h)) (.putReg h)) (.pfWrite h)

/-! ### Modes, the Baton, roles, takeover, handover and detach -/

theorem Canon.setWant {b : Bool} (h : Canon s) : Canon (s.setWant b) := .setFld h

theorem Canon.batonRelease (h : Canon s) : Canon s.batonRelease := .outEnFall (.upd h)

theorem Canon.batonClaim (h : Canon s) : Canon s.batonClaim := .ite h (.upd h)

theorem Canon.setMode {m : Mode} (h : Canon s) : Canon (s.setMode m) := .weirRun (.gongRun (.upd h))

theorem Canon.dropInputs {count : Bool} (h : Canon s) : Canon (s.dropInputs count) := by
  dsimp only [State.dropInputs]
  exact .foldl (.foldl (.parMarks (.setPar (.foldl (.upd h) (fun _ _ h3 => .uartMarks (.setUart h3))))) (fun _ _ h6 =>
      .setEth (.ite (.bumpBy h6) h6))) (fun _ _ h9 => .ite h9 (.setSq h9))

theorem Canon.toHold (h : Canon s) : Canon s.toHold := .setMode (.dropInputs (.batonRelease (.setWant h)))

theorem Canon.roleLead (h : Canon s) : Canon s.roleLead := .ite (.upd h) h

theorem Canon.handoverFail (h : Canon s) : Canon s.handoverFail := by
  dsimp only [State.handoverFail]
  split
  · exact h
  · exact .mbAnswer (.upd h)

theorem Canon.resyncFail {status : Nat} (h : Canon s) : Canon (s.resyncFail status) := by
  dsimp only [State.resyncFail]
  split
  · exact h
  · exact .mbAnswer (.upd h)

theorem Canon.loseBaton (h : Canon s) : Canon s.loseBaton :=
  .ite (.batonRelease h) (.toHold (.upd (.resyncFail (.handoverFail (.record (.setBit h))))))

theorem Canon.enterDrive {e : ModeEntry} (h : Canon s) : Canon (s.enterDrive e) :=
  .ite (.roleLead (.outEnRise (.setMode (.upd h)))) (.mbAnswer (.roleLead (.outEnRise (.setMode (.upd h)))))

theorem Canon.entryFail {e : ModeEntry} (h : Canon s) : Canon (s.entryFail e) :=
  .ite (.setMode (.batonRelease (.setWant (.upd h)))) (.mbAnswer (.batonRelease (.setWant (.upd h))))

theorem Canon.beginEntry {asker : Nat} {target : Mode} (h : Canon s) : Canon (s.beginEntry asker target) :=
  .batonClaim (.setWant (.upd h))

theorem Canon.takeRecords (h : Canon s) : Canon s.takeRecords :=
  .foldl (.upd (.foldl (.upd h) (fun _ _ h3 => .takeRecord h3))) (fun _ _ h6 => .applyConfig h6)

theorem Canon.becomeLead {peer : FordRole} (h : Canon s) : Canon (s.becomeLead peer) :=
  .outEnRise (.setMode (.upd (.takeRecords h)))

theorem Canon.takeOver (h : Canon s) : Canon s.takeOver := .cause (.setBit (.bump (.becomeLead h)))

theorem Canon.handoverIn (h : Canon s) : Canon s.handoverIn := .setBit (.becomeLead h)

theorem Canon.batonHeld (h : Canon s) : Canon s.batonHeld := by
  dsimp only [State.batonHeld]
  split
  · exact .enterDrive (.upd h)
  · exact .ite (.takeOver (.upd h)) (.ite (.handoverIn (.upd h)) (.upd h))

theorem Canon.goDetached (h : Canon s) : Canon s.goDetached := .setMode (.setBit (.batonRelease (.setWant (.upd h))))

theorem Canon.detachPartner {tell : Bool} {status : Nat} (h : Canon s) : Canon (s.detachPartner tell status) :=
  .weirRun (.resyncFail (.handoverFail (.partnerGone h)))

theorem Canon.takeoverCheck (h : Canon s) : Canon s.takeoverCheck := by
  dsimp only [State.takeoverCheck]
  split
  · exact h
  · exact .ite h (.ite (.batonClaim (.setWant (.upd (.setBit h)))) (.ite (.goDetached (.setBit h)) (.setBit h)))

theorem Canon.fordDown (h : Canon s) : Canon s.fordDown := by
  dsimp only [State.fordDown]
  exact .ite h (.ite (.goDetached (.upd (.ite (.detachPartner (.setBit (.upd h))) (.resyncFail (.handoverFail (.setBit
      (.upd h))))))) (.ite (.goDetached (.setBit (.upd (.ite (.detachPartner (.setBit (.upd h))) (.resyncFail
      (.handoverFail (.setBit (.upd h)))))))) (.takeoverCheck (.upd (.ite (.detachPartner (.setBit (.upd h))) (.resyncFail
      (.handoverFail (.setBit (.upd h)))))))))

theorem Canon.fordUp {delay : Nat} (h : Canon s) : Canon (s.fordUp delay) := .roleLead (.upd h)

theorem Canon.fordResend (h : Canon s) : Canon s.fordResend := by
  dsimp only [State.fordResend]
  split
  · exact .fordDown h
  · split
    · exact .fordDown (.record h)
    · exact .foldl (.bumpBy (.upd h)) (fun _ _ h10 => .emit h10)

theorem Canon.handoverOut {hd : Handover} (h : Canon s) : Canon (s.handoverOut hd) :=
  .setMode (.dropInputs (.upd (.batonRelease (.setWant h))))

theorem Canon.fordAck {ack : Nat} (h : Canon s) : Canon (s.fordAck ack) := by
  dsimp only [State.fordAck]
  split
  · exact .ite (.handoverOut (.weirRun (.upd h))) (.weirRun (.upd h))
  · exact .weirRun (.upd h)

theorem OptCanon.fordTake {hd : FordHdr} (h : Canon s) : OptCanon (s.fordTake hd) :=
  .ite .none (.some (.fordAck (.upd h)))

/-! ### The recorder's chunks, checkpoint images, digests and case files -/

theorem Canon.writeChunk {kind : Nat} {c : OpenChunk} (h : Canon s) : Canon (s.writeChunk kind c).1 := by
  have hwr := @Canon.wrMem
  unfold State.writeChunk
  obtain ⟨wr, ewr⟩ := exists_eq' (a' := @State.wrMem)
  rw [ewr] at hwr ⊢
  obtain ⟨ring, ering⟩ := exists_eq' (a' := s.btRing)
  rw [ering]
  exact .ite_fst (.pair h) (.ite_fst (.pair (.mapErr h)) (.ite_fst (.pair (hwr h)) (.pair (.upd (hwr h)))))

theorem Canon.gapAdd {a b : Nat} (h : Canon s) : Canon (s.gapAdd a b) := .upd h

theorem Canon.gapWrite (h : Canon s) : Canon s.gapWrite := by
  have hwr := @Canon.writeChunk
  unfold State.gapWrite
  obtain ⟨wr, ewr⟩ := exists_eq' (a' := @State.writeChunk)
  rw [ewr] at hwr ⊢
  split
  · exact h
  · exact .ite (hwr h) (.setBit (.bump (.upd (hwr h))))

theorem Canon.closeChunk {kind : Nat} (h : Canon s) : Canon (s.closeChunk kind) := by
  have hwr := @Canon.writeChunk
  unfold State.closeChunk
  obtain ⟨wr, ewr⟩ := exists_eq' (a' := @State.writeChunk)
  rw [ewr] at hwr ⊢
  split
  · exact h
  · exact .ite (.gapAdd (hwr (.gapWrite (.upd h)))) (hwr (.gapWrite (.upd h)))

theorem Canon.addRecord {kind gseq : Nat} {l : List Byte} (h : Canon s) : Canon (s.addRecord kind gseq l) := by
  dsimp only [State.addRecord]
  refine .upd ?_
  split
  · exact .ite (.closeChunk h) h
  · exact h

theorem Canon.logChunks (h : Canon s) : Canon s.logChunks :=
  .ite (.foldl (.upd h) (fun _ _ h3 => .ite (.addRecord h3) (.addRecord h3))) (.upd h)

theorem Canon.closeChunks (h : Canon s) : Canon s.closeChunks := .foldl (.logChunks h) (fun _ _ h3 => .closeChunk h3)

theorem Canon.recordCell {c : Cell} (h : Canon s) : Canon (s.recordCell c) := by
  dsimp only [State.recordCell]
  exact .reap (.ite (.gapAdd (.modCell h)) (.ite (.ite (.setBit (.bump (.modCell h))) (.modCell h)) (.upd (.addRecord
      (.gapWrite (.ite (.setBit (.bump (.modCell h))) (.modCell h)))))))

theorem Canon.digestMiss {w : Nat} {own lead : Digest} (h : Canon s) : Canon (s.digestMiss w own lead) :=
  .cause (.record (.upd (.bump (.setBit h))))

theorem Canon.compareWindow {w : Nat} {own lead : Digest} (h : Canon s) : Canon (s.compareWindow w own lead) :=
  .ite h (.digestMiss h)

theorem Canon.compareReplay {w : Nat} {own : Digest} (h : Canon s) : Canon (s.compareReplay w own) := by
  dsimp only [State.compareReplay]
  split
  · exact h
  · exact .ite h (.setBit (.bump (.upd h)))

theorem Canon.windowClose (h : Canon s) : Canon s.windowClose := by
  dsimp only [State.windowClose]
  split
  · exact h
  · split
    · split
      · exact .fordSend (.addRecord (.upd h))
      · split
        · split
          · exact .compareWindow (.upd (.addRecord (.upd h)))
          · exact .upd (.addRecord (.upd h))
        · exact .ite (.compareReplay (.addRecord (.upd h))) (.addRecord (.upd h))
    · split
      · exact .fordSend (.upd h)
      · split
        · split
          · exact .compareWindow (.upd (.upd h))
          · exact .upd (.upd h)
        · exact .ite (.compareReplay (.upd h)) (.upd h)

theorem Canon.loadImage {x : Image} {count : Int} (h : Canon s) : Canon (s.loadImage x count) := by
  unfold State.loadImage
  refine .upd (.foldl ?_ fun _ _ hs => ?_)
  · exact wf_mergeMem (Canon.foldl (.stepTo (.upd h)) fun _ _ hs => .mbAnswer hs)
  · split
    · exact .pbufStore hs
    · exact hs

theorem Canon.ckptStart {tries : Nat} (h : Canon s) : Canon (s.ckptStart tries) := .upd h

theorem Canon.ckptAsk {x : CkptAsker} (h : Canon s) : Canon (s.ckptAsk x) := .ite (.ckptStart (.upd h)) (.upd h)

theorem Canon.resyncOpen (h : Canon s) : Canon s.resyncOpen := by
  dsimp only [State.resyncOpen]
  split
  · exact h
  · exact .upd (.fordSend h)

theorem Canon.ckptMark (h : Canon s) : Canon s.ckptMark := by
  unfold State.ckptMark
  extract_lets k s₁ mark s₂ b b' s₃
  have h₁ : Canon s₁ := .closeChunks h
  have h₂ : Canon s₂ := .ite (.closeChunk (.addRecord h₁)) h₁
  exact .ite (.resyncOpen (.upd h₂)) (.upd h₂)

theorem Canon.ckptAnswer {status g0 : Nat} (h : Canon s) : Canon (s.ckptAnswer status g0) :=
  .foldl (.upd h) (fun _ _ h3 => .ite (.mbInternal (.ite (.upd h3) h3)) (.ite h3 (.mbAnswer h3)))

theorem Canon.sendImage {x : Image} (h : Canon s) : Canon (s.sendImage x) :=
  .ite h (.fordSend (.foldl h (fun _ _ h3 => .fordSend h3)))

theorem Canon.ckptDone (h : Canon s) : Canon s.ckptDone := by
  have hwr := @Canon.wrMem
  unfold State.ckptDone
  obtain ⟨wr, ewr⟩ := exists_eq' (a' := @State.wrMem)
  rw [ewr] at hwr ⊢
  obtain ⟨reach, ereach⟩ := exists_eq' (a' := State.mapOk)
  rw [ereach]
  split
  · exact h
  · refine .ite (.ckptAnswer (.sendImage (.upd h))) ?_
    extract_lets
    split
    next e =>
      have h₂ := Canon.of_fst e (.ite_fst (hwr (.upd h)) (.pair (.mapErr (.upd h))))
      exact .ite (.ckptAnswer (.setBit (.bump h₂))) (.ckptAnswer (.sendImage (.cause (.setBit (.bump (.upd h₂))))))

theorem Canon.ckptFail (h : Canon s) : Canon s.ckptFail :=
  .ite (.setBit (.bump (.upd h))) (.ckptAnswer (.setBit (.bump (.upd h))))

/-! ### The commands of the recorder, checkpoints, transfers and replay -/

theorem Canon.doBitternRecord (h : Canon s) : Canon (doBitternRecord s) := by
  unfold Machine.doBitternRecord
  split
  · exact h
  · split
    · exact .ite (.recordCell h) h
    · exact h

theorem Canon.doChunkClose (h : Canon s) : Canon (doChunkClose s) :=
  .ite (.upd (.gapWrite (.closeChunks (.ite h (.upd h))))) (.ite h (.upd h))

theorem Canon.doCheckpointPeriod (h : Canon s) : Canon (doCheckpointPeriod s) := .ite (.ckptStart h) h

theorem Canon.doCheckpointMark (h : Canon s) : Canon (doCheckpointMark s) := by
  unfold Machine.doCheckpointMark
  exact .ite (.ckptMark h) h

theorem Canon.doCheckpointQuiesceTimeout (h : Canon s) : Canon (doCheckpointQuiesceTimeout s) := .ite (.ckptFail h) h

theorem Canon.doCheckpointRetry (h : Canon s) : Canon (doCheckpointRetry s) := by
  unfold Machine.doCheckpointRetry
  split
  · exact .ite (.ckptStart h) h
  · exact h

theorem Canon.doCheckpointCopyDone (h : Canon s) : Canon (doCheckpointCopyDone s) := .ite (.ckptDone h) h

theorem Canon.xferOut {n : Nat} (h : Canon s) : Canon (State.xferOut n s) := by
  delta State.xferOut State.xferOut._f
  obtain ⟨len, e⟩ := exists_eq' (a' := State.xferLen)
  rw [e]
  have hrd := @Canon.rdMem
  obtain ⟨rd, erd⟩ := exists_eq' (a' := @State.rdMem)
  rw [erd] at hrd ⊢
  induction n generalizing s with
  | zero => exact h
  | succ n ih =>
    refine .ite h (.ite (.xferRefuse h) (.ite h ?_))
    split
    next e => exact .xferRefuse (.of_fst e (hrd h))
    next e => exact ih (.upd (.cqWrite (.of_fst e (hrd h))))

theorem Canon.xferIn {n : Nat} (h : Canon s) : Canon (State.xferIn n s) := by
  delta State.xferIn State.xferIn._f
  obtain ⟨len, e⟩ := exists_eq' (a' := State.xferLen)
  rw [e]
  have hwr := @Canon.wrMem
  obtain ⟨wr, ewr⟩ := exists_eq' (a' := @State.wrMem)
  rw [ewr] at hwr ⊢
  induction n generalizing s with
  | zero => exact h
  | succ n ih =>
    refine .ite h ?_
    split
    · exact .ite (.xferRefuse (hwr h)) (ih (.sqSkip (.upd (.setSq (hwr h)))))
    · exact h

theorem Canon.doXferDone (h : Canon s) : Canon (doXferDone s) := by
  dsimp only [Machine.doXferDone]
  exact .ite h (.ite (.xferRefuse (.mapErr h)) (.ite (.setBit (.setBit (.ite (.xferOut h) (.xferIn h)))) (.ite (.xferOut
      h) (.xferIn h))))

theorem Canon.enterReplay {c : CaseFile} (h : Canon s) : Canon (s.enterReplay c) := .setMode (.upd (.loadImage h))

theorem Canon.doRecReplayEnter {m : Nat} (h : Canon s) : Canon (doRecReplayEnter m s) := by
  dsimp only [Machine.doRecReplayEnter]
  refine .mbRun h ?_
  intro _ _ _ h4
  split
  · exact .mbAnswer h4
  · split
    · exact .mbAnswer (.mapErr h4)
    · split
      next e11 => exact .mbAnswer (.of_fst e11 (.rdMem h4))
      next e15 =>
        split
        · exact .mbAnswer (.of_fst e15 (.rdMem h4))
        · exact .ite (.mbAnswer (.of_fst e15 (.rdMem h4))) (.mbAnswer (.enterReplay (.of_fst e15 (.rdMem h4))))

theorem Canon.doRecReplayExit {m : Nat} (h : Canon s) : Canon (doRecReplayExit m s) :=
  .mbRun h (fun _ _ _ h4 => .ite (.mbAnswer h4) (.mbAnswer (.setBit (.setMode (.upd h4)))))

theorem Canon.doReplayOffer (h : Canon s) : Canon (doReplayOffer s) := .ite (.doIntakeAccept h) h

theorem Canon.doReplayStuck (h : Canon s) : Canon (doReplayStuck s) := by
  dsimp only [Machine.doReplayStuck]
  split
  · exact .ite (.setBit (.upd h)) h
  · exact h

theorem Canon.doReplayDone (h : Canon s) : Canon (doReplayDone s) := .ite (.cause (.setBit (.upd h))) h

theorem Canon.doRecConfig {m : Nat} (h : Canon s) : Canon (doRecConfig m s) := by
  dsimp only [Machine.doRecConfig]
  exact .mbRun h (fun _ _ _ h4 => .ite (.mbAnswer h4) (.mbAnswer (.btCtlWrite (.ite (.setBit (.ite (.closeChunks h4) h4))
      (.ite (.setReg (.setReg (.setReg (.upd (.ite (.closeChunks h4) h4))))) (.ite (.closeChunks h4) h4))))))

theorem Canon.doRecStatus {m : Nat} (h : Canon s) : Canon (doRecStatus m s) := .mbRun h (fun _ _ _ h4 => .mbAnswer h4)

theorem Canon.doRecCheckpoint {m : Nat} (h : Canon s) : Canon (doRecCheckpoint m s) :=
  .mbRun h (fun _ _ _ h4 => .ite h4 (.ite (.mbAnswer h4) (.ckptAsk (.mbBegin h4))))

/-! ### Boot images and patch files: their checks, the flash, and the loading of a patch set -/

theorem Canon.loadPatch {p : PatchSet} (h : Canon s) : Canon (s.loadPatch p) :=
  .bump (.setReg (.upd (.foldl h (fun _ _ h3 => .setReg h3))))

theorem Canon.flashProgram {slot off : Nat} {l : List Byte} (h : Canon s) : Canon (s.flashProgram slot off l) := .upd h

theorem Canon.flashErase {slot : Nat} (h : Canon s) : Canon (s.flashErase slot) := .upd h

theorem Canon.flashFail {slot off n : Nat} (h : Canon s) : Canon (s.flashFail slot off n) := .upd (.tick h)

/-! ### The table commands and the end of a reload -/

theorem Canon.doTblShoalStage {m : Nat} (h : Canon s) : Canon (doTblShoalStage m s) := by
  dsimp only [Machine.doTblShoalStage]
  exact .mbRun h (fun _ _ _ h4 => .ite (.mbAnswer h4) (.ite (.mbAnswer h4) (.ite (.mbAnswer h4) (.ite h4 (.ite (.mbAnswer
      h4) (.mbAnswer (.stage h4)))))))

theorem Canon.doTblActionStage {m : Nat} (h : Canon s) : Canon (doTblActionStage m s) :=
  .mbRun h (fun _ _ _ h4 => .ite (.mbAnswer h4) (.ite h4 (.mbAnswer (.stage h4))))

theorem Canon.doTblStreamStage {m : Nat} (h : Canon s) : Canon (doTblStreamStage m s) :=
  .mbRun h (fun _ _ _ h4 => .ite (.mbAnswer h4) (.ite h4 (.mbAnswer (.stage h4))))

theorem Canon.doTblRegStage {m : Nat} (h : Canon s) : Canon (doTblRegStage m s) := by
  dsimp only [Machine.doTblRegStage]
  exact .mbRun h (fun _ _ _ h4 => .ite (.mbAnswer h4) (.ite (.mbAnswer h4) (.ite h4 (.ite (.mbAnswer h4) (.mbAnswer
      (.configEntry (.stageBits h4)))))))

theorem Canon.doTblStation {m : Nat} (h : Canon s) : Canon (doTblStation m s) :=
  .mbRun h (fun _ _ _ h4 => .mbBegin (.upd h4))

theorem Canon.doTblCommit {m : Nat} (h : Canon s) : Canon (doTblCommit m s) :=
  .mbRun h (fun _ _ _ h4 => .mbBegin (.upd h4))

theorem Canon.doTblAbort {m : Nat} (h : Canon s) : Canon (doTblAbort m s) :=
  .mbRun h (fun _ _ _ h4 => .mbAnswer (.discardEdits h4))

theorem Canon.doTblRead {m : Nat} (h : Canon s) : Canon (doTblRead m s) := by
  dsimp only [Machine.doTblRead]
  exact .mbRun h (fun _ _ _ h4 => .ite (.mbAnswer h4) (.ite (.mbAnswer (.ite (.shoalChk h4) (.rdChk h4))) (.mbAnswer (.ite
      (.shoalChk h4) (.rdChk h4)))))

theorem Canon.doStagedReloadDone (h : Canon s) : Canon (doStagedReloadDone s) := by
  dsimp only [Machine.doStagedReloadDone]
  split
  · exact h
  · split
    · exact h
    · refine .foldl (.foldl (.upd h) (fun _ _ h11 => .stageBits h11)) ?_
      intro _ _ h14
      split
      · exact .destroyStep h14
      · split
        · exact h14
        · exact .ite (.mbAnswer h14) (.ite (.mbAnswer h14) h14)

/-! ### Commands on instances, and the events of a tenant's and of the host's reset -/

theorem Canon.create {i : Nat} {x : Instance} (h : Canon s) : Canon (s.create i x) :=
  .sendInst (.upd (.configEntry (.setFld (.foldl h (fun _ _ h3 => .configEntry (.setFld h3))))))

theorem Canon.doInstCreate {m : Nat} (h : Canon s) : Canon (doInstCreate m s) :=
  .mbRun h (fun _ _ _ h4 => .ite (.mbAnswer h4) (.mbAnswer (.create h4)))

theorem Canon.doInstEnd {m op : Nat} (h : Canon s) : Canon (doInstEnd m op s) :=
  .mbRun h (fun _ _ _ h4 => .ite (.mbAnswer h4) (.ite (.mbAnswer h4) (.instReset (.mbBegin h4))))

theorem Canon.doInstDrainExpiry {i : Nat} (h : Canon s) : Canon (doInstDrainExpiry i s) := by
  dsimp only [Machine.doInstDrainExpiry]
  split
  · exact h
  · exact .ite h (.ite (.instFollow h) (.ite h (.instSquash h)))

theorem Canon.doInstResetComplete {i : Nat} (h : Canon s) : Canon (doInstResetComplete i s) := by
  dsimp only [Machine.doInstResetComplete]
  split
  · exact h
  · split
    · exact .ite (.instDone (.ite h (.ite (.instFollow h) (.instSquash h)))) (.ite h (.ite (.instFollow h) (.instSquash h)))
    · exact .ite (.destroyStep h) h

theorem Canon.flr {i : Nat} (h : Canon s) : Canon (s.flr i) := .ite (.instReset h) h

theorem Canon.doVfFlr {i : Nat} (h : Canon s) : Canon (doVfFlr i s) := .ite h (.flr (.upd h))

theorem Canon.dropAsker {m : Nat} (h : Canon s) : Canon (s.dropAsker m) := .upd h

theorem Canon.endMailbox {m : Nat} (h : Canon s) : Canon (s.endMailbox m) :=
  .upd (.bfHostEnd (.dropAsker (.mbForget h)))

theorem Canon.i0QueuesOff (h : Canon s) : Canon s.i0QueuesOff := .foldl h (fun _ _ h3 => .setSq (.setFld (.setFld h3)))

theorem Canon.doHostReset (h : Canon s) : Canon (doHostReset s) :=
  .ite (.upd h) (.upd (.bump (.endMailbox (.i0QueuesOff (.foldl (.upd h) (fun _ _ h3 => .flr h3))))))

theorem Canon.doPcieLinkUp {speed width : Nat} (h : Canon s) : Canon (doPcieLinkUp speed width s) := .ite h (.upd h)

theorem Canon.doInstStatus {m : Nat} (h : Canon s) : Canon (doInstStatus m s) :=
  .mbRun h (fun _ _ _ h4 => .ite (.mbAnswer h4) (.ite (.mbAnswer h4) (.mbAnswer (.tick h4))))

theorem Canon.doInstGrant {m : Nat} (h : Canon s) : Canon (doInstGrant m s) := by
  dsimp only [Machine.doInstGrant]
  exact .mbRun h (fun _ _ _ h4 => .ite (.mbAnswer h4) (.ite (.mbAnswer h4) (.ite (.mbAnswer h4) (.mbAnswer (.sendGrant
      (.modInst h4))))))

/-! ### The device reset and the commands that start one -/

theorem Canon.deviceReset {cause : Nat} (h : Canon s) : Canon (s.deviceReset cause) := .upd h

theorem Canon.doPowerOnReset {twinId : Bool} (h : Canon s) : Canon (doPowerOnReset twinId s) :=
  wf_filterMem (Canon.deviceReset (.tick h)) _

theorem Canon.doSysrstN (h : Canon s) : Canon (doSysrstN s) := .deviceReset h

theorem Canon.doBrownOut (h : Canon s) : Canon (doBrownOut s) := .deviceReset h

theorem Canon.doPfFlr (h : Canon s) : Canon (doPfFlr s) := .deviceReset h

theorem Canon.doDevResetStart (h : Canon s) : Canon (doDevResetStart s) := by
  unfold Machine.doDevResetStart
  split
  · exact .ite (.deviceReset h) h
  · exact h

theorem Canon.doFatalEscalation (h : Canon s) : Canon (doFatalEscalation s) := by
  dsimp only [Machine.doFatalEscalation]
  split
  · exact h
  · exact .ite h (.deviceReset (.upd h))

theorem Canon.doStreakClear (h : Canon s) : Canon (doStreakClear s) := .ite (.upd h) h

/-! ### The steps of BOOT -/

theorem Canon.bootNext (h : Canon s) : Canon s.bootNext := .upd h

theorem Canon.doBootStart (h : Canon s) : Canon (doBootStart s) :=
  .ite h (.bootNext (.ite (.setBit (.upd (.ite (.upd h) h))) (.upd (.ite (.upd h) h))))

theorem Canon.bootImage {slot : Nat} {fallback : Bool} {i : BootImage} (h : Canon s) :
    Canon (s.bootImage slot fallback i) := .bootNext (.upd (.setFld (.setFld h)))

theorem Canon.doImageVerified (h : Canon s) : Canon (doImageVerified s) := by
  dsimp only [Machine.doImageVerified]
  split
  · exact h
  · split
    · exact .bootImage h
    · exact .bootImage h
    · exact .record (.setBit h)

theorem Canon.alarmRecord {k : Nat} (h : Canon s) : Canon (s.alarmRecord k) := .record h

theorem Canon.alarmsWaiting (h : Canon s) : Canon s.alarmsWaiting := .foldl (.upd h) (fun _ _ h3 => .alarmRecord h3)

theorem Canon.gptpConfig {x : StoreConfig} (h : Canon s) : Canon (s.gptpConfig x) :=
  .foldl (.upd h) (fun _ _ h3 => .modGptp h3)

theorem Canon.doConfigStoreLoaded {ok : Bool} (h : Canon s) : Canon (doConfigStoreLoaded ok s) := by
  dsimp only [Machine.doConfigStoreLoaded]
  exact .ite h (.bootNext (.alarmsWaiting (.gptpConfig (.checkGeometry (.foldl (.foldl (.upd (.ite h (.record (.setBit
      (.upd h))))) (fun _ _ h3 => .chanSafe h3)) (fun _ _ h6 => .ite (.putReg h6) h6))))))

theorem Canon.startRanks {c : Nat} (h : Canon s) : Canon (s.startRanks c) := .foldl h (fun _ _ h3 => .setRank h3)

theorem Canon.trainChannel {c : Nat} {failed : Bool} (h : Canon s) : Canon (s.trainChannel c failed) :=
  .ite h (.ite (.record (.setBit (.setBit h))) (.startRanks (.setBit h)))

theorem Canon.doDramTrained {fail0 fail1 : Bool} (h : Canon s) : Canon (doDramTrained fail0 fail1 s) :=
  .ite h (.bootNext (.trainChannel (.trainChannel h)))

theorem Canon.doDramZeroed (h : Canon s) : Canon (doDramZeroed s) := .ite h (.bootNext (wf_filterMem h _))

theorem Canon.doOhmythStart (h : Canon s) : Canon (doOhmythStart s) := by
  dsimp only [Machine.doOhmythStart]
  split
  · exact h
  · split
    · exact h
    · refine .bootNext (.upd (.wrBytes ?_))
      split
      · exact .loadPatch h
      · exact h

theorem Canon.retire (h : Canon s) : Canon s.retire := .foldl h (fun _ _ h3 => .ite (.wdFinish h3) h3)

theorem Canon.firstCommit (h : Canon s) : Canon s.firstCommit :=
  .upd (.stageBits (.foldl (.foldl h (fun _ _ h3 => .stageEntry h3)) (fun _ _ h6 => .stageBits h6)))

theorem Canon.bootDone (h : Canon s) : Canon s.bootDone :=
  .ite (.beginEntry (.bootNext (.upd (.ite (.setBit h) h)))) (.setMode (.bootNext (.upd (.ite (.setBit h) h))))

theorem Canon.doBootEnd (h : Canon s) : Canon (doBootEnd s) :=
  .ite h (.ite (.bootNext (.firstCommit (.retire h))) (.ite (.bootDone h) h))

/-! ### The movement of error records to the error queues, and the repeat limit -/

theorem Canon.queueRecord {r : ErrRec} {i : Nat} (h : Canon s) : Canon (s.queueRecord r i) :=
  .ite (.cause (.upd h)) (.bump (.upd h))

theorem Canon.repeatLimit {r : ErrRec} (h : Canon s) : Canon (s.repeatLimit r) := by
  dsimp only [State.repeatLimit]
  split
  · exact h
  · exact .ite h (.ite (.upd h) (.ite (.wdStart (.record (.upd h))) (.record (.upd h))))

theorem Canon.doRecordMove (h : Canon s) : Canon (doRecordMove s) := by
  dsimp only [Machine.doRecordMove]
  split
  · exact h
  · exact .ite h (.repeatLimit (.foldl (.ite (.faultLog (.upd h)) (.upd h)) (fun _ _ h10 => .queueRecord h10)))

/-! ### The commands of the Ford link, the Baton and the pair -/

theorem Canon.doBatonSettle (h : Canon s) : Canon (doBatonSettle s) := by
  dsimp only [Machine.doBatonSettle]
  split
  · exact .ite (.entryFail (.ite h (.ite (.batonHeld h) (.ite (.batonRelease (.setBit h)) (.batonHeld (.setBit h))))))
        (.ite h (.ite (.batonHeld h) (.ite (.batonRelease (.setBit h)) (.batonHeld (.setBit h)))))
  · exact .ite h (.ite (.batonHeld h) (.ite (.batonRelease (.setBit h)) (.batonHeld (.setBit h))))

theorem Canon.claimWaiting (h : Canon s) : Canon s.claimWaiting :=
  .ite (.batonClaim h) (.ite (.batonClaim (.setWant h)) h)

theorem Canon.doBatonLineChange {low : Bool} (h : Canon s) : Canon (doBatonLineChange low s) := by
  dsimp only [Machine.doBatonLineChange]
  exact .ite (.ite (.ite (.loseBaton (.setBit (.upd h))) (.setBit (.upd h))) (.upd h)) (.takeoverCheck (.claimWaiting
      (.upd h)))

theorem Canon.doKeeperRefresh (h : Canon s) : Canon (doKeeperRefresh s) :=
  .ite h (.ite (.loseBaton h) (.ite (.upd (.stamp h)) h))

theorem Canon.doBatonWatchdogExpiry (h : Canon s) : Canon (doBatonWatchdogExpiry s) := .ite (.loseBaton (.setBit h)) h

theorem Canon.doFordLinkUp {delay version : Nat} (h : Canon s) : Canon (doFordLinkUp delay version s) :=
  .ite h (.ite (.setBit (.upd h)) (.fordUp h))

theorem Canon.doFordLinkDown (h : Canon s) : Canon (doFordLinkDown s) := .fordDown h

theorem Canon.doHeartbeatSend (h : Canon s) : Canon (doHeartbeatSend s) := .ite h (.fordSend (.stamp h))

theorem Canon.handoverDone {role : FordRole} (h : Canon s) : Canon (s.handoverDone role) := by
  dsimp only [State.handoverDone]
  split
  · exact .ite (.mbAnswer (.setBit (.upd h))) h
  · exact h

theorem Canon.resyncDone {role : FordRole} (h : Canon s) : Canon (s.resyncDone role) := by
  dsimp only [State.resyncDone]
  split
  · exact .ite (.mbAnswer (.upd h)) h
  · exact h

theorem Canon.doHeartbeat {hd : FordHdr} {body : List Byte} (h : Canon s) : Canon (doHeartbeat hd body s) := by
  dsimp only [Machine.doHeartbeat]
  split
  · exact h
  next e5 =>
    exact .ite (.setBit (.upd (.of_some e5 (.fordTake h)))) (.ite (.fordResend (.weirRun (.resyncDone (.handoverDone (.ite
        (.cause (.upd (.of_some e5 (.fordTake h)))) (.upd (.of_some e5 (.fordTake h)))))))) (.weirRun (.resyncDone
        (.handoverDone (.ite (.cause (.upd (.of_some e5 (.fordTake h)))) (.upd (.of_some e5 (.fordTake h))))))))

theorem Canon.doHeartbeatMissed (h : Canon s) : Canon (doHeartbeatMissed s) :=
  .ite h (.ite (.takeoverCheck (.bump (.upd h))) (.ite (.detachPartner (.bump (.upd h))) (.bump (.upd h))))

theorem Canon.doGateLimitDetach (h : Canon s) : Canon (doGateLimitDetach s) := .ite (.detachPartner h) h

theorem Canon.doIngress {hd : FordHdr} {body : List Byte} (h : Canon s) : Canon (doIngress hd body s) := by
  dsimp only [Machine.doIngress]
  split
  · exact h
  next e5 =>
    split
    · exact .of_some e5 (.fordTake h)
    · exact .ite (.of_some e5 (.fordTake h)) (.upd (.of_some e5 (.fordTake h)))

theorem Canon.keepEntries {l : List DEntry} (h : Canon s) : Canon (s.keepEntries l) := .ite (.upd h) h

theorem Canon.doDecision {hd : FordHdr} {body : List Byte} (h : Canon s) : Canon (doDecision hd body s) := by
  dsimp only [Machine.doDecision]
  split
  · exact h
  next e5 => exact .ite (.of_some e5 (.fordTake h)) (.weirRun (.keepEntries (.upd (.of_some e5 (.fordTake h)))))

theorem Canon.doConfig {hd : FordHdr} {body : List Byte} (h : Canon s) : Canon (doConfig hd body s) := by
  dsimp only [Machine.doConfig]
  split
  · exact h
  next e5 => exact .ite (.of_some e5 (.fordTake h)) (.keepEntries (.upd (.of_some e5 (.fordTake h))))

theorem Canon.doDigest {hd : FordHdr} {body : List Byte} (h : Canon s) : Canon (doDigest hd body s) := by
  dsimp only [Machine.doDigest]
  split
  · exact h
  next e5 =>
    split
    · exact .of_some e5 (.fordTake h)
    · split
      · exact .compareWindow (.upd (.of_some e5 (.fordTake h)))
      · exact .ite (.of_some e5 (.fordTake h)) (.upd (.of_some e5 (.fordTake h)))

theorem Canon.doDigestWindowClose (h : Canon s) : Canon (doDigestWindowClose s) := .windowClose h

theorem Canon.doState {hd : FordHdr} {body : List Byte} (h : Canon s) : Canon (doState hd body s) := by
  dsimp only [Machine.doState]
  split
  · exact h
  next e5 => exact .ite (.upd (.of_some e5 (.fordTake h))) (.of_some e5 (.fordTake h))

theorem Canon.resyncAsked {g0 digest : Nat} (h : Canon s) : Canon (s.resyncAsked g0 digest) :=
  .ite h (.ite (.fordSend h) (.upd h))

theorem Canon.imageTaken (h : Canon s) : Canon s.imageTaken := .ite h (.upd (.loadImage h))

theorem Canon.doControl {hd : FordHdr} {msg : FordMsg} (h : Canon s) : Canon (doControl hd msg s) := by
  dsimp only [Machine.doControl]
  split
  · exact h
  next e5 =>
    split
    · exact .ite (.goDetached (.of_some e5 (.fordTake h))) (.ite (.detachPartner (.of_some e5 (.fordTake h))) (.of_some e5
          (.fordTake h)))
    · exact .resyncAsked (.of_some e5 (.fordTake h))
    · exact .ite (.weirRun (.resyncFail (.upd (.of_some e5 (.fordTake h))))) (.of_some e5 (.fordTake h))
    · exact .imageTaken (.of_some e5 (.fordTake h))
    · exact .ite (.claimWaiting (.upd (.of_some e5 (.fordTake h)))) (.of_some e5 (.fordTake h))

theorem Canon.doSyncCatchUp (h : Canon s) : Canon (doSyncCatchUp s) := .ite (.setMode (.upd h)) h

theorem Canon.doApp {hd : FordHdr} {body : List Byte} (h : Canon s) : Canon (doApp hd body s) := by
  dsimp only [Machine.doApp]
  split
  · exact h
  next e5 => exact .ite (.upd (.of_some e5 (.fordTake h))) (.bump (.of_some e5 (.fordTake h)))

/-! ### The health monitors and the Viveram store's rewriting -/

theorem Canon.alarm {k : Nat} {present : Bool} (h : Canon s) : Canon (s.alarm k present) := by
  dsimp only [State.alarm]
  split
  · exact .ite (.upd h) (.ite (.upd (.setBit h)) (.alarmRecord (.upd (.setBit h))))
  · split
    · exact h
    · split
      · exact .upd h
      · exact .ite (.upd h) h

theorem Canon.doSensorSample {x : Samples} (h : Canon s) : Canon (doSensorSample x s) := by
  dsimp only [Machine.doSensorSample]
  exact .ite h (.upd (.foldl (.setFld (.upd (.tick (.setReg (.setReg (.setReg (.ite (.setReg (.setReg (.ite (.setReg
      (.setReg (.tick (.stamp h)))) (.setReg (.tick (.stamp h)))))) (.setReg (.ite (.setReg (.setReg (.tick (.stamp h))))
      (.setReg (.tick (.stamp h)))))))))))) (fun _ _ h3 => .alarm h3)))

theorem Canon.doViveramRewrite {addr : Nat} (h : Canon s) : Canon (doViveramRewrite addr s) := .ite h (.scrub h)

/-! ### The device commands of the mailboxes -/

theorem Canon.doDevInfo {m : Nat} (h : Canon s) : Canon (doDevInfo m s) := .mbRun h (fun _ _ _ h4 => .mbAnswer h4)

theorem Canon.doDevMode {m : Nat} (h : Canon s) : Canon (doDevMode m s) := by
  dsimp only [Machine.doDevMode]
  refine .mbRun h ?_
  intro _ _ _ h4
  split
  · exact .mbAnswer h4
  · split
    · exact .mbAnswer h4
    · split
      · exact .ite (.beginEntry (.mbBegin h4)) (.mbAnswer h4)
      · exact .ite (.ite (.mbAnswer (.roleLead (.setMode h4))) (.mbAnswer h4)) (.ite (.mbAnswer (.toHold h4)) (.mbAnswer
            h4))
      · exact .ite (.mbAnswer h4) (.ite (.mbAnswer (.setMode h4)) (.ite (.mbAnswer (.toHold h4)) (.mbAnswer h4)))
      · exact .mbAnswer h4

theorem Canon.readRegs {off n : Nat} (h : Canon s) : Canon (s.readRegs off n).1 := by
  induction n generalizing s off with
  | zero => exact h
  | succ n ih => exact ih (.viewRead h)

theorem Canon.doDevRegRead {m : Nat} (h : Canon s) : Canon (doDevRegRead m s) :=
  .mbRun h (fun _ _ _ h4 => .ite (.mbAnswer (.readRegs h4)) (.mbAnswer h4))

theorem Canon.doDevRegWrite {m : Nat} (h : Canon s) : Canon (doDevRegWrite m s) :=
  .mbRun h (fun _ _ _ h4 => .ite (.mbAnswer h4) (.ite (.mbAnswer h4) (.mbAnswer (.maskWrite h4))))

theorem Canon.doDevHealth {m : Nat} (h : Canon s) : Canon (doDevHealth m s) := .mbRun h (fun _ _ _ h4 => .mbAnswer h4)

theorem Canon.doDevReset {m : Nat} (h : Canon s) : Canon (doDevReset m s) :=
  .mbRun h (fun _ _ _ h4 => .upd (.mbAnswer h4))

/-! ### The port, lock and error commands of the mailboxes -/

theorem Canon.doPortStatus {m : Nat} (h : Canon s) : Canon (doPortStatus m s) :=
  .mbRun h (fun _ _ _ h4 => .ite (.ite (.mbAnswer h4) (.mbAnswer h4)) (.ite (.mbAnswer h4) (.mbAnswer (.tick h4))))

theorem Canon.doPortCounters {m : Nat} (h : Canon s) : Canon (doPortCounters m s) :=
  .mbRun h (fun _ _ _ h4 => .ite (.mbAnswer h4) (.mbAnswer h4))

theorem Canon.writeWords {l : List (Nat × Nat)} (h : Canon s) : Canon (s.writeWords l) :=
  .foldl h (fun _ _ h3 => .pfWrite h3)

theorem Canon.doPortGclLoad {m : Nat} (h : Canon s) : Canon (doPortGclLoad m s) := by
  dsimp only [Machine.doPortGclLoad]
  exact .mbRun h (fun _ _ _ h4 => .ite (.mbAnswer h4) (.ite (.mbAnswer (.writeWords h4)) (.ite (.mbAnswer (.writeWords
      h4)) (.mbAnswer (.pfWrite (.writeWords (.writeWords h4)))))))

theorem Canon.doPortGongWrite {m : Nat} (h : Canon s) : Canon (doPortGongWrite m s) :=
  .mbRun h (fun _ _ _ h4 => .ite (.mbAnswer h4) (.mbAnswer (.writeWords h4)))

theorem Canon.doPortGongRearm {m : Nat} (h : Canon s) : Canon (doPortGongRearm m s) := by
  dsimp only [Machine.doPortGongRearm]
  exact .mbRun h (fun _ _ _ h4 => .ite (.mbAnswer h4) (.mbAnswer (.ite (.ite (.gongRearm h4) (.configEntry (.gongRearm
      h4))) (.configEntry (.ite (.gongRearm h4) (.configEntry (.gongRearm h4)))))))

theorem Canon.doLock {m op bop : Nat} (h : Canon s) : Canon (doLock m op bop s) := by
  dsimp only [Machine.doLock]
  split
  · exact .ite (.ite (.bfTakeLock (.mbRun h (fun _ _ _ h10 => .bfOffer (.mbBegin h10)))) (.bfTakeAtomic (.mbRun h (fun _ _
        _ h14 => .bfOffer (.mbBegin h14))))) (.mbRun h (fun _ _ _ h18 => .bfOffer (.mbBegin h18)))
  · exact .mbRun h (fun _ _ _ h25 => .bfOffer (.mbBegin h25))

theorem Canon.doLockAcquireTimeout {m : Nat} (h : Canon s) : Canon (doLockAcquireTimeout m s) := by
  dsimp only [Machine.doLockAcquireTimeout]
  split
  · exact h
  · exact .ite h (.mbAnswer (.bfHostEnd h))

theorem Canon.doErrRead {m : Nat} (h : Canon s) : Canon (doErrRead m s) := by
  dsimp only [Machine.doErrRead]
  refine .mbRun h ?_
  intro _ _ _ h4
  split
  · exact .mbAnswer h4
  · exact .mbAnswer (.upd h4)

theorem Canon.doErrCounts {m : Nat} (h : Canon s) : Canon (doErrCounts m s) := .mbRun h (fun _ _ _ h4 => .mbAnswer h4)

theorem Canon.doErrFaultlogRead {m : Nat} (h : Canon s) : Canon (doErrFaultlogRead m s) := by
  unfold Machine.doErrFaultlogRead
  refine .mbRun h ?_
  intro _ _ _ h4
  split
  next e8 => exact .mbAnswer (.of_fst e8 (.rdChk h4))
  next e11 => exact .mbAnswer (.of_fst e11 (.rdChk h4))

/-! ### The program and Carillon commands of the mailboxes -/

theorem Canon.loadWords {kind a off : Nat} {w : Who} {l : List Nat} (h : Canon s) :
    Canon (s.loadWords kind a off w l).1 := by
  induction l generalizing s a off with
  | nil => exact h
  | cons v l ih =>
    unfold State.loadWords
    split
    next e => exact .pair (.of_fst e (.wrChk h))
    next e => exact ih (.configEntry (.of_fst e (.wrChk h)))

theorem Canon.doPrgEgretLoad {m : Nat} (h : Canon s) : Canon (doPrgEgretLoad m s) :=
  .mbRun h (fun _ _ _ h4 => .ite (.mbAnswer h4) (.ite (.mbAnswer h4) (.mbAnswer (.loadWords h4))))

theorem Canon.doPrgParseStage {m : Nat} (h : Canon s) : Canon (doPrgParseStage m s) :=
  .mbRun h (fun _ _ _ h4 => .ite (.mbAnswer h4) (.ite h4 (.mbAnswer (.foldl h4 (fun _ _ h7 => .stage h7)))))

theorem Canon.doPrgChanBind {m : Nat} (h : Canon s) : Canon (doPrgChanBind m s) := by
  dsimp only [Machine.doPrgChanBind]
  refine .mbRun h ?_
  intro _ _ _ h4
  split
  · split
    · exact .mbAnswer h4
    · split
      · exact .mbAnswer h4
      · exact .mbAnswer (.pfWrite h4)
  · split
    · exact .mbAnswer h4
    · split
      · exact .mbAnswer h4
      · exact .mbAnswer (.pfWrite h4)

theorem Canon.doPrgRead {m : Nat} (h : Canon s) : Canon (doPrgRead m s) := by
  dsimp only [Machine.doPrgRead]
  refine .mbRun h ?_
  intro _ _ _ h4
  split
  · split
    · exact .mbAnswer h4
    · split
      next e11 => exact .mbAnswer (.of_fst e11 (.rdChk h4))
      next e14 => exact .mbAnswer (.of_fst e14 (.rdChk h4))
  · split
    · exact .mbAnswer h4
    · split
      next e21 => exact .mbAnswer (.of_fst e21 (.rdChk h4))
      next e24 => exact .mbAnswer (.of_fst e24 (.rdChk h4))

theorem Canon.doCaCodeLoad {m : Nat} (h : Canon s) : Canon (doCaCodeLoad m s) :=
  .mbRun h (fun _ _ _ h4 => .ite (.mbAnswer h4) (.ite (.mbAnswer h4) (.mbAnswer (.loadWords h4))))

theorem Canon.doCaParkRead {m : Nat} (h : Canon s) : Canon (doCaParkRead m s) := by
  dsimp only [Machine.doCaParkRead]
  refine .mbRun h ?_
  intro _ _ _ h4
  split
  · exact .ite (.mbAnswer h4) (.mbAnswer h4)
  · split
    · exact .mbAnswer h4
    · split
      · split
        next e13 => exact .mbAnswer (.of_fst e13 (.rdChk h4))
        next e16 => exact .mbAnswer (.of_fst e16 (.rdChk h4))
      · exact .mbAnswer h4

theorem Canon.parkNote {g : Nat} {l : List DEntry} (h : Canon s) : Canon (s.parkNote g l) := by
  unfold State.parkNote
  split
  · exact .setKernel h
  · exact h

theorem Canon.doCaParkWrite {m : Nat} (h : Canon s) : Canon (doCaParkWrite m s) := by
  dsimp only [Machine.doCaParkWrite]
  refine .mbRun h ?_
  intro _ _ _ h4
  split
  · exact .mbAnswer h4
  · split
    · exact .mbAnswer h4
    · exact .mbAnswer (.parkNote (.parkWrite h4))

theorem Canon.doCaOutcome {m op : Nat} (h : Canon s) : Canon (doCaOutcome m op s) := by
  dsimp only [Machine.doCaOutcome]
  refine .mbRun h ?_
  intro _ _ _ h4
  split
  · exact .mbAnswer h4
  · split
    · exact .mbAnswer h4
    · exact .ite h4 (.mbAnswer (.ite (.resumeParked h4) (.abandonParked h4)))

/-! ### The twin commands of the mailboxes -/

theorem Canon.doTwinStatus {m : Nat} (h : Canon s) : Canon (doTwinStatus m s) := .mbRun h (fun _ _ _ h4 => .mbAnswer h4)

theorem Canon.pairOn (h : Canon s) : Canon s.pairOn := .roleLead (.upd (.fdCtlWrite h))

theorem Canon.pairOff (h : Canon s) : Canon s.pairOff := by
  dsimp only [State.pairOff]
  exact .ite (.weirRun (.upd (.resyncFail (.handoverFail (.fdCtlWrite h))))) (.ite (.setMode (.loseBaton (.setWant (.upd
      (.resyncFail (.handoverFail (.fdCtlWrite h))))))) (.loseBaton (.setWant (.upd (.resyncFail (.handoverFail
      (.fdCtlWrite h)))))))

theorem Canon.doTwinPair {m : Nat} (h : Canon s) : Canon (doTwinPair m s) :=
  .mbRun h (fun _ _ _ h4 => .mbAnswer (.ite (.pairOn h4) (.pairOff h4)))

theorem Canon.doTwinDetach {m : Nat} (h : Canon s) : Canon (doTwinDetach m s) := by
  dsimp only [Machine.doTwinDetach]
  exact .mbRun h (fun _ _ _ h4 => .ite (.mbAnswer h4) (.ite (.mbAnswer (.detachPartner h4)) (.ite (.mbAnswer (.goDetached
      (.fordSend h4))) (.mbAnswer h4))))

theorem Canon.doTwinResync {m : Nat} (h : Canon s) : Canon (doTwinResync m s) :=
  .mbRun h (fun _ _ _ h4 => .ite (.mbAnswer h4) (.ite (.mbAnswer h4) (.ite h4 (.ckptAsk (.upd (.mbBegin h4))))))

theorem Canon.doTwinHandover {m : Nat} (h : Canon s) : Canon (doTwinHandover m s) :=
  .mbRun h (fun _ _ _ h4 => .ite (.mbAnswer h4) (.ite (.mbAnswer h4) (.fordSend (.upd (.mbBegin h4)))))

/-! ### The update commands of the mailboxes -/

theorem Canon.doUpdErase {m : Nat} {ok : Bool} (h : Canon s) : Canon (doUpdErase m ok s) :=
  .mbRun h (fun _ _ _ h4 => .ite (.mbAnswer h4) (.ite (.mbAnswer (.flashErase h4)) (.mbAnswer (.flashFail h4))))

theorem Canon.doUpdWrite {m : Nat} {ok : Bool} (h : Canon s) : Canon (doUpdWrite m ok s) :=
  .mbRun h (fun _ _ _ h4 => .ite (.mbAnswer h4) (.ite (.mbAnswer (.flashProgram h4)) (.mbAnswer (.flashFail h4))))

theorem Canon.doUpdVerify {m : Nat} (h : Canon s) : Canon (doUpdVerify m s) := by
  unfold Machine.doUpdVerify
  refine .mbRun h ?_
  intro _ _ _ h4
  split
  · exact .mbAnswer h4
  · exact .mbAnswer h4

theorem Canon.doUpdSetBoot {m : Nat} (h : Canon s) : Canon (doUpdSetBoot m s) :=
  .mbRun h (fun _ _ _ h4 => .ite (.mbAnswer h4) (.mbAnswer (.setFld h4)))

theorem Canon.windowOpen {l : List Byte} (h : Canon s) : Canon (s.windowOpen l) :=
  .foldl (.upd h) (fun _ _ h3 => .mbHardware h3)

theorem Canon.extendBounds {d : Nat} (h : Canon s) : Canon (s.extendBounds d) := .foldl h (fun _ _ h3 => .modMb h3)

theorem Canon.patchDone {m : Nat} (h : Canon s) : Canon (s.patchDone m) := by
  dsimp only [State.patchDone]
  split
  · exact h
  · exact .mbFlush (.mbAnswer (.extendBounds (.upd (.loadPatch h))))

theorem Canon.doUpdPatch {m : Nat} (h : Canon s) : Canon (doUpdPatch m s) := by
  dsimp only [Machine.doUpdPatch]
  split
  · exact .ite h (.patchDone h)
  · refine .mbRun h ?_
    intro _ _ _ h6
    split
    · exact .mbAnswer (.mapErr h6)
    · split
      · exact .mbAnswer h6
      · split
        next e13 => exact .mbAnswer (.of_fst e13 (.rdMem h6))
        next e17 =>
          split
          · exact .mbAnswer (.of_fst e17 (.rdMem h6))
          · exact .ite (.windowOpen (.mbBegin (.of_fst e17 (.rdMem h6)))) (.mbAnswer (.of_fst e17 (.rdMem h6)))

/-! ### The on-chip patrol scrubbers' visits -/

theorem Canon.weirScrub {a k : Nat} (h : Canon s) : Canon (s.weirScrub a k) := by
  dsimp only [State.weirScrub]
  split
  · exact .eccNote h
  · split
    · exact .eccNoteAs h
    · split
      · exact .eccNote h
      · split
        · exact .weirRun (.weirSet (.pbufFree (.eccNoteAs h)))
        · exact .eccNoteAs h

theorem Canon.stagedScrub {a k : Nat} {staged : NatMap (Option (Nat × Nat))} {i : Nat} {lose : Nat → Nat} {put : NatMap
    (Option (Nat × Nat)) → State → State} (h : Canon s) (hput : ∀ (a : NatMap (Option (Nat × Nat))) (a_1 : State), Canon
    a_1 → Canon (put a a_1)) : Canon (s.stagedScrub a k staged i lose put) := by
  dsimp only [State.stagedScrub]
  split
  · exact .eccNote (.setEcc h)
  · exact .ite (.eccNote (.setEcc h)) (hput _ _ (.eccNote (.setEcc h)))

theorem Canon.tableScrub {a k : Nat} (h : Canon s) : Canon (s.tableScrub a k) := by
  dsimp only [State.tableScrub]
  exact .ite (.scrub h) (.ite (.stagedScrub h (fun _ _ h3 => .upd h3)) (.ite (.stagedScrub h (fun _ _ h6 => .upd h6))
      (.scrub h)))

theorem Canon.ocmVisit {a u : Nat} (h : Canon s) : Canon (s.ocmVisit a u) := by
  dsimp only [State.ocmVisit]
  split
  · exact .setEcc h
  · split
    · exact h
    · split
      · split
        · exact .ite (.stagedScrub h (fun _ _ h12 => .upd h12)) (.upd (.ite (.stagedScrub h (fun _ _ h15 => .upd h15))
              (.eccNote (.setEcc h))))
        · exact .stagedScrub h (fun _ _ h20 => .upd h20)
      · split
        · exact .tableScrub h
        · split
          · exact .weirScrub h
          · split
            · split
              · exact .ite (.scrub (.setEcc h)) (.bfChk (.setEcc h))
              · exact .scrub (.setEcc h)
            · exact .scrub h

theorem Canon.doOcmScrubVisit {addr u : Nat} (h : Canon s) : Canon (doOcmScrubVisit addr u s) := by
  dsimp only [Machine.doOcmScrubVisit]
  split
  next e3 => exact .ocmVisit (.of_some e3 (.ocmTurn h))
  · exact h

/-! ### The Supervisor's microwords: the datapath, the fetch with its match check -/

theorem Canon.kick {v : Nat} (h : Canon s) : Canon (s.kick v) := .ite (.upd h) h

theorem Canon.supRead {a n : Nat} (h : Canon s) : Canon (s.supRead a n).1 := by
  unfold State.supRead
  split
  · exact .pair (.mapErr h)
  · split
    · split
      next e7 => exact .pair (.of_fst e7 (.viewRead h))
    · split
      next e12 => exact .pair (.of_fst e12 (.rdMem h))
      next e15 => exact .pair (.of_fst e15 (.rdMem h))

theorem Canon.supWrite {a n v : Nat} (h : Canon s) : Canon (s.supWrite a n v).1 := by
  dsimp only [State.supWrite]
  exact .ite_fst (.pair (.mapErr h)) (.ite_fst (.ite_fst (.pair (.bump h)) (.ite_fst (.pair (.kick h)) (.pair (.maskWrite
      h)))) (.wrMem h))

theorem Canon.microFault {addr : Nat} {inPatch : Bool} {cause : Nat} (h : Canon s) :
    Canon (s.microFault addr inPatch cause) := .upd (.record (.setBit (.setReg h)))

theorem Canon.microFetch {inPatch : Bool} {a : Nat} (h : Canon s) : Canon (s.microFetch inPatch a).1 := by
  dsimp only [State.microFetch]
  split
  · exact .pair h
  · exact .pair (.ite (.setEcc (.setBit (.eccNote h))) (.setBit (.eccNote h)))
  · exact .pair (.microFault (.eccCount h))

theorem Canon.microMem {op a d : Nat} (h : Canon s) : Canon (s.microMem op a d).1 := by
  dsimp only [State.microMem]
  split
  · split
    next e5 => exact .pair (.of_fst e5 (.supRead h))
    next e8 => exact .pair (.tick (.ite (.eccNoteAs (.of_fst e8 (.supRead h))) (.of_fst e8 (.supRead h))))
  · split
    next e13 => exact .pair (.of_fst e13 (.supRead h))
    next e16 => exact .pair (.tick (.ite (.eccNoteAs (.of_fst e16 (.supRead h))) (.of_fst e16 (.supRead h))))
  · exact .pair (.supWrite h)
  · exact .pair (.supWrite h)

theorem Canon.popEvent (h : Canon s) : Canon s.popEvent := by
  dsimp only [State.popEvent]
  split
  · exact h
  · exact .ite (.upd (.emit (.tick (.upd h)))) (.bump (.upd h))

theorem Canon.microExec {w : Nat} (h : Canon s) : Canon (s.microExec w) := by
  dsimp only [State.microExec]
  exact .ite (.mbDone (.ite (.mbTakeUp (.ite (.popEvent (.upd (.ite_fst (.pair h) (.microMem h)))) (.upd (.ite_fst (.pair
      h) (.microMem h))))) (.ite (.popEvent (.upd (.ite_fst (.pair h) (.microMem h)))) (.upd (.ite_fst (.pair h)
      (.microMem h)))))) (.ite (.mbTakeUp (.ite (.popEvent (.upd (.ite_fst (.pair h) (.microMem h)))) (.upd (.ite_fst
      (.pair h) (.microMem h))))) (.ite (.popEvent (.upd (.ite_fst (.pair h) (.microMem h)))) (.upd (.ite_fst (.pair h)
      (.microMem h)))))

theorem Canon.microGo {inPatch : Bool} {a : Nat} {noMatch : Bool} (h : Canon s) : Canon (s.microGo inPatch a noMatch) :=
  .upd h

/-! ### The commands of the Supervisor's sequencer and its watchdog -/

theorem Canon.doMicrowordRom (h : Canon s) : Canon (doMicrowordRom s) := by
  dsimp only [Machine.doMicrowordRom]
  split
  · exact h
  · split
    next e5 => exact .of_fst e5 (.microFetch h)
    next e9 => exact .ite (.microFault (.of_fst e9 (.microFetch h))) (.microGo (.microExec (.of_fst e9 (.microFetch h))))

theorem Canon.doMicrowordPatch (h : Canon s) : Canon (doMicrowordPatch s) := by
  dsimp only [Machine.doMicrowordPatch]
  split
  · exact h
  · split
    next e5 => exact .of_fst e5 (.microFetch h)
    next e9 =>
      exact .ite (.microFault (.of_fst e9 (.microFetch h))) (.ite (.microGo (.microExec (.of_fst e9 (.microFetch h))))
          (.ite (.microGo (.microExec (.of_fst e9 (.microFetch h)))) (.ite (.microGo (.microExec (.of_fst e9 (.microFetch
          h)))) (.microFault (.microExec (.of_fst e9 (.microFetch h)))))))

theorem Canon.doMicrotimerExpiry (h : Canon s) : Canon (doMicrotimerExpiry s) := by
  dsimp only [Machine.doMicrotimerExpiry]
  split
  · exact .ite (.gptpTimed (.upd h)) h
  · exact h

theorem Canon.doSvWatchdogKick {v : Nat} (h : Canon s) : Canon (doSvWatchdogKick v s) := .ite (.kick h) h

theorem Canon.doSvWatchdogExpiry (h : Canon s) : Canon (doSvWatchdogExpiry s) := .ite h (.record (.upd h))

/-! ### The test access port: boundary scan, fuses and debug -/

theorem Canon.tapLoad {ir : Nat} (h : Canon s) : Canon (s.tapLoad ir) := .ite (.chansSafe (.upd h)) (.upd h)

theorem Canon.tapOut {bytes : List Byte} (h : Canon s) : Canon (s.tapOut bytes) := .emit h

theorem Canon.doBypass (h : Canon s) : Canon (doBypass s) := .tapLoad h

theorem Canon.padsTake {ir : Nat} (h : Canon s) : Canon (s.padsTake ir) :=
  .ite (.batonRelease (.upd (.tapLoad h))) (.doBypass h)

theorem Canon.doIdcode (h : Canon s) : Canon (doIdcode s) := .tapOut (.tapLoad h)

theorem Canon.doSamplePreload {pins preload : List Byte} (h : Canon s) : Canon (doSamplePreload pins preload s) :=
  .upd (.tapOut (.tapLoad h))

theorem Canon.doExtest {boundary : List Byte} (h : Canon s) : Canon (doExtest boundary s) :=
  .ite (.upd (.padsTake h)) (.padsTake h)

theorem Canon.doHighz (h : Canon s) : Canon (doHighz s) := .padsTake h

theorem Canon.doClamp (h : Canon s) : Canon (doClamp s) := .padsTake h

theorem Canon.doFuseProg {vpp : Bool} {val : Nat} (h : Canon s) : Canon (doFuseProg vpp val s) := .upd (.tapLoad h)

theorem Canon.doFuseProgDone (h : Canon s) : Canon (doFuseProgDone s) := by
  dsimp only [Machine.doFuseProgDone]
  split
  · exact h
  · exact .upd h

theorem Canon.doFuseRead (h : Canon s) : Canon (doFuseRead s) := .tapOut (.tapLoad h)

theorem Canon.doDbgUnlock {token : List Byte} (h : Canon s) : Canon (doDbgUnlock token s) :=
  .ite (.upd (.tapLoad h)) (.tapLoad h)

theorem Canon.dbgReg {off v : Nat} (h : Canon s) : Canon (s.dbgReg off v) := by
  unfold State.dbgReg
  split
  · exact .mbWrite h
  · exact .ite (.blockWriteReg h) (.privWrite h)

theorem Canon.dbgDo {a : Nat} {write : Bool} {v : Nat} (h : Canon s) : Canon (s.dbgDo a write v).1 := by
  unfold State.dbgDo
  split
  · split
    · exact .pair (.mapErr h)
    · split
      · exact .pair (.dbgReg h)
      · split
        next e9 => exact .pair (.of_fst e9 (.wrMem h))
  · split
    next e14 => exact .pair (.of_fst e14 (.supRead h))
    next e17 => exact .pair (.of_fst e17 (.supRead h))

theorem Canon.doDbgAccess {val : Nat} (h : Canon s) : Canon (doDbgAccess val s) :=
  .tapOut (.upd (.ite_fst (.dbgDo (.tapLoad h)) (.pair (.tapLoad h))))

/-! ### Withdrawal, return and self-test of blocks -/

theorem Canon.doDevWithdraw {m : Nat} (h : Canon s) : Canon (doDevWithdraw m s) := by
  dsimp only [Machine.doDevWithdraw]
  refine .mbRun h ?_
  intro _ _ _ h4
  split
  · exact .mbAnswer h4
  · exact .ite (.mbAnswer h4) (.wdStart (.mbBegin h4))
  · exact .upd (.mbBegin h4)
  · exact h4

theorem Canon.doDevReturn {m : Nat} (h : Canon s) : Canon (doDevReturn m s) := by
  dsimp only [Machine.doDevReturn]
  refine .mbRun h ?_
  intro _ _ _ h4
  split
  · exact .mbAnswer h4
  · exact .ite (.mbAnswer h4) (.mbAnswer (.wdReturn h4))
  · exact h4

theorem Canon.doDrainEnd {kind index : Nat} (h : Canon s) : Canon (doDrainEnd kind index s) := .ite (.wdFinish h) h

theorem Canon.doDrainBoundExpiry {kind index : Nat} (h : Canon s) : Canon (doDrainBoundExpiry kind index s) :=
  .ite (.ite (.wdFinish (.wdForce h)) (.wdForce h)) h

theorem Canon.scan {test index : Nat} (h : Canon s) : Canon (s.scan test index).1 := by
  dsimp only [State.scan]
  split
  · exact .pair h
  · exact .pair (.foldl h (fun _ _ h10 => .ite (.setEcc (.eccNote h10)) (.eccNote h10)))

theorem Canon.march {test index : Nat} (h : Canon s) : Canon (s.march test index) := by
  dsimp only [State.march]
  split
  · exact .clearMem h
  · exact .setEth h
  · exact .chanReset h
  · exact h

theorem Canon.runTests {index fault : Nat} {l : List (Nat × Nat)} (h : Canon s) : Canon (s.runTests index fault l).1 := by
  induction l generalizing s with
  | nil => exact h
  | cons x l ih =>
    have hscan := @Canon.scan
    unfold State.runTests
    obtain ⟨scan, escan⟩ := exists_eq' (a' := @State.scan)
    rw [escan] at hscan ⊢
    refine .ite_fst (.pair (hscan (.march h))) ?_
    split
    · exact .pair (hscan (.march h))
    · exact ih (hscan (.march h))

theorem Canon.testEnd {m kind index fault : Nat} (h : Canon s) : Canon (s.testEnd m kind index fault) :=
  .mbAnswer (.ite (.upd (.wdSet (.runTests h))) (.bump (.record (.upd (.wdSet (.runTests h))))))

theorem Canon.doDevTest {m fault : Nat} (h : Canon s) : Canon (doDevTest m fault s) := by
  dsimp only [Machine.doDevTest]
  split
  · split
    · exact .testEnd h
    · refine .mbRun h ?_
      intro _ _ _ h9
      split
      · exact .wdSet (.mbBegin h9)
      · exact .mbAnswer h9
  · exact h

/-! ### The commands and the step -/

/-- The canonical form, kept by the arm of every command. -/
theorem exec_canon (h : Canon s) (i : Instr) : ∃ t, exec i s = .next t ∧ Canon t := by
  cases i with
  | regWrite _ _ _ _ => exact ⟨_, rfl, .doRegWrite h⟩
  | rcRead _ _ _ | lowerWordRead _ _ => exact ⟨_, rfl, .doViewRead h⟩
  | tbMmMinRead => exact ⟨_, rfl, .doTbMmMinRead h⟩
  | intakeAccept _ => exact ⟨_, rfl, .doIntakeAccept h⟩
  | heronParseStart _ => exact ⟨_, rfl, .doHeronParseStart h⟩
  | kmov _ => exact ⟨_, rfl, .doKmov h⟩
  | kput _ => exact ⟨_, rfl, .doKput h⟩
  | kend _ => exact ⟨_, rfl, .doKend h⟩
  | stepLimitAbort _ => exact ⟨_, rfl, .doStepLimitAbort h⟩
  | learningProbe => exact ⟨_, rfl, .doLearningProbe h⟩
  | learningCommit => exact ⟨_, rfl, .doLearningCommit h⟩
  | commitTakeover => exact ⟨_, rfl, .doCommitTakeover h⟩
  | stagedReloadDone => exact ⟨_, rfl, .doStagedReloadDone h⟩
  | shoalScrubVisit _ _ _ => exact ⟨_, rfl, .doShoalScrubVisit h⟩
  | dispatch => exact ⟨_, rfl, .doDispatch h⟩
  | pairWord _ => exact ⟨_, rfl, .doPairWord h⟩
  | alu _ | alui _ | shift _ | ldi _ | paddi16 _ | paddr _ | mul _ | bcc _ | cbr _ | cbi _ | cbp _ | jmp _
    | rett _ _ | mode _ | mfsr _ | mtsr _ => exact ⟨_, rfl, .egPure h⟩
  | ld _ => exact ⟨_, rfl, .doLd h⟩
  | ldp _ => exact ⟨_, rfl, .doLdp h⟩
  | st _ => exact ⟨_, rfl, .doSt h⟩
  | stp _ => exact ⟨_, rfl, .doStp h⟩
  | ldx _ => exact ⟨_, rfl, .doLdx h⟩
  | stx _ => exact ⟨_, rfl, .doStx h⟩
  | call _ => exact ⟨_, rfl, .doCall h⟩
  | ret _ => exact ⟨_, rfl, .doRet h⟩
  | fork _ _ => exact ⟨_, rfl, .doFork h⟩
  | forkUnblock _ _ => exact ⟨_, rfl, .doForkUnblock h⟩
  | forkq _ _ => exact ⟨_, rfl, .doForkq h⟩
  | join _ _ => exact ⟨_, rfl, .doJoin h⟩
  | joinReturn _ _ => exact ⟨_, rfl, .doJoinReturn h⟩
  | exit _ _ => exact ⟨_, rfl, .doExit h⟩
  | trap _ _ => exact ⟨_, rfl, .doTrap h⟩
  | fence _ _ => exact ⟨_, rfl, .doFence h⟩
  | send _ _ => exact ⟨_, rfl, .doSend h⟩
  | sendUnblock _ _ => exact ⟨_, rfl, .doSendUnblock h⟩
  | recv _ _ => exact ⟨_, rfl, .doRecv h⟩
  | recvUnblock _ _ => exact ⟨_, rfl, .doRecvUnblock h⟩
  | sendq _ _ => exact ⟨_, rfl, .doSendq h⟩
  | recvq _ _ => exact ⟨_, rfl, .doRecvq h⟩
  | fault _ _ => exact ⟨_, rfl, .doFault h⟩
  | bkpt _ _ => exact ⟨_, rfl, .doBkpt h⟩
  | fwd _ _ => exact ⟨_, rfl, .doFwd h⟩
  | consume _ _ => exact ⟨_, rfl, .doConsume h⟩
  | emit _ _ => exact ⟨_, rfl, .doEmit h⟩
  | weirWaitEnd _ => exact ⟨_, rfl, .doWeirWaitEnd h⟩
  | weirReleaseDue _ => exact ⟨_, rfl, .doWeirReleaseDue h⟩
  | farLoadData _ _ => exact ⟨_, rfl, .doFarLoadData h⟩
  | postedStoreComplete _ _ => exact ⟨_, rfl, .doPostedStoreComplete h⟩
  | waitLimitExpiry _ _ => exact ⟨_, rfl, .doWaitLimitExpiry h⟩
  | lookup _ => exact ⟨_, rfl, .doLookup h⟩
  | copy _ => exact ⟨_, rfl, .doCopy h⟩
  | crc _ => exact ⟨_, rfl, .doCrc h⟩
  | waitUntil _ _ => exact ⟨_, rfl, .doWaitUntil h⟩
  | waitFor _ _ => exact ⟨_, rfl, .doWaitFor h⟩
  | timePortSample _ _ => exact ⟨_, rfl, .doTimePortSample h⟩
  | launchRequest => exact ⟨_, rfl, .doLaunchRequest h⟩
  | kernelStart => exact ⟨_, rfl, .doKernelStart h⟩
  | ialu _ | imul _ | falu _ | fspec _ | cvt _ | set _ | sel _ | shfl _ | vote _ | mfs _ | ldw _ | stw _
    | ldd _ | std _ | caMovi _ | movh _ | caAddi _ | ifWord _ | elseWord _ | endifWord _ | loop _ | brk _
    | endloop _ | bru _ | caJmp _ | caExit _ | caBkpt _ | kstart _ | kwait _ | caFence _ => exact ⟨_, rfl, .caRow h⟩
  | kernelEnd _ => exact ⟨_, rfl, .doKernelEnd h⟩
  | ilimit _ => exact ⟨_, rfl, .doIlimit h⟩
  | caFarLoadData _ => exact ⟨_, rfl, .doCaFarLoadData h⟩
  | caPostedStoreComplete _ => exact ⟨_, rfl, .doCaPostedStoreComplete h⟩
  | kettleOpStart _ => exact ⟨_, rfl, .doKettleOpStart h⟩
  | kettleOpEnd _ => exact ⟨_, rfl, .doKettleOpEnd h⟩
  | resume _ => exact ⟨_, rfl, .doResume h⟩
  | abandon _ => exact ⟨_, rfl, .doAbandon h⟩
  | parkTimeout _ => exact ⟨_, rfl, .doParkTimeout h⟩
  | caStateWrite _ _ _ => exact ⟨_, rfl, .doCaStateWrite h⟩
  | dramRequest _ => exact ⟨_, rfl, .doDramRequest h⟩
  | dramCommandIssue _ => exact ⟨_, rfl, .doDramCommandIssue h⟩
  | urgencyRise _ => exact ⟨_, rfl, .doUrgencyRise h⟩
  | refreshDue _ _ => exact ⟨_, rfl, .doRefreshDue h⟩
  | zqCalibration _ _ => exact ⟨_, rfl, .doZqCalibration h⟩
  | driftRecentre _ _ => exact ⟨_, rfl, .doDriftRecentre h⟩
  | hotPoll _ _ => exact ⟨_, rfl, .doHotPoll h⟩
  | dramScrubVisit _ => exact ⟨_, rfl, .doDramScrubVisit h⟩
  | ocmScrubVisit _ _ => exact ⟨_, rfl, .doOcmScrubVisit h⟩
  | channelFault _ => exact ⟨_, rfl, .doChannelFault h⟩
  | acquire _ _ | tryacq _ _ | release _ _ | releaseRepaired _ _ => exact ⟨_, rfl, .bfThreadLock h⟩
  | fadd _ _ | swap _ _ | cas _ _ | read _ _ => exact ⟨_, rfl, .bfThreadAtomic h⟩
  | atomicDone _ => exact ⟨_, rfl, .doAtomicDone h⟩
  | belfryWaitLimit _ _ => exact ⟨_, rfl, .doBelfryWaitLimit h⟩
  | doorbell _ _ => exact ⟨_, rfl, .doDoorbell h⟩
  | requestAreaWrite _ _ _ => exact ⟨_, rfl, .doRequestAreaWrite h⟩
  | takeUp => exact ⟨_, rfl, .doTakeUp h⟩
  | devInfo _ => exact ⟨_, rfl, .doDevInfo h⟩
  | devMode _ => exact ⟨_, rfl, .doDevMode h⟩
  | devRegRead _ => exact ⟨_, rfl, .doDevRegRead h⟩
  | devRegWrite _ => exact ⟨_, rfl, .doDevRegWrite h⟩
  | devWithdraw _ => exact ⟨_, rfl, .doDevWithdraw h⟩
  | devReturn _ => exact ⟨_, rfl, .doDevReturn h⟩
  | devTest _ _ => exact ⟨_, rfl, .doDevTest h⟩
  | devHealth _ => exact ⟨_, rfl, .doDevHealth h⟩
  | devReset _ => exact ⟨_, rfl, .doDevReset h⟩
  | instCreate _ => exact ⟨_, rfl, .doInstCreate h⟩
  | instDestroy _ | instReset _ => exact ⟨_, rfl, .doInstEnd h⟩
  | instDrainExpiry _ => exact ⟨_, rfl, .doInstDrainExpiry h⟩
  | instResetComplete _ => exact ⟨_, rfl, .doInstResetComplete h⟩
  | instStatus _ => exact ⟨_, rfl, .doInstStatus h⟩
  | instGrant _ => exact ⟨_, rfl, .doInstGrant h⟩
  | tblShoalStage _ => exact ⟨_, rfl, .doTblShoalStage h⟩
  | tblActionStage _ => exact ⟨_, rfl, .doTblActionStage h⟩
  | tblStreamStage _ => exact ⟨_, rfl, .doTblStreamStage h⟩
  | tblRegStage _ => exact ⟨_, rfl, .doTblRegStage h⟩
  | tblStation _ => exact ⟨_, rfl, .doTblStation h⟩
  | tblCommit _ => exact ⟨_, rfl, .doTblCommit h⟩
  | tblAbort _ => exact ⟨_, rfl, .doTblAbort h⟩
  | tblRead _ => exact ⟨_, rfl, .doTblRead h⟩
  | prgEgretLoad _ => exact ⟨_, rfl, .doPrgEgretLoad h⟩
  | prgParseStage _ => exact ⟨_, rfl, .doPrgParseStage h⟩
  | prgChanBind _ => exact ⟨_, rfl, .doPrgChanBind h⟩
  | prgRead _ => exact ⟨_, rfl, .doPrgRead h⟩
  | caCodeLoad _ => exact ⟨_, rfl, .doCaCodeLoad h⟩
  | caParkRead _ => exact ⟨_, rfl, .doCaParkRead h⟩
  | caParkWrite _ => exact ⟨_, rfl, .doCaParkWrite h⟩
  | caResume _ | caAbandon _ => exact ⟨_, rfl, .doCaOutcome h⟩
  | portStatus _ => exact ⟨_, rfl, .doPortStatus h⟩
  | portCounters _ => exact ⟨_, rfl, .doPortCounters h⟩
  | portGclLoad _ => exact ⟨_, rfl, .doPortGclLoad h⟩
  | portGongWrite _ => exact ⟨_, rfl, .doPortGongWrite h⟩
  | portGongRearm _ => exact ⟨_, rfl, .doPortGongRearm h⟩
  | twinStatus _ => exact ⟨_, rfl, .doTwinStatus h⟩
  | twinPair _ => exact ⟨_, rfl, .doTwinPair h⟩
  | twinDetach _ => exact ⟨_, rfl, .doTwinDetach h⟩
  | twinResync _ => exact ⟨_, rfl, .doTwinResync h⟩
  | twinHandover _ => exact ⟨_, rfl, .doTwinHandover h⟩
  | recConfig _ => exact ⟨_, rfl, .doRecConfig h⟩
  | recStatus _ => exact ⟨_, rfl, .doRecStatus h⟩
  | recCheckpoint _ => exact ⟨_, rfl, .doRecCheckpoint h⟩
  | recReplayEnter _ => exact ⟨_, rfl, .doRecReplayEnter h⟩
  | recReplayExit _ => exact ⟨_, rfl, .doRecReplayExit h⟩
  | updErase _ _ => exact ⟨_, rfl, .doUpdErase h⟩
  | updWrite _ _ => exact ⟨_, rfl, .doUpdWrite h⟩
  | updVerify _ => exact ⟨_, rfl, .doUpdVerify h⟩
  | updSetBoot _ => exact ⟨_, rfl, .doUpdSetBoot h⟩
  | updPatch _ => exact ⟨_, rfl, .doUpdPatch h⟩
  | lockAcquire _ | lockTryacq _ | lockRelease _ | lockReleaseRepaired _ | lockAtomic _ => exact ⟨_, rfl, .doLock h⟩
  | lockAcquireTimeout _ => exact ⟨_, rfl, .doLockAcquireTimeout h⟩
  | errRead _ => exact ⟨_, rfl, .doErrRead h⟩
  | errCounts _ => exact ⟨_, rfl, .doErrCounts h⟩
  | errFaultlogRead _ => exact ⟨_, rfl, .doErrFaultlogRead h⟩
  | microwordRom => exact ⟨_, rfl, .doMicrowordRom h⟩
  | microwordPatch => exact ⟨_, rfl, .doMicrowordPatch h⟩
  | microtimerExpiry => exact ⟨_, rfl, .doMicrotimerExpiry h⟩
  | sqTailDoorbell _ _ _ => exact ⟨_, rfl, .doSqTailDoorbell h⟩
  | cqHeadDoorbell _ _ _ => exact ⟨_, rfl, .doCqHeadDoorbell h⟩
  | sqEntryRead _ _ _ _ => exact ⟨_, rfl, .doSqEntryRead h⟩
  | sqErrClear _ _ => exact ⟨_, rfl, .doSqErrClear h⟩
  | queueEnable _ _ _ _ => exact ⟨_, rfl, .doQueueEnable h⟩
  | inIenWrite _ _ => exact ⟨_, rfl, .doInIenWrite h⟩
  | inHintWrite _ _ => exact ⟨_, rfl, .doInHintWrite h⟩
  | inClaimWrite _ => exact ⟨_, rfl, .doInClaimWrite h⟩
  | blockDoze _ => exact ⟨_, rfl, .doBlockDoze h⟩
  | blockWake _ => exact ⟨_, rfl, .doBlockWake h⟩
  | vfFlr _ => exact ⟨_, rfl, .doVfFlr h⟩
  | pfFlr => exact ⟨_, rfl, .doPfFlr h⟩
  | hostReset => exact ⟨_, rfl, .doHostReset h⟩
  | encEdge _ _ _ => exact ⟨_, rfl, .doEncEdge h⟩
  | encZEdge _ => exact ⟨_, rfl, .doEncZEdge h⟩
  | encSample _ _ _ _ => exact ⟨_, rfl, .doEncSample h⟩
  | ssiMonoflopEnd _ => exact ⟨_, rfl, .doSsiMonoflopEnd h⟩
  | outputApply => exact ⟨_, rfl, .doOutputApply h⟩
  | sdSegmentEnd _ => exact ⟨_, rfl, .doSdSegmentEnd h⟩
  | spiFrameEnd _ _ => exact ⟨_, rfl, .doSpiFrameEnd h⟩
  | adcSample _ => exact ⟨_, rfl, .doAdcSample h⟩
  | gpioEdge _ _ _ => exact ⟨_, rfl, .doGpioEdge h⟩
  | gpioCoalClose _ => exact ⟨_, rfl, .doGpioCoalClose h⟩
  | uartRxChar _ _ _ _ _ => exact ⟨_, rfl, .doUartRxChar h⟩
  | uartGapClose _ => exact ⟨_, rfl, .doUartGapClose h⟩
  | uartCtsChange _ _ => exact ⟨_, rfl, .doUartCtsChange h⟩
  | parStrobeIn _ => exact ⟨_, rfl, .doParStrobeIn h⟩
  | parAckIn => exact ⟨_, rfl, .doParAckIn h⟩
  | parAckTimeout => exact ⟨_, rfl, .doParAckTimeout h⟩
  | pwmPeriodBoundary _ => exact ⟨_, rfl, .doPwmPeriodBoundary h⟩
  | ggRearm _ _ => exact ⟨_, rfl, .doGgRearm h⟩
  | frameReceived _ _ _ => exact ⟨_, rfl, .doFrameReceived h⟩
  | linkUp _ _ _ => exact ⟨_, rfl, .doLinkUp h⟩
  | linkDown _ => exact ⟨_, rfl, .doLinkDown h⟩
  | frameTransmit _ _ => exact ⟨_, rfl, .doFrameTransmit h⟩
  | gateStateChange _ => exact ⟨_, rfl, .doGateStateChange h⟩
  | configChange _ _ => exact ⟨_, rfl, .doConfigChange h⟩
  | configChangeTime _ => exact ⟨_, rfl, .doConfigChangeTime h⟩
  | sgConfigChange _ => exact ⟨_, rfl, .doSgConfigChange h⟩
  | frerResetTimeout _ => exact ⟨_, rfl, .doFrerResetTimeout h⟩
  | avocetPass => exact ⟨_, rfl, .doAvocetPass h⟩
  | syncReceived _ _ => exact ⟨_, rfl, .doSyncReceived h⟩
  | syncLoss => exact ⟨_, rfl, .doSyncLoss h⟩
  | refLost => exact ⟨_, rfl, .doRefLost h⟩
  | refRestored => exact ⟨_, rfl, .doRefRestored h⟩
  | pllLock => exact ⟨_, rfl, .doPllLock h⟩
  | tbStep _ => exact ⟨_, rfl, .doTbStep h⟩
  | tbRateWrite _ => exact ⟨_, rfl, .doTbRateWrite h⟩
  | droop => exact ⟨_, rfl, .doDroop h⟩
  | brownOut => exact ⟨_, rfl, .doBrownOut h⟩
  | heartbeatSend => exact ⟨_, rfl, .doHeartbeatSend h⟩
  | heartbeat _ _ => exact ⟨_, rfl, .doHeartbeat h⟩
  | heartbeatMissed => exact ⟨_, rfl, .doHeartbeatMissed h⟩
  | batonLineChange _ => exact ⟨_, rfl, .doBatonLineChange h⟩
  | batonSettle => exact ⟨_, rfl, .doBatonSettle h⟩
  | keeperRefresh => exact ⟨_, rfl, .doKeeperRefresh h⟩
  | batonWatchdogExpiry => exact ⟨_, rfl, .doBatonWatchdogExpiry h⟩
  | fordLinkUp _ _ => exact ⟨_, rfl, .doFordLinkUp h⟩
  | fordLinkDown => exact ⟨_, rfl, .doFordLinkDown h⟩
  | ingress _ _ => exact ⟨_, rfl, .doIngress h⟩
  | decision _ _ => exact ⟨_, rfl, .doDecision h⟩
  | config _ _ => exact ⟨_, rfl, .doConfig h⟩
  | digest _ _ => exact ⟨_, rfl, .doDigest h⟩
  | state _ _ => exact ⟨_, rfl, .doState h⟩
  | control _ _ => exact ⟨_, rfl, .doControl h⟩
  | app _ _ => exact ⟨_, rfl, .doApp h⟩
  | gateLimitDetach => exact ⟨_, rfl, .doGateLimitDetach h⟩
  | digestWindowClose => exact ⟨_, rfl, .doDigestWindowClose h⟩
  | syncCatchUp => exact ⟨_, rfl, .doSyncCatchUp h⟩
  | bitternRecord => exact ⟨_, rfl, .doBitternRecord h⟩
  | chunkClose => exact ⟨_, rfl, .doChunkClose h⟩
  | checkpointPeriod => exact ⟨_, rfl, .doCheckpointPeriod h⟩
  | checkpointMark => exact ⟨_, rfl, .doCheckpointMark h⟩
  | checkpointQuiesceTimeout => exact ⟨_, rfl, .doCheckpointQuiesceTimeout h⟩
  | checkpointRetry => exact ⟨_, rfl, .doCheckpointRetry h⟩
  | checkpointCopyDone => exact ⟨_, rfl, .doCheckpointCopyDone h⟩
  | xferGo _ => exact ⟨_, rfl, .xferWrite h⟩
  | xferDone => exact ⟨_, rfl, .doXferDone h⟩
  | replayOffer => exact ⟨_, rfl, .doReplayOffer h⟩
  | replayStuck => exact ⟨_, rfl, .doReplayStuck h⟩
  | replayDone => exact ⟨_, rfl, .doReplayDone h⟩
  | drainEnd _ _ => exact ⟨_, rfl, .doDrainEnd h⟩
  | drainBoundExpiry _ _ => exact ⟨_, rfl, .doDrainBoundExpiry h⟩
  | powerOnReset _ => exact ⟨_, rfl, .doPowerOnReset h⟩
  | sysrstN => exact ⟨_, rfl, .doSysrstN h⟩
  | bootStart => exact ⟨_, rfl, .doBootStart h⟩
  | imageVerified => exact ⟨_, rfl, .doImageVerified h⟩
  | configStoreLoaded _ => exact ⟨_, rfl, .doConfigStoreLoaded h⟩
  | dramTrained _ _ => exact ⟨_, rfl, .doDramTrained h⟩
  | dramZeroed => exact ⟨_, rfl, .doDramZeroed h⟩
  | ohmythStart => exact ⟨_, rfl, .doOhmythStart h⟩
  | bootEnd => exact ⟨_, rfl, .doBootEnd h⟩
  | recordMove => exact ⟨_, rfl, .doRecordMove h⟩
  | svWatchdogKick _ => exact ⟨_, rfl, .doSvWatchdogKick h⟩
  | svWatchdogExpiry => exact ⟨_, rfl, .doSvWatchdogExpiry h⟩
  | fatalEscalation => exact ⟨_, rfl, .doFatalEscalation h⟩
  | streakClear => exact ⟨_, rfl, .doStreakClear h⟩
  | sensorSample _ => exact ⟨_, rfl, .doSensorSample h⟩
  | viveramRewrite _ => exact ⟨_, rfl, .doViveramRewrite h⟩
  | idcode => exact ⟨_, rfl, .doIdcode h⟩
  | samplePreload _ _ => exact ⟨_, rfl, .doSamplePreload h⟩
  | extest _ => exact ⟨_, rfl, .doExtest h⟩
  | highz => exact ⟨_, rfl, .doHighz h⟩
  | clamp => exact ⟨_, rfl, .doClamp h⟩
  | bypass => exact ⟨_, rfl, .doBypass h⟩
  | fuseProg _ _ => exact ⟨_, rfl, .doFuseProg h⟩
  | fuseProgDone => exact ⟨_, rfl, .doFuseProgDone h⟩
  | fuseRead => exact ⟨_, rfl, .doFuseRead h⟩
  | dbgUnlock _ => exact ⟨_, rfl, .doDbgUnlock h⟩
  | dbgAccess _ => exact ⟨_, rfl, .doDbgAccess h⟩
  | pcieLinkUp _ _ => exact ⟨_, rfl, .doPcieLinkUp h⟩
  | pcieCompletionTimeout _ _ => exact ⟨_, rfl, .doPcieCompletionTimeout h⟩
  | pcieConfigWrite _ _ => exact ⟨_, rfl, .doPcieConfigWrite h⟩
  | pllLockLost => exact ⟨_, rfl, .doPllLockLost h⟩
  | devResetStart => exact ⟨_, rfl, .doDevResetStart h⟩
  | uartTxCharEnd _ => exact ⟨_, rfl, .doUartTxCharEnd h⟩
  | parBusyChange _ => exact ⟨_, rfl, .doParBusyChange h⟩

theorem step_canon (h : Canon s) : ∃ t, step s = .next t ∧ Canon t := by
  unfold step
  split
  · exact ⟨_, rfl, .elapse h⟩
  · exact exec_canon (.upd h) _

end rules

/-- Settles O60: each command's arm keeps the form of memory, by the rules above for the operations that it runs. -/
theorem stepKeepsMemoryCanonical : Obligations.StepKeepsMemoryCanonical := by
  intro s t hs ht
  obtain ⟨t', ht', hc⟩ := step_canon (s := s) hs
  rw [ht'] at ht
  cases ht
  exact hc

end Sys2Proof.Machine
end

section
/-! PROOFS. Belfry's atomics (spec/10 R347, R358): an address of the packet buffer is outside R347's regions, and the model's write
there also changes the payloads that lie there (R300). -/
namespace Sys2Proof.Machine

/-- A cell whose payload is the packet buffer's first eight bytes. -/
def pbufCell : Cell := { hdr := { len := 8 }, payload := List.replicate 8 0, stage := .waiting, epoch := 0 }

/-- The reset state with that cell. -/
def pbufCellState : State := { State.reset with cells := [pbufCell] }

/-- A swap of 1 into the first word of the packet buffer. -/
def pbufSwap : BfReq :=
  { master := 0, inst := 0, op := 0x11, addr := pbufBase, opa := 1, opb := 0, form := .port 0 0 0, gseq := none }

/-- Refutes O15: the statement leaves R347's bounds of an atomic address out. A swap at the packet buffer's first word also
changes the payload of the cell that lies there, so the next state is not the write of the word alone. -/
theorem not_belfryAtomicResult : ¬ Obligations.BelfryAtomicResult := by
  intro h
  obtain ⟨t, st, he, -, hswap, -⟩ := h pbufCellState pbufSwap (by decide) (by decide) (by decide) rfl (by decide) (by decide)
    (by decide)
  have ht : (pbufCellState.bfAtomic pbufSwap).1.cells = (pbufCellState.wrLe pbufBase 8 1).cells := by
    rw [he]; exact congrArg State.cells (hswap rfl).2
  exact absurd ht (by decide)

end Sys2Proof.Machine
end

section
/-! PROOFS. What a register reads after a write of another, and what error records, ECC notes and checked accesses can change, said
once per operation (spec/00 R6, spec/09 R330, spec/18 R544). -/
namespace Sys2Proof.Machine

/-! ### Register reads after a register write (spec/00 R6) -/

@[simp] theorem State.regW_setReg_same (s : State) (k v : Nat) : (s.setReg k v).regW k = v % 2 ^ 32 := by
  simp [State.regW, State.setReg]

theorem State.regW_setReg_ne (s : State) {k j : Nat} (v : Nat) (h : j ≠ k) : (s.setReg k v).regW j = s.regW j :=
  NatMap.get_put_ne _ _ _ _ h

theorem State.fld_setReg_ne (s : State) {k j : Nat} (v lo w : Nat) (h : j ≠ k) : (s.setReg k v).fld j lo w = s.fld j lo w := by
  rw [State.fld, State.regW_setReg_ne s v h, State.fld]

theorem State.fld_ite_setReg_ne (s : State) {c : Prop} [Decidable c] {k j : Nat} (v lo w : Nat) (h : j ≠ k) :
    (if c then s.setReg k v else s).fld j lo w = s.fld j lo w := by
  split
  · exact State.fld_setReg_ne s v lo w h
  · rfl

/-! ### Changes of registers alone -/

/-- `t` is `s` but for the values of registers. -/
def RegsOnly (s t : State) : Prop := ∃ rg, t = { s with regs := rg }

theorem RegsOnly.refl (s : State) : RegsOnly s s := ⟨_, rfl⟩

theorem RegsOnly.setReg {s t : State} {k v : Nat} (h : RegsOnly s t) : RegsOnly s (t.setReg k v) := by
  obtain ⟨rg, rfl⟩ := h
  exact ⟨_, rfl⟩

theorem RegsOnly.setBit {s t : State} {k i : Nat} (h : RegsOnly s t) : RegsOnly s (t.setBit k i) := .setReg h

theorem RegsOnly.setFld {s t : State} {k lo w v : Nat} (h : RegsOnly s t) : RegsOnly s (t.setFld k lo w v) := .setReg h

theorem RegsOnly.bump {s t : State} {k : Nat} (h : RegsOnly s t) : RegsOnly s (t.bump k) := .setReg h

theorem RegsOnly.ite {s t u : State} {c : Prop} [Decidable c] (ht : RegsOnly s t) (hu : RegsOnly s u) :
    RegsOnly s (if c then t else u) := by
  split <;> assumption

/-! ### Records, notes and checked accesses -/

theorem faultLog_effect (s : State) (r : ErrRec) : ∃ m v, s.faultLog r = { s with mem := m, viv := v } := by
  unfold State.faultLog
  extract_lets slot bytes u
  obtain ⟨m, hu⟩ : ∃ m, u = { s with mem := m } := ⟨_, rfl⟩
  clear_value u bytes
  subst hu
  split <;> exact ⟨_, _, rfl⟩

/-- A record changes the error records, registers, memory (the fault log) and the Viveram's words. -/
theorem collect_effect (s : State) (r : ErrRec) :
    ∃ rg er m v, s.collect r = { s with regs := rg, errors := er, mem := m, viv := v } := by
  unfold State.collect
  extract_lets full direct after r' later u kept
  obtain ⟨m, v, hu⟩ : ∃ m v, u = { s with mem := m, viv := v } := by
    unfold u
    split
    · exact faultLog_effect ..
    · exact ⟨_, _, rfl⟩
  rw [hu]
  repeat' split
  all_goals exact ⟨_, _, _, _, rfl⟩

/-- So does the making of one, which may also stop the Supervisor (R549). -/
theorem record_effect (s : State) (e : ErrSrc) :
    ∃ rg er m v b, s.record e = { s with regs := rg, errors := er, mem := m, viv := v, sup := { s.sup with stopped := b } } := by
  have go (n : Nat) : ∃ rg er m v b, State.record.go e s n =
      { s with regs := rg, errors := er, mem := m, viv := v, sup := { s.sup with stopped := b } } := by
    unfold State.record.go
    extract_lets r u er er' er'' halt
    obtain ⟨rg, er, m, v, h⟩ := collect_effect { u with errors := er'', sup := { u.sup with stopped := u.sup.stopped || halt } } r
    exact ⟨rg, er, m, v, _, h⟩
  unfold State.record
  split
  · split
    · exact ⟨_, _, _, _, _, rfl⟩
    · exact go _
  · exact go 0

/-- A counted error changes registers, and draws a syndrome. -/
theorem eccCount_effect (s : State) (kind a port : Nat) : ∃ rg f, s.eccCount kind a port = { s with regs := rg, fresh := f } := by
  unfold State.eccCount
  split
  next memid _ addr _ =>
  extract_lets dram ue syn flags u₀ u₁ u₂ u₃ u₄
  have hu : ∃ rg f, u₁ = { s with regs := rg, fresh := f } := by
    unfold u₁
    repeat' split
    all_goals exact ⟨_, _, rfl⟩
  obtain ⟨rg, f, hu⟩ := hu
  exact ⟨_, f, by unfold u₄ u₃ u₂; rw [hu]; rfl⟩

/-- An ECC note changes what its count and its record change. -/
theorem eccNoteAs_effect (s : State) (kind a code sev : Nat) (w : Who) (port : Nat) :
    ∃ rg f er m v b, s.eccNoteAs kind a code sev w port =
      { s with regs := rg, fresh := f, errors := er, mem := m, viv := v, sup := { s.sup with stopped := b } } := by
  obtain ⟨rg, f, h⟩ := eccCount_effect s kind a port
  unfold State.eccNoteAs
  rw [h]
  extract_lets _
  obtain ⟨rg, er, m, v, b, h⟩ := record_effect { s with regs := rg, fresh := f } _
  exact ⟨rg, f, er, m, v, b, h⟩

end Sys2Proof.Machine
end

section
/-! PROOFS. Drains, the sensors' samples and the rewriting of Viveram (spec/16 R503, R504; spec/19 R580 to R583, R595). -/
namespace Sys2Proof.Machine

/-! ### The hottest sensor -/

theorem hottest_append_none (l : List (Option Int)) : hottest (l ++ [none]) = hottest l := by
  simp [hottest, List.zipIdx_append]

theorem hottest_append_some (l : List (Option Int)) (t : Int) :
    hottest (l ++ [some t]) = if (hottest l).all (·.2 < t) then some (l.length, t) else hottest l := by
  have e : hottest (l ++ [some t]) = match hottest l with
      | none => some (l.length, t)
      | some b => if b.2 < t then some (l.length, t) else some b := by
    simp only [hottest, List.zipIdx_append, List.zipIdx_singleton, List.foldl_append, List.foldl_cons, List.foldl_nil, Nat.zero_add]
    split <;> simp_all
  rw [e]
  cases hottest l <;> simp

/-- Induction on a list from its end, where the next element is added. -/
theorem snoc_induction {α : Type} {motive : List α → Prop} (nil : motive [])
    (append_singleton : ∀ l x, motive l → motive (l ++ [x])) (l : List α) : motive l := by
  have hrev : ∀ k : List α, motive k.reverse := by
    intro k
    induction k with
    | nil => exact nil
    | cons x k ih =>
      rw [List.reverse_cons]
      exact append_singleton _ x ih
  rw [← List.reverse_reverse l]
  exact hrev l.reverse

/-- No valid reading is above the hottest one, and there is none where no sensor is valid. -/
theorem hottest_max (l : List (Option Int)) : ∀ v, some v ∈ l → ∃ b, hottest l = some b ∧ v ≤ b.2 := by
  induction l using snoc_induction with
  | nil => simp
  | append_singleton l x ih =>
    intro v hv
    rcases List.mem_append.mp hv with hl | hx
    · obtain ⟨b, hb, hle⟩ := ih v hl
      cases x with
      | none => exact ⟨b, by rw [hottest_append_none, hb], hle⟩
      | some t =>
        rw [hottest_append_some, hb]
        by_cases hlt : b.2 < t
        · exact ⟨_, by simp [hlt]; rfl, by simp; omega⟩
        · exact ⟨b, by simp [hlt], hle⟩
    · obtain rfl : some v = x := by simpa using hx
      rw [hottest_append_some]
      cases hb : hottest l with
      | none => exact ⟨_, by simp; rfl, by simp⟩
      | some b =>
        by_cases hlt : b.2 < v
        · exact ⟨_, by simp [hlt]; rfl, by simp⟩
        · exact ⟨b, by simp [hlt], by omega⟩

/-- The hottest sensor's place holds its reading. -/
theorem hottest_get {l : List (Option Int)} {b : Nat × Int} (h : hottest l = some b) : l[b.1]? = some (some b.2) := by
  induction l using snoc_induction generalizing b with
  | nil => cases h
  | append_singleton l x ih =>
    have old (h : hottest l = some b) : (l ++ [x])[b.1]? = some (some b.2) := by
      obtain ⟨hlt, -⟩ := List.getElem?_eq_some_iff.mp (ih h)
      rw [List.getElem?_append_left hlt, ih h]
    cases x with
    | none => exact old (by rwa [hottest_append_none] at h)
    | some t =>
      rw [hottest_append_some] at h
      split at h
      · cases h; simp
      · exact old h

/-! ### Alarms -/

/-- An alarm changes the alarms' state, registers and what a record changes; the mask of alarms that stand stays. -/
theorem alarm_effect (s : State) (k : Nat) (p : Bool) : ∃ rg er m v b h, s.alarm k p =
    { s with regs := rg, errors := er, mem := m, viv := v, sup := { s.sup with stopped := b }, hl := h } ∧
    h.active = s.hl.active := by
  unfold State.alarm
  extract_lets h₀ h₁ h₂ s₁ 
  split
  · split
    · exact ⟨_, _, _, _, _, _, rfl, rfl⟩
    · split
      · exact ⟨_, _, _, _, _, _, rfl, rfl⟩
      · obtain ⟨rg, er, m, v, b, e⟩ := record_effect { s₁ with hl := h₂ } { block := 0x16, code := 0x00E0, sev := 3, unit := k }
        exact ⟨rg, er, m, v, b, _, e, rfl⟩
  · split
    · exact ⟨_, _, _, _, _, _, rfl, rfl⟩
    · repeat' split
      all_goals exact ⟨_, _, _, _, _, _, rfl, rfl⟩

theorem alarms_effect (l : List Nat) (mask : Nat) : ∀ s : State, ∃ rg er m v b h,
    l.foldl (fun s k => s.alarm k (bitAt mask k)) s =
      { s with regs := rg, errors := er, mem := m, viv := v, sup := { s.sup with stopped := b }, hl := h } ∧
    h.active = s.hl.active := by
  induction l with
  | nil => exact fun s => ⟨_, _, _, _, _, _, rfl, rfl⟩
  | cons k l ih =>
    intro s
    obtain ⟨rg, er, m, v, b, h, e, ha⟩ := alarm_effect s k (bitAt mask k)
    obtain ⟨rg', er', m', v', b', h', e', ha'⟩ := ih (s.alarm k (bitAt mask k))
    rw [List.foldl_cons, e', e]
    rw [e] at ha'
    exact ⟨rg', er', m', v', b', h', rfl, ha'.trans ha⟩

/-! ### A sample -/
theorem doSensorSample_early {s : State} {x : Samples} (hp : s.passed 3 1000000 = false) : doSensorSample x s = s := by
  simp [doSensorSample, hp]

/-- A sample with a hottest sensor: registers, timers and what alarms change, with the mask and HOT_N by their rules. -/
theorem doSensorSample_effect {s : State} {x : Samples} {h : Nat} {tj : Int} (hp : s.passed 3 1000000 = true)
    (hh : hottest ((upTo 8).map fun k => x.temps.getD k none) = some (h, tj)) :
    ∃ rg f tm er m v sp hl, doSensorSample x s =
      { s with regs := rg, fresh := f, timers := tm, errors := er, mem := m, viv := v, sup := sp, hl := hl,
               hotN := if (10 * s.fld 0x003D0018 8 8 : Int) ≤ tj then true
                 else if tj ≤ (10 * s.fld 0x003D0018 8 8 - 100 : Int) then false else s.hotN } ∧
      hl.active = alarmMask s.hl.active (s.fld 0x003D0018 0 8) (s.fld 0x003D0018 8 8) tj x.out.toNat
          (decide ((((upTo 8).map fun k => x.temps.getD k none).zipIdx.foldl (fun a t => a + b2n t.1.isSome * 2 ^ t.2) 0) ≠ 0xFF)) := by
  unfold doSensorSample
  rw [hp, if_neg (by simp)]
  extract_lets s₁ temps valid
  split
  next hot t e =>
  obtain ⟨rfl, rfl⟩ : h = hot ∧ tj = t := by rw [show hottest temps = _ from hh] at e; exact Prod.mk.inj e
  extract_lets code s₂ s₃ s₄ s₅ s₆ s₇ s₈ trip mask src hl₀ s₉ s₁₀ s₁₁ hotN
  have hfld (lo : Nat) : s₈.fld 0x003D0018 lo 8 = s.fld 0x003D0018 lo 8 := by
    simp only [s₈, s₇, s₆, s₅, s₄, s₃, s₂, State.fld_setReg_ne, State.fld_ite_setReg_ne, ne_eq, Nat.reduceEqDiff, not_false_eq_true]
    rfl
  have htrip : trip = s.fld 0x003D0018 8 8 := hfld 8
  obtain ⟨rg, h8⟩ : RegsOnly s₁.tick s₈ :=
    have h₂ : RegsOnly s₁.tick s₂ := .setReg (.refl _)
    have h₄ : RegsOnly s₁.tick s₄ := .setReg (.ite (.setReg h₂) h₂)
    .setReg (.setReg (.setReg (.ite (.setReg h₄) h₄)))
  have hmask : mask = alarmMask s.hl.active (s.fld 0x003D0018 0 8) trip tj x.out.toNat (decide (valid ≠ 0xFF)) := by
    rw [← hfld 0, ← show (valid != 0xFF) = decide (valid ≠ 0xFF) from Bool.eq_iff_iff.mpr (by simp)]
    unfold mask; rw [h8]; rfl
  obtain ⟨rg, h10⟩ : RegsOnly s₉ s₁₀ := .setFld (.refl _)
  obtain ⟨rg, er, m, v, b, hl, h11, hact⟩ := alarms_effect (upTo 8) mask s₁₀
  have hact : hl.active = mask := hact.trans (by rw [h10])
  have h11 : s₁₁ = _ := h11
  refine ⟨rg, s.fresh + 1 + 1, s₁.timers, er, m, v, { s.sup with stopped := b }, hl, ?_, by rw [hact, hmask, htrip]⟩
  unfold hotN
  rw [h11, h10, htrip]
  unfold s₉ src
  rw [h8]
  rfl

/-! ### Drains and rewrites -/

theorem scrub_clean {s : State} {a : Nat} (h : s.eccAt a = 0) : s.scrub a 0 = s := by
  simp [State.scrub, h]

theorem scrub_corrects {s : State} {a : Nat} (h : s.eccAt a = 1) : s.scrub a 0 = (s.eccNote 1 a).setEcc a 0 := by
  simp [State.scrub, h]

/-- While Ohmyth is up, a rewrite of a Viveram word is a scrub of it. -/
theorem doViveramRewrite_runs {s : State} {a : Nat} (hup : s.ohmythUp = true) (hlo : cfgStoreAddr ≤ a) (hhi : a < supRamAddr)
    (ha : a % 8 = 0) : doViveramRewrite a s = s.scrub a 0 := by
  have e : a / 8 * 8 = a := by omega
  simp [doViveramRewrite, e, hup, Nat.not_lt.mpr hlo, Nat.not_le.mpr hhi]

/-- A drain past its bound is forced, and then ends if it is drained, or of a port or channel. -/
theorem doDrainBoundExpiry_forces {s : State} {k i : Nat} (hk : blockOk k i = true) (hs : s.wdState k i = .draining)
    (h3 : k ≠ 3) (hdue : NatMap.get 0 s.wd.since (blockKey k i) ≤ s.now)
    (hend : (s.wdForce k i).wdDrained k i = true ∨ k = 5 ∨ k = 6) :
    doDrainBoundExpiry k i s = (s.wdForce k i).wdFinish k i := by
  rw [doDrainBoundExpiry, if_pos (by simp [hk, hs, h3, hdue]), if_pos (by simpa [or_assoc] using hend)]

/-- Settles O53. -/
theorem drainsAndHealth : Obligations.DrainsAndHealth := by
  intro s k i
  refine ⟨?ended, ?notYet, ?forced, ?early, ?tooSoon, ?sample, ?clean, ?corrected, fun l b h => ⟨hottest_get h, ?_⟩⟩
  case ended => intro hk hs hd; simp [exec, execDrainEnd, doDrainEnd, hk, hs, hd]
  case notYet => intro hk hs hd; simp [exec, execDrainEnd, doDrainEnd, hk, hs, hd]
  case forced =>
    intro hk hs h3 hdue hend
    exact congrArg Host.Outcome.next (doDrainBoundExpiry_forces hk hs h3 hdue hend)
  case early =>
    intro hlt
    simp [exec, execDrainBoundExpiry, doDrainBoundExpiry, Nat.not_le.mpr hlt]
  case tooSoon => exact fun x hp => congrArg Host.Outcome.next (doSensorSample_early hp)
  case sample =>
    rintro x h tj _ hp rfl hh
    obtain ⟨rg, f, tm, er, m, v, sp, hl, e, hact⟩ := doSensorSample_effect hp hh
    refine ⟨_, congrArg Host.Outcome.next e, fun h1 => by simp [h1], fun h2 => ?_, fun h3 h4 => ?_, hact, rfl, rfl, rfl⟩
    · simp [h2]; omega
    · simp [Int.not_le.mpr h3, Int.not_le.mpr h4]
  case clean =>
    intro a hup hlo hhi ha he
    exact congrArg Host.Outcome.next ((doViveramRewrite_runs hup hlo hhi ha).trans (scrub_clean he))
  case corrected =>
    intro a hup hlo hhi ha he
    exact congrArg Host.Outcome.next ((doViveramRewrite_runs hup hlo hhi ha).trans (scrub_corrects he))
  · rintro _ hx v rfl
    obtain ⟨b', hb', hle⟩ := hottest_max l v hx
    rw [h] at hb'
    cases hb'
    exact hle

end Sys2Proof.Machine
end

section
/-! PROOFS. The resets (spec/17 R532, R533, Table 17.6; spec/13 R412; spec/18 R555, R566). -/
namespace Sys2Proof.Machine

/-! ### Registers and memory after a device reset -/

/-- An entry's key that the filter leaves out reads as the default. -/
theorem NatMap.get_filter_out {α : Type} (d : α) (p : Nat → Bool) (m : NatMap α) {k : Nat} (h : p k = false) :
    NatMap.get d (m.filter fun e => p e.1) k = d := by
  have := NatMap.get_keep d p m k
  rwa [h, if_neg (by simp)] at this

theorem deviceReset_regW (s : State) {c k : Nat} (hb : bootRecordKey k = false) (hk : k ≠ svRstCause) :
    (s.deviceReset c).regW k = regReset k := by
  simp only [State.regW, State.deviceReset, NatMap.get_put_ne _ _ _ _ hk]
  exact NatMap.get_filter_out _ bootRecordKey s.regs hb

theorem deviceReset_cause (s : State) {c : Nat} (hc : 1 ≤ c) : (s.deviceReset c).regW svRstCause = c := by
  simp [State.regW, State.deviceReset, NatMap.put, show c ≠ 0 by omega]

theorem doPowerOnReset_rd8 (s : State) (b : Bool) (a : Nat) :
    (doPowerOnReset b s).rd8 a = if 0x800000000 ≤ a then s.rd8 a else memDefault := by
  refine (NatMap.get_keep memDefault (fun k => decide (0x800000000 ≤ k)) s.mem a).trans ?_
  simp only [decide_eq_true_eq]
  rfl

/-- Settles O43. -/
theorem resets : Obligations.Resets := by
  intro s
  refine ⟨?device, rfl, rfl, rfl, ?powerOn, ?devReset, ?noDevReset, ?fatal, ?noFatal, ?vfFlr, ?hostBoot, ?host⟩
  case device =>
    rintro c t hc - rfl
    exact ⟨rfl, rfl, rfl, rfl, rfl, rfl, rfl, deviceReset_cause s hc, rfl, rfl, rfl, rfl, rfl, rfl, rfl,
      fun k => deviceReset_regW s⟩
  case powerOn =>
    intro b
    refine ⟨_, rfl, rfl, rfl, rfl, rfl, deviceReset_cause (c := 1) s.tick (by decide), fun a ha => ?_, fun a ha => ?_⟩
    · rw [doPowerOnReset_rd8, if_pos ha]
    · rw [doPowerOnReset_rd8, if_neg (by omega)]
  case devReset => intro at_ h hle; simp [exec, execDevResetStart, doDevResetStart, h, hle]
  case noDevReset => intro h; simp [exec, execDevResetStart, doDevResetStart, h]
  case fatal =>
    intro at_ h hen hm hs hdue
    have hdue : ¬ s.now < at_ + 1000000 * min 1000 (s.fld 0x003D0200 1 10) := by omega
    have hs : ¬ 3 ≤ s.viv.streak := by omega
    simp only [exec, execFatalEscalation, doFatalEscalation, h]
    rw [if_neg (by simp [hen, hm, hs, hdue])]
  case noFatal =>
    intro h
    refine congrArg Host.Outcome.next ?_
    unfold doFatalEscalation
    split
    · rfl
    · extract_lets delay
      exact if_pos (by rcases h with h | h <;> simp [h])
  case vfFlr =>
    intro i hi hle
    simp [exec, execVfFlr, doVfFlr, show ¬ s.numVfs < i.val by omega, hi]
  case hostBoot => intro h; simp [exec, execHostReset, doHostReset, h]
  case host =>
    rintro t hm ht rfl
    have h₁ : ({ s with pcie := [], numVfs := 0, linkSpeed := 0, linkWidth := 0 } : State).tenants = [] := ht
    simp only [exec, execHostReset, doHostReset, if_neg hm, h₁, List.foldl_nil]

end Sys2Proof.Machine
end

section
/-! PROOFS. The helpers: lookups, copies, CRCs and Time requests, and where a completion goes (spec/07 R240 to R248, R253). -/
namespace Sys2Proof.Machine

/-! ### Completions (R240, R253) -/

/-- A counted service error changes registers alone. -/
theorem svcErr_regsOnly (s : State) (c svc status : Nat) : RegsOnly s (s.svcErr c svc status) :=
  .ite (.refl s) (.bump (.refl s))

theorem complete_reaches {s : State} {r : HelpReq} {x : Thread} (svc status : Nat) (hx : s.threadAt r.c r.t = some x)
    (hu : x.uid = r.uid) (hs : x.stopped = false) : s.complete r svc status = (s.svcErr r.c svc status).setThread r.c r.t
      { x with replies := x.replies ++ [(svc, r.tag + 256 * svc + 65536 * status)] } := by
  obtain ⟨rg, h⟩ := svcErr_regsOnly s r.c svc status
  have hx' : (s.svcErr r.c svc status).threadAt r.c r.t = some x := by rw [h]; exact hx
  simp [State.complete, hx', hu, hs]

theorem complete_other {s : State} {r : HelpReq} {x : Thread} (svc status : Nat) (hx : s.threadAt r.c r.t = some x)
    (hu : x.uid ≠ r.uid) : s.complete r svc status = s.svcErr r.c svc status := by
  obtain ⟨rg, h⟩ := svcErr_regsOnly s r.c svc status
  have hx' : (s.svcErr r.c svc status).threadAt r.c r.t = some x := by rw [h]; exact hx
  simp [State.complete, hx', hu]

theorem complete_none {s : State} {r : HelpReq} (svc status : Nat) (hx : s.threadAt r.c r.t = none) :
    s.complete r svc status = s.svcErr r.c svc status := by
  obtain ⟨rg, h⟩ := svcErr_regsOnly s r.c svc status
  have hx' : (s.svcErr r.c svc status).threadAt r.c r.t = none := by rw [h]; exact hx
  simp [State.complete, hx']

@[simp] theorem svcErr_eg (s : State) (c svc status : Nat) : (s.svcErr c svc status).eg = s.eg := by
  obtain ⟨rg, h⟩ := svcErr_regsOnly s c svc status; rw [h]

@[simp] theorem svcErr_mem (s : State) (c svc status : Nat) : (s.svcErr c svc status).mem = s.mem := by
  obtain ⟨rg, h⟩ := svcErr_regsOnly s c svc status; rw [h]

@[simp] theorem requestDone_mem (s : State) (c t svc : Nat) : (s.requestDone c t svc).mem = s.mem := by
  unfold State.requestDone
  split
  · rfl
  · extract_lets o; split <;> rfl

theorem complete_mem (s : State) (r : HelpReq) (svc status : Nat) : (s.complete r svc status).mem = s.mem := by
  unfold State.complete
  extract_lets s₁
  have h₁ : s₁.mem = s.mem := svcErr_mem ..
  repeat' split
  all_goals simp [h₁]

theorem completionReaches : Sys2Proof.Parts.CompletionReaches := by
  intro s r svc status
  refine ⟨fun x hx hu hs => ?_, fun x hx hu => ?_, fun hx => ?_, complete_mem ..⟩
  · rw [complete_reaches svc status hx hu hs]
    exact ⟨_, State.threadAt_setThread_same .., rfl, rfl, rfl⟩
  · rw [complete_other svc status hx hu, svcErr_eg]
  · rw [complete_none svc status hx, svcErr_eg]

/-! ### Copies (R246) -/

theorem copyMoves : Sys2Proof.Parts.CopyMoves := by
  intro s s1 s2 r x src dst n
  refine ⟨fun l ho hr => ?_, fun ho => ?_, fun st ho hr => ?_⟩
  · simp only [State.copyGo, ho, hr]
  · simp only [State.copyGo, ho]
  · simp only [State.copyGo, ho, hr]

/-! ### Time requests (R248) -/

/-- A Time request that has reached its target ends the wait that it is of. -/
theorem timeEnd_front {s : State} {c t st : Nat} {w : Bool} {q : TimeReq} {qs : List TimeReq} (hq : s.eg.times = q :: qs)
    (hc : q.req.c = c) (ht : q.req.t = t) (hop : (q.req.op == 1) = w) (hdue : s.timeDue q = true) (hst : q.status.getD 0 = st)
    (hf : s.followsSite 0x06 (fun e => e.master == egId c t && leAt e.body 0 1 == 1) = false) :
    s.timeEnd c t w = (({ s with eg := { s.eg with times := qs } } : State).decision 0x06 (egId c t)
      (leBytes 4 1 ++ leBytes 8 st)).complete q.req 3 st := by
  subst hc ht
  have ho : s.timeOf q.req.c q.req.t w = some q := by simp [State.timeOf, hq, hop, hdue]
  simp [State.timeEnd, ho, State.timeDone, hf, hq, hst]

theorem timeEnd_done {s : State} {c t st : Nat} {w : Bool} {q : TimeReq} (hq : s.timeOf c t w = some q)
    (hst : q.status = some st) : s.timeEnd c t w = s.timeDone q st := by
  simp [State.timeEnd, hq, hst]

theorem timeEnd_none {s : State} {c t : Nat} {w : Bool} (hq : s.timeOf c t w = none) : s.timeEnd c t w = s := by
  simp [State.timeEnd, hq]

/-! ### The helpers' answers -/

theorem helpersAnswer : Sys2Proof.Parts.HelpersAnswer := by
  intro s s1 s2 s3 c t r x l d
  simp only [exec, execLookup, execCopy, execCrc, execWaitUntil, execWaitFor, Host.Outcome.next.injEq]
  refine ⟨?stream, ?action, ?station, ?noTable, ?range, ?copy, ?copyNone, ?crc, ?untilEnds, ?forEnds, ?untilDone, ?forDone,
    timeEnd_none, timeEnd_none⟩
  case stream =>
    intro hq hb hop hr hi hin hc hd
    simp [doLookup, hq, hb, hop, hr, Nat.not_le.mpr hi, hin, hc, hd]
  case action =>
    intro k hq hb hop hr hi hin hc hd
    simp [doLookup, hq, hb, hop, hr, Nat.not_le.mpr hi, hin, hc, hd]
  case station =>
    intro k hq hb hop hr hi hc hd
    simp [doLookup, hq, hb, hop, hr, Nat.not_le.mpr hi, hc, hd]
  case noTable => intro hq hb hop; simp [doLookup, hq, hb, hop]
  case range =>
    intro hq hb hop hr hout
    have h2 : r.op ≠ 2 := by omega
    rcases hout with hi | hin
    · simp [doLookup, hq, hb, show ¬ 2 < r.op by omega, h2, hr, hi]
    · simp [doLookup, hq, hb, show ¬ 2 < r.op by omega, h2, hr, hin]
  case copy =>
    intro hq hx hb hop hr hpos hle
    simp [doCopy, hq, hx, hb, hop, hr, show ¬ 65536 < leAt l 0x10 4 by omega, show leAt l 0x10 4 ≠ 0 by omega]
  case copyNone => intro hq hx hb hop hr hn; simp [doCopy, hq, hx, hb, hop, hr, hn]
  case crc =>
    intro hq hx hb hop hr hn hl h1 hd
    simp [doCrc, hq, hx, hb, show ¬ 2 < r.op % 128 by omega, hr, hn, hl, h1, hd]
  case untilEnds =>
    intro q qs hq hc ht hop hst hdue hf
    exact timeEnd_front hq hc ht (by simp [hop]) (by simp [State.timeDue, hop, hdue]) (by simp [hst]) hf
  case forEnds =>
    intro q qs hq hc ht hop hst hdue hf
    exact timeEnd_front hq hc ht (by simp [hop]) (by simp [State.timeDue, hop, hdue]) (by simp [hst]) hf
  case untilDone => exact fun q st => timeEnd_done
  case forDone => exact fun q st => timeEnd_done

/-- Settles O13. -/
theorem helpers : Obligations.Helpers := ⟨helpersAnswer, copyMoves, completionReaches⟩

end Sys2Proof.Machine
end

section
/-! PROOFS. Sluice: bursts, urgency, the order of the queues and what an issued request does (spec/09 R312 to R318, R324). -/
namespace Sys2Proof.Machine

/-! ### What the accounting of a request leaves -/

/-- A register of SL_CTL, SL_STAT or a geometry, on which a DRAM address's place depends. -/
def geomKey (k : Nat) : Prop := k % 16 = 0 ∨ k = slStat

/-- The counters of the ports are none of them. -/
theorem geomKey_ne {k j : Nat} (h : geomKey k) (hj : 0x00340100 < j ∧ j % 16 ≠ 0) : k ≠ j := by
  have e : slStat = 0x00340004 := rfl
  rcases h with h | h <;> omega

theorem regW_lateCount (s : State) (r : DramReq) {k : Nat} (h : geomKey k) : (s.lateCount r).regW k = s.regW k := by
  unfold State.lateCount
  split
  · exact State.regW_setReg_ne _ _ (geomKey_ne h (by omega))
  · rfl

theorem regW_maxLat (s : State) (r : DramReq) {k : Nat} (h : geomKey k) : (s.maxLat r).regW k = s.regW k :=
  State.regW_setReg_ne _ _ (geomKey_ne h (by omega))

theorem dramPlace_congr {s t : State} (h : ∀ k, geomKey k → t.regW k = s.regW k) (a : Nat) : t.dramPlace a = s.dramPlace a := by
  have hctl : t.regW slCtl = s.regW slCtl := h _ (.inl rfl)
  have hstat : t.regW slStat = s.regW slStat := h _ (.inr rfl)
  have hgeom (c : Nat) : t.regW (slGeom c) = s.regW (slGeom c) := h _ (.inl (by unfold slGeom; omega))
  have hord : t.dramOrd = s.dramOrd := by simp only [State.dramOrd, State.fld, hctl]
  have hmap (c : Nat) : t.chanMapped c = s.chanMapped c := by simp only [State.chanMapped, State.bit, State.fld, hstat]
  have hg (c : Nat) : t.dramG c = s.dramG c := by
    have hb : t.bit (slGeom c) 0 = s.bit (slGeom c) 0 := by simp only [State.bit, State.fld, hgeom]
    simp [State.dramG, hb]
  have hk (c : Nat) : t.dramK c = s.dramK c := by simp only [State.dramK, State.fld, hgeom]
  have hrb (c : Nat) : t.dramRb c = s.dramRb c := by simp only [State.dramRb, State.fld, hgeom]
  simp only [State.dramPlace, hord, hmap, hg, hk, hrb]

theorem chanUp_congr {s t : State} (h : ∀ k, geomKey k → t.regW k = s.regW k) (c : Nat) : t.chanUp c = s.chanUp c := by
  simp only [State.chanUp, State.bit, State.fld, h slStat (.inr rfl)]

/-- The counts of a request that issues: registers alone, and none on which its place depends. -/
theorem account_effect (s : State) (r : DramReq) :
    RegsOnly s ((s.lateCount r).maxLat r) ∧ ∀ k, geomKey k → ((s.lateCount r).maxLat r).regW k = s.regW k :=
  ⟨.setReg (.ite (.bump (.refl s)) (.refl s)), fun _ h => (regW_maxLat _ r h).trans (regW_lateCount s r h)⟩

/-! ### A request takes effect (R330 to R334) -/

section effect
variable {s : State} {r : DramReq} {x : DramAcc} (hecc : s.ecc = []) (hx : s.accAt r.acc = some x)
  (hup : s.chanUp (s.dramPlace r.addr).ch = true)
include hecc hx hup

theorem dramDo_read (hw : r.write = false) : s.dramDo r = ((s.lateCount r).maxLat r).modAcc r.acc fun y =>
    { y with left := y.left - 1, data := putAt y.data (r.addr - x.addr) (s.rdBytes r.addr r.len) } := by
  obtain ⟨⟨rg, h⟩, hk⟩ := account_effect s r
  have hx' : ((s.lateCount r).maxLat r).accAt r.acc = some x := by rw [h]; exact hx
  have hup' : ((s.lateCount r).maxLat r).chanUp (((s.lateCount r).maxLat r).dramPlace r.addr).ch = true := by
    rw [dramPlace_congr hk, chanUp_congr hk]; exact hup
  have hecc' : ((s.lateCount r).maxLat r).ecc = [] := by rw [h]; exact hecc
  have hrd : ((s.lateCount r).maxLat r).rdBytes r.addr r.len = s.rdBytes r.addr r.len := by rw [h]; rfl
  simp [State.dramDo, hx', hup', hw, rdChk_clean hecc', hrd]

theorem dramDo_write (hw : r.write = true) :
    s.dramDo r = (((s.lateCount r).maxLat r).wrBytes r.addr ((x.data.drop (r.addr - x.addr)).take r.len)).modAcc r.acc
      fun x => { x with left := x.left - 1 } := by
  obtain ⟨⟨rg, h⟩, hk⟩ := account_effect s r
  have hx' : ((s.lateCount r).maxLat r).accAt r.acc = some x := by rw [h]; exact hx
  have hup' : ((s.lateCount r).maxLat r).chanUp (((s.lateCount r).maxLat r).dramPlace r.addr).ch = true := by
    rw [dramPlace_congr hk, chanUp_congr hk]; exact hup
  have hecc' : ((s.lateCount r).maxLat r).ecc = [] := by rw [h]; exact hecc
  simp [State.dramDo, hx', hup', hw, wrChk_clean hecc']

end effect

theorem urgencyRise_queued (s : State) (p : Nat) : ∀ q ∈ (doUrgencyRise p s).sl.queued, ∃ q0 ∈ s.sl.queued,
    q = { q0 with late := q0.late || (q0.port == p && s.urgency q0 == 3) } := by
  intro q hq
  simp only [doUrgencyRise, List.mem_map] at hq
  obtain ⟨q0, h0, rfl⟩ := hq
  have h0 : q0 ∈ s.sl.queued := h0
  have hmem : q0 ∈ (s.sl.queued ++ s.sl.waiting).filter (fun r => r.port == p && s.urgency r == 3 && !r.late) ↔
      (q0.port == p && s.urgency q0 == 3) = true ∧ q0.late = false := by
    simp [List.mem_filter, h0]
  refine ⟨q0, h0, ?_⟩
  split
  next h =>
    obtain ⟨hdue, -⟩ := hmem.mp (List.contains_iff_mem.mp h)
    rw [hdue, Bool.or_true]
  next h =>
    have hlate : (q0.late || q0.port == p && s.urgency q0 == 3) = q0.late := by
      cases hl : q0.late with
      | true => rfl
      | false => exact Bool.eq_false_iff.mpr fun hb => h (List.contains_iff_mem.mpr (hmem.mpr ⟨hb, hl⟩))
    rw [hlate]

theorem sluiceRequests : Sys2Proof.Parts.SluiceRequests := by
  intro s t p c id x r
  refine ⟨?splits, ?full, ?picks, ?idle, dramDo_read, dramDo_write, rfl, urgencyRise_queued s p⟩
  case splits =>
    rintro rfl hf hroom
    simp only [exec, execDramRequest, doDramRequest, hf, if_neg (Nat.not_lt.mpr hroom)]
    exact ⟨_, rfl, rfl, rfl, rfl⟩
  case full =>
    rintro rfl hf hroom
    simp only [exec, execDramRequest, doDramRequest, hf, if_pos hroom]
  case picks => intro h; simp only [exec, execDramCommandIssue, doDramCommandIssue, h]
  case idle => intro h; simp only [exec, execDramCommandIssue, doDramCommandIssue, h]

/-! ### Bursts (R312) -/

theorem mem_bursts {a n : Nat} {b : Nat × Nat} : b ∈ bursts a n ↔ ∃ j, j < (a + n + 63) / 64 - a / 64 ∧
    b = (max a ((a / 64 + j) * 64), min (a + n) ((a / 64 + j + 1) * 64) - max a ((a / 64 + j) * 64)) := by
  simp only [bursts, List.mem_map, List.mem_range, eq_comm (a := b)]

theorem bursts_within {a n : Nat} {b : Nat × Nat} (h : b ∈ bursts a n) :
    a ≤ b.1 ∧ b.1 + b.2 ≤ a + n ∧ (0 < b.2 → b.1 / 64 = (b.1 + b.2 - 1) / 64) := by
  obtain ⟨j, hj, rfl⟩ := mem_bursts.mp h
  refine ⟨Nat.le_max_left _ _, ?_, ?_⟩ <;> simp only [] <;> omega

theorem bursts_cover {a n k : Nat} (hlo : a ≤ k) (hhi : k < a + n) : ∃ b ∈ bursts a n, b.1 ≤ k ∧ k < b.1 + b.2 := by
  refine ⟨_, mem_bursts.mpr ⟨k / 64 - a / 64, by omega, rfl⟩, ?_⟩
  simp only []
  omega

/-! ### Urgency and the pick (R316, R317) -/

theorem urgency_eq_three (s : State) (r : DramReq) : s.urgency r = 3 ↔ s.latTgt r.port ≤ s.dramAge r := by
  simp only [State.urgency]
  split
  · omega
  · split
    · omega
    · split <;> omega

theorem urgency_eq_zero (s : State) (r : DramReq) : s.urgency r = 0 ↔ 2 * s.dramAge r < s.latTgt r.port := by
  simp only [State.urgency]
  split
  · omega
  · split
    · omega
    · split <;> omega

/-- Of two requests the one that goes first is not the less urgent. -/
theorem urgency_le_of_dramBefore {s : State} {ch : Nat} {a b : DramReq} :
    (s.dramBefore ch a b = true → s.urgency b ≤ s.urgency a) ∧ (s.dramBefore ch a b = false → s.urgency a ≤ s.urgency b) := by
  simp only [State.dramBefore]
  split
  · simp; omega
  · simp_all

/-- The better of the best request so far and the next one (R317). -/
def betterPick (s : State) (ch : Nat) (best : Option DramReq) (r : DramReq) : Option DramReq :=
  match best with
  | none => some r
  | some b => if s.dramBefore ch b r then some b else some r

theorem dramPick_eq (s : State) (ch : Nat) : s.dramPick ch =
    (s.sl.queued.filter fun r => (s.dramPlace r.addr).ch == ch && s.dramAllowed r).foldl (betterPick s ch) none := rfl

/-- It is one of the two, and neither is more urgent. -/
theorem betterPick_spec (s : State) (ch : Nat) (best : Option DramReq) (q : DramReq) : ∃ b, betterPick s ch best q = some b ∧
    (b = q ∨ best = some b) ∧ s.urgency q ≤ s.urgency b ∧ ∀ x, best = some x → s.urgency x ≤ s.urgency b := by
  cases best with
  | none => exact ⟨q, rfl, .inl rfl, Nat.le_refl _, by simp⟩
  | some b =>
    simp only [betterPick]
    cases h : s.dramBefore ch b q with
    | true => exact ⟨b, rfl, .inr rfl, urgency_le_of_dramBefore.1 h, by simp⟩
    | false => exact ⟨q, rfl, .inl rfl, Nat.le_refl _, by simpa using urgency_le_of_dramBefore.2 h⟩

theorem foldl_betterPick {s : State} {ch : Nat} {l : List DramReq} {best : Option DramReq} {r : DramReq}
    (h : l.foldl (betterPick s ch) best = some r) :
    (r ∈ l ∨ best = some r) ∧ ∀ q, (q ∈ l ∨ best = some q) → s.urgency q ≤ s.urgency r := by
  induction l generalizing best with
  | nil =>
    obtain rfl : best = some r := h
    exact ⟨.inr rfl, by simp⟩
  | cons q l ih =>
    obtain ⟨b, hb, hor, hq, hbest⟩ := betterPick_spec s ch best q
    rw [List.foldl_cons, hb] at h
    obtain ⟨hr, hmax⟩ := ih h
    have hbr : s.urgency b ≤ s.urgency r := hmax b (.inr rfl)
    refine ⟨?_, ?_⟩
    · rcases hr with hr | hr
      · exact .inl (List.mem_cons_of_mem _ hr)
      · cases hr; exact hor.imp (fun e => List.mem_cons.mpr (.inl e)) id
    · rintro x (hx | hx)
      · rcases List.mem_cons.mp hx with rfl | hx
        · exact Nat.le_trans hq hbr
        · exact hmax x (.inl hx)
      · exact Nat.le_trans (hbest x hx) hbr

theorem dramPick_spec {s : State} {ch : Nat} {r : DramReq} (h : s.dramPick ch = some r) :
    r ∈ s.sl.queued ∧ (s.dramPlace r.addr).ch = ch ∧ s.dramAllowed r = true ∧
    ∀ q ∈ s.sl.queued, (s.dramPlace q.addr).ch = ch → s.dramAllowed q = true → s.urgency q ≤ s.urgency r := by
  obtain ⟨hr, hmax⟩ := foldl_betterPick ((dramPick_eq s ch).symm.trans h)
  obtain ⟨hq, hc⟩ : r ∈ s.sl.queued ∧ (s.dramPlace r.addr).ch = ch ∧ s.dramAllowed r = true := by simpa using hr
  exact ⟨hq, hc.1, hc.2, fun q hq hch hal => hmax q (.inl (by simp [List.mem_filter, hq, hch, hal]))⟩

/-! ### The order of a queue (R317) -/

theorem dramInsert_last {l : List DramReq} {r : DramReq} (h : ∀ q ∈ l, q.joined = r.joined → q.port ≤ r.port) :
    dramInsert r l = l ++ [r] := by
  induction l with
  | nil => rfl
  | cons q l ih =>
    have hq : ¬ (q.joined = r.joined ∧ r.port < q.port) := fun ⟨hj, hp⟩ => absurd (h q (by simp) hj) (by omega)
    simp [dramInsert, hq, ih fun x hx => h x (by simp [hx])]

/-- Requests that join in one instant stand in the order of their ports. -/
theorem dramInsert_before {l : List DramReq} {q r : DramReq} (h : ∀ x ∈ l, x.joined = r.joined → x.port ≤ r.port)
    (hj : q.joined = r.joined) (hp : r.port < q.port) : dramInsert r (l ++ [q]) = l ++ [r, q] := by
  induction l with
  | nil => simp [dramInsert, hj, hp]
  | cons x l ih =>
    have hx : ¬ (x.joined = r.joined ∧ r.port < x.port) := fun ⟨hj, hp⟩ => absurd (h x (by simp) hj) (by omega)
    simp [dramInsert, hx, ih fun y hy => h y (by simp [hy])]

theorem sluiceRules : Sys2Proof.Parts.SluiceRules :=
  ⟨fun _ _ _ => bursts_within, fun _ _ _ => bursts_cover, fun s r => ⟨urgency_eq_three s r, urgency_eq_zero s r⟩,
    fun _ _ _ => dramPick_spec, fun _ _ => dramInsert_last, fun _ _ _ => dramInsert_before⟩

/-- Settles O29. -/
theorem sluiceQueues : Obligations.SluiceQueues := ⟨sluiceRequests, sluiceRules⟩

end Sys2Proof.Machine
end

section
/-! PROOFS. The mailbox protocol: doorbells, the request area, take-ups and answers (spec/11 R365 to R373, R379, R383, R388). -/
namespace Sys2Proof.Machine

/-! ### Bits of registers -/

/-- A bit that is set reads 1, whatever the register held. -/
theorem bitsOf_setBits (n : Nat) {i : Nat} (h : i < 32) : bitsOf (putBits n i 1 1 % 2 ^ 32) i 1 = 1 := by
  have hp : 0 < 2 ^ i := Nat.two_pow_pos i
  have e : putBits n i 1 1 / 2 ^ i = n / 2 ^ i - n / 2 ^ i % 2 + 1 := by
    simp only [putBits, bitsOf, Nat.shiftRight_eq_div_pow, Nat.pow_one]
    rw [Nat.add_mul_div_right _ _ hp, Nat.mul_comm (n / 2 ^ i % 2), Nat.sub_mul_div]
  have e32 : 2 ^ 32 = 2 ^ i * 2 ^ (32 - i) := by rw [← Nat.pow_add, Nat.add_sub_cancel' (Nat.le_of_lt h)]
  rw [bitsOf, Nat.shiftRight_eq_div_pow, e32, Nat.mod_mul_right_div_self, Nat.mod_mod_of_dvd _ (Nat.pow_dvd_pow 2 (by omega)), e]
  omega

theorem State.bit_setBit_same (s : State) (k : Nat) {i : Nat} (h : i < 32) : (s.setBit k i).bit k i = true := by
  rw [State.bit, State.fld, State.setBit, State.setFld, State.regW_setReg_same, bitsOf_setBits _ h]
  rfl

theorem State.bit_of_regW {s t : State} {k : Nat} (h : t.regW k = s.regW k) (i : Nat) : t.bit k i = s.bit k i := by
  simp only [State.bit, State.fld, h]

/-- A cause sets a bit of one INT_STAT and no other register. -/
theorem cause1_regW (s : State) (i k : Nat) {j : Nat} (h : j ≠ instKey i 0x3000) : (s.cause1 i k).regW j = s.regW j := by
  simp only [State.cause1]
  split
  · rfl
  · split
    · obtain ⟨p, o, hm⟩ := msix_effect (s.setBit (instKey i 0x3000) k) i ((s.setBit (instKey i 0x3000) k).ivec i k)
      rw [hm]
      exact State.regW_setReg_ne _ _ h
    · exact State.regW_setReg_ne _ _ h

/-! ### Doorbells and the request area (R367, R370, R379, R383, R386, R388) -/

theorem doDoorbell_lost {s : State} {m v : Nat} (hr : s.mbReached m = true)
    (h : s.mbReady = false ∨ (s.mbAt m).cmd.isSome = true) :
    doDoorbell m v s = (s.setBit (mbKey m + 0x204) 5).bump (mbKey m + 0x20C) := by
  simp only [doDoorbell, hr]
  rcases h with h | h <;> simp [h]

/-- A doorbell that is taken: the command is latched, and hardware answers it or it joins the queue. -/
theorem doDoorbell_takes {s t : State} {m v : Nat} {x : MbCmd} (hr : s.mbReached m = true) (hready : s.mbReady = true)
    (hc : (s.mbAt m).cmd = none) (hecc : s.ecc = []) (hx : x = { req := s.rdBytes (mbArea m) 256, seq := v % 256, bad := false })
    (ht : t = (s.setFld (mbKey m + 0x204) 2 1 0).modMb m (fun b => { b with cmd := some x })) :
    doDoorbell m v s = if s.sup.hold then t.mbHardware m 0x0106
      else if s.resetting m then t.mbHardware m 0x0107
      else if x.seq ≠ (s.mbAt m).lastSeq && x.seq ≠ ((s.mbAt m).lastSeq + 1) % 256 then t.mbHardware m 0x010A
      else { t with mbQueue := t.mbQueue ++ [m] } := by
  have hecc' : (s.setFld (mbKey m + 0x204) 2 1 0).ecc = [] := hecc
  subst ht hx
  simp only [doDoorbell, hr, hready, hc, rdChk_clean hecc']
  simp
  rfl

theorem doRequestAreaWrite_writes {s : State} {m off v : Nat} (hr : s.mbReached m = true) (hlt : off < 0x100) (hal : off % 4 = 0)
    (hc : (s.mbAt m).cmd = none) (hecc : s.ecc = []) :
    doRequestAreaWrite m off v s = s.wrBytes (mbArea m + off) (leBytes 4 v) := by
  simp [doRequestAreaWrite, hr, Nat.not_le.mpr hlt, hal, hc, wrChk_clean hecc]

theorem doRequestAreaWrite_lost {s : State} {m off v : Nat} (hr : s.mbReached m = true) (hlt : off < 0x100) (hal : off % 4 = 0)
    (hc : (s.mbAt m).cmd.isSome = true) : doRequestAreaWrite m off v s = s.setBit (mbKey m + 0x204) 6 := by
  simp [doRequestAreaWrite, hr, Nat.not_le.mpr hlt, hal, hc]

/-! ### Take-ups (R369, R372, R373) -/

theorem doTakeUp_runs {s : State} (h1 : s.serves = true) (h2 : s.sup.hold = false) (h3 : s.quickRuns = false) :
    doTakeUp s = s.mbTakeUp := by
  simp [doTakeUp, h1, h2, h3]

section
variable {s : State} {m : Nat} {rest : List Nat} {x : MbCmd} (hq : s.mbQueue = m :: rest) (hc : (s.mbAt m).cmd = some x)
include hq hc

/-- A command with the last SEQ has its response repeated. -/
theorem mbTakeUp_repeats (hseq : x.seq = (s.mbAt m).lastSeq) (hcopy : (s.mbAt m).copy ≠ []) :
    s.mbTakeUp = ({ s with mbQueue := rest } : State).mbRespond m (s.mbAt m).copy := by
  have e : ({ s with mbQueue := rest } : State).mbAt m = s.mbAt m := rfl
  simp only [State.mbTakeUp, hq, e, hc]
  rw [if_pos hseq, if_neg (by simpa using hcopy)]

/-- Another is taken up, and checked. -/
theorem mbTakeUp_new (hseq : x.seq ≠ (s.mbAt m).lastSeq) {u : State}
    (hu : u = ({ s with mbQueue := rest } : State).modMb m fun b =>
      { b with lastSeq := x.seq, cmd := some { x with taken := true, since := s.now } }) :
    s.mbTakeUp = match u.mbCheck m x with
      | some st => u.mbAnswer m st
      | none => { u with mbTaken := u.mbTaken ++ [m] } := by
  have e : ({ s with mbQueue := rest } : State).mbAt m = s.mbAt m := rfl
  subst hu
  simp only [State.mbTakeUp, hq, e, hc, if_neg hseq] <;> rfl

end

theorem mailboxProtocol : Sys2Proof.Parts.MailboxProtocol := by
  intro s t m v hr
  simp only [exec, execDoorbell, execRequestAreaWrite, execTakeUp, Host.Outcome.next.injEq]
  refine ⟨doDoorbell_lost hr, ?taken, fun off => doRequestAreaWrite_writes hr, fun off => doRequestAreaWrite_lost hr, ?takeUp⟩
  case taken =>
    intro hready hc hecc x hx ht
    have h := doDoorbell_takes hr hready hc hecc hx ht
    refine ⟨fun h1 => ?_, fun h1 h2 => ?_, fun h1 h2 h3 h4 => ?_, fun h1 h2 h3 => ?_⟩
    · rw [h, if_pos h1]
    · rw [h, h1, h2]; rfl
    · rw [h, h1, h2, if_neg (by simp), if_neg (by simp), if_pos (by simp [h3, h4])]
    · rw [h, h1, h2, if_neg (by simp), if_neg (by simp), if_neg (by rcases h3 with h3 | h3 <;> simp [h3]), ht]
      rfl
  case takeUp =>
    rintro rest x h1 h2 h3 hq hc rfl
    rw [doTakeUp_runs h1 h2 h3]
    refine ⟨mbTakeUp_repeats hq hc, fun hseq u hu => ?_⟩
    have h := mbTakeUp_new hq hc hseq hu
    refine ⟨fun st hst => by rw [h, hst], fun hst => ?_⟩
    rw [h, hst, hu]
    rfl

/-! ### Answers (R366, Table 11.3) -/

theorem length_mbResponse (m : Nat) (x : MbCmd) (st : Nat) (body : List Byte) : (mbResponse m x st body).length = 8 + body.length := by
  simp [mbResponse, leBytes]; omega

theorem mbStatus_ne_intStat (m : Nat) : mbKey m + 0x204 ≠ instKey m 0x3000 := by
  simp only [mbKey, instKey, viewKey]
  split <;> omega

theorem cause_mailbox (s : State) (m : Nat) : s.cause m 8 = s.cause1 m 8 := by
  simp [State.cause]

/-- The end of a command: it is held no more, and DONE stands. -/
theorem mbDone_effect (s : State) (m : Nat) : ∃ rg p o, s.mbDone m =
    { s.modMb m (fun b => { b with cmd := none }) with
      mbQueue := s.mbQueue.filter (· != m), mbTaken := s.mbTaken.filter (· != m), regs := rg, pcie := p, out := o } ∧
    (s.mbDone m).bit (mbKey m + 0x204) 2 = true := by
  unfold State.mbDone
  extract_lets s₁ s₂ key s₃
  obtain ⟨rg, h₃⟩ : RegsOnly s₂ s₃ := .ite (.refl s₂) (.setBit (.refl s₂))
  have hdone : s₃.bit (key + 0x204) 2 = true := by
    unfold s₃
    split
    · assumption
    · exact State.bit_setBit_same _ _ (by decide)
  split
  · obtain ⟨rg', p, o, hc⟩ := cause1_effect s₃ m 8
    refine ⟨rg', p, o, ?_, ?_⟩
    · rw [cause_mailbox, hc, h₃]; rfl
    · rw [cause_mailbox, State.bit_of_regW (cause1_regW s₃ m 8 (mbStatus_ne_intStat m)), hdone]
  · exact ⟨rg, s.pcie, s.out, h₃, hdone⟩

@[simp] theorem mbDone_mem (s : State) (m : Nat) : (s.mbDone m).mem = s.mem := by
  obtain ⟨rg, p, o, h, -⟩ := mbDone_effect s m
  rw [h]
  rfl

theorem mailboxAnswers : Sys2Proof.Parts.MailboxAnswers := by
  intro s m x st body hc h1 h2 h3 hecc hlen
  have hpad : (padTo 256 (mbResponse m x st body)).length = 256 := by simp [padTo, length_mbResponse]; omega
  refine ⟨_, rfl, ?_⟩
  rw [mbAnswer_serves hc h1 h2 h3, State.mbRespond]
  generalize hk : (s.modMb m fun b => { b with copy := mbResponse m x st body }) = k
  rw [wrChk_clean (show k.ecc = [] by rw [← hk]; exact hecc)]
  generalize hl : padTo 256 (mbResponse m x st body) = l at hpad ⊢
  obtain ⟨rg, p, o, h, hdone⟩ := mbDone_effect (k.wrBytes (mbArea m + 256) l) m
  have hmem : ((k.wrBytes (mbArea m + 256) l).mbDone m).mem = (s.wrBytes (mbArea m + 256) l).mem := by
    rw [mbDone_mem, ← hk]; rfl
  refine ⟨?cmd, ?copy, hdone, ?response, ?frame, ?queue, ?taken, ?cells, ?weir, ?eg, ?ca⟩
  case response => rw [State.rdBytes_of_mem hmem, ← hpad, State.rdBytes_wrBytes]
  case frame => exact fun a ha => by rw [State.rd8_of_mem hmem, State.rd8_wrBytes_out s _ _ _ (by omega)]
  all_goals rw [h, ← hk]
  case cmd => simp [State.mbAt, State.modMb, NatMap.mod]
  case copy => simp [State.mbAt, State.modMb, NatMap.mod, State.wrBytes]
  case queue => simp
  case taken => simp
  all_goals rfl

/-- Settles O32. -/
theorem mailboxes : Obligations.Mailboxes := ⟨mailboxProtocol, mailboxAnswers⟩

end Sys2Proof.Machine
end

section
/-! PROOFS. The words of an Egret core: their rows, results, flags and traps (spec/06 R184 to R195). -/
namespace Sys2Proof.Machine

/-! ### A unit's word, once for every row -/

section issues
variable {s s' : State} {u : EgUnit} {x : EgCore} {w : Nat}

/-- The thread of a unit that issues still stands, and is runnable, after the fetch. -/
theorem issues_thread {c : Fin 6} {t : Fin 32} (h : s.issues s' (.thread c t) x w) :
    ∃ y, s'.threadAt c t = some y ∧ y.runnable = true ∧ y.core = x := by
  obtain ⟨hx, -, s₀, hf, rfl⟩ := h
  obtain ⟨y, hy, hr, rfl⟩ := unitCore_thread hx
  exact ⟨y, by rw [threadAt_slotNext]; simpa [State.threadAt, egFetch_eg hf] using hy, hr, rfl⟩

theorem egRow_of_issues {op : EgOp} {body : EgCore → Nat → State → State} (h : s.issues s' u x w)
    (ho : egOp (isHeron u) w = op) (hi : op ≠ .illegal) : s.egRow u op body = (body x w s').slotIdle u := by
  obtain ⟨hx, ht, s₀, hf, rfl⟩ := h
  exact egRow_runs hx ht hf ho hi

/-- After a word that writes the unit's core alone, the core's next slot is not open. -/
theorem slotIdle_setCore_of_issues (h : s.issues s' u x w) (y : EgCore) :
    (s'.setCore u y).slotIdle u = s'.setCore u y := by
  cases u with
  | heron k => rfl
  | thread c t =>
    obtain ⟨z, hz, hr, -⟩ := issues_thread h
    exact slotIdle_setCore y hz hr

theorem egPure_ok_of_issues {op : EgOp} {f : Nat → EgCore → Except Nat EgCore} {y : EgCore} (h : s.issues s' u x w)
    (ho : egOp (isHeron u) w = op) (hi : op ≠ .illegal) (hy : f w x = .ok y) : s.egPure u op f = s'.setCore u y := by
  obtain ⟨hx, ht, s₀, hf, rfl⟩ := h
  exact egPure_ok hx ht hf ho hi hy

theorem egPure_error_of_issues {op : EgOp} {f : Nat → EgCore → Except Nat EgCore} {v : Nat} (h : s.issues s' u x w)
    (ho : egOp (isHeron u) w = op) (hi : op ≠ .illegal) (hv : f w x = .error v) :
    s.egPure u op f = (s'.egTrap u x { vec := v }).slotIdle u := by
  obtain ⟨hx, ht, s₀, hf, rfl⟩ := h
  exact egPure_error hx ht hf ho hi hv

end issues

/-! ### Words that compute (R186 to R191) -/

theorem aluWord_ok {w : Nat} {x : EgCore} {r : Option Nat} {f : FlagW}
    (h : aluFn (bitsOf w 9 4) (x.reg (bitsOf w 17 4)) (x.reg (bitsOf w 13 4)) x.c x.bm = some (r, f)) :
    aluWord w x = .ok (((r.elim x (x.put (bitsOf w 21 4) ·)).setFlags f).next) := by
  cases r <;> simp [aluWord, h, EgCore.result, EgCore.putAll]

theorem aluiWord_ok {w : Nat} {x : EgCore} {r : Option Nat} {f : FlagW}
    (h : aluFn (bitsOf w 13 4) (x.reg (bitsOf w 17 4)) (bitsOf w 0 8) x.c x.bm = some (r, f)) :
    aluiWord w x = .ok (((r.elim x (x.put (bitsOf w 21 4) ·)).setFlags f).next) := by
  cases r <;> simp [aluiWord, h, EgCore.result, EgCore.putAll]

/-- No flags written. -/
theorem EgCore.setFlags_none (x : EgCore) : x.setFlags {} = x := rfl

theorem ldiWord_ok (w : Nat) (x : EgCore) : ldiWord w x = .ok ((if bitAt w 24 then x.put (16 + bitsOf w 22 2) (bitsOf w 0 16)
    else x.put (bitsOf w 20 4) (bitsOf w 0 8)).next) := by
  unfold ldiWord EgCore.result EgCore.putAll
  split <;> rfl

theorem bitsOf_lt (n lo w : Nat) : bitsOf n lo w < 2 ^ w := Nat.mod_lt _ (Nat.two_pow_pos w)

/-- MUL's core: the product in the register pair, the flags in FL mode, the next word. -/
theorem mulWord_ok {w r : Nat} {x : EgCore} (heven : bitsOf w 21 4 % 2 = 0)
    (hr : r = if bitAt w 12 then wrapTo 16 (signedOf 8 (x.reg (bitsOf w 17 4)) * signedOf 8 (x.reg (bitsOf w 13 4)))
      else x.reg (bitsOf w 17 4) * x.reg (bitsOf w 13 4)) :
    mulWord w x = .ok ((((x.put (bitsOf w 21 4) (r % 256)).put (bitsOf w 21 4 + 1) (r / 256)).setFlags
      (if x.bm then { z := some (r == 0), n := some (bitAt r 15), c := some (r / 256 != 0), v := some false } else {})).next) := by
  unfold mulWord
  simp only [← hr, if_neg (show ¬ bitsOf w 21 4 % 2 = 1 by omega)]
  rfl

section words
variable {s s' : State} {u : EgUnit} {x : EgCore} {w : Nat}

theorem exec_mul {r : Nat} (h : s.issues s' u x w) (ho : egOp (isHeron u) w = .mul) (heven : bitsOf w 21 4 % 2 = 0)
    (hr : r = if bitAt w 12 then wrapTo 16 (signedOf 8 (x.reg (bitsOf w 17 4)) * signedOf 8 (x.reg (bitsOf w 13 4)))
      else x.reg (bitsOf w 17 4) * x.reg (bitsOf w 13 4)) :
    ∃ y, exec (.mul u) s = .next (s'.setCore u y) ∧ y.pc = (x.pc + 1) % 0x10000 ∧
      y.reg (bitsOf w 21 4) = r % 256 ∧ y.reg (bitsOf w 21 4 + 1) = r / 256 % 256 ∧ y.p = x.p ∧ y.bm = x.bm ∧
      (x.bm = false → y.c = x.c ∧ y.z = x.z ∧ y.n = x.n ∧ y.v = x.v) ∧
      (x.bm = true → y.z = (r == 0) ∧ y.n = bitAt r 15 ∧ y.c = (r / 256 != 0) ∧ y.v = false) := by
  have hlt : bitsOf w 21 4 < 16 := bitsOf_lt w 21 4
  refine ⟨_, congrArg Host.Outcome.next (egPure_ok_of_issues h ho (by decide) (mulWord_ok heven hr)), ?_⟩
  generalize bitsOf w 21 4 = rd at heven hlt ⊢
  obtain ⟨hpc, -, hc, hz, hn, hv, hbm, -⟩ := EgCore.put_frame (x.put rd (r % 256)) (rd + 1) (r / 256)
  obtain ⟨hpc', -, hc', hz', hn', hv', hbm', -⟩ := EgCore.put_frame x rd (r % 256)
  refine ⟨?pc, ?lo, ?hi, ?p, ?bm, fun hcb => ?cb, fun hfl => ?fl⟩
  case pc => simp [EgCore.next, EgCore.setFlags, hpc, hpc']
  case lo =>
    rw [EgCore.next_reg, EgCore.setFlags_reg, EgCore.reg_put_ne _ _ _ _ (by omega) hlt, EgCore.reg_put_same _ _ _ hlt,
      Nat.mod_mod]
  case hi => rw [EgCore.next_reg, EgCore.setFlags_reg, EgCore.reg_put_same _ _ _ (by omega)]
  case p =>
    exact (EgCore.put_reg_p _ _ _ (by omega)).trans (EgCore.put_reg_p _ _ _ hlt)
  case bm => exact hbm.trans hbm'
  case cb => simp [EgCore.next, EgCore.setFlags, hcb, hc, hz, hn, hv, hc', hz', hn', hv']
  case fl => simp [EgCore.next, EgCore.setFlags, hfl]

/-- A pair without a hazard and without a memory access: both slots' writes, then both slots' flags. -/
theorem exec_pair {a b : Slot} (h : s.issues s' u x w) (ho : egOp (isHeron u) w = .pair)
    (ha : shortOp x (bitsOf w 15 15) = some a) (hb : shortOp x (bitsOf w 0 15) = some b) (hz : pairHazard a b = false)
    (hma : a.mem.isNone) (hmb : b.mem.isNone) : exec (.pairWord u) s = .next (s'.setCore u
      ((((x.putAll a.writes).putAll b.writes).setFlags a.flags).setFlags b.flags).next) := by
  have hma : a.mem = none := Option.isNone_iff_eq_none.mp hma
  have hmb : b.mem = none := Option.isNone_iff_eq_none.mp hmb
  refine congrArg Host.Outcome.next ((egRow_of_issues h ho (by decide)).trans ?_)
  simp only [ha, hb, hz, hma, hmb, Option.isSome_none, Bool.false_eq_true, if_false]
  exact slotIdle_setCore_of_issues h _

end words

theorem egretWordsCompute : Sys2Proof.Parts.EgretWordsCompute := by
  intro s s' u x w h
  refine ⟨fun ho r f hf => ?alu, fun ho r f hf => ?alui, fun ho n hn => ?shift, fun ho => ?ldi, fun ho => ?paddi16,
    fun ho => ?paddr, fun ho he r hr => exec_mul h ho he hr, fun ho a b => exec_pair h ho⟩
  case alu => exact congrArg Host.Outcome.next (egPure_ok_of_issues h ho (by decide) (aluWord_ok hf))
  case alui => exact congrArg Host.Outcome.next (egPure_ok_of_issues h ho (by decide) (aluiWord_ok hf))
  case shift =>
    subst hn
    exact congrArg Host.Outcome.next (egPure_ok_of_issues h ho (by decide) rfl)
  case ldi => exact congrArg Host.Outcome.next (egPure_ok_of_issues h ho (by decide) (ldiWord_ok w x))
  case paddi16 => exact congrArg Host.Outcome.next (egPure_ok_of_issues h ho (by decide) rfl)
  case paddr => exact congrArg Host.Outcome.next (egPure_ok_of_issues h ho (by decide) rfl)

/-! ### The functions' results and flags (R190, R192, Tables 6.4 and 6.5) -/

theorem bitAt_seven {n : Nat} (h : n < 256) : bitAt n 7 = decide (128 ≤ n) := by
  simp only [bitAt, Nat.shiftRight_eq_div_pow]
  rw [Bool.eq_iff_iff, decide_eq_true_iff, beq_iff_eq]
  omega

theorem addW_fst (w a b k : Nat) : (addW w a b k).1 = (a + b + k) % 2 ^ w := rfl
theorem addW_carry (w a b k : Nat) : (addW w a b k).2.1 = decide (2 ^ w ≤ a + b + k) := rfl
theorem subW_carry (w a b k : Nat) : (subW w a b k).2.1 = decide (b + k ≤ a) := rfl

/-- A byte's difference, modulo 256. -/
theorem subW_fst {a b k : Nat} (ha : a < 256) (hb : b < 256) (hk : k ≤ 1) : (subW 8 a b k).1 = (a + 256 - b - k) % 256 := by
  simp only [subW, wrapTo]
  omega

/-- In CB mode an arithmetic function writes C alone. -/
theorem arithFlags_cb (r : Nat) (c v : Bool) : arithFlags false r c v = { c := some c } := rfl

theorem arithFlags_c (bm : Bool) (r : Nat) (c v : Bool) : (arithFlags bm r c v).c = some c := by cases bm <;> rfl

theorem arithFlags_zn {r : Nat} (h : r < 256) (c v : Bool) :
    (arithFlags true r c v).z = some (r == 0) ∧ (arithFlags true r c v).n = some (decide (128 ≤ r)) := by
  simp [arithFlags, bitAt_seven h]

theorem logicFlags_fl {r : Nat} (h : r < 256) : (logicFlags true r).z = some (r == 0) ∧
    (logicFlags true r).n = some (decide (128 ≤ r)) ∧ (logicFlags true r).v = some false := by
  simp [logicFlags, tstFlags, bitAt_seven h]

theorem logicFlags_c (bm : Bool) (r : Nat) : (logicFlags bm r).c = none := by cases bm <;> rfl

/-- SHL and its carry, for a shift of 1 to 7. -/
theorem shiftFn_shl {n : Nat} (a : Nat) (h0 : 0 < n) (h8 : n < 8) : shiftFn 0 a n = (a * 2 ^ n % 256, some (bitAt a (8 - n))) := by
  simp [shiftFn, show n ≠ 0 by omega, show n ≤ 8 by omega]

theorem shiftFn_shr {n : Nat} (a : Nat) (h0 : 0 < n) : shiftFn 1 a n = (a / 2 ^ n, some (bitAt a (n - 1))) := by
  simp [shiftFn, show n ≠ 0 by omega]

/-- SAR of a byte without the sign is SHR. -/
theorem shiftFn_sar {a n : Nat} (ha : a < 128) (h0 : 0 < n) (h8 : n < 8) :
    shiftFn 2 a n = (a / 2 ^ n, some (bitAt a (n - 1))) := by
  have hs : signedOf 8 a = a := by simp [signedOf, Nat.mod_eq_of_lt (show a < 256 by omega), ha]
  have hq : a / 2 ^ n ≤ a := Nat.div_le_self ..
  have hw : wrapTo 8 ((a : Int) / 2 ^ n) = a / 2 ^ n := by
    rw [show ((a : Int) / 2 ^ n) = ((a / 2 ^ n : Nat) : Int) by simp]
    generalize a / 2 ^ n = q at hq ⊢
    simp only [wrapTo]
    omega
  simp [shiftFn, show n ≠ 0 by omega, show n ≤ 8 by omega, hs, hw]

theorem shiftFn_rol {n : Nat} (a : Nat) (h0 : 0 < n) (h8 : n < 8) : (shiftFn 3 a n).1 = a * 2 ^ n % 256 + a / 2 ^ (8 - n) := by
  simp [shiftFn, show n ≠ 0 by omega, Nat.mod_eq_of_lt h8]

theorem egretFunctionResults : Sys2Proof.Parts.EgretFunctionResults := by
  intro a b n c bm ha hb h0 h8
  refine ⟨?add, ?sub, ?logic, ?cmp, ?tst, rfl, shiftFn_shl a h0 h8, shiftFn_shr a h0, fun h => shiftFn_sar h h0 h8,
    shiftFn_rol a h0 h8⟩
  case add =>
    rintro fn v k h rfl
    have hv : v % 256 < 256 := Nat.mod_lt _ (by decide)
    rcases h with ⟨rfl, rfl⟩ | ⟨rfl, rfl⟩
    all_goals
      refine ⟨_, rfl, arithFlags_c .., ?_, ?_⟩
      · rintro rfl; exact ⟨rfl, rfl, rfl⟩
      · rintro rfl; exact arithFlags_zn hv _ _
  case sub =>
    rintro fn q k h rfl
    have hq : q ≤ 1 := by rcases h with ⟨-, rfl⟩ | ⟨-, rfl⟩ <;> omega
    have hfn : aluFn fn a b c bm = some (some (subW 8 a b q).1, arithFlags bm (subW 8 a b q).1 (subW 8 a b q).2.1 (subW 8 a b q).2.2) := by
      rcases h with ⟨rfl, rfl⟩ | ⟨rfl, rfl⟩ <;> rfl
    refine ⟨arithFlags bm _ (decide (b + q ≤ a)) (subW 8 a b q).2.2, by rw [hfn, subW_fst ha hb hq]; rfl, arithFlags_c .., ?_⟩
    rintro rfl
    exact ⟨rfl, rfl, rfl⟩
  case logic =>
    intro fn v h
    have hfn : aluFn fn a b c bm = some (some v, logicFlags bm v) := by
      rcases h with ⟨rfl, rfl⟩ | ⟨rfl, rfl⟩ | ⟨rfl, rfl⟩ | ⟨rfl, rfl⟩ <;> rfl
    have hv : v < 256 := by
      rcases h with ⟨-, rfl⟩ | ⟨-, rfl⟩ | ⟨-, rfl⟩ | ⟨-, rfl⟩
      · exact Nat.and_lt_two_pow (n := 8) a hb
      · exact Nat.or_lt_two_pow (n := 8) ha hb
      · exact Nat.xor_lt_two_pow (n := 8) ha hb
      · exact Nat.and_lt_two_pow (n := 8) a (by omega)
    refine ⟨_, hfn, logicFlags_c .., ?_, ?_⟩
    · rintro rfl; exact ⟨rfl, rfl, rfl⟩
    · rintro rfl; exact logicFlags_fl hv
  case cmp =>
    refine ⟨_, rfl, by simp [cmpFlags, subW_carry], ?_⟩
    simp only [cmpFlags, subW_fst ha hb (Nat.zero_le 1), Option.some.injEq]
    rw [Bool.eq_iff_iff, beq_iff_eq, beq_iff_eq]
    omega
  case tst => exact ⟨_, rfl, rfl, rfl, rfl⟩

/-- Settles O1. -/
theorem egretComputeWords : Obligations.EgretComputeWords := ⟨egretWordsCompute, egretFunctionResults⟩

end Sys2Proof.Machine
end

section
/-! PROOFS. Loads and stores of an Egret unit, its control words, and its traps (spec/06 R189 to R218). -/
namespace Sys2Proof.Machine

/-! ### Checked accesses that meet no error -/

theorem rdChk_of_badGranules {s : State} {a n : Nat} (h : s.badGranules a n = []) (w : Who) (p : Nat) :
    s.rdChk a n w p = (s, some (s.rdBytes a n)) := by
  simp [State.rdChk, h]

theorem wrChk_of_badGranules {s : State} {a : Nat} {l : List Byte} (h : s.badGranules a l.length = []) (w : Who) (p : Nat) :
    s.wrChk a l w p = (s.wrBytes a l, false) := by
  simp [State.wrChk, h]

theorem ofLe_rdBytes_one (s : State) (a : Nat) : ofLe (s.rdBytes a 1) = (s.rd8 a).toNat := rfl

theorem wrBytes_one (s : State) (a : Nat) (b : Byte) : s.wrBytes a [b] = s.wr8 a b := rfl

/-! ### Accesses within the frame (R198, Table 6.8) -/

theorem egRegion_frame {a : Nat} (h : a < 0x1000) : egRegion a = 0 := by simp [egRegion, h]

/-- The addresses of an access within the frame all lie there. -/
theorem egRegion_dataAddrs {a n b : Nat} (h : a + n ≤ 0x1000) (hb : b ∈ dataAddrs a n) : egRegion b = 0 := by
  obtain ⟨i, hi, rfl⟩ := List.mem_map.mp hb
  have hi : i < n := List.mem_range.mp hi
  exact egRegion_frame (by omega)

section frame
variable {s : State} {c t : Nat} {y : Thread}

theorem thLoad_frame {l : EgLoad} {n : Nat} (hy : s.threadAt c t = some y) (h0 : 0 < n) (ha : l.addr + n ≤ 0x1000)
    (hb : s.badGranules (frameAddr c t + l.addr) n = []) :
    s.thLoad c t l n = s.finishLoad c t l (ofLe (s.rdBytes (frameAddr c t + l.addr) n)) := by
  have hreg : egRegion l.addr = 0 := egRegion_frame (by omega)
  have hany : (dataAddrs l.addr n).any (fun b => egRegion b != 0) = false :=
    List.any_eq_false.mpr fun b hb => by simp [egRegion_dataAddrs ha hb]
  have hread : s.regionRead c t y l.addr n = (s, .data (s.rdBytes (frameAddr c t + l.addr) n)) := by
    simp [State.regionRead, hreg, rdChk_of_badGranules hb]
  have hport : (decide (0xF820 ≤ l.addr) && decide (l.addr < 0xF860)) = false := by simp; omega
  simp only [State.thLoad, hy, hany, hreg, hport, hread, if_neg (show l.addr ≠ 0xFC00 by omega), Bool.false_eq_true, if_false,
    Nat.reduceEqDiff]

@[simp] theorem length_dataAddrs (a n : Nat) : (dataAddrs a n).length = n := by simp [dataAddrs, upTo]

theorem regionPart_frame {a : Nat} {b : Byte} {l : List Byte} (ha : a + (b :: l).length ≤ 0x1000) :
    regionPart a (b :: l) 0 = some (a, b :: l) := by
  have hall : ((dataAddrs a (b :: l).length).zip (b :: l)).filter (fun e => egRegion e.1 == 0) =
      (dataAddrs a (b :: l).length).zip (b :: l) :=
    List.filter_eq_self.mpr fun e he => by simp [egRegion_dataAddrs ha (List.of_mem_zip he).1]
  have hsnd : ((dataAddrs a (b :: l).length).zip (b :: l)).map (·.2) = b :: l := List.map_snd_zip (by simp)
  have hcons : dataAddrs a (b :: l).length = a :: (dataAddrs a (b :: l).length).tail := by
    have hlt : a % 0x10000 = a := Nat.mod_eq_of_lt (by simp at ha; omega)
    simp [dataAddrs, upTo, List.range_succ_eq_map, hlt]
  simp only [regionPart, hall]
  rw [hcons] at hsnd ⊢
  simp only [List.zip_cons_cons] at hsnd ⊢
  rw [hsnd]

theorem regionPart_other {a r : Nat} {l : List Byte} (ha : a + l.length ≤ 0x1000) (hr : r ≠ 0) : regionPart a l r = none := by
  have hnil : ((dataAddrs a l.length).zip l).filter (fun e => egRegion e.1 == r) = [] :=
    List.filter_eq_nil_iff.mpr fun e he => by simpa [egRegion_dataAddrs ha (List.of_mem_zip he).1] using hr.symm
  simp only [regionPart, hnil]

theorem thStore_frame {a : Nat} {b : Byte} {l : List Byte} (ha : a + (b :: l).length ≤ 0x1000)
    (hb : s.badGranules (frameAddr c t + a) (b :: l).length = []) :
    s.thStore c t y a (b :: l) = (s.wrBytes (frameAddr c t + a) (b :: l), none) := by
  have hreg (k : Nat) (hk : k ∈ dataAddrs a (b :: l).length) : egRegion k = 0 := egRegion_dataAddrs ha hk
  have hany : (dataAddrs a (b :: l).length).any (fun k => egRegion k != egRegion a) = false :=
    List.any_eq_false.mpr fun k hk => by simp [hreg k hk, egRegion_frame (show a < 0x1000 by simp at ha; omega)]
  have hfault : (dataAddrs a (b :: l).length).findSome? (s.storeFault c y) = none :=
    List.findSome?_eq_none_iff.mpr fun k hk => by simp [State.storeFault, hreg k hk]
  have hfar : (dataAddrs a (b :: l).length).filter (fun k => egRegion k == 5) = [] :=
    List.filter_eq_nil_iff.mpr fun k hk => by simp [hreg k hk]
  have hcheck : s.storeCheck c y a (b :: l).length = (s, none) := by simp only [State.storeCheck, hfault, hfar]
  have hput : s.thPut c t y a (b :: l) = (s.wrBytes (frameAddr c t + a) (b :: l), false) := by
    simp [State.thPut, regionPart_frame ha, regionPart_other ha, wrChk_of_badGranules hb]
  simp only [State.thStore, hany, hcheck, hput, Bool.false_eq_true, if_false]

end frame

/-- A load that has its data, or a store that has taken place, leaves its thread runnable: the core's next slot is not open. -/
theorem slotIdle_finishLoad {s : State} {c : Fin 6} {t : Fin 32} {y : Thread} (l : EgLoad) (v : Nat)
    (hy : s.threadAt c t = some y) (hr : y.runnable = true) :
    (s.finishLoad c t l v).slotIdle (.thread c t) = s.finishLoad c t l v := by
  rw [State.finishLoad, State.modThread_of s _ hy]
  refine slotIdle_runs (State.threadAt_setThread_same ..) ?_
  simp only [Thread.runnable, Bool.and_eq_true] at hr ⊢
  exact ⟨rfl, hr.2⟩

section access
variable {s s' : State} {c : Fin 6} {t : Fin 32} {y : Thread} {w : Nat}

/-- A row whose word loads from the thread's frame. -/
theorem egRow_load_frame {op : EgOp} {body : EgCore → Nat → State → State} {l : EgLoad} {n : Nat}
    (h : s.issues s' (.thread c t) y.core w) (hy : s'.threadAt c t = some y) (hr : y.runnable = true) (ho : egOp false w = op)
    (hi : op ≠ .illegal) (hbody : body y.core w s' = s'.egLoad (.thread c t) l n) (h0 : 0 < n) (ha : l.addr + n ≤ 0x1000)
    (hb : s'.badGranules (frameAddr c t + l.addr) n = []) :
    s.egRow (.thread c t) op body = s'.finishLoad c t l (ofLe (s'.rdBytes (frameAddr c t + l.addr) n)) := by
  rw [egRow_of_issues h ho hi, hbody, State.egLoad, thLoad_frame hy h0 ha hb, slotIdle_finishLoad l _ hy hr]

/-- A row whose word stores to the thread's frame. -/
theorem egRow_store_frame {op : EgOp} {body : EgCore → Nat → State → State} {post : EgCore} {a : Nat} {b : Byte} {bs : List Byte}
    (h : s.issues s' (.thread c t) y.core w) (hy : s'.threadAt c t = some y) (hr : y.runnable = true) (ho : egOp false w = op)
    (hi : op ≠ .illegal) (hbody : body y.core w s' = s'.egStore (.thread c t) y.core post a (b :: bs) 0 false)
    (ha : a + (b :: bs).length ≤ 0x1000) (hb : s'.badGranules (frameAddr c t + a) (b :: bs).length = []) :
    s.egRow (.thread c t) op body = (s'.wrBytes (frameAddr c t + a) (b :: bs)).setCore (.thread c t) post := by
  have hy' : (s'.wrBytes (frameAddr c t + a) (b :: bs)).threadAt c t = some y := hy
  rw [egRow_of_issues h ho hi, hbody]
  simp only [State.egStore, hy, thStore_frame ha hb]
  exact slotIdle_setCore post hy' hr

end access

theorem egretFrameAccess : Sys2Proof.Parts.EgretFrameAccess := by
  intro s s' c t y w h hy hr
  refine ⟨fun ho hk ha hb => ?ld, fun ho hk ha hb => ?ldp, fun ho ha hb => ?ldx, fun ho hk ha hb => ?st, fun ho ha hb => ?stp,
    fun ho ha hb => ?stx⟩ <;> refine congrArg Host.Outcome.next ?_
  case ld =>
    exact egRow_load_frame (l := ⟨.reg (bitsOf w 21 4), (ldAddr w y.core).2, (ldAddr w y.core).1, 0, false⟩) (n := 1) h hy hr ho
      (by decide) (if_neg (by simp [hk])) (by decide) ha hb
  case ldp =>
    exact egRow_load_frame (l := ⟨.ptr (bitsOf w 23 2), (ldAddr w y.core).2, (ldAddr w y.core).1, 0, false⟩) (n := 2) h hy hr ho
      (by decide) (if_neg (by simpa using hk)) (by decide) (Nat.succ_le_succ ha) hb
  case ldx =>
    exact egRow_load_frame (l := ⟨.reg (bitsOf w 21 4), y.core.next, ldxAddr w y.core, 0, false⟩) (n := 1) h hy hr ho
      (by decide) rfl (by decide) ha hb
  case st =>
    exact egRow_store_frame (b := BitVec.ofNat 8 (y.core.reg (bitsOf w 21 4))) (bs := []) h hy hr ho (by decide)
      (if_neg (by simp [hk])) ha hb
  case stp =>
    exact egRow_store_frame (b := BitVec.ofNat 8 (y.core.ptr (bitsOf w 23 2)))
      (bs := [BitVec.ofNat 8 (y.core.ptr (bitsOf w 23 2) / 256)]) h hy hr ho (by decide) rfl (Nat.succ_le_succ ha) hb
  case stx =>
    exact egRow_store_frame (b := BitVec.ofNat 8 (y.core.reg (bitsOf w 21 4))) (bs := []) h hy hr ho (by decide) rfl ha hb

theorem egretAccessForms : Sys2Proof.Parts.EgretAccessForms := by
  intro s s' u x w h
  refine ⟨fun ho => ?ld, fun ho => ?ldp, fun ho => ?st, fun ho => ?stp, fun ho => ?ldx, fun ho => ?stx⟩ <;>
    refine congrArg Host.Outcome.next ((egRow_of_issues h ho (by decide)).trans ?_)
  case ld => by_cases hk : bitsOf w 16 2 = 0 <;> simp [hk]
  case ldp => simp
  case st => by_cases hk : bitsOf w 16 2 = 0 <;> simp [hk]
  all_goals rfl

/-- Settles O2. -/
theorem egretMemoryAccess : Obligations.EgretMemoryAccess := ⟨egretFrameAccess, egretAccessForms⟩

end Sys2Proof.Machine
end

section
/-! PROOFS. Control words of an Egret unit, and its traps (spec/06 R193 to R195, R206, R207, R211 to R218). -/
namespace Sys2Proof.Machine

/-! ### Branches, jumps and special registers (R193 to R195, R211) -/

theorem branchIf_some (x : EgCore) (b : Bool) (wid off : Nat) :
    x.branchIf (some b) wid off = .ok (if b then x.branch wid off else x.next) := by cases b <;> rfl

/-- The reserved condition code has no condition. -/
theorem condOf_ne_reserved {k : Nat} {c z n v b : Bool} (h : condOf k c z n v = some b) : k ≠ 15 := by
  rintro rfl
  cases h

theorem bccWord_ok {w : Nat} {x : EgCore} {b : Bool} (hm : x.bm = true)
    (h : condOf (bitsOf w 21 4) x.c x.z x.n x.v = some b) :
    bccWord w x = .ok (if b then x.branch 16 (bitsOf w 0 16) else x.next) := by
  rw [bccWord, if_neg (condOf_ne_reserved h), if_neg (by simp [hm]), h, branchIf_some]

theorem mfsrWord_byte {w v : Nat} {x : EgCore} (hs : x.sr (bitsOf w 0 8) = some (8, v)) (hb : bitAt w 15 = false) :
    mfsrWord w x = .ok (x.put (bitsOf w 16 4) v).next := by
  simp [mfsrWord, hs, hb, EgCore.result, EgCore.putAll, EgCore.setFlags_none]

theorem mfsrWord_word {w v : Nat} {x : EgCore} (hs : x.sr (bitsOf w 0 8) = some (16, v)) (hb : bitAt w 15 = true) :
    mfsrWord w x = .ok (x.put (16 + bitsOf w 18 2) v).next := by
  simp [mfsrWord, hs, hb, EgCore.result, EgCore.putAll, EgCore.setFlags_none]

theorem mtsrWord_byte {w v : Nat} {x y : EgCore} (hs : x.sr (bitsOf w 0 8) = some (8, v)) (hb : bitAt w 15 = false)
    (hy : x.setSr (bitsOf w 0 8) (x.reg (bitsOf w 16 4)) = some y) : mtsrWord w x = .ok y.next := by
  simp [mtsrWord, hs, hb, hy]

theorem mtsrWord_word {w v : Nat} {x y : EgCore} (hs : x.sr (bitsOf w 0 8) = some (16, v)) (hb : bitAt w 15 = true)
    (hy : x.setSr (bitsOf w 0 8) (x.ptr (bitsOf w 18 2)) = some y) : mtsrWord w x = .ok y.next := by
  simp [mtsrWord, hs, hb, hy]

/-! ### Calls and returns in the ring (R206, R215) -/

section calls
variable {s s' : State} {c : Fin 6} {t : Fin 32} {x : EgCore} {w : Nat}

theorem doCall_enters (h : s.issues s' (.thread c t) x w) (ho : egOp false w = .call) (hr : x.residents < 5) :
    doCall (.thread c t) s = s'.setCore (.thread c t) (x.enter (jumpTarget w x)) := by
  rw [doCall, egRow_of_issues h ho (by decide)]
  simp only [hr, if_true]
  exact slotIdle_setCore_of_issues h _

theorem doRet_returns (h : s.issues s' (.thread c t) x w) (ho : egOp false w = .ret) (hw : x.cwp ≠ 0) (hd : x.depth ≠ 0)
    (hr : 1 < x.residents) : doRet (.thread c t) s = s'.setCore (.thread c t) { x with
      cwp := if x.retTo.2 then 0 else x.retTo.1, depth := x.depth - 1, residents := x.residents - 1
      pc := NatMap.get 0 x.ra x.cwp } := by
  rw [doRet, egRow_of_issues h ho (by decide)]
  simp only [hw, hd, hr, if_true, if_false]
  exact slotIdle_setCore_of_issues h _

end calls

/-- Settles O3. -/
theorem egretControlWords : Obligations.EgretControlWords := by
  intro s s' u x w h
  refine ⟨fun ho hm b hb => ?bcc, fun ho b hb => ?cbr, fun ho b hb => ?cbi, fun ho b hb => ?cbp, fun ho => ?jmp, fun ho => ?mode,
    fun ho v hs hb => ?mfsr8, fun ho v hs hb => ?mfsr16, fun ho v y hs hb hy => ?mtsr8, fun ho v y hs hb hy => ?mtsr16,
    ?call, ?ret⟩
  case bcc => exact congrArg Host.Outcome.next (egPure_ok_of_issues h ho (by decide) (bccWord_ok hm hb))
  case cbr => exact congrArg Host.Outcome.next (egPure_ok_of_issues h ho (by decide) (by rw [cbrWord, hb, branchIf_some]))
  case cbi => exact congrArg Host.Outcome.next (egPure_ok_of_issues h ho (by decide) (by rw [cbiWord, hb, branchIf_some]))
  case cbp => exact congrArg Host.Outcome.next (egPure_ok_of_issues h ho (by decide) (by rw [cbpWord, hb, branchIf_some]))
  case jmp => exact congrArg Host.Outcome.next (egPure_ok_of_issues h ho (by decide) rfl)
  case mode => exact congrArg Host.Outcome.next (egPure_ok_of_issues h ho (by decide) rfl)
  case mfsr8 => exact congrArg Host.Outcome.next (egPure_ok_of_issues h ho (by decide) (mfsrWord_byte hs hb))
  case mfsr16 => exact congrArg Host.Outcome.next (egPure_ok_of_issues h ho (by decide) (mfsrWord_word hs hb))
  case mtsr8 => exact congrArg Host.Outcome.next (egPure_ok_of_issues h ho (by decide) (mtsrWord_byte hs hb hy))
  case mtsr16 => exact congrArg Host.Outcome.next (egPure_ok_of_issues h ho (by decide) (mtsrWord_word hs hb hy))
  case call =>
    rintro ho c t rfl hr
    exact congrArg Host.Outcome.next (doCall_enters h ho hr)
  case ret =>
    rintro ho c t rfl hw hd hr
    exact congrArg Host.Outcome.next (doRet_returns h ho hw hd hr)

/-! ### Words that trap (R185, R187, R189, R191, R193, R207, R213, R215) -/

theorem egretComputeTraps : Sys2Proof.Parts.EgretComputeTraps := by
  intro s s' u x w h
  refine ⟨fun ho hf => ?alu, fun ho hf => ?alui, fun ho hodd => ?mul, fun ho ha => ?first, fun ho a ha hb => ?second,
    fun ho a b ha hb hz => ?hazard⟩
  case alu =>
    exact congrArg Host.Outcome.next (egPure_error_of_issues h ho (by decide) (by rw [aluWord, aluFn_reserved hf]))
  case alui =>
    exact congrArg Host.Outcome.next (egPure_error_of_issues h ho (by decide) (by rw [aluiWord, aluFn_reserved hf]))
  case mul => exact congrArg Host.Outcome.next (egPure_error_of_issues h ho (by decide) (if_pos hodd))
  case first =>
    refine congrArg Host.Outcome.next ((egRow_of_issues h ho (by decide)).trans ?_)
    simp only [ha]
  case second =>
    refine congrArg Host.Outcome.next ((egRow_of_issues h ho (by decide)).trans ?_)
    simp only [ha, hb]
  case hazard =>
    refine congrArg Host.Outcome.next ((egRow_of_issues h ho (by decide)).trans ?_)
    simp only [ha, hb, hz, if_true]

theorem egretControlTraps : Sys2Proof.Parts.EgretControlTraps := by
  intro s s' c t x w h
  refine ⟨fun ho hk hm => ?bcc, fun ho hw => ?handler, fun ho hw hd => ?depth, fun ho hr hlt => ?spill⟩
  case bcc =>
    exact congrArg Host.Outcome.next (egPure_error_of_issues h ho (by decide)
      (by rw [bccWord, if_neg hk, if_pos (by simp [hm])]))
  case handler =>
    refine congrArg Host.Outcome.next ((egRow_of_issues h ho (by decide)).trans ?_)
    simp only [hw, if_true]
  case depth =>
    refine congrArg Host.Outcome.next ((egRow_of_issues h ho (by decide)).trans ?_)
    simp only [hw, hd, if_true, if_false]
  case spill =>
    refine congrArg Host.Outcome.next ((egRow_of_issues h ho (by decide)).trans ?_)
    simp only [if_neg (show ¬ x.residents < 5 by omega), if_pos hlt]

/-- Settles O4. -/
theorem egretTraps : Obligations.EgretTraps := ⟨egretComputeTraps, egretControlTraps⟩

/-! ### Taking a trap (R212 to R218) -/

theorem egretTrapEntry : Sys2Proof.Parts.EgretTrapEntry := by
  intro s c t x y tr hy hts hen
  have hany : ((s.threadAt c t).any fun y => bitAt y.trapen tr.vec) = true := by simp [hy, hen]
  have htake : s.thTrap c t x tr = (s.setThread c t { y with
      core := ({ x with taddr := tr.taddr.getD x.taddr } : EgCore).enterTrap tr.vec
        (if tr.nextWord then (x.pc + 1) % 0x10000 else x.pc) tr.slot tr.tinfo
        ((s.fld (egKey c 0x08) 6 10 * 64 + 4 * tr.vec) % 0x10000) tr.pair, wait := none }).bump (egKey c 0x20) := by
    simp only [State.thTrap, hts, hany, Bool.false_eq_true, Bool.not_true, if_false]
    rw [State.modThread_of s _ hy]
  exact ⟨_, htake, rfl, rfl, rfl, rfl, rfl, rfl, rfl, rfl, rfl, rfl, rfl, rfl, rfl, rfl⟩

/-- A bit of TSTATE's flags. -/
theorem bitAt_bitsOf_four (n : Nat) {i : Nat} (h : i < 4) : bitAt (bitsOf n 0 4) i = bitAt n i := by
  have hi : i = 0 ∨ i = 1 ∨ i = 2 ∨ i = 3 := by omega
  simp only [bitAt, bitsOf, Nat.shiftRight_eq_div_pow]
  rcases hi with rfl | rfl | rfl | rfl <;> rw [Bool.eq_iff_iff, beq_iff_eq, beq_iff_eq] <;> omega

section sys
variable {s s' : State} {c : Fin 6} {t : Fin 32} {op : EgOp} {x : Thread} {w : Nat}

/-- A system word's row runs its body on the thread. -/
theorem sysRow_of_issues {body : Thread → Nat → State → State} (h : s.issuesSys s' c t op x w) (hi : op ≠ .illegal) :
    s.sysRow c t op body = (body x w s').slotIdle (.thread c t) := by
  obtain ⟨h, ho, hx⟩ := h
  rw [State.sysRow, egRow_of_issues h ho hi]
  simp only [hx]

/-- The thread may issue. -/
theorem issuesSys_runnable (h : s.issuesSys s' c t op x w) : x.runnable = true := by
  obtain ⟨h, -, hx⟩ := h
  obtain ⟨y, hy, hr, -⟩ := issues_thread h
  rw [hx] at hy
  cases hy
  exact hr

/-- A body that ends with its thread set to a runnable one leaves the core's next slot as it is. -/
theorem slotIdle_setThread (s : State) {y : Thread} (hr : y.runnable = true) :
    (s.setThread c t y).slotIdle (.thread c t) = s.setThread c t y :=
  slotIdle_runs (State.threadAt_setThread_same ..) hr

end sys

theorem egretTrapWords : Sys2Proof.Parts.EgretTrapWords := by
  intro s s' c t x w
  refine ⟨fun h => ?trap, fun h => ?bkpt, fun h => ?fault, fun h hts => ?rett, fun h hp => ?fence⟩
  case trap => exact congrArg Host.Outcome.next (sysRow_of_issues h (by decide))
  case bkpt => exact congrArg Host.Outcome.next (sysRow_of_issues h (by decide))
  case fault => exact congrArg Host.Outcome.next (sysRow_of_issues h (by decide))
  case rett =>
    obtain ⟨h, ho, -⟩ := h
    refine ⟨_, congrArg Host.Outcome.next (egPure_ok_of_issues h ho (by decide) (if_pos hts)), rfl, rfl,
      bitAt_bitsOf_four _ (by decide), bitAt_bitsOf_four _ (by decide), bitAt_bitsOf_four _ (by decide),
      bitAt_bitsOf_four _ (by decide), rfl, rfl, rfl, rfl, rfl⟩
  case fence =>
    refine congrArg Host.Outcome.next ((sysRow_of_issues h (by decide)).trans ?_)
    rw [if_neg (by simp [hp])]
    exact slotIdle_setThread s' (show x.runnable = true from issuesSys_runnable h)

/-- Settles O5. -/
theorem egretTrapTaking : Obligations.EgretTrapTaking := ⟨egretTrapEntry, egretTrapWords⟩

end Sys2Proof.Machine
end

section
/-! PROOFS. Threads of an Egret cluster: forks, joins and exits, how a thread starts, and which one issues (spec/06 R195 to R197;
spec/07 R218 to R231). -/
namespace Sys2Proof.Machine

/-! ### Forks (R225) -/

section fork
variable {s : State} {c t k : Nat} {x : Thread}

theorem forkTry_starts (rd target : Nat) (hf : s.followsSite 0x02 (fun e => e.master == egId c t) = false)
    (hq : s.threadsFor x.inst c < s.threadQuota x.inst c) (hk : s.pickContext c = some k) :
    s.forkTry c t x rd target = some (((s.decision 0x02 (egId c t) (leBytes 1 k)).startThread c k (x.core.child target)
      x.gseq x.inst false t x.uid).thDone c t (x.core.put rd k).next) := by
  simp [State.forkTry, hf, hk, Nat.not_le.mpr hq]

theorem forkTry_quota (rd target : Nat) (hf : s.followsSite 0x02 (fun e => e.master == egId c t) = false)
    (hq : s.threadQuota x.inst c ≤ s.threadsFor x.inst c) : s.forkTry c t x rd target = none := by
  simp [State.forkTry, hf, hq]

end fork

/-- A thread without a wait limit ends its waits unrecorded (R239). -/
theorem waitMay_unlimited {s : State} {c t : Nat} (h : s.waitLimit c t = 0) (k : Nat) : s.waitMay c t k = true := by
  simp [State.waitMay, h]

theorem waitEnds_unlimited {s : State} {c t : Nat} (h : s.waitLimit c t = 0) (k : Nat) : s.waitEnds c t k = s := by
  simp [State.waitEnds, h]

theorem waitLimit_of {s : State} {c t : Nat} {x : Thread} (h : s.threadAt c t = some x) : s.waitLimit c t = x.waitlim := by
  simp [State.waitLimit, h]

/-- A word that ends leaves its thread with the core, waiting for nothing. -/
theorem thDone_of {s : State} {c t : Nat} {x : Thread} (h : s.threadAt c t = some x) (core : EgCore) :
    s.thDone c t core = s.setThread c t { x with core := core, wait := none } := State.modThread_of s _ h

theorem thWait_of {s : State} {c t : Nat} {x : Thread} (h : s.threadAt c t = some x) (w : EgWait) :
    s.thWait c t w = s.setThread c t { x with wait := some w, since := s.now } := State.modThread_of s _ h

/-! ### Exits (R28, R226) -/

section exit
variable {s s' : State} {c : Fin 6} {t : Fin 32} {x : Thread} {w : Nat}

theorem doExit_stops (h : s.issuesSys s' c t .exit x w) (hp : x.posted = []) : doExit c t s =
    (if ((s'.stopThread c t).cellThreads x.gseq).isEmpty then (s'.stopThread c t).completeCell x.gseq
      else (s'.stopThread c t).exitConsumes x).slotIdle (.thread c t) := by
  rw [doExit, sysRow_of_issues h (by decide)]
  simp only [hp, List.isEmpty_nil, Bool.not_true, Bool.false_eq_true, if_false]

theorem exitConsumes_not {x : Thread} (h : s.mayDispose x = false) : s.exitConsumes x = s := by
  simp [State.exitConsumes, h]

theorem exitConsumes_of {x : Thread} {k : Cell} (hc : x.isCell = true) (hk : s.cellAt x.gseq = some k) (hd : k.disposed = false) :
    s.exitConsumes x = (s.consume k).weirRun := by
  simp [State.exitConsumes, State.mayDispose, hc, hk, hd]

end exit

theorem egretForksAndJoins : Sys2Proof.Parts.EgretForksAndJoins := by
  intro s s' c t x w k
  simp only [exec, execFork, execForkUnblock, execForkq, execJoin, execJoinReturn, execExit, Host.Outcome.next.injEq]
  refine ⟨fun h hp hf hq hk => ?fork, fun h hp hf hq => ?forkWaits, fun rd target hx hw hf hq hk => ?unblock,
    fun h hp hf hq => ?forkqFails, fun h hp hf hq hk => ?forkq, fun h hc => ?join, fun h hc => ?joinWaits,
    fun hx hw hc hl => ?joinReturn, fun h hp he => ?last, fun h hp he hd => ?disposed, fun k h hp he hc hk hd => ?consumes⟩
  case fork =>
    rw [doFork, sysRow_of_issues h (by decide), if_neg (by simp [hp])]
    simp only [forkTry_starts _ _ hf hq hk]
  case forkWaits =>
    rw [doFork, sysRow_of_issues h (by decide), if_neg (by simp [hp])]
    simp only [forkTry_quota _ _ hf hq]
  case unblock => simp only [doForkUnblock, hx, hw, forkTry_starts _ _ hf hq hk, Option.getD_some]
  case forkqFails =>
    rw [doForkq, sysRow_of_issues h (by decide)]
    simp only [hp, hf, forkTry_quota _ _ hf hq, List.isEmpty_nil, Bool.not_true, Bool.false_eq_true, if_false]
  case forkq =>
    rw [doForkq, sysRow_of_issues h (by decide)]
    simp only [hp, hf, forkTry_starts _ _ hf hq hk, List.isEmpty_nil, Bool.not_true, Bool.false_eq_true, if_false]
  case join =>
    rw [doJoin, sysRow_of_issues h (by decide), if_neg (by simp [hc]), thDone_of h.2.2]
  case joinWaits =>
    rw [doJoin, sysRow_of_issues h (by decide), if_pos hc, thWait_of h.2.2]
  case joinReturn =>
    have hl : s.waitLimit c t = 0 := (waitLimit_of hx).trans hl
    simp only [doJoinReturn, hx, hw, hc, waitMay_unlimited hl, waitEnds_unlimited hl]
    simp [thDone_of hx]
  case last => rw [doExit_stops h hp, he]; rfl
  case disposed => rw [doExit_stops h hp, if_neg (by simpa using he), exitConsumes_not hd]
  case consumes => rw [doExit_stops h hp, if_neg (by simpa using he), exitConsumes_of hc hk hd]

/-! ### Starts (R219) -/

theorem threadStart : Sys2Proof.Parts.ThreadStart := by
  intro s c t core g i cell p pu
  refine ⟨_, State.threadAt_setThread_same .., rfl, rfl, rfl, rfl, rfl, rfl, rfl, rfl, ?zero, ?cell, ?child⟩
  case zero =>
    intro a ha
    refine (State.rd8_of_mem (s := (s.blockTakes c i).clearMem (frameAddr c t) 0x1000) rfl _).trans ?_
    rw [State.rd8_clearMem, if_neg (by omega)]
    rfl
  case cell =>
    rintro rfl
    cases hp : s.threadAt c p <;> simp [State.threadLimits, hp]
  case child =>
    rintro y rfl hy hu
    simp [State.threadLimits, hy, hu]

/-! ### Slots (R229 to R231) -/

theorem slotNames_lt (s : State) (c k j : Nat) : s.slotNames c k j < 4 := by
  unfold State.slotNames
  split
  · assumption
  · exact Nat.mod_lt _ (by decide)

/-- A slot in WEIGHTED mode goes to the first runnable context from the named one on, in cyclic order. -/
theorem slotWeighted_first {s : State} {c k j i : Nat} (hi : i < 4)
    (hr : s.ctxRuns c k ((s.slotNames c k j + i) % 4) = true)
    (hb : ∀ i', i' < i → s.ctxRuns c k ((s.slotNames c k j + i') % 4) = false) :
    s.slotWeighted c k j = some ((s.slotNames c k j + i) % 4) := by
  have hsplit : upTo 4 = List.range i ++ i :: List.range' (i + 1) (3 - i) := by
    have hi : i = 0 ∨ i = 1 ∨ i = 2 ∨ i = 3 := by omega
    rcases hi with rfl | rfl | rfl | rfl <;> rfl
  have hnone : ((List.range i).map fun i => (s.slotNames c k j + i) % 4).find? (s.ctxRuns c k) = none := by
    rw [List.find?_eq_none]
    intro x hx
    obtain ⟨i', hi', rfl⟩ := List.mem_map.mp hx
    simp [hb i' (List.mem_range.mp hi')]
  rw [State.slotWeighted, hsplit, List.map_append, List.find?_append, hnone, List.map_cons, List.find?_cons_of_pos hr]
  rfl

theorem slotWeighted_named {s : State} {c k j : Nat} (hr : s.ctxRuns c k (s.slotNames c k j) = true) :
    s.slotWeighted c k j = some (s.slotNames c k j) := by
  have hm : (s.slotNames c k j + 0) % 4 = s.slotNames c k j := Nat.mod_eq_of_lt (slotNames_lt ..)
  have := slotWeighted_first (j := j) (i := 0) (by decide) (by rw [hm]; exact hr) (by simp)
  rwa [hm] at this

theorem slotGreedy_own {s : State} {c k j : Nat} (hj : j < 4) (hg : j ≠ s.fld (slotKey c k) 9 2) (hr : s.ctxRuns c k j = true) :
    s.slotGreedy c k j = some j := by
  simp [State.slotGreedy, hj, hg, hr]

theorem slotGreedy_context {s : State} {c k j : Nat} (hr : s.ctxRuns c k (s.fld (slotKey c k) 9 2) = true)
    (h : 4 ≤ j ∨ j = s.fld (slotKey c k) 9 2 ∨ s.ctxRuns c k j = false) :
    s.slotGreedy c k j = some (s.fld (slotKey c k) 9 2) := by
  have hn : ¬ (decide (j < 4) && j != s.fld (slotKey c k) 9 2 && s.ctxRuns c k j) = true := by
    rcases h with h | h | h
    · simp [Nat.not_lt.mpr h]
    · simp [← h]
    · simp [h]
  simp only [State.slotGreedy]
  rw [if_neg hn, if_pos hr]

theorem slotGreedy_weighted {s : State} {c k j : Nat} (hr : s.ctxRuns c k (s.fld (slotKey c k) 9 2) = false)
    (h : 4 ≤ j ∨ s.ctxRuns c k j = false) : s.slotGreedy c k j = s.slotWeighted c k j := by
  have hn : ¬ (decide (j < 4) && j != s.fld (slotKey c k) 9 2 && s.ctxRuns c k j) = true := by
    rcases h with h | h
    · simp [Nat.not_lt.mpr h]
    · simp [h]
  simp only [State.slotGreedy]
  rw [if_neg hn, if_neg (by simp [hr])]

theorem slotsPerRound_bounds (s : State) (c k : Nat) : 4 ≤ s.slotsPerRound c k ∧ s.slotsPerRound c k ≤ 16 := by
  unfold State.slotsPerRound clampNat
  split
  · omega
  · split <;> omega

theorem egretSlots : Sys2Proof.Parts.EgretSlots := by
  rintro s c t k rfl
  refine ⟨(slotsPerRound_bounds ..).1, (slotsPerRound_bounds ..).2, fun j hj => if_pos hj, fun j hj => if_neg (by omega),
    ?named, ?cyclic, ?own, ?gctx, ?fallback, ?turn, fun h => congrArg Host.Outcome.next (egRow_waits h), ?next, ?idle⟩
  case named => rintro j _ rfl hr; exact slotWeighted_named hr
  case cyclic => rintro j _ i _ rfl hi rfl hr hb; exact slotWeighted_first hi hr hb
  case own => rintro j _ rfl hj hg hr; exact slotGreedy_own hj hg hr
  case gctx => rintro j _ rfl hr h; exact slotGreedy_context hr h
  case fallback => rintro j _ rfl hr h; exact slotGreedy_weighted hr h
  case turn => simp [State.slotTurn]
  case next =>
    have hpos : 0 < s.slotsPerRound c (t.val / 4) := by have := (slotsPerRound_bounds s c (t.val / 4)).1; omega
    have hspr : (s.slotNext (.thread c t)).slotsPerRound c (t.val / 4) = s.slotsPerRound c (t.val / 4) := rfl
    rw [State.slotAt, hspr]
    simp only [State.slotNext, NatMap.get_put_same]
    exact Nat.mod_eq_of_lt (Nat.mod_lt _ hpos)
  case idle =>
    intro i hi hr
    have hany : (upTo 4).any (s.ctxRuns c (t.val / 4)) = true := List.any_eq_true.mpr ⟨i, List.mem_range.mpr hi, hr⟩
    simp only [State.slotIdle, State.coreIdle, hany, if_true]

/-- Settles O6. -/
theorem egretThreads : Obligations.EgretThreads := ⟨egretForksAndJoins, threadStart, egretSlots⟩

end Sys2Proof.Machine
end

section
/-! PROOFS. Channels and services of Egret threads, the disposal of cells and emits, and the ends of waits (spec/06 R196, R202,
R203; spec/07 R227, R233 to R250; spec/01 R22, R28, R36). -/
namespace Sys2Proof.Machine

/-! ### Sends and receives (R235) -/

section channels
variable {s : State} {c t id v : Nat} {x : Thread}

/-- Where no log is followed a send or receive may take place. -/
theorem chanMay_unfollowed (send : Bool) (h : s.chanFollows c t id = false) : s.chanMay c t id send = some false := by
  simp [State.chanMay, h]

theorem chanLoad_channel (s : State) (c : Nat) {id : Nat} (h : id < 0x3C0) : s.chanLoad c id = (s.chanAt c id).length := by
  simp [State.chanLoad, show id < 0x3F0 by omega]

theorem sendTry_full (v : Nat) (x : Thread) (h : 8 ≤ s.chanLoad c id) : s.sendTry c t x id v = none := by
  simp [State.sendTry, h]

theorem sendTry_channel (v : Nat) (x : Thread) (hid : id < 0x3C0) (hf : s.chanFollows c t id = false)
    (hr : (s.chanAt c id).length < 8) :
    s.sendTry c t x id v = some ((s.chanMark c t id 0xFFFF true false).chanPut c t id v) := by
  simp [State.sendTry, chanLoad_channel s c hid, Nat.not_le.mpr hr, chanMay_unfollowed true hf, show ¬ 0x3F0 ≤ id by omega]

theorem sendTry_service (v : Nat) (x : Thread) (hid : 0x3F0 ≤ id) (hf : s.chanFollows c t id = false)
    (hr : s.chanLoad c id < 8) :
    s.sendTry c t x id v = some ((s.chanMark c t id 0xFFFF true false).serviceSend c t x (id - 0x3F0) v) := by
  simp [State.sendTry, Nat.not_le.mpr hr, chanMay_unfollowed true hf, hid]

theorem recvTry_empty (a : Nat) (core : EgCore) (hid : id < 0x3C0) (he : s.chanAt c id = []) :
    s.recvTry c t x id a core = none := by
  simp [State.recvTry, State.chanTake, show id ≠ 0x3FF by omega, he]

/-- Four bytes within the frame are stored there alone. -/
theorem thPut_frame {s : State} {y : Thread} {a : Nat} {b : Byte} {l : List Byte} (ha : a + (b :: l).length ≤ 0x1000) :
    (s.thPut c t y a (b :: l)).1 = (s.wrChk (frameAddr c t + a) (b :: l) (y.who c t)).1 := by
  simp [State.thPut, regionPart_frame ha, regionPart_other ha]

theorem recvTry_takes {s₂ : State} {e : ChanEntry} {es : List ChanEntry} {y : Thread} {a : Nat} (core : EgCore) (hid : id < 0x3C0)
    (ha : a + 4 ≤ 0x1000) (hf : s.chanFollows c t id = false) (he : s.chanAt c id = e :: es)
    (hs : s₂ = ({ s with eg := { s.eg with chans := NatMap.put [] s.eg.chans (chanKey c id) es } } : State).chanMark
      c t id e.sender false false) (hy : s₂.threadAt c t = some y) :
    s.recvTry c t x id a core =
      some ((s₂.wrChk (frameAddr c t + a) (leBytes 4 e.value) (y.who c t)).1.thDone c t core) := by
  have hput : (s₂.thPut c t y a (leBytes 4 e.value)).1 = (s₂.wrChk (frameAddr c t + a) (leBytes 4 e.value) (y.who c t)).1 :=
    thPut_frame ha
  simp only [State.recvTry, chanMay_unfollowed false hf, State.chanTake, he, if_neg (show id ≠ 0x3FF by omega), ← hs, hy, hput]
  simp

/-- The bytes of the frame may be stored to (R198). -/
theorem findSome?_storeFault_frame {a n : Nat} (ha : a + n ≤ 0x1000) : (dataAddrs a n).findSome? (s.storeFault c x) = none :=
  List.findSome?_eq_none_iff.mpr fun k hk => by simp [State.storeFault, egRegion_dataAddrs ha hk]

theorem storeCheck_frame {a n : Nat} (ha : a + n ≤ 0x1000) : s.storeCheck c x a n = (s, none) := by
  have hfar : (dataAddrs a n).filter (fun k => egRegion k == 5) = [] :=
    List.filter_eq_nil_iff.mpr fun k hk => by simp [egRegion_dataAddrs ha hk]
  simp only [State.storeCheck, findSome?_storeFault_frame ha, hfar]

end channels

section rows
variable {s s' s₂ : State} {c : Fin 6} {t : Fin 32} {op : EgOp} {x : Thread} {w id a rd : Nat} {d : List Byte}
  {go : Thread → Nat → Nat → Nat → State → State}

/-- A send whose value has been read: the channel's checks. -/
theorem sendRow_runs (h : s.issuesSys s' c t op x w) (hi : op ≠ .illegal) (hc : chanFields w x.core = (id, a, rd))
    (hp : x.posted = []) (hr : s'.thReadAny c t x a 4 = (s₂, .data d)) :
    s.sendRow c t op go = (match s₂.chanCheck c x id true with
      | some cause => s₂.chanFault c t x.core cause id
      | none => if 0x3F0 ≤ id && 8 ≤ x.outstanding then s₂.chanFault c t x.core 4 id
          else go x id (ofLe d) rd s₂).slotIdle (.thread c t) := by
  rw [State.sendRow, sysRow_of_issues h hi]
  simp only [hc, hp, hr, List.isEmpty_nil, Bool.not_true, Bool.false_eq_true, if_false] <;> rfl

/-- One that passes them. -/
theorem sendRow_goes (h : s.issuesSys s' c t op x w) (hi : op ≠ .illegal) (hc : chanFields w x.core = (id, a, rd))
    (hp : x.posted = []) (hr : s'.thReadAny c t x a 4 = (s₂, .data d)) (hk : s₂.chanCheck c x id true = none)
    (ho : id < 0x3F0 ∨ x.outstanding < 8) : s.sendRow c t op go = (go x id (ofLe d) rd s₂).slotIdle (.thread c t) := by
  have hn : ¬ (decide (0x3F0 ≤ id) && decide (8 ≤ x.outstanding)) = true := by
    simp only [Bool.and_eq_true, decide_eq_true_eq]; omega
  rw [sendRow_runs h hi hc hp hr, hk]
  simp only [if_neg hn]

/-- A receive to the frame that passes the channel's checks. -/
theorem recvRow_goes (h : s.issuesSys s' c t op x w) (hi : op ≠ .illegal) (hc : chanFields w x.core = (id, a, rd))
    (ha : a + 4 ≤ 0x1000) (hk : s'.chanCheck c x id false = none) :
    s.recvRow c t op go = (go x id a rd s').slotIdle (.thread c t) := by
  rw [State.recvRow, sysRow_of_issues h hi]
  simp only [hc, storeCheck_frame ha, hk]

end rows

theorem egretChannelWords : Sys2Proof.Parts.EgretChannelWords := by
  intro s s' s2 c t x w id a rd d hc hid
  simp only [exec, execSend, execSendq, execSendUnblock, execRecv, execRecvq, execRecvUnblock, Host.Outcome.next.injEq]
  have hlt : id < 0x3F0 ∨ x.outstanding < 8 := .inl (by omega)
  refine ⟨fun h hp hr hk hf hn => ?send, fun h hp hr hk hn => ?sendWaits, fun h hp hr hk hf hn => ?sendq,
    fun h hp hr hk hf hn => ?sendqFails, fun v hx hw hl hf hn => ?sendUnblock, fun h ha hk he hf => ?recvWaits,
    fun e es y h ha hk he hf hs hy => ?recv, fun e es y h ha hk he hf hs hy => ?recvq, fun h ha hk he hf => ?recvqFails,
    fun e es y b hx hw hb hl he hf hs hy => ?recvUnblock⟩
  case send =>
    rw [doSend, sendRow_goes h (by decide) hc hp hr hk hlt]
    simp only [sendTry_channel _ _ hid hf hn]
  case sendWaits =>
    rw [doSend, sendRow_goes h (by decide) hc hp hr hk hlt]
    simp only [sendTry_full _ _ ((chanLoad_channel s2 c hid).symm ▸ hn)]
  case sendq =>
    rw [doSendq, sendRow_goes h (by decide) hc hp hr hk hlt]
    simp only [chanMay_unfollowed true hf, sendTry_channel _ _ hid hf hn]
  case sendqFails =>
    rw [doSendq, sendRow_goes h (by decide) hc hp hr hk hlt]
    simp only [chanMay_unfollowed true hf, sendTry_full _ _ ((chanLoad_channel s2 c hid).symm ▸ hn), hf, Bool.false_eq_true,
      if_false]
  case sendUnblock =>
    refine ⟨_, rfl, ?_⟩
    simp only [doSendUnblock, hx, hw, waitMay_unlimited ((waitLimit_of hx).trans hl), sendTry_channel _ _ hid hf hn,
      Bool.not_true, Bool.false_eq_true, if_false]
  case recvWaits =>
    rw [doRecv, recvRow_goes h (by decide) hc ha hk]
    simp only [recvTry_empty _ _ hid he]
  case recv =>
    rw [doRecv, recvRow_goes h (by decide) hc ha hk]
    simp only [recvTry_takes _ hid ha hf he hs hy]
  case recvq =>
    rw [doRecvq, recvRow_goes h (by decide) hc ha hk]
    simp only [chanMay_unfollowed false hf, recvTry_takes _ hid ha hf he hs hy]
  case recvqFails =>
    rw [doRecvq, recvRow_goes h (by decide) hc ha hk]
    simp only [chanMay_unfollowed false hf, recvTry_empty _ _ hid he, hf, Bool.false_eq_true, if_false]
  case recvUnblock =>
    simp only [doRecvUnblock, hx, hw, waitMay_unlimited ((waitLimit_of hx).trans hl), recvTry_takes _ hid hb hf he hs hy,
      findSome?_storeFault_frame hb, Bool.not_true, Bool.false_eq_true, if_false]

theorem egretServiceSends : Sys2Proof.Parts.EgretServiceSends := by
  intro s s' s2 c t x w id a rd d hc hid hp hr hf
  simp only [exec, execSend, execSendq, Host.Outcome.next.injEq]
  refine ⟨fun h hk ho hn => ?send, fun h hk ho hn => ?waits, fun h hk ho hn => ?fails, fun h hk ho => ?outstanding,
    fun cause h hk => ?check⟩
  case send =>
    rw [doSend, sendRow_goes h (by decide) hc hp hr hk (.inr ho)]
    simp only [sendTry_service _ _ hid hf hn]
  case waits =>
    rw [doSend, sendRow_goes h (by decide) hc hp hr hk (.inr ho)]
    simp only [sendTry_full _ _ hn]
  case fails =>
    rw [doSendq, sendRow_goes h (by decide) hc hp hr hk (.inr ho)]
    simp only [chanMay_unfollowed true hf, sendTry_full _ _ hn, hf, Bool.false_eq_true, if_false]
  case outstanding =>
    rw [doSend, sendRow_runs h (by decide) hc hp hr, hk]
    simp only [hid, ho, decide_true, Bool.and_true, if_true]
  case check => rw [doSend, sendRow_runs h (by decide) hc hp hr, hk]

/-- Settles O7. -/
theorem egretChannels : Obligations.EgretChannels := ⟨egretChannelWords, egretServiceSends⟩

/-! ### Forwards, consumes and emits (R28, R36, R227, R250) -/

/-- An emit whose descriptor is read, that is in order and finds room. -/
theorem emitWord_goes {s s₃ : State} {c t rd : Nat} {x : Thread} {d p : List Byte} {k : Cell} {e : Emit}
    (hk : s.cellAt x.gseq = some k)
    (hp : (leAt d 0x0A 2 = 0 ∧ p = [] ∧ s₃ = s) ∨ (0 < leAt d 0x0A 2 ∧ oneRegion (leAt d 0x0C 2) (leAt d 0x0A 2) = true ∧
        s.thRead c t x (leAt d 0x0C 2) (leAt d 0x0A 2) = (s₃, .data p)))
    (hst : emitStatus k (leAt d 0 2 % 0x1000) (leAt d 2 1) (leAt d 0x0A 2) = 0)
    (he : e = { stream := leAt d 0 2 % 0x1000, sub := leAt d 2 1, rel := if bitAt (leAt d 3 1) 0 then some (leAt d 4 6) else none
                metaBytes := (d.drop 0x10).take 16, payload := p })
    (hroom : s₃.emitRoom x.gseq e = true) : s.emitWord c t x rd d = s₃.emitGo c t x rd e := by
  subst he
  rcases hp with ⟨hlen, rfl, rfl⟩ | ⟨hlen, hone, hread⟩
  · rw [hlen] at hst
    simp [State.emitWord, hk, hlen, hst, hroom]
  · simp [State.emitWord, hk, hone, hst, show leAt d 0x0A 2 ≠ 0 by omega, hread, hroom]

theorem weirWaitEnd_emit {s : State} {c : Fin 6} {t : Fin 32} {x : Thread} {rd : Nat} {e : Emit}
    (hx : s.threadAt c t = some x) (hw : x.wait = some (.emit rd e)) :
    doWeirWaitEnd (.thread c t) s = s.emitAgain c t x rd e := by
  simp only [doWeirWaitEnd, hx, hw]

/-- Settles O8. -/
theorem egretDisposal : Obligations.EgretDisposal := by
  intro s s' s2 c t x w
  simp only [exec, execFwd, execConsume, execEmit, execWeirWaitEnd, Host.Outcome.next.injEq]
  refine ⟨fun h hm hp hf => ?fwd, fun h hm hp hf => ?fwdWaits, fun h hm => ?fwdFault, fun k h hm hk => ?consume,
    fun h hm => ?consumeFault, fun d k p s3 h hp hone hr hk hpay hst e he hroom => ?emit, fun hx hw hf => ?fwdEnds,
    fun rd e k hx hw hroom hk hst => ?emitEnds, fun rd e k st hx hw hk hst h0 h4 => ?emitRefused⟩
  case fwd =>
    rw [doFwd, sysRow_of_issues h (by decide), if_neg (by simp [hm]), if_neg (by simp [hp])]
    simp only [hf]
  case fwdWaits =>
    rw [doFwd, sysRow_of_issues h (by decide), if_neg (by simp [hm]), if_neg (by simp [hp])]
    simp only [hf]
  case fwdFault => rw [doFwd, sysRow_of_issues h (by decide), if_pos (by simp [hm])]
  case consume =>
    rw [doConsume, sysRow_of_issues h (by decide), if_neg (by simp [hm])]
    simp only [hk]
  case consumeFault => rw [doConsume, sysRow_of_issues h (by decide), if_pos (by simp [hm])]
  case emit =>
    rw [doEmit, sysRow_of_issues h (by decide)]
    simp only [hp, hone, hr, List.isEmpty_nil, Bool.not_true, Bool.false_eq_true, if_false]
    rw [emitWord_goes hk hpay hst he hroom]
  case fwdEnds => simp only [doWeirWaitEnd, hx, hw, hf]
  case emitEnds => rw [weirWaitEnd_emit hx hw]; simp [State.emitAgain, hk, hst, hroom]
  case emitRefused => rw [weirWaitEnd_emit hx hw]; simp [State.emitAgain, hk, hst, h0, h4]

/-! ### The ends of waits (R202, R203, R239, R249) -/

theorem limitDue_passed {s : State} {c t lim : Nat} {x : Thread} (hl : x.waitlim = lim) (h0 : lim ≠ 0)
    (hf : s.followsSite 0x0A (fun e => e.master == egId c t) = false) (hlt : x.since + 1000 * lim < s.now) :
    s.limitDue c t x = true := by
  simp [State.limitDue, hl, h0, hf, hlt]

/-- Settles O9. -/
theorem egretWaitEnds : Obligations.EgretWaitEnds := by
  intro s s' c t x hx
  simp only [exec, execFarLoadData, execPostedStoreComplete, execTimePortSample, execWaitLimitExpiry, Host.Outcome.next.injEq]
  refine ⟨fun l dev n d hw hr => ?far, fun l dev n id a hw ha hd hb => ?queued, fun l dev n id a hw ha hd hb => ?failed,
    fun p ps hp hacc => ?posted, fun l two hw hf => ?sample, fun id v lim hw hl h0 hf hlt => ?send,
    fun id a lim hw hl h0 hf hlt => ?recv⟩
  case far => simp only [doFarLoadData, hx, hw, hr]
  case queued => simp [doFarLoadData, hx, hw, ha, hd, hb]
  case failed => simp [doFarLoadData, hx, hw, ha, hd, hb]
  case posted => simp [doPostedStoreComplete, hx, hp, hacc]
  case sample => simp [doTimePortSample, hx, hw, hf]
  case send => simp [doWaitLimitExpiry, hx, hw, limitDue_passed hl h0 hf hlt]
  case recv => simp [doWaitLimitExpiry, hx, hw, limitDue_passed hl h0 hf hlt]

end Sys2Proof.Machine
end

section
/-! PROOFS. The Intake (spec/01 R17, R21; spec/14 R452, R453; spec/02 R599). -/
namespace Sys2Proof.Machine

/-! ### What the Intake accepts -/

section accept
variable {s s₂ : State} {src : Source} {r : IngressRec} {rest : List IngressRec} {x : Input}

theorem doIntakeAccept_of_offer (hf : s.intakeFollows = false) (hs : s.intakeStopped = false) (hfair : s.fairTo src = true)
    (ho : s.offerOf src = some x) :
    doIntakeAccept src s = (((s.countPass src).takeInput src).makeCell x).sendIngress s.nextGseq x := by
  simp [doIntakeAccept, hf, hs, hfair, ho]

theorem doIntakeAccept_of_no_offer (hf : s.intakeFollows = false) (ho : s.offerOf src = none) : doIntakeAccept src s = s := by
  simp [doIntakeAccept, hf, ho]

theorem intakeFollows_of_shadow (hm : s.mode = .shadow) : s.intakeFollows = true := by simp [State.intakeFollows, hm]

theorem intakeFollows_of_replay (hm : s.mode = .replay) : s.intakeFollows = true := by simp [State.intakeFollows, hm]

/-- Only a replay paces its records. -/
theorem recordDue_of_shadow (hm : s.mode = .shadow) (r : IngressRec) : s.recordDue r = true := by simp [State.recordDue, hm]

theorem doIntakeAccept_of_shadow (hm : s.mode = .shadow) (hrole : s.ford.role ≠ .syncing) (hr : s.ford.records = r :: rest)
    (hck : s.bt.ckpt ≠ 1) (hb : (upTo 16).all (fun k => s.blockOut 3 k) = false) (hroom : s.pbufRoom r.payload = true) :
    doIntakeAccept src s = ({ s with ford := { s.ford with records := rest } } : State).takeRecord r := by
  simp [doIntakeAccept, intakeFollows_of_shadow hm, recordDue_of_shadow hm, hm, hrole, hr, hck, hb, hroom]

theorem doIntakeAccept_of_replay {ok : Bool} (hm : s.mode = .replay) (hr : s.replay.records = r :: rest)
    (hrd : s.recordRead r = (s₂, ok)) (hck : s.bt.ckpt ≠ 1) (hb : (upTo 16).all (fun k => s.blockOut 3 k) = false)
    (hroom : s.pbufRoom r.payload = true) (hdue : s.recordDue r = true) :
    doIntakeAccept src s = if ok then ({ s₂ with replay := { s₂.replay with records := rest } } : State).takeRecord r
      else s₂.caseError r := by
  cases ok <;> simp [doIntakeAccept, intakeFollows_of_replay hm, hm, hr, hrd, hck, hb, hroom, hdue]

end accept

theorem intakeAccepts : Sys2Proof.Parts.IntakeAccepts := fun _ src =>
  ⟨fun _ hf hs hfair ho => congrArg Host.Outcome.next (doIntakeAccept_of_offer hf hs hfair ho),
    fun hf ho => congrArg Host.Outcome.next (doIntakeAccept_of_no_offer (src := src) hf ho),
    fun _ _ hm hrole hr hck hb hroom => congrArg Host.Outcome.next (doIntakeAccept_of_shadow hm hrole hr hck hb hroom),
    fun _ _ _ hm hr hrd hck hb hroom hdue => congrArg Host.Outcome.next (doIntakeAccept_of_replay hm hr hrd hck hb hroom hdue),
    fun _ _ _ hm hr hrd hck hb hroom hdue => congrArg Host.Outcome.next (doIntakeAccept_of_replay hm hr hrd hck hb hroom hdue)⟩

/-! ### Fairness (R599) -/

theorem mem_allSources (y : Source) : y ∈ allSources := by
  cases y <;> simp [allSources]

/-- A source that waits is counted among those that an acceptance from another passes over. -/
theorem mem_waitCounts {s : State} {x y : Source} (hne : x ≠ y) (ho : (s.offerOf y).isSome = true) :
    NatMap.get 0 s.passedOver (srcNum y) ∈ s.waitCounts x :=
  List.mem_map.mpr ⟨y, List.mem_filter.mpr ⟨mem_allSources y, by simp [hne.symm, ho]⟩, rfl⟩

theorem fairTo_false {s : State} {x : Source} {n : Nat} (hmem : n ∈ s.waitCounts x) (h16 : 16 ≤ n)
    (hlt : NatMap.get 0 s.passedOver (srcNum x) < n) : s.fairTo x = false := by
  have hlate : (s.waitCounts x).all (fun c => decide (c < 16)) = false :=
    List.all_eq_false.mpr ⟨n, hmem, by simpa using h16⟩
  have hmost : (s.waitCounts x).all (fun c => decide (c ≤ NatMap.get 0 s.passedOver (srcNum x))) = false :=
    List.all_eq_false.mpr ⟨n, hmem, by simpa using hlt⟩
  simp only [State.fairTo, hlate, hmost, Bool.and_false, Bool.or_false]
  exact List.all_eq_false.mpr ⟨0, by simp [upTo], by simp⟩

theorem fairTo_of_most {s : State} {x : Source}
    (h : ∀ z, NatMap.get 0 s.passedOver (srcNum z) ≤ NatMap.get 0 s.passedOver (srcNum x)) : s.fairTo x = true := by
  have hmost : (s.waitCounts x).all (fun c => decide (c ≤ NatMap.get 0 s.passedOver (srcNum x))) = true := by
    refine List.all_eq_true.mpr fun c hc => ?_
    obtain ⟨z, -, rfl⟩ := List.mem_map.mp hc
    exact decide_eq_true (h z)
  simp [State.fairTo, hmost]

theorem intakeFairness : Sys2Proof.Parts.IntakeFairness := fun _ _ _ hne ho =>
  ⟨fun h16 hlt => fairTo_false (mem_waitCounts hne ho) h16 hlt, fairTo_of_most⟩

/-! ### The cell (R17, R21) -/

theorem acceptedCellHeader : Sys2Proof.Parts.AcceptedCellHeader := by
  intro s x hx
  unfold State.makeCell
  simp only [hx]
  refine ⟨_, _, rfl, rfl, rfl, rfl, rfl, rfl, rfl, rfl, rfl, rfl, rfl, rfl, ?closed, ?wait⟩
  case closed => intro h; simp [h]
  case wait => intro h hb; simp [Nat.not_le.mpr h, hb]

/-- Settles O10: the Intake's branches, its fairness from the counts of the sources that wait, and the cell it builds. -/
theorem intakeCells : Obligations.IntakeCells := ⟨intakeAccepts, intakeFairness, acceptedCellHeader⟩

end Sys2Proof.Machine
end

section
/-! PROOFS. A Heron's parse (spec/05 R154 to R161; spec/04 R125). -/
namespace Sys2Proof.Machine

section
variable {s s' s₂ : State} {k : Fin 16} {r : HeronRun} {w : Nat} {l : List Byte}

/-- A Heron's word runs on its parse. -/
theorem hnRow_of_issues {op : EgOp} {body : HeronRun → EgCore → Nat → State → State} (h : s.issues s' (.heron k) r.core w)
    (ho : egOp true w = op) (hi : op ≠ .illegal) (hr : s'.heronAt k = some r) : s.hnRow k op body = body r r.core w s' := by
  rw [State.hnRow, egRow_of_issues h ho hi]
  simp [hr, State.slotIdle]

/-- A change of a parse depends on the parse that stands. -/
theorem modHeron_congr {f g : HeronRun → HeronRun} (hr : s.heronAt k = some r) (h : f r = g r) :
    s.modHeron k f = s.modHeron k g := by
  simp [State.modHeron, hr, h]

theorem doKmov_writes (h : s.issues s' (.heron k) r.core w) (ho : egOp true w = .kmov) (hr : s'.heronAt k = some r)
    (hfit : bitsOf w 20 5 + bitsOf w 16 4 + 1 ≤ 24)
    (hread : s'.hnRead r (ptrAdd (r.core.ptr (bitsOf w 14 2)) (bitsOf w 0 12)) (bitsOf w 16 4 + 1) = (s₂, some l)) :
    doKmov k s = (s₂.modHeron k fun r =>
      { r with key := putBits r.key (8 * bitsOf w 20 5) (8 * (bitsOf w 16 4 + 1)) (ofLe l) }).setCore (.heron k) r.core.next := by
  rw [doKmov, hnRow_of_issues h ho (by decide) hr]
  simp only [if_neg (show ¬ 24 < bitsOf w 20 5 + (bitsOf w 16 4 + 1) by omega), hread]

theorem doKmov_outside (h : s.issues s' (.heron k) r.core w) (ho : egOp true w = .kmov) (hr : s'.heronAt k = some r)
    (hout : 24 < bitsOf w 20 5 + bitsOf w 16 4 + 1) : doKmov k s = s'.abortParse k 2 := by
  rw [doKmov, hnRow_of_issues h ho (by decide) hr]
  exact if_pos (by omega)

theorem doKput_writes (h : s.issues s' (.heron k) r.core w) (ho : egOp true w = .kput) (hr : s'.heronAt k = some r)
    (hfit : bitsOf w 20 5 < 24) :
    doKput k s = (s'.modHeron k fun r => { r with
      key := putBits r.key (8 * bitsOf w 20 5) 8 (putMask (bitsOf r.key (8 * bitsOf w 20 5) 8) (bitsOf w 8 8)
        (if bitAt w 19 then bitsOf w 0 8 else r.core.reg (bitsOf w 16 3))) }).setCore (.heron k) r.core.next := by
  rw [doKput, hnRow_of_issues h ho (by decide) hr]
  dsimp only
  rw [if_neg (Nat.not_le.mpr hfit)]
  exact congrArg (State.setCore · (.heron k) r.core.next) (modHeron_congr hr rfl)

theorem doKput_outside (h : s.issues s' (.heron k) r.core w) (ho : egOp true w = .kput) (hr : s'.heronAt k = some r)
    (hout : 24 ≤ bitsOf w 20 5) : doKput k s = s'.abortParse k 2 := by
  rw [doKput, hnRow_of_issues h ho (by decide) hr]
  exact if_pos hout

theorem doKend_submits (h : s.issues s' (.heron k) r.core w) (ho : egOp true w = .kend) (hr : s'.heronAt k = some r)
    (hp : bitAt w 23 = false) :
    doKend k s = (((s'.modCell r.gseq fun c => { c with
      stage := .held k (if bitAt w 24 then .null else .key r.key) }).classifyCell r.gseq).reap.trimOld).weirRun := by
  rw [doKend, hnRow_of_issues h ho (by decide) hr]
  simp [hp]

/-- A list is split at the first element that fails a test. -/
theorem span_eq_takeWhile_dropWhile {α : Type} (p : α → Bool) (l : List α) : l.span p = (l.takeWhile p, l.dropWhile p) := by
  have hloop : ∀ (l acc : List α), List.span.loop p l acc = (acc.reverse ++ l.takeWhile p, l.dropWhile p) := by
    intro l
    induction l with
    | nil => intro acc; simp [List.span.loop]
    | cons x l ih =>
      intro acc
      cases hx : p x with
      | true => simp [List.span.loop, hx, ih]
      | false => simp [List.span.loop, hx]
  exact hloop l []

/-- With a probe (R160): the probe waits among those that are held, in the order of GSEQ. -/
theorem doKend_probes {p : Probe} (h : s.issues s' (.heron k) r.core w) (ho : egOp true w = .kend) (hr : s'.heronAt k = some r)
    (hp : bitAt w 23 = true) (hread : s'.hnRead r (ptrAdd (r.core.ptr (bitsOf w 14 2)) (bitsOf w 0 12)) 6 = (s₂, some l))
    (hprobe : s₂.probeOf r (ofLe l) = some p) {held : List (Nat × Probe)}
    (hheld : held = s₂.learn.held.takeWhile (fun x => before48 x.1 r.gseq) ++ (r.gseq, p) ::
      s₂.learn.held.dropWhile (fun x => before48 x.1 r.gseq)) :
    doKend k s = (((({ s₂ with learn := { s₂.learn with held := held } } : State).modCell r.gseq fun c => { c with
      stage := .held k (if bitAt w 24 then .null else .key r.key) }).classifyCell r.gseq).reap.trimOld).weirRun := by
  rw [doKend, hnRow_of_issues h ho (by decide) hr]
  simp [hp, hread, hprobe, hheld, span_eq_takeWhile_dropWhile]

theorem doStepLimitAbort_aborts {c : Cell} (hr : s.heronAt k = some r) (hc : s.cellAt r.gseq = some c)
    (hst : c.stage = .parsing k) (hlim : r.limit ≤ r.steps) : doStepLimitAbort k s = s.abortParse k 1 := by
  simp [doStepLimitAbort, hr, hc, hst, hlim]

theorem doHeronParseStart_starts {c : Cell} (hfree : s.heronAt k = none) (hrun : s.runningBlock 3 k = true)
    (hc : s.cells.find? (fun c => c.stage == .waiting) = some c) :
    doHeronParseStart k s = ({ s with eg := { s.eg with herons := NatMap.ins s.eg.herons k {
      gseq := c.hdr.gseq
      core := { pc := s.regAtEpoch c.epoch (0x001A0010 + 4 * (c.hdr.src / 0x1000)) % 0x1000, p := [(0, 0x1040), (1, 0x1000)] }
      limit := max 64 (s.fld hnCtl 16 12), vlan := s.frameVlan c } } } : State).modCell c.hdr.gseq
        fun c => { c with stage := .parsing k } := by
  simp [doHeronParseStart, hfree, hrun, hc]

end

section
variable {s : State} {c : Cell} {q : Nat} (hsrc : c.hdr.src / 0x1000 = 1) (hq : q = 0x00160000 + 0x100 * (c.hdr.src % 0x1000))
include hsrc hq

theorem frameVlan_untagged (ht : beAt c.payload 12 2 ≠ 0x8100) : s.frameVlan c = some (s.fld q 4 12, s.fld q 16 3) := by
  simp [State.frameVlan, hsrc, ht, hq]

theorem frameVlan_priorityTagged (ht : beAt c.payload 12 2 = 0x8100) (hvid : beAt c.payload 14 2 % 0x1000 = 0) :
    s.frameVlan c = some (s.fld q 4 12, beAt c.payload 14 2 / 0x2000) := by
  simp [State.frameVlan, hsrc, ht, hq, hvid]

end

/-- Settles O11: each of a Heron's rows runs its body on the parse that stands. -/
theorem heronParse : Obligations.HeronParse := by
  intro s s' s2 k r w l
  refine ⟨?start, fun h ho hr hfit hread => congrArg Host.Outcome.next (doKmov_writes h ho hr hfit hread),
    fun h ho hr hout => congrArg Host.Outcome.next (doKmov_outside h ho hr hout),
    fun h ho hr hfit => congrArg Host.Outcome.next (doKput_writes h ho hr hfit),
    fun h ho hr hout => congrArg Host.Outcome.next (doKput_outside h ho hr hout),
    fun h ho hr hp => congrArg Host.Outcome.next (doKend_submits h ho hr hp), ?probe,
    fun c hr hc hst hlim => congrArg Host.Outcome.next (doStepLimitAbort_aborts hr hc hst hlim),
    fun c _ hsrc q hq => ⟨frameVlan_untagged hsrc hq, frameVlan_priorityTagged hsrc hq⟩⟩
  case start =>
    rintro c _ hfree hrun hc rfl _ rfl
    exact congrArg Host.Outcome.next (doHeronParseStart_starts hfree hrun hc)
  case probe =>
    rintro p h ho hr hp hread hprobe l' hl' _ rfl
    exact congrArg Host.Outcome.next (doKend_probes h ho hr hp hread hprobe hl')

end Sys2Proof.Machine
end

section
/-! PROOFS. Learning, commits, the scrubber of Shoal and dispatch (spec/04 R129 to R134; spec/05 R170 to R178; spec/07 R222). -/
namespace Sys2Proof.Machine

/-! ### Learning and Avocet -/

section learning
variable {s : State}

theorem doLearningProbe_done {p : Probe} {ps : List LearnItem} {t : State} (hon : s.bit lrnCtl 0 = true) (hc : s.commits = [])
    (hq : s.learn.queue = .probe p :: ps) (ht : s.doProbe p = some t) :
    doLearningProbe s = { t with learn := { t.learn with queue := ps } } := by
  simp [doLearningProbe, hon, hc, hq, ht]

theorem doLearningCommit_due (hf : s.followsLog = false) (hon : s.bit lrnCtl 0 = true) (hset : s.learn.set_ ≠ [])
    (hm : s.markers.any (·.learning) = false)
    (hdue : s.learn.lastCommit + 1000 * s.fld lrnCtl 16 10 ≤ s.now ∨ 256 ≤ s.learn.set_.length) :
    doLearningCommit s =
      { s with markers := s.markers ++ [⟨true, []⟩], learn := { s.learn with lastCommit := s.now } } := by
  have hd : (decide (s.learn.lastCommit + 1000 * s.fld lrnCtl 16 10 ≤ s.now) || decide (256 ≤ s.learn.set_.length)) = true := by
    simpa using hdue
  unfold doLearningCommit
  simp only [hd, hf, hon, hm, List.isEmpty_eq_false_iff.mpr hset]
  rfl

theorem doAvocetPass_starts (hon : s.bit 0x00188000 0 = true) (hf : s.followsLog = false) (hp : s.learn.passAt = none)
    (hdue : s.learn.lastPass + 1000000000 * clampNat 1 3600 (s.fld 0x00188004 0 12) ≤ s.now) :
    doAvocetPass s = State.avocetFrom (s.tables.station.map (·.1)) { s with learn := { s.learn with lastPass := s.now } } := by
  simp only [doAvocetPass, hon, hf, hp, if_neg (Nat.not_lt.mpr hdue)]
  rfl

theorem doAvocetPass_goes_on {st : Nat} (hon : s.bit 0x00188000 0 = true) (hf : s.followsLog = false)
    (hp : s.learn.passAt = some st) :
    doAvocetPass s = State.avocetFrom ((s.tables.station.map (·.1)).filter fun k => decide (st ≤ k)) s := by
  simp [doAvocetPass, hon, hf, hp]

/-- R134: a dynamic station that the learning set does not name ages by its flags. -/
theorem avocetVisit_dynamic {st e : Nat} (he : e = NatMap.get 0 s.tables.station st)
    (hskip : s.bit 0x00188000 (if st < 512 then 1 else 2) = false) (hv : stValid e = true) (hst : stStatic e = false)
    (hset : NatMap.has s.learn.set_ st = false) :
    s.avocetVisit st =
      if stHit e then some (s.putStation st (putBits (putBits e 74 1 0) 75 1 0))
      else if !stAged e then some (s.putStation st (putBits e 75 1 1))
      else if s.stationWaits st then none
      else some ((s.stageStation st 0).bump 0x00160924) := by
  subst he
  simp [State.avocetVisit, hskip, hv, hst, hset]

end learning

/-! ### Commits -/

/-- Writing registers changes the registers alone. -/
theorem foldl_setReg_regsOnly (l : List (Nat × Nat × Nat)) : ∀ s : State,
    RegsOnly s (l.foldl (fun s r => s.setReg r.1 (putMask (s.regW r.1) r.2.1 r.2.2)) s) := by
  induction l with
  | nil => exact RegsOnly.refl
  | cons r l ih =>
    intro s
    obtain ⟨rg, h⟩ := ih (s.setReg r.1 (putMask (s.regW r.1) r.2.1 r.2.2))
    exact ⟨rg, by rw [List.foldl_cons, h]; rfl⟩

theorem doCommitTakeover_takes {s v : State} {x : Commit} (hx : s.commits.find? (fun c => !c.takenOver) = some x)
    (hc : (s.cells.any fun c => before48 c.hdr.gseq x.gseq && !c.classifiedYet) = false)
    (hv : v = (s.keepMarks x.edited).rewritten x.edited) :
    ∃ rg, doCommitTakeover s = (({ v with
      oldTables := v.oldTables ++ [(v.epoch, v.tables)], tables := v.takeoverTables x.tables, epoch := x.epoch
      commits := v.commits.map fun c => if c.gseq == x.gseq then { c with takenOver := true } else c
      regs := rg } : State).trimOld).classifyReady := by
  unfold doCommitTakeover
  simp only [hx, hc, ← hv, Bool.false_eq_true, if_false]
  obtain ⟨rg, h⟩ := foldl_setReg_regsOnly x.regs { v with
    oldTables := v.oldTables ++ [(v.epoch, v.tables)], tables := v.takeoverTables x.tables, epoch := x.epoch
    commits := v.commits.map fun c => if c.gseq == x.gseq then { c with takenOver := true } else c }
  exact ⟨rg, by rw [h]⟩

theorem doStagedReloadDone_last {s : State} {c : Commit} (hc : s.commits = [c]) (ht : c.takenOver = true) (ha : c.askers = [])
    (hl : s.lateStages = []) : doStagedReloadDone s = { s with commits := [], lateStages := [] } := by
  simp [doStagedReloadDone, hc, ht, ha, hl]

/-! ### Shoal's scrubber (R178) -/

theorem scrubTurn_ecc {s s₂ : State} {k n period i : Nat} (h : s.scrubTurn k n period i = some s₂) : s₂.ecc = s.ecc := by
  unfold State.scrubTurn at h
  simp only at h
  split at h
  · cases h; rfl
  · cases h

theorem setEcc_zero_clean {s : State} (h : s.ecc = []) (a : Nat) : s.setEcc a 0 = s := by
  cases s
  cases h
  rfl

theorem eccAt_clean {s : State} (h : s.ecc = []) (a : Nat) : s.eccAt a = 0 := by simp [State.eccAt, h]

/-- Reading an entry whose granules carry no marks changes nothing. -/
theorem shoalChk_of_unmarked {s : State} {e : Nat} (h : s.badGranules (shoalBase + 64 * e) 64 = []) : s.shoalChk e = s := by
  simp [State.shoalChk, h]

theorem shoalVisit_clean {s : State} (h : s.ecc = []) (e g : Nat) : s.shoalVisit e g 0 = s := by
  simp only [State.shoalVisit, eccAt_clean h, Nat.max_self, setEcc_zero_clean h,
    shoalChk_of_unmarked (badGranules_clean h _ _), badGranules_clean h]
  cases NatMap.get none s.staged.shoal e <;> rfl

/-- One mark alone. -/
theorem setEcc_one_clean {s : State} (h : s.ecc = []) (a : Nat) : (s.setEcc a 1).ecc = [(a / 8, 1)] := by
  simp [State.setEcc, h, NatMap.put, NatMap.ins]

/-- A mark beyond the bytes read is not met. -/
theorem badGranules_setEcc_beyond {s : State} (h : s.ecc = []) {a b n : Nat} (hout : (b + n - 1) / 8 < a / 8) :
    (s.setEcc a 1).badGranules b n = [] := by
  simp [State.badGranules, setEcc_one_clean h, Nat.not_le.mpr hout]

/-- A mark in the first granule that is read is met. -/
theorem badGranules_setEcc_first {s : State} (h : s.ecc = []) {a n : Nat} (hal : a % 8 = 0) (hn : n ≠ 0) :
    (s.setEcc a 1).badGranules a n = [(a, 1)] := by
  have hin : a / 8 ≤ (a + n - 1) / 8 := Nat.div_le_div_right (by omega)
  simp [State.badGranules, setEcc_one_clean h, hin, hn, Nat.mul_div_cancel' (Nat.dvd_of_mod_eq_zero hal)]

/-- A single-bit upset of a staged entry that is not edited is counted and corrected. -/
theorem shoalVisit_single {s : State} (h : s.ecc = []) {e : Nat} (hs : NatMap.get none s.staged.shoal e = none) :
    s.shoalVisit e 8 1 = ((s.setEcc (shoalBase + 0x40000 + 64 * e) 1).eccNote 1 (shoalBase + 0x40000 + 64 * e)).setEcc
      (shoalBase + 0x40000 + 64 * e) 0 := by
  unfold State.shoalVisit
  extract_lets +onlyGivenNames staged a
  have hactive : (s.setEcc staged 1).badGranules (shoalBase + 64 * e) 64 = [] :=
    badGranules_setEcc_beyond h (by unfold staged shoalBase; omega)
  have hstaged : (s.setEcc staged 1).badGranules staged 64 = [(staged, 1)] :=
    badGranules_setEcc_first h (by unfold staged shoalBase; omega) (by decide)
  have ha : a = staged := by
    unfold a
    rw [if_neg (Nat.lt_irrefl 8)]
    rfl
  change _ = ((s.setEcc staged 1).eccNote 1 staged).setEcc staged 0
  clear_value a staged
  have hs' : NatMap.get none (s.setEcc staged 1).staged.shoal e = none := hs
  simp only [ha, eccAt_clean h, shoalChk_of_unmarked hactive, hstaged, hs', Nat.max_zero]
  rfl

theorem doShoalScrubVisit_of_turn {s s₂ : State} {e : Nat} (h : s.scrubTurn shoalBase 4096 10000000 e = some s₂) (g u : Nat) :
    doShoalScrubVisit e g u s = s₂.shoalVisit e g u := by
  simp [doShoalScrubVisit, h]

theorem doShoalScrubVisit_of_no_turn {s : State} {e : Nat} (h : s.scrubTurn shoalBase 4096 10000000 e = none) (g u : Nat) :
    doShoalScrubVisit e g u s = s := by
  simp [doShoalScrubVisit, h]

/-! ### Dispatch (R170, R222) -/

section dispatch
variable {s : State}

theorem entryChk_clean (h : s.ecc = []) (epoch a : Nat) (g : Option Nat) : s.entryChk epoch a g = (s, false) := by
  simp [State.entryChk, State.tableChk, rdChk_clean h]

/-- Reading the actions of cells that are pending in the Weir changes nothing where no granule is marked. -/
theorem foldl_actionChk_clean (h : s.ecc = []) {l : List Cell} (hl : ∀ c ∈ l, s.pendingStands c = true) :
    l.foldl (fun s c => (s.actionChk c).restorePending c) s = s := by
  induction l with
  | nil => rfl
  | cons c l ih =>
    have hc : (s.actionChk c).restorePending c = s := by
      simp [State.actionChk, entryChk_clean h, State.restorePending, hl c List.mem_cons_self]
    rw [List.foldl_cons, hc]
    exact ih fun d hd => hl d (List.mem_cons_of_mem _ hd)

theorem find?_dispatch {l : List Cell} {f : Cell → Bool} (hl : ∀ c ∈ l, s.pendingStands c = true) :
    l.find? (fun c => s.actionBad c || (s.pendingStands c && f c)) = l.find? (fun c => s.actionBad c || f c) := by
  induction l with
  | nil => rfl
  | cons c l ih =>
    rw [List.find?_cons, List.find?_cons, hl c List.mem_cons_self, Bool.true_and,
      ih fun d hd => hl d (List.mem_cons_of_mem _ hd)]

variable {c : Cell} (hecc : s.ecc = []) (hpend : ∀ d ∈ s.cells, d.stage = .classified → s.pendingStands d = true)
  (hfind : (s.cells.filter fun c => c.stage == .classified).find? (fun c => s.actionBad c || (s.placeOf c).isSome) = some c)
include hecc hpend hfind

/-- Dispatch turns to the cell that it finds. -/
theorem doDispatch_of_found : doDispatch s = State.classifyReady
    (if s.actionBad c then s.actionMove c.hdr.gseq
    else match s.placeOf c with
      | none => s
      | some (k, t) =>
        (((if s.followsSite 0x01 (fun e => leAt e.body 0 6 == c.hdr.gseq) then
            s.siteTake 0x01 fun e => leAt e.body 0 6 == c.hdr.gseq
          else s.decision 0x01 0xFFFF (leBytes 6 c.hdr.gseq ++ leBytes 1 k ++ leBytes 1 t)).startThread k t
            (cellCore (aeEntry (s.actionOf c))) c.hdr.gseq (aeInst (s.actionOf c)) true 0xFF 0).modCell c.hdr.gseq fun c =>
              { c with stage := .opened, place := some (k, t) })) := by
  have hpend' : ∀ d ∈ s.cells.filter (fun c => c.stage == .classified), s.pendingStands d = true := fun d hd => by
    obtain ⟨hd, hst⟩ := List.mem_filter.mp hd
    exact hpend d hd (by simpa using hst)
  unfold doDispatch
  simp only [foldl_actionChk_clean hecc hpend', find?_dispatch hpend', hfind] <;> rfl

theorem doDispatch_opens {k t : Nat} (hbad : s.actionBad c = false) (hp : s.placeOf c = some (k, t))
    (hf : s.followsSite 0x01 (fun e => leAt e.body 0 6 == c.hdr.gseq) = false) :
    doDispatch s = (((s.decision 0x01 0xFFFF (leBytes 6 c.hdr.gseq ++ leBytes 1 k ++ leBytes 1 t)).startThread k t
      (cellCore (aeEntry (s.actionOf c))) c.hdr.gseq (aeInst (s.actionOf c)) true 0xFF 0).modCell c.hdr.gseq fun c =>
        { c with stage := .opened, place := some (k, t) }).classifyReady := by
  rw [doDispatch_of_found hecc hpend hfind]
  simp [hbad, hp, hf]

theorem doDispatch_moves (hbad : s.actionBad c = true) : doDispatch s = (s.actionMove c.hdr.gseq).classifyReady := by
  rw [doDispatch_of_found hecc hpend hfind, if_pos hbad]

end dispatch

/-- Settles O12: the branches of each event, with the scrubber's marks followed granule by granule. -/
theorem tablesAndDispatch : Obligations.TablesAndDispatch := by
  intro s
  refine ⟨fun p ps t hon hc hq ht => congrArg Host.Outcome.next (doLearningProbe_done hon hc hq ht),
    fun hf hon hset hm hdue => congrArg Host.Outcome.next (doLearningCommit_due hf hon hset hm hdue), ?takeover,
    fun c hc ht ha hl => congrArg Host.Outcome.next (doStagedReloadDone_last hc ht ha hl), ?clean,
    fun e g u h => congrArg Host.Outcome.next (doShoalScrubVisit_of_no_turn h g (upsetBits u)), ?single,
    fun c k t hecc hpend hfind hbad hp hf => congrArg Host.Outcome.next (doDispatch_opens hecc hpend hfind hbad hp hf),
    fun c hecc hpend hfind hbad => congrArg Host.Outcome.next (doDispatch_moves hecc hpend hfind hbad),
    fun hon hf hp hdue => congrArg Host.Outcome.next (doAvocetPass_starts hon hf hp hdue),
    fun st hon hf hp => congrArg Host.Outcome.next (doAvocetPass_goes_on hon hf hp), ?ages⟩
  case takeover =>
    rintro x hx hc v hv
    obtain ⟨rg, h⟩ := doCommitTakeover_takes hx hc hv
    exact ⟨_, congrArg Host.Outcome.next h, rfl, rfl, rfl, rfl, rfl, rfl⟩
  case clean =>
    intro e g s2 hecc ht
    exact congrArg Host.Outcome.next ((doShoalScrubVisit_of_turn ht g 0).trans
      (shoalVisit_clean ((scrubTurn_ecc ht).trans hecc) e g))
  case single =>
    intro e s2 hecc hs ht
    have hs2 : NatMap.get none s2.staged.shoal e = none := by
      unfold State.scrubTurn at ht
      simp only at ht
      split at ht
      · cases ht; exact hs
      · cases ht
    exact congrArg Host.Outcome.next ((doShoalScrubVisit_of_turn ht 8 1).trans
      (shoalVisit_single ((scrubTurn_ecc ht).trans hecc) hs2))
  case ages =>
    intro st e he hskip hv hst hset
    rw [avocetVisit_dynamic he hskip hv hst hset]
    exact ⟨fun hh => by simp [hh], fun hh ha => by simp [hh, ha], fun hh ha hw => by simp [hh, ha, hw],
      fun hh ha hw => by simp [hh, ha, hw]⟩

end Sys2Proof.Machine
end

section
/-! PROOFS. What recording a decision, an error or a frame leaves as it is (spec/09 R312 to R334; spec/14 R447; spec/15 R484). -/
namespace Sys2Proof.Machine

/-- State `t` with those parts of `s` that a memory access, a record or a frame may change: registers, memory and its marks, the
DRAM controller, payloads, the errors, the Ford ring, the mailboxes, the logs and the outputs. -/
def State.withNotes (t s : State) : State :=
  { t with regs := s.regs, fresh := s.fresh, mem := s.mem, ecc := s.ecc, sl := s.sl, cells := s.cells, weir := s.weir
           errors := s.errors, viv := s.viv, sup := s.sup, ford := s.ford, mb := s.mb, mbQueue := s.mbQueue, mbTaken := s.mbTaken
           pcie := s.pcie, dlogIn := s.dlogIn, dlogOut := s.dlogOut, replay := s.replay, out := s.out }

/-- `t` is `s` but for those parts: every thread, group, table, stream and lock is as it was. -/
structure NotesOnly (s t : State) : Prop where
  same : t.withNotes s = s

namespace NotesOnly
variable {s t u : State}

theorem refl (s : State) : NotesOnly s s := ⟨rfl⟩

theorem trans (h : NotesOnly s t) (h' : NotesOnly t u) : NotesOnly s u :=
  ⟨(congrArg (State.withNotes · s) h'.same).trans h.same⟩

/-- A further change of those parts alone. -/
theorem upd (h : NotesOnly s t) (e : u.withNotes s = t.withNotes s) : NotesOnly s u := ⟨e.trans h.same⟩

theorem bf (h : NotesOnly s t) : t.bf = s.bf := (congrArg State.bf h.same :)
theorem eg (h : NotesOnly s t) : t.eg = s.eg := (congrArg State.eg h.same :)
theorem ca (h : NotesOnly s t) : t.ca = s.ca := (congrArg State.ca h.same :)

theorem ite {c : Prop} [Decidable c] (ht : NotesOnly s t) (hu : NotesOnly s u) : NotesOnly s (if c then t else u) := by
  split
  · exact ht
  · exact hu

theorem of_regsOnly (h : RegsOnly s t) : NotesOnly s t := by
  obtain ⟨rg, h⟩ := h
  rw [h]
  exact ⟨rfl⟩

/-- Steps one after another, each of which is so, are so. -/
theorem foldl {α : Type} {f : State → α → State} (hf : ∀ s x, NotesOnly s (f s x)) (l : List α) : ∀ s, NotesOnly s (l.foldl f s) := by
  induction l with
  | nil => exact refl
  | cons x l ih => exact fun s => (hf s x).trans (ih _)

end NotesOnly

/-! ### Memory accesses -/

section memory
variable {s : State}

theorem record_notesOnly (s : State) (e : ErrSrc) : NotesOnly s (s.record e) := by
  obtain ⟨rg, er, m, v, b, h⟩ := record_effect s e
  rw [h]
  exact ⟨rfl⟩

theorem eccNote_notesOnly (s : State) (kind a : Nat) (w : Who) (port : Nat) : NotesOnly s (s.eccNote kind a w port) := by
  obtain ⟨rg, f, er, m, v, b, h⟩ := eccNoteAs_effect s kind a
    (if 4 ≤ kind then 3 else if kind == 1 then 1 else 2) (if kind == 1 then 1 else 2) w port
  rw [State.eccNote, h]
  exact ⟨rfl⟩

theorem setEcc_notesOnly (s : State) (a k : Nat) : NotesOnly s (s.setEcc a k) := ⟨rfl⟩

theorem wrBytes_notesOnly (s : State) (a : Nat) (l : List Byte) : NotesOnly s (s.wrBytes a l) := ⟨rfl⟩

theorem rdChk_notesOnly (s : State) (a n : Nat) (w : Who) (port : Nat) : NotesOnly s (s.rdChk a n w port).1 := by
  unfold State.rdChk
  refine .foldl (fun s e => ?_) _ s
  exact .ite ((eccNote_notesOnly s 1 e.1 w port).trans (setEcc_notesOnly _ e.1 0)) (eccNote_notesOnly s e.2 e.1 w port)

/-- What a write does at a granule that carries a mark. -/
theorem wrMark_notesOnly (s : State) (a n : Nat) (w : Who) (port : Nat) (e : Nat × Nat) : NotesOnly s
    (if covers a n e.1 then s.setEcc e.1 0
    else if e.2 = 1 then (s.eccNote 1 e.1 w port).setEcc e.1 0
    else (s.eccNote (2 + e.2) e.1 w port).setEcc e.1 3) :=
  .ite (setEcc_notesOnly s e.1 0) (.ite ((eccNote_notesOnly s 1 e.1 w port).trans (setEcc_notesOnly _ e.1 0))
    ((eccNote_notesOnly s (2 + e.2) e.1 w port).trans (setEcc_notesOnly _ e.1 3)))

theorem wrChk_notesOnly (s : State) (a : Nat) (l : List Byte) (w : Who) (port : Nat) : NotesOnly s (s.wrChk a l w port).1 := by
  unfold State.wrChk
  extract_lets n bad keep old s₁ s₂
  have h₁ : NotesOnly s s₁ := .foldl (fun s e => wrMark_notesOnly s a n w port e) bad s
  clear_value s₁ old
  exact (h₁.trans (wrBytes_notesOnly s₁ a l)).trans (.foldl (fun s e => wrBytes_notesOnly s e.1 e.2) old s₂)

theorem dramDo_notesOnly (s : State) (r : DramReq) : NotesOnly s (s.dramDo r) := by
  have hcount : NotesOnly s ((s.lateCount r).maxLat r) := .of_regsOnly (account_effect s r).1
  unfold State.dramDo
  extract_lets s₁
  refine hcount.trans ?_
  split
  next => exact .refl s₁
  next x hx =>
    extract_lets off
    split
    next => exact ⟨rfl⟩
    next => split
            next =>
              have h := wrChk_notesOnly s₁ r.addr ((x.data.drop off).take r.len) x.who r.port
              exact h.upd rfl
            next =>
              have h := rdChk_notesOnly s₁ r.addr r.len x.who r.port
              split
              next s₂ l hr =>
                rw [hr] at h
                exact h.upd rfl
              next s₂ hr =>
                rw [hr] at h
                exact h.upd rfl

theorem dramJoin_notesOnly {s t : State} {r : DramReq} (h : s.dramJoin r = some t) : NotesOnly s t := by
  unfold State.dramJoin at h
  extract_lets p same meets enter s₁ at h
  split at h
  · cases h
  · cases h
    exact (NotesOnly.of_regsOnly (.ite (.bump (.refl s)) (.refl s)) : NotesOnly s s₁).upd rfl

theorem dramFeed_notesOnly (s : State) (p : Nat) : NotesOnly s (s.dramFeed p) := by
  unfold State.dramFeed
  extract_lets mine
  have hfold (l : List DramReq) : ∀ acc : State × List DramReq × Bool, NotesOnly s acc.1 →
      NotesOnly s (l.foldl (fun (acc : State × List DramReq × Bool) r =>
        if acc.2.2 then (acc.1, acc.2.1 ++ [r], true)
        else match acc.1.dramJoin r with
          | some s => (s, acc.2.1, false)
          | none => (acc.1, acc.2.1 ++ [r], true)) acc).1 := by
    induction l with
    | nil => exact fun _ h => h
    | cons r l ih =>
      intro acc h
      refine ih _ ?_
      dsimp only
      split
      · exact h
      · split
        next t ht => exact h.trans (dramJoin_notesOnly ht)
        next => exact h
  exact (hfold mine (s, [], false) (.refl s)).upd rfl

theorem dramIssue_notesOnly (s : State) (r : DramReq) : NotesOnly s (s.dramIssue r) := by
  unfold State.dramIssue
  extract_lets +onlyGivenNames p s₁ s₂
  have h₁ : NotesOnly s s₁ := dramDo_notesOnly s r
  clear_value s₁
  exact ((h₁.upd rfl : NotesOnly s { s₁ with sl := s₂ }).upd rfl : NotesOnly s (State.drainTrim { s₁ with sl := s₂ })).upd rfl

theorem dramOne_notesOnly (s : State) (ch : Nat) : NotesOnly s (s.dramOne ch) := by
  unfold State.dramOne
  split
  next r _ => exact dramIssue_notesOnly s r
  next r _ _ => exact dramIssue_notesOnly s r
  next => exact .refl s

theorem dramWork_notesOnly (p : Nat) (goal : State → Bool) (n : Nat) : ∀ s, NotesOnly s (State.dramWork p goal n s) := by
  induction n with
  | zero => exact .refl
  | succ n ih =>
    intro s
    exact .ite (.refl s) ((((dramOne_notesOnly s 0).trans (dramOne_notesOnly _ 1)).trans (dramFeed_notesOnly _ p)).trans (ih _))

theorem dramPush_notesOnly (s : State) (id : Nat) (x : DramAcc) (b : Nat × Nat) : NotesOnly s (s.dramPush id x b) := by
  unfold State.dramPush
  extract_lets +onlyGivenNames s₁ r
  have h₁ : NotesOnly s s₁ := dramWork_notesOnly x.port _ _ s
  clear_value s₁
  refine NotesOnly.trans ?_ (dramFeed_notesOnly _ x.port)
  exact h₁.upd rfl

theorem dramFinish_notesOnly (s : State) (id : Nat) : NotesOnly s (s.dramFinish id) := by
  unfold State.dramFinish
  split
  next => exact .refl s
  next x hx =>
    extract_lets bs s₁
    have h₁ : NotesOnly s s₁ := .ite (.refl s) ((⟨rfl⟩ : NotesOnly s (s.modAcc id _)).trans
      (.foldl (fun s b => dramPush_notesOnly s id x b) bs _))
    exact h₁.trans (dramWork_notesOnly x.port _ _ s₁)

theorem rdMem_notesOnly (s : State) (a n : Nat) (w : Who) (port : Nat) : NotesOnly s (s.rdMem a n w port).1 := by
  unfold State.rdMem
  split
  · exact ((⟨rfl⟩ : NotesOnly s (s.dramOffer _).1).trans (dramFinish_notesOnly _ _)).upd rfl
  · exact rdChk_notesOnly s a n w 0xF

theorem pbufPoke_notesOnly (s : State) (a n : Nat) : NotesOnly s (s.pbufPoke a n) := .ite (.refl s) ⟨rfl⟩

theorem wrMem_notesOnly (s : State) (a : Nat) (l : List Byte) (w : Who) (port : Nat) : NotesOnly s (s.wrMem a l w port).1 := by
  unfold State.wrMem
  split
  · exact ((⟨rfl⟩ : NotesOnly s (s.dramOffer _).1).trans (dramFinish_notesOnly _ _)).upd rfl
  · exact (wrChk_notesOnly s a l w 0xF).trans (pbufPoke_notesOnly _ a l.length)

end memory

/-! ### Answers of mailboxes, frames and decisions -/

theorem mbDone_notesOnly (s : State) (m : Nat) : NotesOnly s (s.mbDone m) := by
  obtain ⟨rg, p, o, h, -⟩ := mbDone_effect s m
  rw [h]
  exact ⟨rfl⟩

theorem mbAnswer_notesOnly (s : State) (m st : Nat) (body : List Byte) : NotesOnly s (s.mbAnswer m st body) := by
  unfold State.mbAnswer
  split
  next => exact .refl s
  next x hx =>
    exact .ite (.refl s) (.ite ⟨rfl⟩ (((⟨rfl⟩ : NotesOnly s (s.modMb m _)).trans (wrChk_notesOnly _ _ _ _ _)).trans (mbDone_notesOnly _ m)))

theorem mbInternal_notesOnly (s : State) (m : Nat) : NotesOnly s (s.mbInternal m) := by
  unfold State.mbInternal
  split
  next => exact .refl s
  next x hx => exact (record_notesOnly s _).trans (mbAnswer_notesOnly _ m _ _)

theorem fordPut_notesOnly (s : State) (type : Nat) (body : List Byte) : NotesOnly s (s.fordPut type body) := by
  unfold State.fordPut
  extract_lets f l
  refine .ite (.refl s) ?_
  split
  next base size _ =>
  extract_lets +onlyGivenNames pos s₁
  have h₁ : NotesOnly s s₁ := .ite (wrMem_notesOnly s _ l {} 7) (.refl s)
  clear_value s₁
  exact h₁.upd rfl

theorem partnerGone_notesOnly (s : State) (tell : Bool) : NotesOnly s (s.partnerGone tell) :=
  (NotesOnly.ite (fordPut_notesOnly s 7 _) (.refl s)).upd rfl

theorem ringOverflow_notesOnly (s : State) : NotesOnly s s.ringOverflow := by
  unfold State.ringOverflow
  split
  next => exact .refl s
  next m hm =>
    extract_lets +onlyGivenNames s₁
    have h₁ : NotesOnly s s₁ := record_notesOnly s _
    clear_value s₁
    refine NotesOnly.trans ?_ ((partnerGone_notesOnly _ true).trans (mbInternal_notesOnly _ m))
    exact h₁.upd rfl

theorem fordSend_notesOnly (s : State) (type : Nat) (body : List Byte) : NotesOnly s (s.fordSend type body) :=
  (fordPut_notesOnly s type body).trans (.ite (ringOverflow_notesOnly _) (.refl _))

/-- Recording a decision, and sending it to the partner. -/
theorem decision_notesOnly (s : State) (type master : Nat) (body : List Byte) (size : Nat) :
    NotesOnly s (s.decision type master body size) := by
  have hlog : NotesOnly s (s.logEntry type master body size) := .ite ⟨rfl⟩ (.refl s)
  unfold State.decision
  generalize s.logEntry type master body size = t at hlog ⊢
  unfold State.sendEntry
  refine .ite (hlog.trans ?_) (.refl s)
  exact .ite (fordSend_notesOnly t _ _) (.refl t)

theorem siteTake_notesOnly (s : State) (type : Nat) (p : DEntry → Bool) : NotesOnly s (s.siteTake type p) := ⟨rfl⟩

theorem waitEnds_notesOnly (s : State) (c t k : Nat) : NotesOnly s (s.waitEnds c t k) :=
  .ite (.refl s) (.ite (siteTake_notesOnly s _ _) (decision_notesOnly s _ _ _ _))

end Sys2Proof.Machine
end

section
/-! PROOFS. Belfry's requests, locks and grants (spec/10). -/
namespace Sys2Proof.Machine

/-! ### Whose turn it is (R344, R350, R354, R358) -/

section turn
variable {s : State}

/-- With no log to follow no site waits for it. -/
theorem followsSite_false (hd : s.dlogIn = []) (hf : s.followsLog = false) (type : Nat) (p : DEntry → Bool) :
    s.followsSite type p = false := by
  simp [State.followsSite, State.siteNext, hd, hf]

theorem bfMay_unfollowed (hd : s.dlogIn = []) (hf : s.followsLog = false) (r : BfReq) : s.bfMay r = true := by
  simp [State.bfMay, followsSite_false hd hf]

/-- Nor are host operations or grants held back for one. -/
theorem bfRetry_unfollowed (hf : s.followsLog = false) : s.bfRetry = s := by simp [State.bfRetry, hf]

theorem bfHosts_unfollowed (hd : s.dlogIn = []) : s.bfHosts s.dlogIn.length = s := by rw [hd]; rfl

variable {c : Fin 6} {t : Fin 32} {op : Nat} {r : BfReq}

theorem bfThreadLock_of_first (h : s.bfFirst c t op r fun q => bfIsLock q.op) :
    s.bfThreadLock c t op = if r.ended then (s.bfPerform r).bfFinish r.master r.inst else (s.bfPop r).bfLock r := by
  obtain ⟨hd, hf, hof, hfirst⟩ := h
  simp [State.bfThreadLock, hof, State.bfTakeLock, bfHosts_unfollowed hd, bfRetry_unfollowed hf, hf, bfMay_unfollowed hd hf, hfirst]

theorem bfThreadAtomic_of_first {s₁ : State} {st : Nat} {v : Option Nat}
    (h : s.bfFirst c t op r fun q => bfIsAtomic q.op && q.addr == r.addr) (ha : s.bfAtomic r = (s₁, st, v))
    (hroom : (s.bf.queue.filter fun q => bfIsAtomic q.op && q.done.isSome).length < 16) :
    s.bfThreadAtomic c t op = if r.ended then (s.bfPerform r).bfFinish r.master r.inst else { s₁ with bf := { s₁.bf with
      queue := s₁.bf.queue.map fun q => if q = r then { q with done := some (st, v) } else q } } := by
  obtain ⟨hd, hf, hof, hfirst⟩ := h
  have hfirst' : s.bf.queue.find? (fun q => bfIsAtomic q.op && q.done.isNone && q.addr == r.addr && s.bfMay q) = some r := by
    rw [← hfirst]
    refine congrArg (List.find? · s.bf.queue) (funext fun q => ?_)
    rw [bfMay_unfollowed hd hf, Bool.and_true, Bool.and_right_comm]
  simp [State.bfThreadAtomic, hof, State.bfTakeAtomic, bfHosts_unfollowed hd, bfRetry_unfollowed hf, hfirst',
    Nat.not_le.mpr hroom, ha]

end turn

theorem belfryTakesLocks : Sys2Proof.Parts.BelfryTakesLocks := by
  rintro s _ c t r rfl
  exact ⟨fun h => congrArg Host.Outcome.next (bfThreadLock_of_first h),
    fun h => congrArg Host.Outcome.next (bfThreadLock_of_first h),
    fun h => congrArg Host.Outcome.next (bfThreadLock_of_first h),
    fun h => congrArg Host.Outcome.next (bfThreadLock_of_first h)⟩

theorem belfryTakesAtomics : Sys2Proof.Parts.BelfryTakesAtomics := by
  rintro s _ s1 c t r st v ha hroom rfl
  exact ⟨fun h => congrArg Host.Outcome.next (bfThreadAtomic_of_first h ha hroom),
    fun h => congrArg Host.Outcome.next (bfThreadAtomic_of_first h ha hroom),
    fun h => congrArg Host.Outcome.next (bfThreadAtomic_of_first h ha hroom),
    fun h => congrArg Host.Outcome.next (bfThreadAtomic_of_first h ha hroom)⟩

/-! ### Arrival (R350, R358) -/

theorem bfInsert_last {r : BfReq} {l : List BfReq} (h : ∀ q ∈ l, q.at_ = r.at_ → q.master ≤ r.master) :
    bfInsert r l = l ++ [r] := by
  induction l with
  | nil => rfl
  | cons q l ih =>
    have hq : ¬ (q.at_ = r.at_ && q.done.isNone && r.master < q.master) = true := by
      simp only [Bool.and_eq_true, decide_eq_true_eq, not_and, Nat.not_lt]
      exact fun e => h q List.mem_cons_self e.1
    rw [bfInsert, if_neg hq, ih fun x hx => h x (List.mem_cons_of_mem _ hx), List.cons_append]

theorem bfInsert_before {r q : BfReq} {l : List BfReq} (h : ∀ x ∈ l, x.at_ = r.at_ → x.master ≤ r.master)
    (hq : q.at_ = r.at_) (hd : q.done = none) (hm : r.master < q.master) : bfInsert r (l ++ [q]) = l ++ [r, q] := by
  induction l with
  | nil => simp [bfInsert, hq, hd, hm]
  | cons x l ih =>
    have hx : ¬ (x.at_ = r.at_ && x.done.isNone && r.master < x.master) = true := by
      simp only [Bool.and_eq_true, decide_eq_true_eq, not_and, Nat.not_lt]
      exact fun e => h x List.mem_cons_self e.1
    rw [List.cons_append, bfInsert, if_neg hx, ih fun y hy => h y (List.mem_cons_of_mem _ hy), List.cons_append]

theorem bfOffer_queues {s s₁ : State} {r : BfReq} (h : s.bfCheck r = (s₁, none)) :
    s.bfOffer r = { s₁ with bf := { s₁.bf with
      queue := bfInsert { r with at_ := s₁.now, num := s₁.bf.nextNum } s₁.bf.queue, nextNum := s₁.bf.nextNum + 1 } } := by
  simp [State.bfOffer, h]

theorem belfryArrival : Sys2Proof.Parts.BelfryArrival := by
  rintro s s1 r _ h rfl
  rw [bfOffer_queues h]
  refine ⟨rfl, fun hlast => bfInsert_last hlast, ?before⟩
  case before =>
    intro l q hl hle hat hd hm
    simp only [hl]
    exact bfInsert_before hle hat hd hm

/-! ### The ends of requests (R357, R358) -/

theorem doAtomicDone_delivers {s : State} {master st : Nat} {r : BfReq} {v : Option Nat} (hf : s.followsLog = false)
    (hr : s.bf.queue.find? (fun r => r.master == master && r.done.isSome && s.bfReady r) = some r) (hd : r.done = some (st, v)) :
    doAtomicDone master s =
      if r.ended then ((s.bfPop r).bfComplete r st v).bfFinish r.master r.inst else (s.bfPop r).bfComplete r st v := by
  have hp : s.bfPerform r = (s.bfPop r).bfComplete r st v := by simp [State.bfPerform, hd]
  simp only [doAtomicDone, bfRetry_unfollowed hf, hr, hp]

/-- R357: the wait limit withdraws a request that still waits in the queue. -/
theorem doBelfryWaitLimit_withdraws {s : State} {c t : Nat} {x : Thread} {l : EgLoad} {two : Bool} (hx : s.threadAt c t = some x)
    (hw : x.wait = some (.belfry l two)) (hdue : s.limitDue c t x = true)
    (hq : s.bf.queue.any (fun r => r.form == .port c t x.uid) = true) :
    doBelfryWaitLimit c t s = ((({ (s.waitEnds c t 1) with
      bf := { s.bf with queue := s.bf.queue.filter fun r => !(r.form == .port c t x.uid) } } : State).requestDone c t 5).chanFault
        c t x.core 6 0x3F5 l.slot l.pair) := by
  have hbf : (s.waitEnds c t 1).bf = s.bf := (waitEnds_notesOnly s c t 1).bf
  simp only [doBelfryWaitLimit, hx, hw, hdue, hq, hbf]
  rfl

theorem belfryEnds : Sys2Proof.Parts.BelfryEnds := by
  intro s
  refine ⟨fun master r st v hf hr hd => congrArg Host.Outcome.next (doAtomicDone_delivers hf hr hd), ?limit⟩
  case limit =>
    intro c t x l two hx hw hdue _ hq
    exact ⟨_, rfl, congrArg Host.Outcome.next (doBelfryWaitLimit_withdraws hx hw hdue hq)⟩

/-- Settles O14: no log followed, so that the queue's order alone decides; arrival by induction on the queue. -/
theorem belfryRequests : Obligations.BelfryRequests :=
  ⟨belfryTakesLocks, belfryTakesAtomics, belfryArrival, belfryEnds⟩

/-! ### Lock operations, by the lock's state (R349 to R355) -/

theorem bfChk_clean {s : State} (h : s.ecc = []) (e : BfEntry) : s.bfChk e = s := by
  simp [State.bfChk, eccAt_clean h]

section locks
variable {s : State} {r : BfReq} {e : BfEntry}

theorem bfLock_without_entry (he : s.bfEntry r.addr = none) (hop : r.op = 3 ∨ r.op = 4) : s.bfLock r = s.bfEnds r 0x24 0 none := by
  rcases hop with hop | hop <;> simp [State.bfLock, he, hop]

theorem bfLock_lost (he : s.bfEntry r.addr = some e) (hl : e.lost = true) : s.bfLock r = s.bfEnds r 4 0 none := by
  simp [State.bfLock, he, hl]

/-- What an operation does on a lock whose entry holds no error. -/
theorem bfLock_of_entry (hecc : s.ecc = []) (he : s.bfEntry r.addr = some e) (hl : e.lost = false) :
    s.bfLock r =
      if r.op = 1 || r.op = 2 then
        if e.owner = some r.master then s.bfEnds r 0x26 0 none
        else if r.op = 2 && (e.owner.isSome || !e.waiters.isEmpty) then s.bfEnds r 0x22 0 none
        else s.bfTicket r e
      else if e.owner.isNone then s.bfEnds r 0x24 0 none
      else if e.owner ≠ some r.master then (s.bump 0x0035001C).bfEnds r 0x23 0 none
      else (s.bfEnds r 0 e.serve none).bfLeave e (e.marked && r.op != 4) := by
  simp [State.bfLock, he, hl, bfChk_clean hecc]

variable (hecc : s.ecc = []) (he : s.bfEntry r.addr = some e) (hl : e.lost = false)
include hecc he hl

theorem bfLock_held_by_self (ho : e.owner = some r.master) (hop : r.op = 1 ∨ r.op = 2) : s.bfLock r = s.bfEnds r 0x26 0 none := by
  rw [bfLock_of_entry hecc he hl, if_pos (by simpa using hop), if_pos ho]

section other
variable {m : Nat} (ho : e.owner = some m) (hm : m ≠ r.master)
include ho hm

theorem tryacq_held_by_other (hop : r.op = 2) : s.bfLock r = s.bfEnds r 0x22 0 none := by
  simp [bfLock_of_entry hecc he hl, hop, ho, hm]

theorem release_held_by_other (hop : r.op = 3 ∨ r.op = 4) : s.bfLock r = (s.bump 0x0035001C).bfEnds r 0x23 0 none := by
  rcases hop with hop | hop <;> simp [bfLock_of_entry hecc he hl, hop, ho, hm]

theorem acquire_held_by_other (hop : r.op = 1) : s.bfLock r =
    (s.bfLog r e.next 0).bfGrant { e with next := (e.next + 1) % 0x10000, waiters := e.waiters ++ [⟨e.next, r⟩] } := by
  simp [bfLock_of_entry hecc he hl, hop, ho, hm, State.bfTicket]

end other

theorem release_by_owner (ho : e.owner = some r.master) (hop : r.op = 3 ∨ r.op = 4) :
    s.bfLock r = (s.bfEnds r 0 e.serve none).bfGrant
      { e with owner := none, serve := (e.serve + 1) % 0x10000, marked := e.marked && r.op != 4 } := by
  rcases hop with hop | hop <;> simp [bfLock_of_entry hecc he hl, hop, ho, State.bfLeave]

theorem release_of_free (ho : e.owner = none) (hop : r.op = 3 ∨ r.op = 4) : s.bfLock r = s.bfEnds r 0x24 0 none := by
  rcases hop with hop | hop <;> simp [bfLock_of_entry hecc he hl, hop, ho]

end locks

theorem bfLog_bf (s : State) (r : BfReq) (ticket status : Nat) : (s.bfLog r ticket status).bf = s.bf :=
  (NotesOnly.ite (siteTake_notesOnly s _ _) (decision_notesOnly s _ _ _ _)).bf

/-- R361: an atomic on a word whose lock is lost answers an uncorrectable error. -/
theorem bfAtomic_lost {s : State} {r : BfReq} {e : BfEntry} (he : s.bfEntry r.addr = some e) (hl : e.lost = true) :
    (s.bfAtomic r).2 = (4, none) := by
  have he' : (s.bfLog r 0 0).bfEntry r.addr = some e := by rw [State.bfEntry, bfLog_bf]; exact he
  simp [State.bfAtomic, he', hl]

theorem belfryLockRules : Sys2Proof.Parts.BelfryLockRules := by
  intro s r hecc
  refine ⟨bfLock_without_entry, fun e he hl => bfLock_lost he hl, fun e he hl => bfLock_held_by_self hecc he hl,
    fun e m he hl => tryacq_held_by_other hecc he hl, fun e m he hl => release_held_by_other hecc he hl,
    fun e m he hl => acquire_held_by_other hecc he hl, ?release, ?repaired, fun e he hl => release_of_free hecc he hl,
    fun e he hl => bfAtomic_lost he hl⟩
  case release =>
    intro e he hl ho hop
    simp [release_by_owner hecc he hl ho (.inl hop), hop]
  case repaired =>
    intro e he hl ho hop
    simp [release_by_owner hecc he hl ho (.inr hop), hop]

/-! ### Grants (R350, R355, R360) -/

theorem belfryGrantOrder : Sys2Proof.Parts.BelfryGrantOrder := by
  intro s e w ws ho hg hw hserve hone hready
  have hrest : (w :: ws).filter (fun x => x.num != w.num) = ws := by
    rw [List.filter_cons_of_neg (by simp)]
    exact List.filter_eq_self.mpr fun x hx => by simpa using hone x hx
  have hpass : e.pass e.gone.length = e := by rw [hg]; rfl
  have hnext : (w :: ws).find? (fun w => w.num == e.serve) = some w := List.find?_cons_of_pos (by simpa using hserve)
  simp [State.bfGrant, hpass, ho, hnext, hready, hw, hrest]

/-- Settles O16: one equation for an operation on an entry without errors, then its cases. -/
theorem belfryLocks : Obligations.BelfryLocks := ⟨belfryLockRules, belfryGrantOrder⟩

end Sys2Proof.Machine
end

section
/-! PROOFS. The words that compute on a Carillon group's lanes (spec/08 R255 to R261). -/
namespace Sys2Proof.Machine

/-! ### Results (R255, R258 to R261) -/

section results
variable {g : Nat} {k : Kernel} {w : Nat}

theorem alu_cvt_of_int (h : caOp w = .cvt) (hf : rFn w = 0) :
    k.alu g w = k.wr (rD w) fun l => fp32.ofInt (signedOf 32 (k.rd l (rA w))) := by
  simp [Kernel.alu, h, hf, caCvt]

theorem alu_set_of_word (h : caOp w = .set) (ht : rT w = 0) : k.alu g w = k.wr (rD w) fun l =>
    if caCondI 32 (rFn w) (k.rd l (rA w)) (k.rd l (rB w)) then 2 ^ 32 - 1 else 0 := by
  simp only [Kernel.alu, h, ht, caSet]
  rfl

theorem alu_sel (h : caOp w = .sel) : k.alu g w = k.wr (rD w) fun l =>
    if k.rd l (rD w) ≠ 0 then k.rd l (rA w) else k.rd l (rB w) := by
  simp [Kernel.alu, h]

theorem alu_movi (h : caOp w = .movi) :
    k.alu g w = k.wr ⟨bitAt w 19, bitsOf w 20 6⟩ fun _ => wrapTo 32 (signedOf 19 w) := by
  simp only [Kernel.alu, h]

theorem alu_movh (h : caOp w = .movh) : k.alu g w = k.wr ⟨bitAt w 19, bitsOf w 20 6⟩ fun l =>
    k.rd l ⟨bitAt w 19, bitsOf w 20 6⟩ % 0x2000 + bitsOf w 0 19 * 0x2000 := by
  simp only [Kernel.alu, h]

theorem alu_addi (h : caOp w = .addi) :
    k.alu g w = k.wr (iD w) fun l => wrapTo 32 ((k.rd l (iA w) : Int) + signedOf 12 w) := by
  simp only [Kernel.alu, h]

end results

theorem carillonResults : Sys2Proof.Parts.CarillonResults := by
  intro g k w
  refine ⟨fun h => ?ialu, fun h => ?imul, fun h ht => ?fp32, fun h ht => ?fp64, fun h ht => ?spec, alu_cvt_of_int, alu_set_of_word,
    alu_sel, fun h => ?shfl, fun h => ?vote, fun h hs => ?mfs, alu_movi, alu_addi⟩
  case ialu => simp only [Kernel.alu, h]
  case imul => simp only [Kernel.alu, h]
  case fp32 => simp only [Kernel.alu, h, ht, if_true]
  case fp64 => simp [Kernel.alu, h, ht]
  case spec => simp only [Kernel.alu, h, ht, if_true]
  case shfl => simp only [Kernel.alu, h]
  case vote => simp only [Kernel.alu, h]
  case mfs => simp only [Kernel.alu, h, hs]

/-! ### The lanes that take a result (R255) -/

theorem mem_lanes {k : Kernel} {l : Nat} (hl : l < 32) : l ∈ k.lanes ↔ bitAt k.exec l = true := by
  simp [Kernel.lanes, upTo, hl]

/-- Writes to register `d` of the lanes of a list: what a lane reads, and what they leave. -/
theorem foldl_put1 {d r : CaReg} (f : Nat → Nat) (hd : d.uni = false) (hdn : d.num < 64) (hrn : r.num < 64) (hr : r.uni = false)
    (ls : List Nat) : ∀ k : Kernel, ∀ l,
      (ls.foldl (fun k l => k.put1 l d (f l)) k).rd l r = (if l ∈ ls ∧ r.num = d.num then f l % 2 ^ 32 else k.rd l r) ∧
      (ls.foldl (fun k l => k.put1 l d (f l)) k).u = k.u ∧ (ls.foldl (fun k l => k.put1 l d (f l)) k).exec = k.exec ∧
      (ls.foldl (fun k l => k.put1 l d (f l)) k).pc = k.pc := by
  induction ls with
  | nil => exact fun k l => ⟨by simp, rfl, rfl, rfl⟩
  | cons i ls ih =>
    intro k l
    obtain ⟨hrd, hu, he, hp⟩ := ih (k.put1 i d (f i)) l
    have hone : (k.put1 i d (f i)).rd l r = if l = i ∧ r.num = d.num then f i % 2 ^ 32 else k.rd l r := by
      have hkey : 64 * l + r.num = 64 * i + d.num ↔ l = i ∧ r.num = d.num := by omega
      simp [Kernel.put1, Kernel.rd, hd, hr, Nat.mod_eq_of_lt hdn, Nat.mod_eq_of_lt hrn, NatMap.get_put, hkey]
    have hput : (k.put1 i d (f i)).u = k.u ∧ (k.put1 i d (f i)).exec = k.exec ∧ (k.put1 i d (f i)).pc = k.pc := by
      simp [Kernel.put1, hd]
    refine ⟨?_, hu.trans hput.1, he.trans hput.2.1, hp.trans hput.2.2⟩
    rw [List.foldl_cons, hrd, hone]
    by_cases hn : r.num = d.num
    · by_cases hi : l = i
      · simp [hn, hi]
      · simp [hn, hi]
    · simp [hn]

theorem carillonWritesActiveLanes : Sys2Proof.Parts.CarillonWritesActiveLanes := by
  intro k d r f l _ hd hdn hrn hr hl
  have hwr : k.wr d f = k.lanes.foldl (fun k l => k.put1 l d (f l)) k := by simp [Kernel.wr, hd]
  rw [hwr]
  simpa only [mem_lanes hl] using foldl_put1 f hd hdn hrn hr k.lanes k l

/-- Settles O18: each word's function, and the active lanes' writes by induction on the lanes. -/
theorem carillonLaneResults : Obligations.CarillonLaneResults := ⟨carillonResults, carillonWritesActiveLanes⟩

/-! ### A word run by its group -/

section issues
variable {s s' s₁ : State} {g : Nat} {k k' : Kernel} {w : Nat} {op : CaOp}

theorem caRow_go_of_issues (h : s.caIssues s' g k w) (ho : caOp w = op) (hb : s'.caBody g k w = (s₁, .go k')) :
    s.caRow g op = s₁.setKernel g { k' with steps := k.steps + 1 } := by
  obtain ⟨hk, hi, hf, hl⟩ := h
  exact caRow_go hk hi hf hl ho hb

theorem caRow_park_of_issues {c t sub : Nat} {a : Option Nat} (h : s.caIssues s' g k w) (ho : caOp w = op)
    (hb : s'.caBody g k w = (s₁, .park c t sub a)) : s.caRow g op = s₁.caPark g k c t sub a := by
  obtain ⟨hk, hi, hf, hl⟩ := h
  exact caRow_park hk hi hf hl ho hb

/-- A word that goes on where it is legal, and parks the group where it is not. -/
theorem caRow_of_legal {b : Bool} {t : State} (h : s.caIssues s' g k w) (ho : caOp w = op)
    (hb : s'.caBody g k w = (s', if b then .go k' else .bad 1))
    (hyes : b = true → t = s'.setKernel g { k' with steps := k.steps + 1 }) (hno : b = false → t = s'.caPark g k 1 0 0 none) :
    s.caRow g op = t := by
  cases b with
  | true => rw [hyes rfl, caRow_go_of_issues h ho hb]
  | false => rw [hno rfl, caRow_park_of_issues h ho hb]

end issues

theorem carillonComputeWords : Sys2Proof.Parts.CarillonComputeWords := by
  intro s s' t g k w h hyes hno
  have hrow {op : CaOp} (ho : caOp w = op)
      (hb : s'.caBody g k w = (s', if caLegal w then .go (k.alu g w).next else .bad 1)) : Host.Outcome.next (s.caRow g op) =
        (.next t : Host.Outcome State Fault Refusal) := congrArg _ (caRow_of_legal h ho hb hyes hno)
  refine ⟨fun ho => hrow ho ?_, fun ho => hrow ho ?_, fun ho => hrow ho ?_, fun ho => hrow ho ?_, fun ho => hrow ho ?_,
    fun ho => hrow ho ?_, fun ho => hrow ho ?_, fun ho => hrow ho ?_, fun ho => hrow ho ?_, fun ho => hrow ho ?_⟩
  all_goals simp only [State.caBody, ho]

theorem carillonImmediateWords : Sys2Proof.Parts.CarillonImmediateWords := by
  intro s s' g k w h
  have hgo {op : CaOp} (ho : caOp w = op) (hb : s'.caBody g k w = (s', .go (k.alu g w).next)) : Host.Outcome.next (s.caRow g op) =
      (.next (s'.setKernel g { (k.alu g w).next with steps := k.steps + 1 }) : Host.Outcome State Fault Refusal) :=
    congrArg _ (caRow_go_of_issues h ho hb)
  have hbad {op : CaOp} (ho : caOp w = op) (hb : s'.caBody g k w = (s', .bad 1)) : Host.Outcome.next (s.caRow g op) =
      (.next (s'.caPark g k 1 0 0 none) : Host.Outcome State Fault Refusal) := congrArg _ (caRow_park_of_issues h ho hb)
  refine ⟨fun ho hu => alu_movi (g := g) ho ▸ hgo ho ?_, fun ho hu => alu_movh (g := g) ho ▸ hgo ho ?_,
    fun ho hu => alu_addi (g := g) ho ▸ hgo ho ?_, fun ho hu => hbad ho ?_, fun ho hu => hbad ho ?_, fun ho hu => hbad ho ?_⟩
  all_goals simp [State.caBody, ho, hu]

/-- Settles O19: one step lemma for the words that are legal or park, applied to each row. -/
theorem carillonCompute : Obligations.CarillonCompute := ⟨carillonComputeWords, carillonImmediateWords⟩

end Sys2Proof.Machine
end

section
/-! PROOFS. Loads, stores, FENCE and control words of a Carillon group (spec/08 R256, R262 to R269). -/
namespace Sys2Proof.Machine

/-! ### Loads and stores (R265, R268) -/

section access
variable {s s₂ s₃ : State} {g : Nat} {k k' : Kernel} {w n : Nat} {pair : Bool}

/-- A load of a group's own lanes takes their data at once. -/
theorem caLoad_local (hu : caUses (iD w) [iA w] = true) (hp : pair = true → (iD w).even = true)
    (hn : n = if pair then 8 else 4) (hloc : (k.lanesAt w).any (fun e => decide (0x80000000 ≤ e.2)) = false)
    (hf : s.lanesFault k (k.lanesAt w) n false = (s₂, none))
    (hl : s₂.loadFill g k ⟨(iD w).num, (iD w).uni, pair, (k.lanesAt w).map fun e => (e.1, e.2, none)⟩ = (s₃, .ok k')) :
    s.caLoad g k w pair = (s₃, .go k'.next) := by
  subst hn
  have hbad : (!caUses (iD w) [iA w] || (pair && !(iD w).even)) = false := by
    cases pair with
    | true => simp [hu, hp rfl]
    | false => simp [hu]
  simp [State.caLoad, hbad, hf, hloc, hl]

/-- One with far lanes waits for their accesses. -/
theorem caLoad_far {ps : List (Nat × Nat × Option (Nat × Nat))} (hu : caUses (iD w) [iA w] = true)
    (hfar : (k.lanesAt w).any (fun e => decide (0x80000000 ≤ e.2)) = true)
    (hf : s.lanesFault k (k.lanesAt w) 4 false = (s₂, none)) (hl : s₂.loadOffer k (k.lanesAt w) 4 = (s₃, ps)) :
    s.caLoad g k w false = (s₃, .go { k with load := some ⟨(iD w).num, (iD w).uni, false, ps⟩ }) := by
  simp [State.caLoad, hu, hf, hfar, hl]

/-- Steps that leave the second part of a pair alone. -/
theorem foldl_fst {α β γ : Type} {f : α × β → γ → α × β} {h : α → γ → α} {b : β} {l : List γ}
    (hf : ∀ a, ∀ e ∈ l, f (a, b) e = (h a e, b)) : ∀ a, l.foldl f (a, b) = (l.foldl h a, b) := by
  induction l with
  | nil => exact fun _ => rfl
  | cons e l ih =>
    intro a
    rw [List.foldl_cons, List.foldl_cons, hf a e List.mem_cons_self]
    exact ih (fun a x hx => hf a x (List.mem_cons_of_mem _ hx)) _

/-- Of the lanes of a store, those whose data are kept (R268): the highest one of each address. -/
def keptLanes (l : List (Nat × Nat)) : List (Nat × Nat) := l.filter fun e => !l.any fun f => f.2 == e.2 && decide (e.1 < f.1)

theorem keptLanes_local {l : List (Nat × Nat)} (h : l.any (fun e => decide (0x80000000 ≤ e.2)) = false) :
    ∀ e ∈ keptLanes l, e.2 < 0x80000000 := fun e he =>
  Nat.lt_of_not_le fun hle => List.any_eq_false.mp h e (List.mem_filter.mp he).1 (decide_eq_true hle)

theorem caStore_local (hu : caUses (iD w) [iA w] = true) (hp : pair = true → (iD w).even = true)
    (hn : n = if pair then 8 else 4) (hloc : (k.lanesAt w).any (fun e => decide (0x80000000 ≤ e.2)) = false)
    (hf : s.lanesFault k (k.lanesAt w) n true = (s₂, none)) :
    s.caStore g k w pair = ((keptLanes (k.lanesAt w)).foldl (fun s e => (s.wrChk (localAddr g + e.2)
      (leBytes n (if pair then k.rd2 e.1 (iD w) else k.rd e.1 (iD w))) k.who).1) s₂, .go k.next) := by
  subst hn
  have hbad : (!caUses (iD w) [iA w] || (pair && !(iD w).even)) = false := by
    cases pair with
    | true => simp [hu, hp rfl]
    | false => simp [hu]
  unfold State.caStore
  extract_lets d n l keep
  rw [if_neg (Bool.not_eq_true _ ▸ hbad), show s.lanesFault k l n true = (s₂, none) from hf]
  refine congrArg (fun p : State × Kernel => (p.1, CaRes.go p.2.next)) (foldl_fst (h := fun (s : State) (e : Nat × Nat) => (s.wrChk (localAddr g + e.2)
    (leBytes n (if pair then k.rd2 e.1 d else k.rd e.1 d)) k.who).1) ?_ s₂)
  intro a e he
  exact if_pos (keptLanes_local hloc e he)

end access

theorem carillonLocalAccess : Sys2Proof.Parts.CarillonLocalAccess := by
  intro s s' s2 s3 g k k' w h hu hloc
  refine ⟨fun ho hf hl => ?ldw, fun ho he hf hl => ?ldd, fun ho hf => ?stw, fun ho he hf => ?std⟩
  case ldw =>
    refine congrArg Host.Outcome.next (caRow_go_of_issues h ho ?_)
    simpa only [State.caBody, ho] using caLoad_local (pair := false) hu (fun h => nomatch h) rfl hloc hf hl
  case ldd =>
    refine congrArg Host.Outcome.next (caRow_go_of_issues h ho ?_)
    simpa only [State.caBody, ho] using caLoad_local (pair := true) hu (fun _ => he) rfl hloc hf hl
  case stw =>
    refine congrArg Host.Outcome.next (caRow_go_of_issues h ho ?_)
    simpa only [State.caBody, ho, Bool.false_eq_true, if_false, if_true, keptLanes] using
      caStore_local (g := g) (pair := false) hu (fun h => nomatch h) rfl hloc hf
  case std =>
    refine congrArg Host.Outcome.next (caRow_go_of_issues h ho ?_)
    simpa only [State.caBody, ho, Bool.false_eq_true, if_false, if_true, keptLanes] using
      caStore_local (g := g) (pair := true) hu (fun _ => he) rfl hloc hf

/-! ### Far accesses and FENCE (R264, R268, R269) -/

section far
variable {s s' s₂ : State} {g : Nat} {k k' : Kernel} {w : Nat}

theorem doCaFarLoadData_fills {x : CaLoad} (hk : s.kernel g = some k) (hx : k.load = some x)
    (hready : (x.lanes.all fun e => e.2.2.isNone) = true) (hf : s.loadFill g { k with load := none } x = (s₂, .ok k')) :
    doCaFarLoadData g s = (s₂.dropLoad k).setKernel g k'.next := by
  have hnone : ∀ e ∈ x.lanes, e.2.2 = none := fun e he => by simpa using List.all_eq_true.mp hready e he
  unfold doCaFarLoadData
  simp only [hk, hx]
  rw [if_neg]
  · simp only [hf]
  · rw [Bool.not_eq_true, Bool.not_eq_false']
    refine List.all_eq_true.mpr fun e he => ?_
    simp only [hnone e he]

theorem doCaPostedStoreComplete_done {p : Posted} {ps : List Posted} (hk : s.kernel g = some k) (hp : k.posted = p :: ps)
    (ha : p.acc = none) (hd : s.caPostedDone g k p = (s₂, k')) : doCaPostedStoreComplete g s = s₂.setKernel g k' := by
  simp [doCaPostedStoreComplete, hk, hp, ha, hd]

end far

theorem carillonFarAccess : Sys2Proof.Parts.CarillonFarAccess := by
  intro s s' s2 s3 g k k' w
  refine ⟨fun ps h ho hu hfar hf hl => ?far,
    fun x hk hx hready hf => congrArg Host.Outcome.next (doCaFarLoadData_fills hk hx hready hf),
    fun p ps hk hp ha hd => congrArg Host.Outcome.next (doCaPostedStoreComplete_done hk hp ha hd),
    fun h ho hl hp => ?fence, fun h ho hl hp => ?waits⟩
  case far =>
    refine congrArg Host.Outcome.next
      (caRow_go_of_issues (k' := { k with load := some ⟨(iD w).num, (iD w).uni, false, ps⟩ }) h ho ?_)
    simpa only [State.caBody, ho] using caLoad_far hu hfar hf hl
  case fence =>
    refine congrArg Host.Outcome.next (caRow_go_of_issues h ho ?_)
    simp [State.caBody, ho, hl, Kernel.fence, hp]
  case waits =>
    obtain ⟨hk, hi, hfetch, hlim⟩ := h
    refine congrArg Host.Outcome.next (caRow_wait (s₁ := s') hk hi hfetch hlim ho ?_)
    simp [State.caBody, ho, hl, Kernel.fence, hp]

/-- Settles O20: loads and stores on the lanes of one kind, and the waits of far accesses. -/
theorem carillonAccess : Obligations.CarillonAccess := ⟨carillonLocalAccess, carillonFarAccess⟩

/-! ### Control words (R256, R262, R263) -/

section control
variable {k : Kernel} {w : Nat}

theorem control_if (h : caOp w = .if_) (hd : k.depth < 16) : k.control w =
    if k.cond (bitsOf w 20 6) = 0 then .go { k.push false (k.exec - k.cond (bitsOf w 20 6)) with
      exec := k.cond (bitsOf w 20 6), pc := (k.goto w).pc }
    else .go ({ k.push false (k.exec - k.cond (bitsOf w 20 6)) with exec := k.cond (bitsOf w 20 6) } : Kernel).next := by
  simp [Kernel.control, h, Nat.not_le.mpr hd]

theorem control_else (h : caOp w = .else_) (ht : k.top false = true) : k.control w =
    if k.topAlt = 0 then .go { k with exec := k.topAlt, pc := (k.goto w).pc }
    else .go ({ k with exec := k.topAlt } : Kernel).next := by
  simp [Kernel.control, h, ht]

theorem control_brk (h : caOp w = .brk) (ht : k.top true = true) : k.control w =
    if k.exec - k.cond (bitsOf w 20 6) = 0 then .go { k.pop with exec := k.topSaved, pc := (k.goto w).pc }
    else .go ({ k with exec := k.exec - k.cond (bitsOf w 20 6) } : Kernel).next := by
  simp [Kernel.control, h, ht]

theorem signedOf_eq_zero (n : Nat) : signedOf 32 n = 0 ↔ n % 2 ^ 32 = 0 := by
  simp only [signedOf]
  split <;> omega

theorem signedOf_neg (n : Nat) : signedOf 32 n < 0 ↔ ¬ n % 2 ^ 32 < 2 ^ 31 := by
  simp only [signedOf]
  split <;> omega

/-- BRU on a uniform register and a condition that Table 8.4 has. -/
theorem control_bru (h : caOp w = .bru) (ha : bitsOf w 20 6 < 16) (hn : bitsOf w 16 4 < 4) {yes : Bool}
    (hy : yes = match bitsOf w 16 4 with
      | 0 => decide (signedOf 32 (k.rd 0 ⟨true, bitsOf w 20 6⟩) = 0)
      | 1 => decide (signedOf 32 (k.rd 0 ⟨true, bitsOf w 20 6⟩) ≠ 0)
      | 2 => decide (signedOf 32 (k.rd 0 ⟨true, bitsOf w 20 6⟩) < 0)
      | _ => decide (0 ≤ signedOf 32 (k.rd 0 ⟨true, bitsOf w 20 6⟩))) :
    k.control w = .go (if yes then k.goto w else k.next) := by
  have hok : (!(CaReg.ok ⟨true, bitsOf w 20 6⟩) || decide (4 ≤ bitsOf w 16 4)) = false := by simp [CaReg.ok, ha, hn]
  subst hy
  simp only [Kernel.control, h, hok] <;> rfl

section bru
variable (h : caOp w = .bru) (ha : bitsOf w 20 6 < 16)
include h ha

theorem control_bru_zero (hn : bitsOf w 16 4 = 0) : k.control w =
    .go (if k.rd 0 ⟨true, bitsOf w 20 6⟩ % 2 ^ 32 = 0 then k.goto w else k.next) := by
  rw [control_bru h ha (by omega) (yes := decide (k.rd 0 ⟨true, bitsOf w 20 6⟩ % 2 ^ 32 = 0))
    (by simp only [hn]; exact decide_eq_decide.mpr (signedOf_eq_zero _).symm)]
  simp only [decide_eq_true_eq]

theorem control_bru_nonzero (hn : bitsOf w 16 4 = 1) : k.control w =
    .go (if k.rd 0 ⟨true, bitsOf w 20 6⟩ % 2 ^ 32 = 0 then k.next else k.goto w) := by
  rw [control_bru h ha (by omega) (yes := decide (¬ k.rd 0 ⟨true, bitsOf w 20 6⟩ % 2 ^ 32 = 0))
    (by simp only [hn]; exact decide_eq_decide.mpr (not_congr (signedOf_eq_zero _)).symm)]
  simp only [decide_eq_true_eq, ite_not]

theorem control_bru_negative (hn : bitsOf w 16 4 = 2) : k.control w =
    .go (if k.rd 0 ⟨true, bitsOf w 20 6⟩ % 2 ^ 32 < 2 ^ 31 then k.next else k.goto w) := by
  rw [control_bru h ha (by omega) (yes := decide (¬ k.rd 0 ⟨true, bitsOf w 20 6⟩ % 2 ^ 32 < 2 ^ 31))
    (by simp only [hn]; exact decide_eq_decide.mpr (signedOf_neg _).symm)]
  simp only [decide_eq_true_eq, ite_not]

theorem control_bru_nonnegative (hn : bitsOf w 16 4 = 3) : k.control w =
    .go (if k.rd 0 ⟨true, bitsOf w 20 6⟩ % 2 ^ 32 < 2 ^ 31 then k.goto w else k.next) := by
  have hge : k.rd 0 ⟨true, bitsOf w 20 6⟩ % 2 ^ 32 < 2 ^ 31 ↔ 0 ≤ signedOf 32 (k.rd 0 ⟨true, bitsOf w 20 6⟩) := by
    rw [← Int.not_lt, signedOf_neg, Decidable.not_not]
  rw [control_bru h ha (by omega) (yes := decide (k.rd 0 ⟨true, bitsOf w 20 6⟩ % 2 ^ 32 < 2 ^ 31))
    (by simp only [hn]; exact decide_eq_decide.mpr hge)]
  simp only [decide_eq_true_eq]

end bru

theorem control_bru_reserved (h : caOp w = .bru) (hr : 16 ≤ bitsOf w 20 6 ∨ 4 ≤ bitsOf w 16 4) : k.control w = .bad 1 := by
  rcases hr with hr | hr <;> simp [Kernel.control, h, CaReg.ok, hr]

end control

section controlRow
variable {s s' : State} {g : Fin 8} {k k' : Kernel} {w : Nat} {op : CaOp}

/-- The words that are control words alone. -/
def isControl (op : CaOp) : Bool :=
  op == .if_ || op == .else_ || op == .endif_ || op == .loop || op == .brk || op == .endloop || op == .bru || op == .jmp

theorem caBody_control (ho : caOp w = op) (hc : isControl op = true) : s.caBody g k w = (s, k.control w) := by
  subst ho
  cases hw : caOp w <;> simp [hw, isControl, State.caBody] at hc ⊢

theorem control_goes (h : s.caIssues s' g k w) (ho : caOp w = op) (hc : isControl op = true) (hk : k.control w = .go k') :
    s.caRow g op = s'.setKernel g { k' with steps := k.steps + 1 } :=
  caRow_go_of_issues h ho (by rw [caBody_control ho hc, hk])

theorem control_parks {cause : Nat} (h : s.caIssues s' g k w) (ho : caOp w = op) (hc : isControl op = true)
    (hk : k.control w = .bad cause) : s.caRow g op = s'.caPark g k cause 0 0 none :=
  caRow_park_of_issues h ho (by rw [caBody_control ho hc, hk]; rfl)

end controlRow

/-- Settles O21: what each control word does to the kernel, and one lemma for the group that runs it. -/
theorem carillonControlWords : Obligations.CarillonControlWords := by
  rintro s s' g k w _ h rfl
  have hgo {op : CaOp} {k' : Kernel} (ho : caOp w = op) (hc : isControl op = true) (hk : k.control w = .go k') :
      Host.Outcome.next (s.caRow g op) =
        (.next (s'.setKernel g { k' with steps := k.steps + 1 }) : Host.Outcome State Fault Refusal) :=
    congrArg _ (control_goes h ho hc hk)
  have hbad {op : CaOp} {cause : Nat} (ho : caOp w = op) (hc : isControl op = true) (hk : k.control w = .bad cause) :
      Host.Outcome.next (s.caRow g op) = (.next (s'.caPark g k cause 0 0 none) : Host.Outcome State Fault Refusal) :=
    congrArg _ (control_parks h ho hc hk)
  refine ⟨fun ho hd hc => hgo ho rfl ((control_if ho hd).trans (if_neg hc)), fun ho hd hc => ?ifZero, fun ho hd => hbad ho rfl ?ifFull,
    fun ho ht ha => hgo ho rfl ((control_else ho ht).trans (if_neg ha)), fun ho ht ha => ?elseZero, fun ho ht => hbad ho rfl ?elseBad,
    fun ho ht => hgo ho rfl ?endif, fun ho ht => hbad ho rfl ?endifBad, fun ho hd => hgo ho rfl ?loop,
    fun ho hd => hbad ho rfl ?loopFull, fun ho ht hc => hgo ho rfl ((control_brk ho ht).trans (if_neg hc)),
    fun ho ht hc => ?brkZero, fun ho ht => hbad ho rfl ?brkBad, fun ho => hgo ho rfl ?endloop, fun ho => hgo ho rfl ?jmp,
    fun ho ha hn => hgo ho rfl (control_bru_zero ho ha hn), fun ho ha hn => hgo ho rfl (control_bru_nonzero ho ha hn),
    fun ho ha hn => hgo ho rfl (control_bru_negative ho ha hn), fun ho ha hn => hgo ho rfl (control_bru_nonnegative ho ha hn),
    fun ho hr => hbad ho rfl (control_bru_reserved ho hr)⟩
  case ifZero => exact hgo ho rfl ((control_if ho hd).trans (if_pos hc))
  case ifFull => simp [Kernel.control, ho, hd]
  case elseZero => exact hgo ho rfl ((control_else ho ht).trans (if_pos ha))
  case elseBad => simp [Kernel.control, ho, ht]
  case endif => simp [Kernel.control, ho, ht]
  case endifBad => simp [Kernel.control, ho, ht]
  case loop => simp [Kernel.control, ho, Nat.not_le.mpr hd]
  case loopFull => simp [Kernel.control, ho, hd]
  case brkZero => exact hgo ho rfl ((control_brk ho ht).trans (if_pos hc))
  case brkBad => simp [Kernel.control, ho, ht]
  case endloop => simp only [Kernel.control, ho]
  case jmp => simp only [Kernel.control, ho]

end Sys2Proof.Machine
end

section
/-! PROOFS. Launches, Kettle operations and parks of Carillon (spec/08 R264, R271 to R290). -/
namespace Sys2Proof.Machine

/-! ### Launches and ends (R271 to R274, R286) -/

section launch
variable {s s' s₂ : State}

/-- The launch that a block describes. -/
def launchOf (r : HelpReq) (b : List Byte) : Launch :=
  { req := r, entry := leAt b 0 2, groups := leAt b 2 1, farEn := bitAt (leAt b 3 1) 0, autoAb := bitAt (leAt b 3 1) 1
    farBase := leAt b 8 8, arg := (b.drop 0x10).take 32 }

variable {r : HelpReq} {rs : List HelpReq} {b : List Byte} (hr : s.eg.launchReqs = r :: rs) (hroom : s.ca.queue.length < 32)
  (hs : s' = ({ s with eg := { s.eg with launchReqs := rs } } : State)) (hok : s'.blockOk r 64 = true)
  (hread : s'.blockRead r 0 64 = (s₂, some b))
include hr hroom hs hok hread

theorem doLaunchRequest_queues (hc : s₂.launchCheck r b = none) :
    doLaunchRequest s = { s₂ with ca := { s₂.ca with queue := s₂.ca.queue ++ [launchOf r b] } } := by
  subst hs
  simp [doLaunchRequest, hr, Nat.not_le.mpr hroom, hok, hread, hc, launchOf]

theorem doLaunchRequest_refuses {st : Nat} (hc : s₂.launchCheck r b = some st) :
    doLaunchRequest s = (s₂.bump 0x00310814).complete r 4 st := by
  subst hs
  simp [doLaunchRequest, hr, Nat.not_le.mpr hroom, hok, hread, hc]

end launch

section kernel
variable {s s' s₂ : State} {g : Nat} {k : Kernel} {w : Nat}

theorem doKernelStart_starts {x : Launch} {n : Nat} (hf : s.followsSite 0x07 (fun _ => true) = false)
    (hx : s.ca.queue.findSome? (fun x => (lowest 8 (s.groupTakes x)).map fun g => (x, g)) = some (x, n)) :
    doKernelStart s = (s.decision 0x07 x.master (leBytes 1 n ++ leBytes 3 0 ++ leBytes 4 s.ca.lnum)).startKernel x n := by
  simp [doKernelStart, hf, hx]

theorem doKernelEnd_ends (hk : s.kernel g = some k) (he : k.exiting = true)
    (hs : s₂ = (s.blockWrite k.launch.req 0x30 ((upTo 4).flatMap fun i => leBytes 4 (NatMap.get 0 k.u i))).blockWrite
      k.launch.req 4 (leBytes 4 (caStat g 0))) :
    doKernelEnd g s = ((s₂.bump (caKey g 0x30)).freeGroup g).complete k.launch.req 4 (if k.postErr then 5 else 0) := by
  subst hs
  simp [doKernelEnd, hk, he]

theorem exit_goes (hd : k.depth = 0) (hu : k.unfinished = false) (hp : k.posted = []) (hf : k.exitFault = none) :
    k.exit = .go { k with exiting := true } := by
  simp [Kernel.exit, hd, hu, hp, hf]

/-- A kernel at its limit parks at a word that would go on. -/
theorem doIlimit_parks {k' : Kernel} (hk : s.kernel g = some k) (hi : k.issues = true) (hf : s.caFetch k = (s', .ok w))
    (hl : k.atLimit = true) (hb : s'.caBody g k w = (s₂, .go k')) : doIlimit g s = s'.caPark g k 11 0 0 none := by
  simp [doIlimit, hk, hl, State.caStep, hi, hf, hb]

theorem doIlimit_below (hk : s.kernel g = some k) (hl : k.ilim = 0 ∨ k.steps < k.ilim) : doIlimit g s = s := by
  have hat : k.atLimit = false := by
    rcases hl with hl | hl
    · simp [Kernel.atLimit, hl]
    · simp [Kernel.atLimit, Nat.not_le.mpr hl]
  simp [doIlimit, hk, hat]

@[simp] theorem kernel_setKernel (s : State) (g : Nat) (k : Kernel) : (s.setKernel g k).kernel g = some k := by
  simp [State.kernel, State.setKernel, NatMap.find_ins_same]

end kernel

/-- Settles O22: the branches of the launch service, of EXIT and of the step limit, each as a lemma of its own. -/
theorem carillonLaunches : Obligations.CarillonLaunches := by
  intro s s' s2 g k w
  refine ⟨fun r rs b hr hroom hs hok hread hc => ⟨launchOf r b,
      congrArg Host.Outcome.next (doLaunchRequest_queues hr hroom hs hok hread hc), rfl, rfl, rfl, rfl, rfl, rfl, rfl⟩,
    fun r rs b st hr hroom hs hok hread hc => congrArg Host.Outcome.next (doLaunchRequest_refuses hr hroom hs hok hread hc),
    fun x n hf hx => congrArg Host.Outcome.next (doKernelStart_starts hf hx), fun h ho hd hu hp hf => ?exit,
    fun hk he hs => congrArg Host.Outcome.next (doKernelEnd_ends hk he hs), fun h ho => ?bkpt, fun hk hi hf hl ho => ?limit,
    fun hk hl => congrArg Host.Outcome.next (doIlimit_below hk hl), fun x n => ⟨_, kernel_setKernel _ n _, rfl, rfl, rfl, rfl⟩⟩
  case exit =>
    refine congrArg Host.Outcome.next (caRow_go_of_issues (k' := { k with exiting := true }) h ho ?_)
    simp only [State.caBody, ho, exit_goes hd hu hp hf]
  case bkpt =>
    refine congrArg Host.Outcome.next (caRow_park_of_issues h ho ?_)
    simp only [State.caBody, ho, CaRes.bad]
  case limit =>
    refine congrArg Host.Outcome.next (doIlimit_parks (k' := k.goto w) hk hi hf hl ?_ (s₂ := s'))
    simp only [State.caBody, ho, Kernel.control]

/-! ### Kettle (R277 to R283) -/

section kettle
variable {s s' s₂ : State} {g n t : Nat} {k : Kernel} {w : Nat}

theorem caKstart_takes (ha : k.rd 0 (rA w) % 64 = 0) (hend : k.rd 0 (rA w) + 64 ≤ 0x40000)
    (ht : lowest 8 (fun t => (k.tok t).isNone) = some t) : s.caKstart g k w =
      (s.ktQueue g (k.put1 0 (rD w) t).next t (k.rd 0 (rA w)), .go { (k.put1 0 (rD w) t).next with
        toks := (k.put1 0 (rD w) t).next.toks ++ [⟨t, k.rd 0 (rA w), .waiting⟩] }) := by
  simp [State.caKstart, ha, Nat.not_lt.mpr hend, ht]

theorem caKstart_full (ha : k.rd 0 (rA w) % 64 = 0) (hend : k.rd 0 (rA w) + 64 ≤ 0x40000)
    (ht : lowest 8 (fun t => (k.tok t).isNone) = none) : s.caKstart g k w = (s, .bad 9) := by
  simp [State.caKstart, ha, Nat.not_lt.mpr hend, ht]

/-- Whose an operation's error is: its kernel's, while that runs. -/
def ktWho (s : State) (o : KtOp) : Who := (s.ktKernel o).elim {} Kernel.who

/-- What the checks at an operation's start find (R282). -/
def ktStatus (d : List Byte) : KtStatus := (ktCheck d).elim .waiting .desc

theorem doKettleOpStart_starts {o : KtOp} {d : List Byte} (hrun : (s.kettleAt n).run = none) (hp : (s.kettleAt n).pick = some o)
    (hrd : s.rdChk (localAddr o.g + o.addr) 64 (ktWho s o) = (s₂, some d)) :
    doKettleOpStart n s = ({ s₂ with dozing := putBits s₂.dozing (16 + n) 1 0 } : State).modKettle n fun u =>
      { u with queue := u.queue.erase o, run := some (o, d, ktStatus d) } := by
  unfold doKettleOpStart ktStatus
  unfold ktWho at hrd
  cases hk : s.ktKernel o with
  | none =>
    simp only [hk, Option.elim_none] at hrd
    cases hc : ktCheck d <;> simp [hrun, hp, hk, hrd, hc]
  | some k =>
    simp only [hk, Option.elim_some] at hrd
    cases hc : ktCheck d <;> simp [hrun, hp, hk, hrd, hc]

theorem doKettleOpEnd_done {o : KtOp} {d : List Byte} {k₁ : Kernel} (hrun : (s.kettleAt n).run = some (o, d, .waiting))
    (hk : s.ktKernel o = some k) (hwork : s.ktWork o.g k.who d true = (s₂, .done)) {s₃ : State}
    (hs : s₃ = ((s₂.bump (0x00310000 + 0x100 * n + 0x10)).bumpBy (0x00310000 + 0x100 * n + 0x14) (ktSteps d)).modKettle n fun u =>
      { u with run := none, last := if u.queue.isEmpty then none else some (o.g % 2 == 1) })
    (hk₁ : s₃.ktKernel o = some k₁) :
    doKettleOpEnd n s = (s₃.setKernel o.g { k₁ with toks := k₁.toks.map fun t =>
      if t.num == o.tok then { t with status := .done } else t }).parkFinish o.g := by
  subst hs
  simp only [doKettleOpEnd, hrun, hk, Option.isSome_some, if_true, hwork, hk₁]

end kettle

/-- Settles O23: KSTART and KWAIT by their branches, and a unit's start and end. -/
theorem kettleOperations : Obligations.KettleOperations := by
  intro s s' s2 g n k w
  refine ⟨fun t h ho hl ha hend ht k1 hk1 => ?start, fun h ho hl ha hend ht => ?full, fun x h ho hl hx hst => ?done,
    fun x sub h ho hl hx hst => ?faulted, fun h ho hl hx => ?none, fun o d hrun hp hrd => ?opStart,
    fun o d hrun hk hwork s3 hs k1 hk1 => congrArg Host.Outcome.next (doKettleOpEnd_done hrun hk hwork hs hk1)⟩
  case start =>
    subst hk1
    refine congrArg Host.Outcome.next (caRow_go_of_issues (k' := { (k.put1 0 (rD w) t).next with
      toks := (k.put1 0 (rD w) t).next.toks ++ [⟨t, k.rd 0 (rA w), .waiting⟩] }) h ho ?_)
    simp only [State.caBody, ho, hl, if_true, caKstart_takes ha hend ht]
  case full =>
    refine congrArg Host.Outcome.next (caRow_park_of_issues h ho ?_)
    simp only [State.caBody, ho, hl, if_true, caKstart_full ha hend ht, CaRes.bad]
  case done =>
    refine congrArg Host.Outcome.next (caRow_go_of_issues h ho ?_)
    simp only [State.caBody, ho, hl, if_true, Kernel.kwait, hx, hst]
  case faulted =>
    refine congrArg Host.Outcome.next (caRow_park_of_issues h ho ?_)
    simp only [State.caBody, ho, hl, if_true, Kernel.kwait, hx, hst]
    rfl
  case none =>
    refine congrArg Host.Outcome.next (caRow_park_of_issues h ho ?_)
    simp only [State.caBody, ho, hl, if_true, Kernel.kwait, hx, CaRes.bad]
  case opStart =>
    have hwho : ktWho s o = match s.ktKernel o with | some k => k.who | none => {} := by unfold ktWho; cases s.ktKernel o <;> rfl
    refine congrArg Host.Outcome.next ((doKettleOpStart_starts hrun hp (by rw [hwho]; exact hrd)).trans ?_)
    unfold ktStatus
    cases ktCheck d <;> rfl

/-! ### Parks (R287 to R290) -/

section parks
variable {s s₂ : State} {g : Nat} {k k₁ : Kernel} {p : CaPark} {t : Nat}
  (hk : s.kernel g = some k) (hp : k.park = some p)
include hk hp

theorem doResume_resumes (ht : p.since = some t) (ho : s.parkOutcome g k 1 = some s₂) (hk₁ : s₂.kernel g = some k₁) :
    doResume g s = s₂.requeue g { k₁ with park := none, writes := [] } := by
  simp [doResume, State.resumeParked, hk, hp, ht, ho, hk₁]

theorem abandonParked_abandons (ht : p.since = some t) (ho : s.parkOutcome g k 2 = some s₂) :
    s.abandonParked g = s₂.abandonKernel g k p.cause := by
  simp [State.abandonParked, hk, hp, ht, ho]

theorem doParkTimeout_abandons (ht : p.since = some t) (hpto : k.pto ≠ 0) (hdue : t + 1000000 * k.pto < s.now)
    (ho : s.parkOutcome g k 2 = some s₂) : doParkTimeout g s = s₂.abandonKernel g k p.cause := by
  simp [doParkTimeout, hk, hp, ht, hpto, hdue, abandonParked_abandons hk hp ht ho]

/-- A write of a parked group's state (R287). -/
theorem doCaStateWrite_parked {off sp lane o v : Nat} (ht : p.since = some t) (hw : caWindow off = some (sp, lane, o)) :
    doCaStateWrite g off v s = s.setKernel g (if sp = 6 then { k with exec := v % 2 ^ 32 }
      else if sp = 7 then { k with mkind := v % 0x10000 } else k.setWord sp lane o v) := by
  simp [doCaStateWrite, hw, hk, hp, ht]

theorem doCaStateWrite_not_parked {off sp lane o v : Nat} (ht : p.since = none) (hw : caWindow off = some (sp, lane, o)) :
    doCaStateWrite g off v s = s.setBit (caKey g 0x08) 2 := by
  simp [doCaStateWrite, hw, hk, hp, ht]

end parks

theorem caWindow_u {i : Nat} (h : i < 16) : caWindow (0x800 + 4 * i) = some (1, 0, 4 * i) := by
  unfold caWindow
  rw [if_neg (by omega), if_neg (by omega), if_neg (by omega), if_pos (by simp; omega)]
  simp

/-- Settles O24: the outcomes of a park, and the windows of a parked group's state. -/
theorem carillonParks : Obligations.CarillonParks := by
  intro s s2 g k k1 p t hk hp
  refine ⟨fun ht ho hk1 => congrArg Host.Outcome.next (doResume_resumes hk hp ht ho hk1),
    fun ht ho => congrArg Host.Outcome.next (abandonParked_abandons hk hp ht ho),
    fun ht hpto hdue ho => congrArg Host.Outcome.next (doParkTimeout_abandons hk hp ht hpto hdue ho), fun ht v => ?exec,
    fun ht v => ?pc, fun ht v i hi => ?u,
    fun ht v => congrArg Host.Outcome.next (doCaStateWrite_not_parked hk hp ht (sp := 6) (lane := 0) (o := 0) rfl)⟩
  case exec =>
    refine congrArg Host.Outcome.next ((doCaStateWrite_parked hk hp ht (sp := 6) (lane := 0) (o := 0) rfl).trans ?_)
    rw [if_pos rfl, Nat.mod_eq_of_lt v.isLt]
  case pc =>
    refine congrArg Host.Outcome.next ((doCaStateWrite_parked hk hp ht (sp := 5) (lane := 0) (o := 0) rfl).trans ?_)
    simp [Kernel.setWord, Nat.mod_eq_of_lt v.isLt]
  case u =>
    refine congrArg Host.Outcome.next ((doCaStateWrite_parked hk hp ht (caWindow_u hi)).trans ?_)
    simp [Kernel.setWord, Nat.mod_eq_of_lt v.isLt]

end Sys2Proof.Machine
end

section
/-! PROOFS. Fields of words: what a field write and a masked write leave bit by bit. -/
namespace Sys2Proof.Machine

/-! ### Bits of a number -/

theorem bitAt_eq_testBit (n i : Nat) : bitAt n i = n.testBit i := by
  rw [bitAt, Nat.testBit_eq_decide_div_mod_eq, Nat.shiftRight_eq_div_pow]
  rfl

theorem testBit_bitsOf (n lo w j : Nat) : (bitsOf n lo w).testBit j = (decide (j < w) && n.testBit (lo + j)) := by
  rw [bitsOf, Nat.testBit_mod_two_pow, Nat.testBit_shiftRight]

/-- Two fields are equal where their bits are. -/
theorem bitsOf_congr {m n lo w : Nat} (h : ∀ i, lo ≤ i → i < lo + w → m.testBit i = n.testBit i) : bitsOf m lo w = bitsOf n lo w := by
  refine Nat.eq_of_testBit_eq fun j => ?_
  rw [testBit_bitsOf, testBit_bitsOf]
  by_cases hj : j < w
  · rw [h (lo + j) (by omega) (by omega)]
  · simp [hj]

/-- A field holds a value where its bits are that value's. -/
theorem bitsOf_eq_mod {n lo w v : Nat} (h : ∀ j, j < w → n.testBit (lo + j) = v.testBit j) : bitsOf n lo w = v % 2 ^ w := by
  refine Nat.eq_of_testBit_eq fun j => ?_
  rw [testBit_bitsOf, Nat.testBit_mod_two_pow]
  by_cases hj : j < w
  · rw [h j hj]
  · simp [hj]

/-- Numbers without a common bit add as they join. -/
theorem add_eq_or_of_and_eq_zero {x : Nat} : ∀ {y : Nat}, x &&& y = 0 → x + y = x ||| y := by
  induction x using Nat.strongRecOn with
  | ind x ih =>
    intro y h
    rcases Nat.eq_zero_or_pos x with rfl | hx
    · simp
    · have hhalf : x / 2 + y / 2 = x / 2 ||| y / 2 := ih (x / 2) (by omega) (by rw [← Nat.and_div_two, h])
      have hlow : ¬ (x % 2 = 1 ∧ y % 2 = 1) := by
        have hz := Nat.testBit_and x y 0
        rw [h] at hz
        simpa [Nat.testBit_zero] using hz
      have hdiv : (x ||| y) / 2 = x / 2 ||| y / 2 := Nat.or_div_two
      have hmod : (x ||| y) % 2 = if x % 2 = 1 ∨ y % 2 = 1 then 1 else 0 := by
        have hz := Nat.testBit_or x y 0
        simp only [Nat.testBit_zero] at hz
        split
        next h1 => simp [h1]
        next h1 =>
          have : ¬ (x ||| y) % 2 = 1 := by
            intro hc
            simp [hc] at hz
            exact h1 hz
          omega
      split at hmod <;> omega

theorem testBit_add_of_and_eq_zero {x y : Nat} (h : x &&& y = 0) (i : Nat) : (x + y).testBit i = (x.testBit i || y.testBit i) := by
  rw [add_eq_or_of_and_eq_zero h, Nat.testBit_or]

/-- Taking away the bits under a mask. -/
theorem testBit_sub_and (n m i : Nat) : (n - (n &&& m)).testBit i = (n.testBit i && !m.testBit i) := by
  have hd : (n &&& m) &&& (n ^^^ (n &&& m)) = 0 := Nat.eq_of_testBit_eq fun j => by
    simp only [Nat.testBit_and, Nat.testBit_xor, Nat.zero_testBit]
    cases n.testBit j <;> cases m.testBit j <;> rfl
  have hsum : (n &&& m) + (n ^^^ (n &&& m)) = n := by
    rw [add_eq_or_of_and_eq_zero hd]
    refine Nat.eq_of_testBit_eq fun j => ?_
    simp only [Nat.testBit_or, Nat.testBit_and, Nat.testBit_xor]
    cases n.testBit j <;> cases m.testBit j <;> rfl
  have hsub : n - (n &&& m) = n ^^^ (n &&& m) := by omega
  rw [hsub, Nat.testBit_xor, Nat.testBit_and]
  cases n.testBit i <;> cases m.testBit i <;> rfl

theorem testBit_putMask (n m v i : Nat) : (putMask n m v).testBit i = if m.testBit i then v.testBit i else n.testBit i := by
  have hd : (n - (n &&& m)) &&& (v &&& m) = 0 := Nat.eq_of_testBit_eq fun j => by
    simp only [Nat.testBit_and, testBit_sub_and, Nat.zero_testBit]
    cases m.testBit j <;> simp
  rw [putMask, testBit_add_of_and_eq_zero hd, testBit_sub_and, Nat.testBit_and]
  cases m.testBit i <;> simp

theorem testBit_putBits (n lo w v i : Nat) :
    (putBits n lo w v).testBit i = if lo ≤ i ∧ i < lo + w then v.testBit (i - lo) else n.testBit i := by
  have hdiv : n = n / 2 ^ lo * 2 ^ lo + n % 2 ^ lo := (Nat.div_add_mod' n _).symm
  have hq : n / 2 ^ lo = n / 2 ^ lo / 2 ^ w * 2 ^ w + n / 2 ^ lo % 2 ^ w := (Nat.div_add_mod' _ _).symm
  have hput : putBits n lo w v = 2 ^ lo * (2 ^ w * (n / 2 ^ lo / 2 ^ w) + v % 2 ^ w) + n % 2 ^ lo := by
    rw [putBits, bitsOf, Nat.shiftRight_eq_div_pow]
    generalize n / 2 ^ lo / 2 ^ w = h at hq ⊢
    generalize n / 2 ^ lo % 2 ^ w = f at hq ⊢
    generalize n % 2 ^ lo = r at hdiv ⊢
    rw [hq] at hdiv
    have hn : n = (h * 2 ^ w * 2 ^ lo + r) + f * 2 ^ lo := by rw [hdiv, Nat.add_mul, Nat.add_right_comm]
    rw [hn, Nat.add_sub_cancel, Nat.mul_comm (2 ^ lo), Nat.add_mul, Nat.mul_comm (2 ^ w) h, Nat.add_right_comm]
  have hn (j : Nat) : n.testBit (j + lo) = (n / 2 ^ lo).testBit j := by
    rw [← Nat.shiftRight_eq_div_pow, Nat.testBit_shiftRight, Nat.add_comm]
  rw [hput, Nat.testBit_two_pow_mul_add _ (Nat.mod_lt _ (Nat.two_pow_pos lo))]
  by_cases h1 : i < lo
  · rw [if_pos h1, if_neg (by omega), Nat.testBit_mod_two_pow]
    simp [h1]
  · rw [if_neg h1, Nat.testBit_two_pow_mul_add _ (Nat.mod_lt _ (Nat.two_pow_pos w))]
    by_cases h2 : i - lo < w
    · rw [if_pos h2, if_pos (by omega), Nat.testBit_mod_two_pow]
      simp [h2]
    · rw [if_neg h2, if_neg (by omega), ← Nat.shiftRight_eq_div_pow (n / 2 ^ lo), Nat.testBit_shiftRight, ← hn]
      congr 1
      omega

/-! ### Fields of a register -/

/-- Bit `i` lies in a field. -/
def RegField.has (f : RegField) (i : Nat) : Bool := decide (f.lo ≤ i) && decide (i < f.lo + f.w)

theorem RegField.has_iff {f : RegField} {i : Nat} : f.has i = true ↔ f.lo ≤ i ∧ i < f.lo + f.w := by
  simp [RegField.has]

/-- Two fields share no bit. -/
abbrev RegField.apart (f g : RegField) : Prop := f.lo + f.w ≤ g.lo ∨ g.lo + g.w ≤ f.lo

theorem RegField.apart_not_has {f g : RegField} (h : f.apart g) {i : Nat} (hf : f.has i = true) : g.has i = false := by
  rw [RegField.has_iff] at hf
  refine Bool.eq_false_iff.mpr fun hg => ?_
  rw [RegField.has_iff] at hg
  rcases h with h | h <;> omega

/-- A register's fields lie in its 32 bits, and no two share a bit. -/
def RegDesc.sound (d : RegDesc) : Prop := (∀ f ∈ d.fields, 0 < f.w ∧ f.lo + f.w ≤ 32) ∧ d.fields.Pairwise RegField.apart

/-- Two elements of a list whose pairs are related are related one way or the other. -/
theorem pairwise_rel_or_rel {α : Type} {R : α → α → Prop} {l : List α} (h : l.Pairwise R) {a b : α} (ha : a ∈ l) (hb : b ∈ l)
    (hne : a ≠ b) : R a b ∨ R b a := by
  induction h with
  | nil => cases ha
  | cons hx _ ih =>
    rcases List.mem_cons.mp ha with hax | hal
    · rcases List.mem_cons.mp hb with hbx | hbl
      · exact absurd (hax.trans hbx.symm) hne
      · exact .inl (hax ▸ hx b hbl)
    · rcases List.mem_cons.mp hb with hbx | hbl
      · exact .inr (hbx ▸ hx a hal)
      · exact ih hal hbl

/-- A bit lies in one field alone. -/
theorem RegDesc.sound.eq_of_has {d : RegDesc} (h : d.sound) {f g : RegField} (hf : f ∈ d.fields) (hg : g ∈ d.fields) {i : Nat}
    (hfi : f.has i = true) (hgi : g.has i = true) : f = g := by
  refine Classical.byContradiction fun hne => ?_
  have hapart : f.apart g := (pairwise_rel_or_rel h.2 hf hg hne).elim id Or.symm
  rw [RegField.apart_not_has hapart hfi] at hgi
  cases hgi

/-- Writes to fields: the bits outside them stay. -/
theorem testBit_foldl_putBits_out (q : RegField → Bool) (v : RegField → Nat) (l : List RegField) {i : Nat}
    (h : ∀ f ∈ l, q f = true → f.has i = false) : ∀ n,
      (l.foldl (fun w f => if q f then putBits w f.lo f.w (v f) else w) n).testBit i = n.testBit i := by
  induction l with
  | nil => exact fun _ => rfl
  | cons f l ih =>
    intro n
    rw [List.foldl_cons, ih (fun g hg => h g (List.mem_cons_of_mem _ hg))]
    split
    next hq =>
      have hf : ¬ (f.lo ≤ i ∧ i < f.lo + f.w) := fun hc => by
        have := h f List.mem_cons_self hq
        rw [RegField.has_iff.mpr hc] at this
        cases this
      rw [testBit_putBits, if_neg hf]
    next => rfl

/-- Those within a field that is written are the value's. -/
theorem testBit_foldl_putBits_in (q : RegField → Bool) (v : RegField → Nat) {l : List RegField} (hl : l.Pairwise RegField.apart)
    {f : RegField} (hf : f ∈ l) (hq : q f = true) {i : Nat} (hi : f.has i = true) : ∀ n,
      (l.foldl (fun w f => if q f then putBits w f.lo f.w (v f) else w) n).testBit i = (v f).testBit (i - f.lo) := by
  induction l with
  | nil => cases hf
  | cons g l ih =>
    intro n
    obtain ⟨hg, hl'⟩ := List.pairwise_cons.mp hl
    rcases List.mem_cons.mp hf with rfl | hf'
    · rw [List.foldl_cons, if_pos hq, testBit_foldl_putBits_out q v l (fun g hg' _ => RegField.apart_not_has (hg g hg') hi),
        testBit_putBits, if_pos (RegField.has_iff.mp hi)]
    · exact ih hl' hf' _

theorem testBit_foldl_mask (p : RegField → Bool) {l : List RegField} (hl : l.Pairwise RegField.apart) (i : Nat) : ∀ a : Nat,
    (∀ f ∈ l, ∀ j, f.has j = true → a.testBit j = false) →
      (l.foldl (fun a f => if p f then a + (2 ^ f.w - 1) * 2 ^ f.lo else a) a).testBit i =
        (a.testBit i || l.any fun f => p f && f.has i) := by
  induction l with
  | nil => simp
  | cons f l ih =>
    intro a ha
    obtain ⟨hf, hl'⟩ := List.pairwise_cons.mp hl
    have hones (j : Nat) : ((2 ^ f.w - 1) * 2 ^ f.lo).testBit j = f.has j := by
      rw [Nat.testBit_mul_two_pow, Nat.testBit_two_pow_sub_one, RegField.has]
      by_cases hj : f.lo ≤ j
      · have : j - f.lo < f.w ↔ j < f.lo + f.w := by omega
        simp [hj, this]
      · simp [hj]
    have hand : a &&& (2 ^ f.w - 1) * 2 ^ f.lo = 0 := Nat.eq_of_testBit_eq fun j => by
      rw [Nat.testBit_and, hones, Nat.zero_testBit]
      cases hj : f.has j
      · simp
      · simp [ha f List.mem_cons_self j hj]
    rw [List.foldl_cons, List.any_cons]
    by_cases hp : p f = true
    · rw [if_pos hp, ih hl', testBit_add_of_and_eq_zero hand, hones, hp, Bool.true_and, Bool.or_assoc]
      intro g hg j hj
      rw [testBit_add_of_and_eq_zero hand, hones, ha g (List.mem_cons_of_mem _ hg) j hj, Bool.false_or]
      exact RegField.apart_not_has (hf g hg).symm hj
    · rw [if_neg hp, ih hl' a fun g hg => ha g (List.mem_cons_of_mem _ hg)]
      simp [hp]

/-- The mask of the fields that satisfy `p` has their bits. -/
theorem RegDesc.sound.testBit_mask {d : RegDesc} (h : d.sound) (p : RegField → Bool) (i : Nat) :
    (d.mask p).testBit i = d.fields.any fun f => p f && f.has i := by
  rw [RegDesc.mask, testBit_foldl_mask p h.2 i 0 (by simp)]
  simp

/-- Within a field of its own a mask has a bit where the field satisfies `p`. -/
theorem RegDesc.sound.testBit_mask_of_mem {d : RegDesc} (h : d.sound) (p : RegField → Bool) {f : RegField} (hf : f ∈ d.fields) {i : Nat}
    (hi : f.has i = true) : (d.mask p).testBit i = p f := by
  rw [h.testBit_mask]
  cases hp : p f
  · refine List.any_eq_false.mpr fun g hg hc => ?_
    obtain ⟨hpg, hgi⟩ := Bool.and_eq_true_iff.mp hc
    rw [h.eq_of_has hf hg hi hgi] at hp
    rw [hp] at hpg
    cases hpg
  · exact List.any_eq_true.mpr ⟨f, hf, by simp [hp, hi]⟩

end Sys2Proof.Machine
end

section
/-! PROOFS. Reads and writes of registers through the views (spec/00 R5 to R16, R598; spec/14 R452). -/
namespace Sys2Proof.Machine

/-! ### Misaligned accesses (R5, R415) -/

section misaligned
variable {s : State} {v : View} {off bytes : Nat} (hhas : s.viewHas v off = true) (hopen : s.viewOpen v = true)
  (hbad : off % 4 ≠ 0 ∨ bytes ≠ 4)
include hopen hbad

theorem viewRead_misaligned : s.viewRead v off bytes = (s.bump (instKey (viewFn v) 0x4008), 0xFFFFFFFF) := by
  have hb : (decide (off % 4 ≠ 0) || decide (bytes ≠ 4)) = true := by simpa using hbad
  cases hm : s.mailboxAt v off with
  | none => simp only [State.viewRead, hm, hopen, hb]; rfl
  | some x => simp only [State.viewRead, hm, hb, if_true]

include hhas

theorem doViewRead_misaligned : doViewRead v off bytes s =
    (s.bump (instKey (viewFn v) 0x4008)).emit .regData (viewFn v) off (leBytes 4 0xFFFFFFFF) := by
  simp only [doViewRead, hhas, viewRead_misaligned hopen hbad]
  rfl

theorem doRegWrite_misaligned (val : Nat) : doRegWrite v off bytes val s = s.bump (instKey (viewFn v) 0x4008) := by
  have hb : (decide (off % 4 ≠ 0) || decide (bytes ≠ 4)) = true := by simpa using hbad
  cases hm : s.mailboxAt v off with
  | none => simp only [doRegWrite, hhas, hm, hopen, hb]; rfl
  | some x => simp only [doRegWrite, hhas, hm, hb]; rfl

end misaligned

/-- Settles O26: a view refuses such an access before it looks at what the offset names. -/
theorem misalignedAccess : Obligations.MisalignedAccess := fun _ _ _ _ val hhas hopen hbad =>
  ⟨congrArg Host.Outcome.next (doViewRead_misaligned hhas hopen hbad),
    congrArg Host.Outcome.next (doRegWrite_misaligned hhas hopen hbad val.toNat)⟩

/-! ### Reads of the privileged view (R6, R8, R9, R65) -/

section reads
variable {s : State} {off : Nat} {d : RegDesc} (hoff : off < 0x01000000) (hal : off % 4 = 0) (hm : s.mailboxAt .pf off = none)
  (hb : s.bootFailed = false)
include hoff hal hm hb

theorem doViewRead_pf : doViewRead .pf off 4 s = (s.readReg off).1.emit .regData 0 off (leBytes 4 (s.readReg off).2) := by
  have hh : s.viewHas .pf off = true := by simpa [State.viewHas] using hoff
  simp only [doViewRead, hh, State.viewRead, hm, State.viewOpen, hal, hb, viewFn]
  rfl

end reads

section readReg
variable {s : State} {off : Nat} {d : RegDesc} (hoff : off < 0x01000000) (ht : s.tableRead off = none) (hd : regAt off = some d)
include hoff ht hd

theorem readReg_upper (hu : isUpper off = true) : s.readReg off = (s, NatMap.get (latchReset off) s.latches off) := by
  have h0 : off / 0x01000000 = 0 := Nat.div_eq_of_lt hoff
  simp [State.readReg, h0, ht, hd, hu]

/-- A word that is no upper word: the upper words of a pair are latched, and read-to-clear fields clear. -/
theorem readReg_lower (hu : isUpper off = false) (hmm : off ≠ 0x00130028) : s.readReg off =
    (if (d.fields.any fun f => f.acc == .rc) = true then
      ({ s with latches := (uppersOf off).foldl (fun m u => NatMap.put (latchReset u) m u (s.shownWord u)) s.latches } :
        State).clearRc off d
    else { s with latches := (uppersOf off).foldl (fun m u => NatMap.put (latchReset u) m u (s.shownWord u)) s.latches },
      s.shownWord off) := by
  have h0 : off / 0x01000000 = 0 := Nat.div_eq_of_lt hoff
  simp only [State.readReg, h0, if_true, ht, hd, hu, if_neg hmm, Bool.false_eq_true, if_false]
  split <;> rfl

end readReg

theorem registerReads : Sys2Proof.Parts.RegisterReads := by
  intro s off d hoff hal hm hb ht hd
  refine ⟨fun hu hmm hrc hup => ?clears, fun hu hmm hrc hup => ?plain, fun u hu hmm hrc hup => ⟨_, ?latches, rfl⟩, fun hu => ?upper, rfl⟩
  case clears =>
    refine congrArg Host.Outcome.next ((doViewRead_pf hoff hal hm hb).trans ?_)
    rw [readReg_lower hoff ht hd hu hmm, if_pos hrc, hup]
    rfl
  case plain =>
    refine congrArg Host.Outcome.next ((doViewRead_pf hoff hal hm hb).trans ?_)
    rw [readReg_lower hoff ht hd hu hmm, if_neg (by simp [hrc]), hup]
    rfl
  case latches =>
    refine congrArg Host.Outcome.next ((doViewRead_pf hoff hal hm hb).trans ?_)
    rw [readReg_lower hoff ht hd hu hmm, if_neg (by simp [hrc]), hup]
    rfl
  case upper =>
    refine congrArg Host.Outcome.next ((doViewRead_pf hoff hal hm hb).trans ?_)
    rw [readReg_upper hoff ht hd hu]

end Sys2Proof.Machine
end

section
/-! PROOFS. What a write of a register of the privileged view stores (spec/00 R9 to R12, R598; spec/14 R452). -/
namespace Sys2Proof.Machine

/-- The ranges of the Timebase, Heron and Shoal, and Egret: no register there has a rule of its own. -/
def plainRange (off : Nat) : Prop :=
  0x00130000 ≤ off ∧ off < 0x00140000 ∨ 0x001A0000 ≤ off ∧ off < 0x001C0000 ∨ 0x00200000 ≤ off ∧ off < 0x00260300

/-! ### The registers of these ranges -/

theorem weirTimebase_sound : ∀ d ∈ weirRegs ++ timebaseRegs, d.sound := by
  unfold RegDesc.sound
  decide +kernel

theorem ethernetHeron_sound : ∀ d ∈ ethernetRegs ++ tableWindows ++ heronRegs, d.sound := by
  unfold RegDesc.sound
  decide +kernel

theorem egret_sound : ∀ d ∈ egretRegs, d.sound := by
  unfold RegDesc.sound
  decide +kernel

/-- EG_Cc_ERR has no class H field. -/
theorem egErr_no_held : (upTo 6).all (fun c => (regAt (egKey c 4)).all fun d => d.fields.all fun f => !f.isH) = true := by
  decide +kernel

/-- SPAN of a channel service register is of class H. -/
theorem span_held : (upTo 192).all (fun j => (regAt (0x00260000 + 4 * j)).all fun d =>
    d.fields.any fun f => f.lo == 8 && f.w == 6 && f.isH) = true := by
  decide +kernel

section range
variable {off : Nat} {d : RegDesc} (hr : plainRange off) (hd : regAt off = some d)
include hr hd

theorem regAt_sound : d.sound := by
  have h24 : off % 0x01000000 = off ∧ off / 0x01000000 = 0 := by unfold plainRange at hr; omega
  have h6 : ¬ off < 0x6000 := by unfold plainRange at hr; omega
  have hf : findReg (pfRegsAt off) off = some d := by simpa only [regAt, h24.1, h24.2, if_true, if_neg h6] using hd
  have hmem : d ∈ pfRegsAt off := List.mem_of_find?_eq_some hf
  unfold plainRange at hr
  unfold pfRegsAt at hmem
  rcases hr with hr | hr | hr
  · rw [if_pos (by omega)] at hmem
    exact weirTimebase_sound d hmem
  · rw [if_neg (by omega), if_neg (by omega), if_pos (by omega)] at hmem
    exact ethernetHeron_sound d hmem
  · rw [if_neg (by omega), if_neg (by omega), if_neg (by omega), if_pos (by omega)] at hmem
    exact egret_sound d hmem

end range

/-! ### Where class H fields may be written -/

theorem not_between {a b n : Nat} (h : ¬ (a ≤ n ∧ n < b)) : ¬ (decide (a ≤ n) && decide (n < b)) = true := by simpa using h

section gate
variable {s : State} {off : Nat}

theorem gateOf_timebase (h : 0x00130000 ≤ off ∧ off < 0x00140000) : s.gateOf off = .opened := by
  have h24 : off % 0x01000000 = off ∧ off / 0x01000000 = 0 := by omega
  have hown : ¬ (decide (0 ≠ 0) || decide (off < 0x6000)) = true := by simp; omega
  have hch : chanOfReg off = none := if_pos (by omega)
  unfold State.gateOf
  simp only [h24.1, h24.2]
  rw [if_neg hown, if_neg (by omega), if_pos (by omega), hch]

theorem gateOf_heron (h : 0x001A0000 ≤ off ∧ off < 0x001C0000) : s.gateOf off = .opened := by
  have h24 : off % 0x01000000 = off ∧ off / 0x01000000 = 0 := by omega
  have hown : ¬ (decide (0 ≠ 0) || decide (off < 0x6000)) = true := by simp; omega
  unfold State.gateOf
  simp only [h24.1, h24.2]
  have hlrn : off ≠ lrnCtl := by unfold lrnCtl; omega
  rw [if_neg hown, if_neg (by omega), if_neg (by omega), if_neg (by omega), if_neg (by omega), if_neg hlrn,
    if_neg (not_between (by omega)), if_neg (not_between (by omega)), if_neg (not_between (by omega)),
    if_neg (not_between (by omega)), if_neg (by omega), if_neg (not_between (by omega))]

theorem gateOf_cluster (h : 0x00200000 ≤ off ∧ off < 0x00260000) : s.gateOf off =
    if s.wdHolds 1 ((off - 0x00200000) / 0x10000) then .held else .busy [(egKey ((off - 0x00200000) / 0x10000) 4, 0)] := by
  have h24 : off % 0x01000000 = off ∧ off / 0x01000000 = 0 := by omega
  have hown : ¬ (decide (0 ≠ 0) || decide (off < 0x6000)) = true := by simp; omega
  unfold State.gateOf
  simp only [h24.1, h24.2]
  have hlrn : off ≠ lrnCtl := by unfold lrnCtl; omega
  rw [if_neg hown, if_neg (by omega), if_neg (by omega), if_neg (by omega), if_neg (by omega), if_neg hlrn,
    if_pos (by simpa using h)]

theorem gateOf_service (h : 0x00260000 ≤ off ∧ off < 0x00260300) : s.gateOf off =
    if s.fld off 8 6 = 0 then .opened
    else match s.spanBusy (s.fld off 8 6) with
      | [] => .held
      | l => .busy (l.map fun c => (egKey c 4, 0)) := by
  have h24 : off % 0x01000000 = off ∧ off / 0x01000000 = 0 := by omega
  have hown : ¬ (decide (0 ≠ 0) || decide (off < 0x6000)) = true := by simp; omega
  unfold State.gateOf
  simp only [h24.1, h24.2]
  have hlrn : off ≠ lrnCtl := by unfold lrnCtl; omega
  rw [if_neg hown, if_neg (by omega), if_neg (by omega), if_neg (by omega), if_neg (by omega), if_neg hlrn,
    if_neg (not_between (by omega)), if_pos (by simpa using h)] <;> rfl

/-- States in which the same blocks are withdrawn have the same gates, where they agree on SPAN. -/
theorem gateOf_congr {t : State} (hr : plainRange off) (hw : ∀ k i, t.wdHolds k i = s.wdHolds k i)
    (hspan : 0x00260000 ≤ off → t.fld off 8 6 = s.fld off 8 6) : t.gateOf off = s.gateOf off := by
  have hb (sp : Nat) : t.spanBusy sp = s.spanBusy sp := by simp only [State.spanBusy, hw]
  unfold plainRange at hr
  rcases hr with hr | hr | hr
  · rw [gateOf_timebase hr, gateOf_timebase hr]
  · rw [gateOf_heron hr, gateOf_heron hr]
  · rcases Nat.lt_or_ge off 0x00260000 with hlt | hge
    · rw [gateOf_cluster ⟨hr.1, hlt⟩, gateOf_cluster ⟨hr.1, hlt⟩, hw]
    · rw [gateOf_service ⟨hge, hr.2⟩, gateOf_service ⟨hge, hr.2⟩, hspan hge, hb]

/-- The bits of a busy gate are CFG_BUSY of clusters; a register with a class H field is not that register. -/
theorem busy_ne {d : RegDesc} {bits : List (Nat × Nat)} (hr : plainRange off) (hd : regAt off = some d)
    (hheld : d.fields.any (·.isH) = true) (hb : s.gateOf off = .busy bits) : ∀ b ∈ bits, b.1 ≠ off := by
  have hne (c : Nat) (hc : c < 6) : egKey c 4 ≠ off := by
    rintro rfl
    have hno := List.all_eq_true.mp egErr_no_held c (List.mem_range.mpr hc)
    rw [hd] at hno
    obtain ⟨f, hf, hfh⟩ := List.any_eq_true.mp hheld
    have := List.all_eq_true.mp (by simpa using hno : d.fields.all (fun f => !f.isH) = true) f hf
    simp [hfh] at this
  unfold plainRange at hr
  rcases hr with hr | hr | hr
  · rw [gateOf_timebase hr] at hb; cases hb
  · rw [gateOf_heron hr] at hb; cases hb
  · rcases Nat.lt_or_ge off 0x00260000 with hlt | hge
    · rw [gateOf_cluster ⟨hr.1, hlt⟩] at hb
      split at hb
      · cases hb
      · cases hb
        simpa using hne _ (by omega)
    · rw [gateOf_service ⟨hge, hr.2⟩] at hb
      split at hb
      · cases hb
      · split at hb
        · cases hb
        next l _ =>
          cases hb
          intro b hbm
          obtain ⟨c, hc, rfl⟩ := List.mem_map.mp hbm
          have h6 : c < 6 := by simpa [upTo] using (List.mem_filter.mp hc).1
          exact hne c h6

end gate

/-! ### A write, field by field -/

theorem NatMap.get_of_not_has {α : Type} (d : α) {m : NatMap α} {k : Nat} (h : NatMap.has m k = false) : NatMap.get d m k = d := by
  induction m with
  | nil => rfl
  | cons e m ih =>
    obtain ⟨j, v⟩ := e
    by_cases hk : k = j
    · simp [NatMap.has, hk] at h
    · simp only [NatMap.has, if_neg hk] at h
      simp only [NatMap.get, if_neg hk, ih h]

/-- The mask of a whole register. -/
abbrev fullMask : Nat := 0xFFFFFFFF

theorem testBit_fullMask {i : Nat} (h : i < 32) : fullMask.testBit i = true := by
  rw [show fullMask = 2 ^ 32 - 1 from rfl, Nat.testBit_two_pow_sub_one]
  simpa using h

/-- What a write of a whole register leaves at once: class L fields are stored, write-one-to-clear bits clear. -/
def RegDesc.live (d : RegDesc) (old val : Nat) : Nat :=
  d.store RegField.isL old fullMask val -
    (d.store RegField.isL old fullMask val &&& (val &&& fullMask &&& d.mask fun f => f.acc == .w1c))

section bits
variable {d : RegDesc} (hs : d.sound) {f : RegField} (hf : f ∈ d.fields) {i : Nat} (hi : f.has i = true) (old val : Nat)
include hs hf hi

theorem has_lt : i < 32 := by
  have hb := RegField.has_iff.mp hi
  have := (hs.1 f hf).2
  omega

/-- A class of fields that is written whole: the field takes the value of R598. -/
theorem testBit_store_in {p : RegField → Bool} (hp : p f = true) :
    (d.store p old fullMask val).testBit i = (f.norm (bitsOf val f.lo f.w)).testBit (i - f.lo) := by
  have hfull : bitsOf fullMask f.lo f.w ≠ 0 := fun h0 => by
    have hb : (bitsOf fullMask f.lo f.w).testBit 0 = true := by
      rw [testBit_bitsOf, testBit_fullMask (by have := hs.1 f hf; omega)]
      simpa using (hs.1 f hf).1
    rw [h0, Nat.zero_testBit] at hb
    cases hb
  have hval : bitsOf (putMask old fullMask val) f.lo f.w = bitsOf val f.lo f.w := bitsOf_congr fun j h1 h2 => by
    rw [testBit_putMask, testBit_fullMask (by have := hs.1 f hf; omega), if_pos rfl]
  have h := testBit_foldl_putBits_in (fun f => p f && bitsOf fullMask f.lo f.w ≠ 0)
    (fun f => f.norm (bitsOf (putMask old fullMask val) f.lo f.w)) hs.2 hf (by simpa using ⟨hp, hfull⟩) hi old
  rw [hval] at h
  exact h

theorem testBit_store_out {p : RegField → Bool} (hp : p f = false) : (d.store p old fullMask val).testBit i = old.testBit i := by
  refine testBit_foldl_putBits_out (fun f => p f && bitsOf fullMask f.lo f.w ≠ 0)
    (fun f => f.norm (bitsOf (putMask old fullMask val) f.lo f.w)) d.fields (fun g hg hq => ?_) old
  refine Bool.eq_false_iff.mpr fun hgi => ?_
  obtain ⟨hpg, -⟩ := Bool.and_eq_true_iff.mp hq
  rw [← hs.eq_of_has hf hg hi hgi, hp] at hpg
  cases hpg

/-- The bits of the word that is stored at once. -/
theorem testBit_live : (d.live old val).testBit i =
    if f.isL then (f.norm (bitsOf val f.lo f.w)).testBit (i - f.lo)
    else old.testBit i && !(f.acc == .w1c && val.testBit i) := by
  rw [RegDesc.live, testBit_sub_and, Nat.testBit_and, Nat.testBit_and, testBit_fullMask (has_lt hs hf hi),
    hs.testBit_mask_of_mem _ hf hi, Bool.and_true]
  by_cases hl : f.isL = true
  · have hw : (f.acc == .w1c) = false := by
      simp only [RegField.isL, Bool.and_eq_true, beq_iff_eq] at hl
      simp [hl.1]
    rw [if_pos hl, testBit_store_in hs hf hi old val hl, hw]
    simp
  · rw [if_neg hl, testBit_store_out hs hf hi old val (by simpa using hl), Bool.and_comm (val.testBit i)]

end bits

/-! ### The whole write -/

section put
variable {s : State} {off : Nat} {d : RegDesc}

theorem State.regW_foldl_setBit {bits : List (Nat × Nat)} (h : ∀ b ∈ bits, b.1 ≠ off) : ∀ s : State,
    (bits.foldl (fun s b => s.setBit b.1 b.2) s).regW off = s.regW off := by
  induction bits with
  | nil => exact fun _ => rfl
  | cons b bits ih =>
    intro s
    rw [List.foldl_cons, ih fun x hx => h x (List.mem_cons_of_mem _ hx)]
    exact State.regW_setReg_ne s _ (h b List.mem_cons_self).symm

theorem phaseNorm_plain (hr : plainRange off) (s : State) : s.phaseNorm off = s := by
  unfold plainRange at hr
  exact if_neg (by simp only [Bool.and_eq_true, decide_eq_true_eq]; omega)

theorem geometryWritten_plain (hr : plainRange off) (s : State) : s.geometryWritten off = s := by
  have h : (off == slCtl || off == slGeom 0 || off == slGeom 1) = false := by
    unfold plainRange at hr
    simp only [Bool.or_eq_false_iff, beq_eq_false_iff_ne]
    unfold slCtl slGeom
    omega
  simp [State.geometryWritten, h]

/-- What the class H fields held, or hold for the block's return. -/
def State.heldWord (s : State) (off : Nat) (d : RegDesc) : Nat :=
  putMask (s.regW off) (d.mask RegField.isH) (NatMap.get (s.regW off) s.heldRegs off)

/-- What they hold after a write of a whole register. -/
def State.heldWritten (s : State) (off val : Nat) (d : RegDesc) : Nat := d.store RegField.isH (s.heldWord off d) fullMask val

/-- The state after the class L, write-one-to-clear and class S fields of a write. -/
def State.putLive (s : State) (off val : Nat) (d : RegDesc) : State :=
  let sm := fullMask &&& d.mask RegField.isS
  let t := s.setReg off (d.live (s.regW off) val)
  if sm = 0 then t else t.stageReg off sm (d.store RegField.isS (s.regW off) fullMask val)

theorem putLive_effect (s : State) (off val : Nat) (d : RegDesc) : ∃ st late,
    s.putLive off val d = { s.setReg off (d.live (s.regW off) val) with stagedRegs := st, lateStages := late } := by
  unfold State.putLive State.stageReg State.stageBits
  extract_lets sm t
  split
  · exact ⟨_, _, rfl⟩
  · split
    · exact ⟨_, _, rfl⟩
    · exact ⟨_, _, rfl⟩

theorem regW_putLive (s : State) (off val : Nat) (d : RegDesc) :
    (s.putLive off val d).regW off = d.live (s.regW off) val % 2 ^ 32 := by
  obtain ⟨st, late, h⟩ := putLive_effect s off val d
  rw [h]
  exact State.regW_setReg_same s off _

/-- A write of a register, by its class H fields. -/
theorem putReg_cases (hr : plainRange off) (hd : regAt off = some d) (val : Nat) {u : State} (hu : u = s.putLive off val d) :
    s.putReg off fullMask val =
      if s.heldWritten off val d = s.heldWord off d then (u, false)
      else match u.gateOf off with
        | .opened => (u.setReg off (putMask (u.regW off) (d.mask RegField.isH) (s.heldWritten off val d)), false)
        | .held =>
          ({ u with heldRegs := NatMap.ins u.heldRegs off (s.heldWritten off val d &&& d.mask RegField.isH) }, false)
        | .busy bits => (bits.foldl (fun s b => s.setBit b.1 b.2) u, true) := by
  have hheld : u.heldRegs = s.heldRegs := by
    obtain ⟨st, late, hlive⟩ := putLive_effect s off val d
    rw [hu, hlive]
    rfl
  unfold State.putReg
  simp -zeta only [hd, phaseNorm_plain hr, geometryWritten_plain hr]
  extract_lets old w clr s₁ sm s₂ hm cur new
  have e₂ : s₂ = u := hu.symm
  have ecur : cur = s.heldWord off d := by
    unfold cur
    rw [e₂, hheld]
    rfl
  have enew : new = s.heldWritten off val d := by
    unfold new
    rw [ecur]
    rfl
  rw [← ecur, ← enew, ← e₂] <;> rfl

/-- The gate of the block is as it was before the write. -/
theorem gateOf_putLive (hr : plainRange off) (hd : regAt off = some d) (hal : off % 4 = 0) (val : Nat) :
    (s.putLive off val d).gateOf off = s.gateOf off := by
  have hs := regAt_sound hr hd
  obtain ⟨st, late, h⟩ := putLive_effect s off val d
  refine gateOf_congr hr (fun k i => by rw [h]; rfl) fun hge => ?_
  have hlt : off < 0x00260300 := by unfold plainRange at hr; omega
  have hj : off = 0x00260000 + 4 * ((off - 0x00260000) / 4) := by omega
  have hspan := List.all_eq_true.mp span_held ((off - 0x00260000) / 4) (List.mem_range.mpr (by omega))
  rw [← hj, hd] at hspan
  obtain ⟨f, hf, hp⟩ := List.any_eq_true.mp (by simpa using hspan : (d.fields.any fun f => f.lo == 8 && f.w == 6 && f.isH) = true)
  simp only [Bool.and_eq_true, beq_iff_eq] at hp
  obtain ⟨⟨hlo, hw⟩, hheld⟩ := hp
  rw [State.fld, State.fld, regW_putLive]
  refine bitsOf_congr fun i h1 h2 => ?_
  have hi : f.has i = true := RegField.has_iff.mpr (by omega)
  simp only [RegField.isH, Bool.and_eq_true, beq_iff_eq] at hheld
  have hnl : f.isL = false := by simp [RegField.isL, hheld.1, hheld.2]
  rw [Nat.testBit_mod_two_pow, testBit_live hs hf hi, hnl]
  simp [hheld.1, show i < 32 by omega]

section field
variable {t : State} {busy : Bool} {val : Nat} (hr : plainRange off) (hd : regAt off = some d) (hal : off % 4 = 0)
  (hput : s.putReg off fullMask val = (t, busy))
include hr hd hal hput

/-- The word after the write: what was stored at once, but for class H fields where the gate is open. -/
theorem regW_putReg : t.regW off = d.live (s.regW off) val % 2 ^ 32 ∧
      (s.heldWritten off val d = s.heldWord off d ∨ s.gateOf off ≠ .opened) ∨
    s.gateOf off = .opened ∧ t.regW off =
      putMask (d.live (s.regW off) val % 2 ^ 32) (d.mask RegField.isH) (s.heldWritten off val d) % 2 ^ 32 := by
  generalize hu : s.putLive off val d = u
  have hw : u.regW off = d.live (s.regW off) val % 2 ^ 32 := by rw [← hu, regW_putLive]
  have hg : u.gateOf off = s.gateOf off := by rw [← hu, gateOf_putLive hr hd hal]
  rw [putReg_cases hr hd val hu.symm, hg] at hput
  by_cases hsame : s.heldWritten off val d = s.heldWord off d
  · rw [if_pos hsame] at hput
    cases hput
    exact .inl ⟨hw, .inl hsame⟩
  · rw [if_neg hsame] at hput
    have hheld : d.fields.any (·.isH) = true := by
      refine Classical.byContradiction fun hno => ?_
      refine hsame (Nat.eq_of_testBit_eq fun i => ?_)
      refine testBit_foldl_putBits_out (fun f => f.isH && bitsOf fullMask f.lo f.w ≠ 0) _ d.fields (fun f hf hq => ?_) _
      exact absurd (List.any_eq_true.mpr ⟨f, hf, (Bool.and_eq_true_iff.mp hq).1⟩) hno
    cases hgate : s.gateOf off with
    | opened =>
      simp only [hgate] at hput
      cases hput
      refine .inr ⟨rfl, ?_⟩
      rw [State.regW_setReg_same, hw]
    | held =>
      simp only [hgate] at hput
      cases hput
      exact .inl ⟨hw, .inr nofun⟩
    | busy bits =>
      simp only [hgate] at hput
      cases hput
      exact .inl ⟨(State.regW_foldl_setBit (busy_ne hr hd hheld hgate) u).trans hw, .inr nofun⟩

variable {f : RegField} (hf : f ∈ d.fields) {i : Nat} (hi : f.has i = true)
include hf hi

/-- A bit outside class H fields is as it was stored at once. -/
theorem testBit_putReg_live (hh : f.isH = false) : (t.regW off).testBit i = (d.live (s.regW off) val).testBit i := by
  have hs := regAt_sound hr hd
  have hlt := has_lt hs hf hi
  rcases regW_putReg hr hd hal hput with ⟨h, -⟩ | ⟨-, h⟩
  · rw [h, Nat.testBit_mod_two_pow]
    simp [hlt]
  · rw [h, Nat.testBit_mod_two_pow, testBit_putMask, hs.testBit_mask_of_mem _ hf hi, hh, Nat.testBit_mod_two_pow]
    simp [hlt]

omit hr hal hput in
theorem testBit_live_held (hs : d.sound) (hh : f.isH = true) (val : Nat) :
    (d.live (s.regW off) val).testBit i = (s.regW off).testBit i := by
  simp only [RegField.isH, Bool.and_eq_true, beq_iff_eq] at hh
  have hl : f.isL = false := by simp [RegField.isL, hh.1, hh.2]
  rw [testBit_live hs hf hi, hl]
  simp [hh.1]

/-- A class H field keeps its value where the gate is not open. -/
theorem testBit_putReg_kept (hh : f.isH = true) (hg : s.gateOf off ≠ .opened) :
    (t.regW off).testBit i = (s.regW off).testBit i := by
  have hs := regAt_sound hr hd
  rcases regW_putReg hr hd hal hput with ⟨h, -⟩ | ⟨ho, -⟩
  · rw [h, Nat.testBit_mod_two_pow, testBit_live_held hd hf hi hs hh]
    simp [has_lt hs hf hi]
  · exact absurd ho hg

/-- It takes the value of R598 where the gate is open. -/
theorem testBit_putReg_held (hh : f.isH = true) (hg : s.gateOf off = .opened) (hno : NatMap.has s.heldRegs off = false) :
    (t.regW off).testBit i = (f.norm (bitsOf val f.lo f.w)).testBit (i - f.lo) := by
  have hs := regAt_sound hr hd
  have hlt := has_lt hs hf hi
  have hnew : (s.heldWritten off val d).testBit i = (f.norm (bitsOf val f.lo f.w)).testBit (i - f.lo) :=
    testBit_store_in hs hf hi _ val hh
  rcases regW_putReg hr hd hal hput with ⟨h, hsame | hne⟩ | ⟨-, h⟩
  · have hcur : (s.heldWord off d).testBit i = (s.regW off).testBit i := by
      rw [State.heldWord, testBit_putMask, NatMap.get_of_not_has _ hno, ite_self]
    rw [h, Nat.testBit_mod_two_pow, testBit_live_held hd hf hi hs hh, ← hcur, ← hsame, hnew]
    simp [hlt]
  · exact absurd hg hne
  · rw [h, Nat.testBit_mod_two_pow, testBit_putMask, hs.testBit_mask_of_mem _ hf hi, if_pos hh, hnew]
    simp [hlt]

end field

end put

/-! ### The host's write (R8, R9, R452) -/

section write
variable {s t : State} {off val : Nat} {d : RegDesc} {busy : Bool} (hr : plainRange off)
include hr

theorem listPending_plain (s : State) : s.listPending off = false := by
  unfold plainRange at hr
  unfold State.listPending
  rw [if_neg (not_between (by omega)), if_neg (not_between (by omega)), if_neg (not_between (by omega)),
    if_neg (not_between (by omega))]

/-- No rule of its own meets the write. -/
theorem privWrite_plain (s : State) (mask val : Nat) : s.privWrite off mask val = s.putReg off mask val := by
  have hnot {a b : Nat} (h : ¬ (a ≤ off ∧ off < b)) (c : Bool) : ¬ (decide (a ≤ off) && decide (off < b) && c) = true := by
    rw [Bool.eq_false_iff.mpr (not_between h)]
    simp
  have hp := listPending_plain hr s
  have hfd : off ≠ fdCtl := by unfold plainRange at hr; unfold fdCtl; omega
  unfold plainRange at hr
  unfold State.privWrite
  extract_lets v
  rw [if_neg (by simp [hp]), if_neg (by omega), if_neg (by omega), if_neg (not_between (by omega)), if_neg (hnot (by omega) _),
    if_neg (hnot (by omega) _), if_neg (hnot (by omega) _), if_neg (hnot (by omega) _), if_neg (not_between (by omega)),
    if_neg (by omega), if_neg hfd, if_neg (by omega), if_neg (by omega), if_neg (by omega), if_neg (by omega),
    if_neg (not_between (by omega))]

theorem configOff_plain : configOff off = true := by
  unfold plainRange at hr
  simp only [configOff, Bool.and_eq_true, Bool.not_eq_true', Bool.and_eq_false_iff, decide_eq_true_eq, decide_eq_false_iff_not]
  omega

variable (hd : regAt off = some d)
include hd

theorem pfWrite_plain (hput : s.putReg off fullMask val = (t, busy)) {kept : Nat}
    (hk : kept = if busy then fullMask &&& d.mask (fun f => !f.isH) else fullMask) :
    (s.pfWrite off fullMask val).1 = if kept = 0 then t else t.configEntry 1 off kept (val &&& kept) := by
  have hown : ¬ off < 0x6000 := by unfold plainRange at hr; omega
  subst hk
  simp only [State.pfWrite, if_neg hown, hd, privWrite_plain hr, hput, configOff_plain hr, Option.isNone_some]
  by_cases h0 : (if busy then fullMask &&& d.mask (fun f => !f.isH) else fullMask) = 0
  · simp [h0]
  · simp [h0]

theorem doRegWrite_plain (hal : off % 4 = 0) (hb : s.bootFailed = false) :
    doRegWrite .pf off 4 val s = (s.pfWrite off fullMask val).1 := by
  have hh : s.viewHas .pf off = true := by
    unfold plainRange at hr
    simp only [State.viewHas, decide_eq_true_eq]
    omega
  have hm : s.mailboxAt .pf off = none := by
    unfold plainRange at hr
    exact if_neg (not_between (by omega))
  simp only [doRegWrite, hh, hm, State.viewOpen, hal, hb, viewFn]
  rfl

end write

theorem registerWrites : Sys2Proof.Parts.RegisterWrites := by
  intro s t off kept val busy d hr hal hb hd hput hk
  have hs := regAt_sound hr hd
  refine ⟨congrArg Host.Outcome.next ((doRegWrite_plain hr hd hal hb).trans (pfWrite_plain hr hd hput hk)), fun f hf => ?_⟩
  have hhas {j : Nat} (hj : j < f.w) : f.has (f.lo + j) = true := RegField.has_iff.mpr (by omega)
  have hsub (j : Nat) : f.lo + j - f.lo = j := by omega
  refine ⟨fun hl => ?live, fun hw i h1 h2 => ?cleared, fun hk => ?kept, fun hh hg hno => ?held, fun hh hg => ?refused⟩
  case live =>
    have hh : f.isH = false := by
      simp only [RegField.isL, Bool.and_eq_true, beq_iff_eq] at hl
      simp [RegField.isH, hl.2]
    refine bitsOf_eq_mod fun j hj => ?_
    rw [testBit_putReg_live hr hd hal hput hf (hhas hj) hh, testBit_live hs hf (hhas hj), if_pos hl, hsub]
  case cleared =>
    have hi : f.has i = true := RegField.has_iff.mpr ⟨h1, h2⟩
    have hh : f.isH = false := by simp [RegField.isH, hw]
    have hl : f.isL = false := by simp [RegField.isL, hw]
    rw [bitAt_eq_testBit, bitAt_eq_testBit, bitAt_eq_testBit, testBit_putReg_live hr hd hal hput hf hi hh, testBit_live hs hf hi, hl]
    simp [hw]
  case kept =>
    have hclass : f.isH = false ∧ f.isL = false ∧ f.acc ≠ .w1c := by
      rcases hk with hk | hk | hk | hk
      · simp [RegField.isH, RegField.isL, hk]
      · simp [RegField.isH, RegField.isL, hk]
      · simp [RegField.isH, RegField.isL, hk]
      · simp only [RegField.isS, Bool.and_eq_true, beq_iff_eq] at hk
        simp [RegField.isH, RegField.isL, hk]
    obtain ⟨hh, hl, hw⟩ := hclass
    refine bitsOf_congr fun i h1 h2 => ?_
    have hi : f.has i = true := RegField.has_iff.mpr ⟨h1, h2⟩
    rw [testBit_putReg_live hr hd hal hput hf hi hh, testBit_live hs hf hi, hl]
    simp [hw]
  case held =>
    refine bitsOf_eq_mod fun j hj => ?_
    rw [testBit_putReg_held hr hd hal hput hf (hhas hj) hh hg hno, hsub]
  case refused =>
    exact bitsOf_congr fun i h1 h2 => testBit_putReg_kept hr hd hal hput hf (RegField.has_iff.mpr ⟨h1, h2⟩) hh hg

/-- Settles O27: the reads by what `readReg` does, and the writes bit by bit, by the register tables' disjoint fields. -/
theorem registerAccess : Obligations.RegisterAccess := ⟨registerReads, registerWrites⟩

end Sys2Proof.Machine
end

section
/-! PROOFS. The turns of scrubbers, their visits, and a channel's failure (spec/05 R178; spec/09 R305, R326, R330, R331, R337; spec/18 R552). -/
namespace Sys2Proof.Machine

/-! ### Turns -/

section turns
variable {s : State} {k n period i start : Nat}

/-- A turn whose place in the pass is known and whose share of the period has passed. -/
theorem scrubTurn_due (hx : NatMap.get (0, 0) s.sl.scrubs k = (i, start)) (hi : 0 < i) (hn : i < n)
    (hdue : start + i * period / n ≤ s.now) :
    s.scrubTurn k n period i = some { s with sl := { s.sl with
      scrubs := NatMap.put (0, 0) s.sl.scrubs k (if n ≤ i + 1 then (0, start + period) else (i + 1, start)) } } := by
  have h1 : max 1 n = n := by omega
  simp [State.scrubTurn, hx, h1, hdue, Nat.ne_of_gt hi]

theorem scrubTurn_other {j : Nat} (hx : NatMap.get (0, 0) s.sl.scrubs k = (i, start)) (hj : j ≠ i) :
    s.scrubTurn k n period j = none := by
  simp [State.scrubTurn, hx, hj]

theorem scrubTurn_early (hx : NatMap.get (0, 0) s.sl.scrubs k = (i, start)) (hn : i < n)
    (hearly : s.now < start + i * period / n) : s.scrubTurn k n period i = none := by
  have h1 : max 1 n = n := by omega
  simp [State.scrubTurn, hx, h1, hearly]

end turns

theorem scrubTurns : Sys2Proof.Parts.ScrubTurns := by
  intro s k n period i start hx hn
  refine ⟨fun j => scrubTurn_other hx, scrubTurn_early hx hn, fun h0 h1 hdue => ⟨_, scrubTurn_due hx h0 hn hdue, ?_⟩,
    fun h0 h1 hdue => ⟨_, scrubTurn_due hx h0 hn hdue, ?_⟩⟩
  case _ => rw [if_neg (by omega)]
  case _ => rw [if_pos (by omega)]

/-! ### Visits -/

section visits
variable {s t : State} {a : Nat}

theorem doDramScrubVisit_off (u : Nat) (h : s.bit slCtl 8 = false) : doDramScrubVisit u s = s := by
  simp [doDramScrubVisit, h]

theorem doDramScrubVisit_turn {n i : Nat} (u : Nat) (hn : n = s.chanGranules 0 + s.chanGranules 1)
    (hi : i = (NatMap.get (0, 0) s.sl.scrubs patrolKey).1) (hon : s.bit slCtl 8 = true) (hmode : s.mode ≠ .boot) (h0 : n ≠ 0)
    (ht : s.scrubTurn patrolKey n (3600000000000 * zeroAs 1 (s.fld 0x0034000C 0 8)) i = some t) :
    doDramScrubVisit u s = t.patrolVisit (t.dramGranule i) u := by
  subst hn hi
  simp only [doDramScrubVisit, hon, hmode, h0, ht]
  rfl

/-- R337: a visit reads its granule through port 11, with the upset that struck it. -/
theorem patrolVisit_reads (hup : s.chanUp (s.dramPlace a).ch = true)
    (hq : ((s.sl.queued ++ s.sl.waiting).any fun r => r.write && r.meets ⟨0, 11, true, a, 8, 0, false, 0⟩) = false) (u : Nat) :
    s.patrolVisit a u = ((if u = 0 then s else s.setEcc a (max u (s.eccAt a))).rdMem a 8 {} 11).1 := by
  unfold State.patrolVisit
  by_cases hu : u = 0
  · simp only [hu, if_pos, hup, hq]
    rfl
  · have hup' : (s.setEcc a (max u (s.eccAt a))).chanUp ((s.setEcc a (max u (s.eccAt a))).dramPlace a).ch = true := hup
    have hq' : (((s.setEcc a (max u (s.eccAt a))).sl.queued ++ (s.setEcc a (max u (s.eccAt a))).sl.waiting).any
        fun r => r.write && r.meets ⟨0, 11, true, a, 8, 0, false, 0⟩) = false := hq
    simp only [if_neg hu, hup', hq']
    rfl

theorem patrolVisit_skips (h : s.chanUp (s.dramPlace a).ch = false ∨
    ((s.sl.queued ++ s.sl.waiting).any fun r => r.write && r.meets ⟨0, 11, true, a, 8, 0, false, 0⟩) = true) :
    s.patrolVisit a 0 = s := by
  unfold State.patrolVisit
  rcases h with h | h
  · simp only [if_pos, h]
    rfl
  · simp only [if_pos, h, Bool.or_true]

theorem doChannelFault_up {u : State} {c : Nat} (hup : s.chanUp c = true)
    (ht : t = (s.setBit slStat (2 + c)).record { block := 0x0D, code := 0x0081, sev := 3, unit := c }) {hit : List DramReq}
    (hhit : hit = (t.sl.queued ++ t.sl.waiting).filter (fun r => (t.dramPlace r.addr).ch == c))
    (hu : u = hit.foldl (fun s r => s.dramDo r) t) :
    doChannelFault c s = (({ u with sl := { u.sl with
      queued := u.sl.queued.filter (!hit.contains ·), waiting := u.sl.waiting.filter (!hit.contains ·) } } :
        State).drainTrim.inordTrim) := by
  subst hu hhit ht
  unfold doChannelFault
  simp only [hup]
  rfl

theorem before_base {lo hi : Nat} (h : a < lo) : (decide (lo ≤ a) && decide (a < hi)) = false := by
  simp [Nat.not_le.mpr h]

/-- R305: away from tables, Weir, Belfry and microcode the visit only corrects, or marks and records. -/
theorem ocmVisit_below (h1 : a < 0x10000000000) (u : Nat) (hecc : t.eccAt a = 0) :
    t.ocmVisit a u = if u = 0 then t else t.scrub a (min u 3) := by
  unfold State.ocmVisit
  rw [hecc, Nat.max_zero]
  have hc := before_base (hi := mailAreaBase) (show a < ctlStoreBase from Nat.lt_of_lt_of_le h1 (by decide))
  have hp := before_base (hi := shoalBase) (show a < parseBase + 0x4000 from Nat.lt_of_lt_of_le h1 (by decide))
  have ht := before_base (hi := weirBase) (show a < tableBase from Nat.lt_of_lt_of_le h1 (by decide))
  have hw := before_base (hi := belfryBase) (show a < weirBase from Nat.lt_of_lt_of_le h1 (by decide))
  have hb := before_base (hi := ctlStoreBase) (show a < belfryBase from Nat.lt_of_lt_of_le h1 (by decide))
  by_cases hu : u = 0
  · simp only [hc, hu, if_pos]
    rfl
  · simp only [hc, hp, ht, hw, hb, hu, if_false, Bool.false_eq_true]

theorem scrub_of_clean {k : Nat} (h : t.eccAt a = 0) (hk : k ≠ 0) :
    t.scrub a k = if k = 1 then (t.eccNote 1 a).setEcc a 0 else (t.setEcc a k).eccNote k a := by
  simp [State.scrub, h, hk]

theorem doOcmScrubVisit_aligned (hal : a % 8 = 0) (u : Nat) :
    doOcmScrubVisit a u s = (s.ocmTurn a).elim s fun t => t.ocmVisit a u := by
  have e : a / 8 * 8 = a := by omega
  unfold doOcmScrubVisit
  simp only [e]
  cases s.ocmTurn a <;> rfl

theorem ocmScrubVisit_turn (hlt : a < 0x10000000000) (hal : a % 8 = 0) (ht : s.ocmTurn a = some t) (hecc : t.eccAt a = 0)
    {f : Upset} {k : Nat} (hk : upsetBits f = k) :
    exec (.ocmScrubVisit a f) s = .next (if k = 0 then t else t.scrub a (min k 3)) := by
  subst hk
  have hw := before_base (hi := belfryBase) (show a < weirBase from Nat.lt_of_lt_of_le hlt (by decide))
  have e : exec (.ocmScrubVisit a f) s = .next (doOcmScrubVisit a (upsetBits f) s) := by
    change execOcmScrubVisit a f s = _
    rw [execOcmScrubVisit, hw]
    rfl
  rw [e, doOcmScrubVisit_aligned hal, ht]
  exact congrArg Host.Outcome.next (ocmVisit_below hlt _ hecc)

theorem ocmScrubVisit_no_turn (hal : a % 8 = 0) (ht : s.ocmTurn a = none) (f : Upset) : exec (.ocmScrubVisit a f) s = .next s := by
  change Host.Outcome.next (doOcmScrubVisit a _ s) = _
  rw [doOcmScrubVisit_aligned hal, ht, Option.elim_none]

end visits

theorem scrubVisits : Sys2Proof.Parts.ScrubVisits := by
  intro s t u a c
  refine ⟨fun n i hn hi hon hmode h0 ht => ?turn, fun f h => congrArg Host.Outcome.next (doDramScrubVisit_off _ h),
    fun hup hq => ⟨patrolVisit_reads hup hq 0, patrolVisit_reads hup hq 1⟩, patrolVisit_skips,
    fun hup ht hit hhit hu => congrArg Host.Outcome.next (doChannelFault_up hup ht hhit hu),
    fun _ hlt hal ht hecc => ⟨?none, ?single, ?double⟩, fun f hal ht => ocmScrubVisit_no_turn hal ht f⟩
  case turn =>
    have hv (u : Nat) := doDramScrubVisit_turn u hn hi hon hmode h0 ht
    exact ⟨congrArg Host.Outcome.next (hv 0), congrArg Host.Outcome.next (hv 1), congrArg Host.Outcome.next (hv 2),
      congrArg Host.Outcome.next (hv 3)⟩
  case none => exact ocmScrubVisit_turn hlt hal ht hecc (f := .none) (k := 0) rfl
  case single =>
    rw [ocmScrubVisit_turn hlt hal ht hecc (f := .single) (k := 1) rfl]
    exact congrArg Host.Outcome.next (scrub_of_clean (k := 1) hecc (by decide))
  case double =>
    rw [ocmScrubVisit_turn hlt hal ht hecc (f := .double) (k := 2) rfl]
    exact congrArg Host.Outcome.next (scrub_of_clean (k := 2) hecc (by decide))

/-- Settles O31: a turn's place and time decide it, and each visit reduces to the read or the scrub of its granule. -/
theorem scrubbersAndChannelFault : Obligations.ScrubbersAndChannelFault := ⟨scrubTurns, scrubVisits⟩

end Sys2Proof.Machine
end

section
/-! PROOFS. A mailbox command at its turn, and the device commands (spec/11 R371, R373, Table 11.5; spec/16 R503 to R508; spec/17 R535 to R537). -/
namespace Sys2Proof.Machine

/-- R371, R373: a command at its turn runs its row on its request, for the tenant that it acts for. -/
theorem mbRun_of_takes {s : State} {m : Fin 16} {op : Nat} {x : MbCmd} {i : Nat} (h : s.mbTakes m op x i)
    (body : MbCmd → Nat → State → State) : s.mbRun m op body = body x i s := by
  obtain ⟨hcmd, htaken, hbegun, hop, hin, hserves, hhold, hturn, hfor⟩ := h
  simp only [State.mbRun, hcmd, htaken, hbegun, hop, hin, hserves, hhold, hturn, hfor, beq_self_eq_true, Bool.not_false, Bool.and_self,
    if_true]

/-! ### Mode -/

section mode
variable {s : State} {m : Fin 16} {x : MbCmd} {i : Nat}

theorem doDevMode_same (h : s.mbTakes m 0x0102 x i) (hb : s.modeBusy = false) (ht : s.mode.code = x.f 8 1) (h3 : x.f 8 1 ≠ 3)
    (h4 : x.f 8 1 ≠ 4) : doDevMode m s = s.mbAnswer m 0 (leBytes 1 s.mode.code) := by
  simp [doDevMode, mbRun_of_takes h, hb, ht, h3, h4]

theorem doDevMode_hold_to_commission (h : s.mbTakes m 0x0102 x i) (hb : s.modeBusy = false) (hm : s.mode = .hold) (ht : x.f 8 1 = 1)
    (hok : s.modeOk .commission = true) : doDevMode m s = (s.mbBegin m).beginEntry (m + 1) .commission := by
  simp [doDevMode, mbRun_of_takes h, hb, ht, hm, hok, Mode.code]

theorem doDevMode_hold_to_lead (h : s.mbTakes m 0x0102 x i) (hb : s.modeBusy = false) (hm : s.mode = .hold) (ht : x.f 8 1 = 2) :
    doDevMode m s = if s.modeOk .lead = true then (s.mbBegin m).beginEntry (m + 1) .lead else s.mbAnswer m 0x0109 := by
  simp [doDevMode, mbRun_of_takes h, hb, ht, hm, Mode.code]

theorem doDevMode_commission_to_lead (h : s.mbTakes m 0x0102 x i) (hb : s.modeBusy = false) (hm : s.mode = .commission)
    (ht : x.f 8 1 = 2) (hok : s.modeOk .lead = true) :
    doDevMode m s = ((s.setMode .lead).roleLead).mbAnswer m 0 (leBytes 1 (s.setMode .lead).roleLead.mode.code) := by
  simp [doDevMode, mbRun_of_takes h, hb, ht, hm, hok, Mode.code]

theorem doDevMode_lead_to_hold (h : s.mbTakes m 0x0102 x i) (hb : s.modeBusy = false) (hm : s.mode = .lead)
    (ht : x.f 8 1 = 5) (hr : s.ford.role = .none) :
    doDevMode m s = s.toHold.mbAnswer m 0 (leBytes 1 s.toHold.mode.code) := by
  simp [doDevMode, mbRun_of_takes h, hb, ht, hm, hr, Mode.code]

end mode

/-! ### Registers -/

section registers
variable {s t : State} {m : Fin 16} {x : MbCmd} {i : Nat}

theorem doDevRegRead_reached {l : List Byte} (h : s.mbTakes m 0x0103 x i)
    (hr : ((upTo (x.f 0x0C 1)).all fun k => s.reachOk i (x.f 8 4 + 4 * k)) = true)
    (ht : s.readRegs (x.f 8 4) (x.f 0x0C 1) = (t, l)) : doDevRegRead m s = t.mbAnswer m 0 l := by
  rw [doDevRegRead, mbRun_of_takes h]
  simp only [hr, ht, if_true]

theorem doDevRegRead_out_of_reach (h : s.mbTakes m 0x0103 x i)
    (hr : ((upTo (x.f 0x0C 1)).all fun k => s.reachOk i (x.f 8 4 + 4 * k)) = false) :
    doDevRegRead m s = s.mbAnswer m 0x0202 := by
  rw [doDevRegRead, mbRun_of_takes h]
  simp only [hr]
  rfl

theorem doDevRegWrite_reached {busy : Bool} (h : s.mbTakes m 0x0104 x i) (hs : x.f 0x0C 4 &&& stagedMask (x.f 8 4) = 0)
    (hr : s.writeReach i (x.f 8 4) (x.f 0x0C 4) = true)
    (ht : s.maskWrite (x.f 8 4) (x.f 0x0C 4) (x.f 0x10 4) = (t, busy)) :
    doDevRegWrite m s = t.mbAnswer m (if busy then 0x0203 else 0) := by
  rw [doDevRegWrite, mbRun_of_takes h]
  simp only [hs, hr, ht]
  rfl

theorem doDevRegWrite_out_of_reach (h : s.mbTakes m 0x0104 x i) (hs : x.f 0x0C 4 &&& stagedMask (x.f 8 4) = 0)
    (hr : s.writeReach i (x.f 8 4) (x.f 0x0C 4) = false) : doDevRegWrite m s = s.mbAnswer m 0x0202 := by
  rw [doDevRegWrite, mbRun_of_takes h]
  simp only [hs, hr]
  rfl

end registers

/-! ### Blocks -/

section blocks
variable {s : State} {m : Fin 16} {x : MbCmd} {i : Nat}

theorem doDevWithdraw_running (h : s.mbTakes m 0x0105 x i) (hw : s.wdState (x.f 8 1) (x.f 9 2) = .running) (h4 : x.f 8 1 ≠ 4) :
    doDevWithdraw m s = (s.mbBegin m).wdStart (x.f 8 1) (x.f 9 2) (m + 1) := by
  simp [doDevWithdraw, mbRun_of_takes h, hw, h4]

theorem doDevWithdraw_withdrawn (h : s.mbTakes m 0x0105 x i) (hw : s.wdState (x.f 8 1) (x.f 9 2) = .withdrawn) :
    doDevWithdraw m s = s.mbAnswer m 0 := by
  simp [doDevWithdraw, mbRun_of_takes h, hw]

theorem doDevReturn_withdrawn (h : s.mbTakes m 0x0106 x i) (hw : s.wdState (x.f 8 1) (x.f 9 2) = .withdrawn) (h2 : x.f 8 1 ≠ 2) :
    doDevReturn m s = (s.wdReturn (x.f 8 1) (x.f 9 2)).mbAnswer m 0 := by
  simp [doDevReturn, mbRun_of_takes h, hw, h2]

theorem doDevReturn_running (h : s.mbTakes m 0x0106 x i) (hw : s.wdState (x.f 8 1) (x.f 9 2) = .running) :
    doDevReturn m s = s.mbAnswer m 0 := by
  simp [doDevReturn, mbRun_of_takes h, hw]

theorem doDevTest_starts (h : s.mbTakes m 0x0107 x i) (hw : s.wdState (x.f 8 1) (x.f 9 2) = .withdrawn) (f : Nat) :
    doDevTest m f s = (s.mbBegin m).wdSet (x.f 8 1) (x.f 9 2) .testing := by
  have hrun := mbRun_of_takes h
  obtain ⟨hcmd, -, hbegun, -⟩ := h
  simp [doDevTest, hcmd, hbegun, hrun, hw]

theorem doDevTest_ends (hcmd : (s.mbAt m).cmd = some x) (hb : x.begun = true) (hop : x.op = 0x0107)
    (hw : s.wdState (x.f 8 1) (x.f 9 2) = .testing) (f : Nat) : doDevTest m f s = s.testEnd m (x.f 8 1) (x.f 9 2) f := by
  simp [doDevTest, hcmd, hb, hop, hw]

end blocks

/-- Settles O33: each device command at its turn is its row of Table 11.5, evaluated in the case that the clause names. -/
theorem deviceCommands : Obligations.DeviceCommands := by
  intro s t m x i
  refine ⟨fun h => congrArg Host.Outcome.next (mbRun_of_takes h _), fun h hb => ⟨?same, ?enterCommission, ?enterLead, ?toLead, ?toHold, ?refused⟩,
    fun h l hr ht => congrArg Host.Outcome.next (doDevRegRead_reached h hr ht),
    fun h hr => congrArg Host.Outcome.next (doDevRegRead_out_of_reach h hr),
    fun h busy hs hr ht => congrArg Host.Outcome.next (doDevRegWrite_reached h hs hr ht),
    fun h hs hr => congrArg Host.Outcome.next (doDevRegWrite_out_of_reach h hs hr),
    fun h => ⟨fun hw h4 => congrArg Host.Outcome.next (doDevWithdraw_running h hw h4),
      fun hw => congrArg Host.Outcome.next (doDevWithdraw_withdrawn h hw)⟩,
    fun h => ⟨fun hw h2 => congrArg Host.Outcome.next (doDevReturn_withdrawn h hw h2),
      fun hw => congrArg Host.Outcome.next (doDevReturn_running h hw)⟩,
    fun f h hw => congrArg Host.Outcome.next (doDevTest_starts h hw _),
    fun f hcmd hbeg hop hw => congrArg Host.Outcome.next (doDevTest_ends hcmd hbeg hop hw _),
    fun h => congrArg Host.Outcome.next (mbRun_of_takes h _), ?reset⟩
  case same => exact fun ht h3 h4 => congrArg Host.Outcome.next (doDevMode_same h hb ht h3 h4)
  case enterCommission => exact fun hm ht hok => congrArg Host.Outcome.next (doDevMode_hold_to_commission h hb hm ht hok)
  case enterLead =>
    exact fun hm ht hok => congrArg Host.Outcome.next ((doDevMode_hold_to_lead h hb hm ht).trans (if_pos hok))
  case toLead =>
    intro hm ht hok hu
    rw [hu]
    exact congrArg Host.Outcome.next (doDevMode_commission_to_lead h hb hm ht hok)
  case toHold =>
    intro hm ht hr hu
    rw [hu]
    exact congrArg Host.Outcome.next (doDevMode_lead_to_hold h hb hm ht hr)
  case refused =>
    exact fun hm ht hok => congrArg Host.Outcome.next ((doDevMode_hold_to_lead h hb hm ht).trans (if_neg (ne_true_of_eq_false hok)))
  case reset => exact fun h => ⟨_, congrArg Host.Outcome.next (mbRun_of_takes h _), rfl, rfl⟩

end Sys2Proof.Machine
end

section
/-! PROOFS. Commands on instances and their events (spec/11 Table 11.6; spec/13 R412, R416, R422, R435, R437, R438). -/
namespace Sys2Proof.Machine

section commands
variable {s : State} {m : Fin 16} {c : MbCmd} {f : Nat}

theorem doInstCreate_eq (h : s.mbTakes m 0x0201 c f) {x : Instance}
    (hx : x = { state := .active, direct := c.f 9 1 == 1, quota := c.f 0x10 64 }) :
    doInstCreate m s = if s.createCheck (c.f 8 1) x ≠ 0 then s.mbAnswer m (s.createCheck (c.f 8 1) x)
      else (s.create (c.f 8 1) x).mbAnswer m 0 := by
  rw [doInstCreate, mbRun_of_takes h, hx]

/-- R435, R437: a reset or a destruction of an active tenant begins. -/
theorem doInstEnd_active {op : Nat} (h : s.mbTakes m op c f) (ha : (s.instAt (c.f 8 1)).state = .active) :
    doInstEnd m op s = (s.mbBegin m).instReset (c.f 8 1) (c.f 9 1 == 1) (some m) (op == 0x0202) := by
  simp [doInstEnd, mbRun_of_takes h, ha, State.resetting]

theorem doInstStatus_present (h : s.mbTakes m 0x0204 c f) (hown : f = 0 ∨ c.f 8 1 = f)
    (hp : (s.instAt (c.f 8 1)).state ≠ .absent) :
    doInstStatus m s = s.tick.mbAnswer m 0 (leBytes 1 (s.instAt (c.f 8 1)).state.code ++
      leBytes 1 (b2n (s.instAt (c.f 8 1)).direct) ++ List.replicate 6 0 ++ leBytes 64 (s.usage (c.f 8 1))) := by
  have hf : (decide (f ≠ 0) && decide (c.f 8 1 ≠ f)) = false := by
    simpa [Decidable.not_and_iff_not_or_not] using fun h0 => hown.resolve_left h0
  rw [doInstStatus, mbRun_of_takes h]
  simp only [hf, hp, if_false, Bool.false_eq_true]

/-- R422: a grant of mapped DRAM is checked against the number of ranges and the tenant's quota of pages. -/
theorem doInstGrant_mapped (h : s.mbTakes m 0x0205 c f) {l : List Grant}
    (hl : l = grantChange (s.instAt (c.f 8 1)).grants (c.f 9 1 == 1) (bitAt (c.f 0x0A 1) 0) (bitAt (c.f 0x0A 1) 1)
      (c.f 0x10 5 / 4096) (c.f 0x18 4))
    (hp : (s.instAt (c.f 8 1)).state ≠ .absent) (ha : c.f 0x10 5 < 0x800000000)
    (hm : s.mapOk .engine (c.f 0x10 5) (4096 * c.f 0x18 4) = true) :
    doInstGrant m s = if 64 < l.length ∨ (s.instAt (c.f 8 1)).q 0x2C 4 < grantPages l then s.mbAnswer m 0x0201
      else ((s.modInst (c.f 8 1) fun x => { x with grants := l }).sendGrant (c.f 8 1) (c.f 9 1 == 1) (bitAt (c.f 0x0A 1) 0)
        (bitAt (c.f 0x0A 1) 1) (c.f 0x10 5 / 4096) (c.f 0x18 4)).mbAnswer m 0 := by
  subst hl
  rw [doInstGrant, mbRun_of_takes h]
  simp only [hp, hm, Nat.not_le.mpr ha, if_false, Bool.or_eq_true, decide_eq_true_eq, Bool.not_true, Bool.false_eq_true, or_self]

end commands

section events
variable {s : State} {i : Nat}

theorem doInstDrainExpiry_past {r : InstReset} (hr : (s.instAt i).reset = some r) (hst : r.stopped = false)
    (hf : s.followsLog = false) (hsq : r.squash = false) (hdue : r.since + (s.instAt i).drainNs ≤ s.now) :
    doInstDrainExpiry i s = s.instSquash i := by
  simp [doInstDrainExpiry, hr, hst, hf, hsq, Nat.not_lt.mpr hdue]

theorem doInstResetComplete_stopped {r : InstReset} (hup : s.ohmythUp = true) (hr : (s.instAt i).reset = some r)
    (hst : r.stopped = true) (hre : s.instRestarted i = true) :
    doInstResetComplete i s = if s.mbTaken.contains i then s else s.instDone i := by
  by_cases h : i ∈ s.mbTaken <;> simp [doInstResetComplete, hup, hr, hst, hre, h]

theorem doInstResetComplete_destroying (hup : s.ohmythUp = true) (hr : (s.instAt i).reset = none)
    (hs : (s.instAt i).state = .destroying) (hd : (s.instAt i).destroyed = 0) (hw : s.destroyWaits i = false)
    (hf : s.followsLog = false) : doInstResetComplete i s = s.destroyStep i := by
  simp [doInstResetComplete, hup, hr, hs, hd, hw, hf]

end events

/-- Settles O34: each command on instances at its turn is its row of Table 11.6, in the case that the clause names. -/
theorem instanceCommands : Obligations.InstanceCommands := by
  intro s m c f
  refine ⟨fun h x hx => ⟨fun h0 => ?created, fun h0 => ?refused⟩,
    fun h ha => congrArg Host.Outcome.next (doInstEnd_active h ha), fun h ha => congrArg Host.Outcome.next (doInstEnd_active h ha),
    fun i r hr hst hf hsq hdue => congrArg Host.Outcome.next (doInstDrainExpiry_past hr hst hf hsq hdue),
    fun i r hup hr hst hre => ⟨fun hin => ?done, fun hin => ?waits⟩,
    fun i hup hr hs hd hw hf => congrArg Host.Outcome.next (doInstResetComplete_destroying hup hr hs hd hw hf),
    fun h hown hp => congrArg Host.Outcome.next (doInstStatus_present h hown hp), fun h l add rd wr hadd hrd hwr hl hp ha hm => ?grant⟩
  case created => exact congrArg Host.Outcome.next ((doInstCreate_eq h hx).trans (if_neg (not_not_intro h0)))
  case refused => exact congrArg Host.Outcome.next ((doInstCreate_eq h hx).trans (if_pos h0))
  case done =>
    exact congrArg Host.Outcome.next ((doInstResetComplete_stopped hup hr hst hre).trans (if_neg (ne_true_of_eq_false hin)))
  case waits => exact congrArg Host.Outcome.next ((doInstResetComplete_stopped hup hr hst hre).trans (if_pos hin))
  case grant =>
    subst hadd hrd hwr
    have e := doInstGrant_mapped h hl hp ha hm
    refine ⟨fun h64 hq => congrArg Host.Outcome.next (e.trans (if_neg ?_)), fun hbad => congrArg Host.Outcome.next (e.trans (if_pos hbad))⟩
    omega

end Sys2Proof.Machine
end

section
/-! PROOFS. The table commands (spec/11 Table 11.7; spec/05 R171 to R174; spec/13 R419). -/
namespace Sys2Proof.Machine

variable {s t : State} {m : Fin 16} {x : MbCmd} {i : Nat}

/-! ### Stages -/

theorem doTblShoalStage_not_owned (h : s.mbTakes m 0x0301 x i) (ho : s.bankOwner (x.f 8 1) ≠ i) :
    doTblShoalStage m s = s.mbAnswer m 0x0202 := by
  simp [doTblShoalStage, mbRun_of_takes h, ho]

theorem doTblShoalStage_learning (h : s.mbTakes m 0x0301 x i) (ho : s.bankOwner (x.f 8 1) = i)
    (hl : s.learningBank (x.f 8 1) = true) : doTblShoalStage m s = s.mbAnswer m 0x0205 := by
  simp [doTblShoalStage, mbRun_of_takes h, ho, hl]

/-- R171, R172: the owner's stage of fields, at a time when no reload holds it up, meets the limit of 256 entries. -/
theorem doTblShoalStage_owned {e : Nat} (he : e = 512 * x.f 8 1 + x.f 0x0A 2) (h : s.mbTakes m 0x0301 x i)
    (ho : s.bankOwner (x.f 8 1) = i) (hl : s.learningBank (x.f 8 1) = false) (hf : x.f 0x0C 1 ≠ 0) (hw : s.stageWaits 1 e = false) :
    doTblShoalStage m s = if 256 ≤ s.shoalEdits ∧ NatMap.has s.staged.shoal e = false then s.mbAnswer m 0x0204
      else (s.stage 1 e i (shoalMerge (s.stagedEntry 1 e) (x.f 0x10 56) (x.f 0x0C 1))).mbAnswer m 0
        (leBytes 2 (s.stage 1 e i (shoalMerge (s.stagedEntry 1 e) (x.f 0x10 56) (x.f 0x0C 1))).shoalEdits) := by
  subst he
  simp [doTblShoalStage, mbRun_of_takes h, ho, hl, hf, hw]

theorem doTblActionStage_owned (h : s.mbTakes m 0x0302 x i) (ho : s.actionOwner (x.f 8 2) = i) (hw : s.stageWaits 2 (x.f 8 2) = false) :
    doTblActionStage m s = (s.stage 2 (x.f 8 2) i (putBits (x.f 0x10 16) 96 4 i)).mbAnswer m 0 := by
  simp [doTblActionStage, mbRun_of_takes h, ho, hw]

theorem doTblStreamStage_owned (h : s.mbTakes m 0x0303 x i) (ho : s.streamOwner (x.f 8 2) = i)
    (he : seValid (x.f 0x10 16) = false ∨ s.egressOwned i (seEgress (x.f 0x10 16)) = true) (hw : s.stageWaits 3 (x.f 8 2) = false) :
    doTblStreamStage m s = (s.stage 3 (x.f 8 2) i (putBits (x.f 0x10 16) 32 4 i)).mbAnswer m 0 := by
  rcases he with he | he <;> simp [doTblStreamStage, mbRun_of_takes h, ho, he, hw]

theorem doTblRegStage_owned (h : s.mbTakes m 0x0304 x i) {v : Nat} (hm : x.f 0x0C 4 &&& stagedMask (x.f 8 4) = x.f 0x0C 4)
    (h0 : x.f 0x0C 4 ≠ 0) (hr : s.reachOk i (x.f 8 4) = true) (hc : s.commits = [])
    (hv : v = s.stagedStore (x.f 8 4) (x.f 0x0C 4) (x.f 0x10 4)) :
    doTblRegStage m s = ((s.stageBits i (x.f 8 4) (x.f 0x0C 4) v).configEntry 2 (x.f 8 4) (x.f 0x0C 4) (v &&& x.f 0x0C 4)).mbAnswer m 0 := by
  subst hv
  simp only [doTblRegStage, mbRun_of_takes h, hm, h0, hr, hc, ne_eq, not_true_eq_false, Bool.not_true, Bool.false_eq_true, List.isEmpty_nil,
    if_false]

/-! ### Reads -/

/-- R374: a read of an active entry outside Shoal, where no granule is marked. -/
theorem doTblRead_active (h : s.mbTakes m 0x0308 x i) (hecc : s.ecc = []) (h2 : 2 ≤ x.f 8 1)
    (ho : x.f 8 1 = 4 ∨ s.entryOwner (x.f 8 1) (x.f 0x0A 2) = i) (hc : x.f 9 1 = 0) :
    doTblRead m s = s.mbAnswer m 0 (leBytes 16 (NatMap.get 0 (tableOf (x.f 8 1) s.tables) (x.f 0x0A 2))) := by
  have h1 : x.f 8 1 ≠ 1 := by omega
  have hown : ¬ (x.f 8 1 ≠ 4 ∧ s.entryOwner (x.f 8 1) (x.f 0x0A 2) ≠ i) := fun hb => ho.elim hb.1 hb.2
  rw [doTblRead, mbRun_of_takes h]
  simp only [h1, hc, badGranules_clean hecc, rdChk_clean hecc, Bool.and_eq_true, decide_eq_true_eq, hown, if_true, if_false,
    List.any_nil, Bool.false_eq_true, false_and]

/-- Settles O35: each table command at its turn is its row of Table 11.7, in the case that the clause names. -/
theorem tableCommands : Obligations.TableCommands := by
  intro s t m x i
  refine ⟨fun h e he => ⟨fun ho => congrArg Host.Outcome.next (doTblShoalStage_not_owned h ho),
      fun ho hl => congrArg Host.Outcome.next (doTblShoalStage_learning h ho hl), fun ho hl hf hw hroom ht => ?joins,
      fun ho hl hf hw hfull hnew => congrArg Host.Outcome.next
        ((doTblShoalStage_owned he h ho hl hf hw).trans (if_pos ⟨hfull, hnew⟩))⟩,
    fun h ho hw => congrArg Host.Outcome.next (doTblActionStage_owned h ho hw),
    fun h ho he hw => congrArg Host.Outcome.next (doTblStreamStage_owned h ho he hw),
    fun h v hm h0 hr hc hv => congrArg Host.Outcome.next (doTblRegStage_owned h hm h0 hr hc hv),
    fun h => congrArg Host.Outcome.next (mbRun_of_takes h _), fun h => congrArg Host.Outcome.next (mbRun_of_takes h _),
    fun h ht => ?abort, fun h hecc h2 ho hc => congrArg Host.Outcome.next (doTblRead_active h hecc h2 ho hc)⟩
  case joins =>
    rw [ht]
    refine congrArg Host.Outcome.next ((doTblShoalStage_owned he h ho hl hf hw).trans (if_neg ?_))
    rintro ⟨hfull, hnew⟩
    rcases hroom with hroom | hroom
    · omega
    · simp [hroom] at hnew
  case abort =>
    rw [ht]
    exact congrArg Host.Outcome.next (mbRun_of_takes h _)

end Sys2Proof.Machine
end

section
/-! PROOFS. The program and Carillon commands (spec/11 Tables 11.8 and 11.9; spec/08 R287 to R290, R297). -/
namespace Sys2Proof.Machine

variable {s t : State} {m : Fin 16} {x : MbCmd} {i : Nat}

/-! ### Programs -/

theorem doPrgEgretLoad_withdrawn {bad : Bool} (h : s.mbTakes m 0x0401 x i) (hp : s.progOk i (x.f 8 1) (x.f 0x0A 2) (x.f 0x0C 2) = true)
    (hw : s.blockOut 1 (x.f 8 1) = true)
    (ht : s.loadWords 3 (progAddr (x.f 8 1) + 4 * x.f 0x0A 2) (progOffset (x.f 8 1) (x.f 0x0A 2)) (x.who m i) (x.words (x.f 0x0C 2)) =
      (t, bad)) : doPrgEgretLoad m s = t.mbAnswer m (if bad then 0x0302 else 0) := by
  rw [doPrgEgretLoad, mbRun_of_takes h]
  simp only [hp, hw, ht, Bool.not_true, Bool.false_eq_true, if_false]

theorem doPrgEgretLoad_busy (h : s.mbTakes m 0x0401 x i) (hp : s.progOk i (x.f 8 1) (x.f 0x0A 2) (x.f 0x0C 2) = true)
    (hw : s.blockOut 1 (x.f 8 1) = false) : doPrgEgretLoad m s = s.mbAnswer m 0x0203 := by
  rw [doPrgEgretLoad, mbRun_of_takes h]
  simp only [hp, hw, Bool.not_true, Bool.false_eq_true, Bool.not_false, if_false, if_true]

theorem doPrgParseStage_free (h : s.mbTakes m 0x0402 x 0) (hw : s.stageWaits 5 (x.f 0x0A 2) = false) :
    doPrgParseStage m s = ((((upTo (x.words (x.f 0x0C 2)).length).zip (x.words (x.f 0x0C 2))).foldl
      (fun s e => s.stage 5 (x.f 0x0A 2 + e.1) 0 e.2) s).mbAnswer m 0) := by
  rw [doPrgParseStage, mbRun_of_takes h]
  simp only [hw, ne_eq, not_true_eq_false, Bool.false_eq_true, if_false]

/-- R234, R377: a cluster's channel that is not bound is written through the privileged view. -/
theorem doPrgChanBind_unbound (h : s.mbTakes m 0x0403 x i) {busy : Bool} (h0 : x.f 8 1 = 0)
    (hb : bitAt (s.shownWord (chanReg (x.f 9 1) (x.f 0x0A 2))) 0 = false)
    (hr : s.bindRefused i (x.f 9 1) (x.f 0x0A 2) [x.f 9 1] (x.f 0x0C 1 == 1) false = none) (h7 : x.f 9 1 ≠ 7)
    (ht : s.pfWrite (chanReg (x.f 9 1) (x.f 0x0A 2)) 0xFFFFFFFF (b2n (x.f 0x0C 1 == 1) + 2 * i) = (t, busy)) :
    doPrgChanBind m s = t.mbAnswer m (if busy then 0x0203 else 0) := by
  rw [doPrgChanBind, mbRun_of_takes h]
  simp only [h0, h7, hb, hr, ht, if_true, if_false, Bool.false_and, Bool.false_eq_true, Nat.add_zero]

theorem doPrgRead_program (h : s.mbTakes m 0x0404 x i) (hecc : s.ecc = []) (h0 : x.f 8 1 = 0)
    (hp : s.progOk i (x.f 9 1) (x.f 0x0A 2) (x.f 0x0C 2) = true) :
    doPrgRead m s = s.mbAnswer m 0 (s.rdBytes (progAddr (x.f 9 1) + 4 * x.f 0x0A 2) (4 * x.f 0x0C 2)) := by
  rw [doPrgRead, mbRun_of_takes h]
  simp only [h0, hp, rdChk_clean hecc, if_true, if_false, Bool.not_true, Bool.false_eq_true]

/-! ### Carillon -/

theorem doCaCodeLoad_open {bad : Bool} (h : s.mbTakes m 0x0501 x i) (hr : s.codeRange i (x.f 0x0A 2) (x.f 0x0C 2) = true)
    (ho : s.codeOpen i = true)
    (ht : s.loadWords 4 (codeAddr + 4 * x.f 0x0A 2) (4 * x.f 0x0A 2) (x.who m i) (x.words (x.f 0x0C 2)) = (t, bad)) :
    doCaCodeLoad m s = t.mbAnswer m (if bad then 0x0302 else 0) := by
  rw [doCaCodeLoad, mbRun_of_takes h]
  simp only [hr, ho, ht, Bool.not_true, Bool.false_eq_true, if_false]

/-- R15: while the code store is closed, only words that it holds already are accepted. -/
theorem doCaCodeLoad_closed (h : s.mbTakes m 0x0501 x i) (hr : s.codeRange i (x.f 0x0A 2) (x.f 0x0C 2) = true)
    (ho : s.codeOpen i = false) :
    doCaCodeLoad m s = s.mbAnswer m (if (x.words (x.f 0x0C 2)).flatMap (leBytes 4) =
      s.rdBytes (codeAddr + 4 * x.f 0x0A 2) (4 * x.f 0x0C 2) then 0 else 0x0203) := by
  rw [doCaCodeLoad, mbRun_of_takes h]
  simp only [hr, ho, beq_iff_eq, Bool.not_true, Bool.false_eq_true, Bool.not_false, if_false, if_true]

theorem doCaParkRead_summary (h : s.mbTakes m 0x0502 x i) (ho : s.groupOwner (x.f 8 1) = i) (h0 : x.f 9 1 = 0) :
    doCaParkRead m s = s.mbAnswer m 0 (((s.caSummary (x.f 8 1)).drop (x.f 0x0C 4)).take (x.f 0x10 2)) := by
  rw [doCaParkRead, mbRun_of_takes h]
  simp only [ho, h0, ne_eq, not_true_eq_false, if_true, if_false]

theorem doCaParkRead_state (h : s.mbTakes m 0x0502 x i) (ho : s.groupOwner (x.f 8 1) = i) (h0 : x.f 9 1 ≠ 0) (h4 : x.f 9 1 ≠ 4) :
    doCaParkRead m s = s.mbAnswer m 0 (s.parkWords (x.f 8 1) (x.f 9 1) (x.f 0x0A 1) (x.f 0x0C 4) (x.f 0x10 2)) := by
  rw [doCaParkRead, mbRun_of_takes h]
  simp only [ho, h0, h4, ne_eq, not_true_eq_false, if_false]

theorem doCaParkWrite_parked {l : List Byte} {k : Kernel} {bad : Bool} (h : s.mbTakes m 0x0503 x i)
    (hl : l = (x.req.drop 0x18).take (x.f 0x10 2)) (ho : s.groupOwner (x.f 8 1) = i) (hk : s.parkedOn (x.f 8 1) = some k)
    (ht : s.parkWrite (x.f 8 1) k (x.f 9 1) (x.f 0x0A 1) (x.f 0x0C 4) l (x.who m i) = (t, bad)) :
    doCaParkWrite m s = (t.parkNote (x.f 8 1) (parkEntries (x.f 8 1) (x.f 9 1) (x.f 0x0A 1) (x.f 0x0C 4) l)).mbAnswer m
      (if bad then 0x0302 else 0) := by
  subst hl
  rw [doCaParkWrite, mbRun_of_takes h]
  simp only [ho, hk, ht, ne_eq, not_true_eq_false, if_false]

/-- R288 to R290: the outcome of a park, once it may be decided; a group that is not parked has none. -/
theorem doCaOutcome_eq {op : Nat} (h : s.mbTakes m op x i) (ho : s.groupOwner (x.f 8 1) = i) :
    doCaOutcome m op s = (s.parkedOn (x.f 8 1)).elim (s.mbAnswer m 0x0206) fun k =>
      if (s.parkOutcome (x.f 8 1) k (if op = 0x0504 then 1 else 2)).isNone then s
      else (if op = 0x0504 then s.resumeParked (x.f 8 1) else s.abandonParked (x.f 8 1)).mbAnswer m 0 := by
  rw [doCaOutcome, mbRun_of_takes h]
  simp only [ho, ne_eq, not_true_eq_false, if_false]
  cases s.parkedOn (x.f 8 1) <;> rfl

theorem doCaOutcome_decided {op : Nat} {k : Kernel} (h : s.mbTakes m op x i) (ho : s.groupOwner (x.f 8 1) = i)
    (hk : s.parkedOn (x.f 8 1) = some k) (hout : (s.parkOutcome (x.f 8 1) k (if op = 0x0504 then 1 else 2)).isSome = true) :
    doCaOutcome m op s = (if op = 0x0504 then s.resumeParked (x.f 8 1) else s.abandonParked (x.f 8 1)).mbAnswer m 0 := by
  rw [doCaOutcome_eq h ho, hk, Option.elim_some, if_neg (by simp [Option.isNone_iff_eq_none, Option.isSome_iff_ne_none.mp hout])]

/-- Settles O36: each program command at its turn is its row of Tables 11.8 and 11.9, in the case that the clause names. -/
theorem programCommands : Obligations.ProgramCommands := by
  intro s t m x i
  refine ⟨fun bad h hp hw ht => congrArg Host.Outcome.next (doPrgEgretLoad_withdrawn h hp hw ht),
    fun h hp hw => congrArg Host.Outcome.next (doPrgEgretLoad_busy h hp hw),
    fun h hw => congrArg Host.Outcome.next (doPrgParseStage_free h hw), fun h key cl busy h0 hkey hcl hb hr h7 ht => ?bind,
    fun h hecc h0 hp => congrArg Host.Outcome.next (doPrgRead_program h hecc h0 hp),
    fun bad h hr ho ht => congrArg Host.Outcome.next (doCaCodeLoad_open h hr ho ht),
    fun h hr ho => ⟨fun hne => ?other, fun heq => ?same⟩,
    fun h ho => ⟨fun h0 => congrArg Host.Outcome.next (doCaParkRead_summary h ho h0),
      fun h0 h4 => congrArg Host.Outcome.next (doCaParkRead_state h ho h0 h4)⟩,
    fun h l k bad hl ho hk ht => congrArg Host.Outcome.next (doCaParkWrite_parked h hl ho hk ht),
    fun h k ho hk hout => congrArg Host.Outcome.next (doCaOutcome_decided h ho hk hout),
    fun h k ho hk hout => congrArg Host.Outcome.next (doCaOutcome_decided h ho hk hout), fun h ho hk => ?notParked⟩
  case bind =>
    subst hkey hcl
    exact congrArg Host.Outcome.next (doPrgChanBind_unbound h h0 hb hr h7 ht)
  case other =>
    have e := doCaCodeLoad_closed h hr ho
    rw [if_neg hne] at e
    exact congrArg Host.Outcome.next e
  case same =>
    have e := doCaCodeLoad_closed h hr ho
    rw [if_pos heq] at e
    exact congrArg Host.Outcome.next e
  case notParked =>
    have e := doCaOutcome_eq h ho
    rw [hk, Option.elim_none] at e
    exact congrArg Host.Outcome.next e

end Sys2Proof.Machine
end

section
/-! PROOFS. The port and lock commands (spec/11 Table 11.10, R380; spec/03 R96, R97; spec/04 R138, R139). -/
namespace Sys2Proof.Machine

variable {s t : State} {m : Fin 16} {x : MbCmd} {i : Nat}

/-! ### Ports -/

theorem doPortStatus_ethernet (h : s.mbTakes m 0x0601 x i) (h0 : x.f 8 1 = 0) (ho : s.portOwner (x.f 0x0A 2) = i) :
    doPortStatus m s = s.mbAnswer m 0 (leBytes 4 (s.ethAt (x.f 0x0A 2)).stat ++ leBytes 4 (s.regW enErr)) := by
  rw [doPortStatus, mbRun_of_takes h]
  simp only [h0, ho, ne_eq, not_true_eq_false, if_true, if_false]

theorem doPortStatus_tideway (h : s.mbTakes m 0x0601 x i) (h0 : x.f 8 1 ≠ 0) (ho : s.chanOwner (x.f 0x0A 2) = i) :
    doPortStatus m s = s.tick.mbAnswer m 0 (leBytes 4 (s.tdStat (x.f 0x0A 2)) ++ leBytes 4 (s.regW tdErr)) := by
  rw [doPortStatus, mbRun_of_takes h]
  simp only [h0, ho, ne_eq, not_true_eq_false, if_false]

theorem doPortCounters_owned (h : s.mbTakes m 0x0602 x i) (ho : s.portOwner (x.f 8 1) = i) :
    doPortCounters m s = s.mbAnswer m 0 (leBytes 8 (s.ethAt (x.f 8 1)).rxFrm ++ leBytes 8 (s.ethAt (x.f 8 1)).rxOct ++
      leBytes 8 (s.ethAt (x.f 8 1)).txFrm ++ leBytes 8 (s.ethAt (x.f 8 1)).txOct) := by
  rw [doPortCounters, mbRun_of_takes h]
  simp only [ho, ne_eq, not_true_eq_false, if_false]

theorem doPortGclLoad_lists (h : s.mbTakes m 0x0603 x i) (ho : s.portOwner (x.f 8 1) = i)
    (hp : (s.ethAt (x.f 8 1)).sched.pending = none) (h0 : x.f 0x0B 1 = 0) :
    doPortGclLoad m s = (s.writeWords ((upTo (2 * x.f 0x0A 1)).map fun j =>
      (0x00164000 + 0x800 * x.f 8 1 + 8 * x.f 9 1 + 4 * j, x.f (0x20 + 4 * j) 4))).mbAnswer m 0 := by
  rw [doPortGclLoad, mbRun_of_takes h]
  simp only [ho, hp, h0, ne_eq, not_true_eq_false, Option.isSome_none, Bool.false_eq_true, if_true, if_false]

theorem doPortGclLoad_pending (h : s.mbTakes m 0x0603 x i) (ho : s.portOwner (x.f 8 1) = i)
    (hp : (s.ethAt (x.f 8 1)).sched.pending.isSome = true) :
    doPortGclLoad m s = (s.writeWords ((upTo (2 * x.f 0x0A 1)).map fun j =>
      (0x00164000 + 0x800 * x.f 8 1 + 8 * x.f 9 1 + 4 * j, x.f (0x20 + 4 * j) 4))).mbAnswer m 0x0203 := by
  rw [doPortGclLoad, mbRun_of_takes h]
  simp only [ho, hp, ne_eq, not_true_eq_false, if_true, if_false]

theorem doPortGongWrite_i0 (h : s.mbTakes m 0x0604 x 0) :
    doPortGongWrite m s = (s.writeWords ((upTo 11).map fun j => (gongKey (x.f 8 1) + 4 * j, x.f (0x10 + 4 * j) 4))).mbAnswer m
      (if s.bit (gongKey (x.f 8 1) + 0x28) 0 = true then 0x0203 else 0) := by
  rw [doPortGongWrite, mbRun_of_takes h]
  simp only [ne_eq, not_true_eq_false, if_false]

theorem doPortGongWrite_tenant (h : s.mbTakes m 0x0604 x i) (hi : i ≠ 0) : doPortGongWrite m s = s.mbAnswer m 0x0202 := by
  rw [doPortGongWrite, mbRun_of_takes h]
  simp only [hi, ne_eq, not_false_eq_true, if_true]

/-- R97: a mask of the low word alone makes one CONFIG entry. -/
theorem doPortGongRearm_low (h : s.mbTakes m 0x0605 x 0) (hlo : x.f 8 4 ≠ 0) (hhi : x.f 0x0C 4 = 0) :
    doPortGongRearm m s = ((s.gongRearm (x.f 8 4)).configEntry 1 0x0015000C 0xFFFFFFFF (x.f 8 4)).mbAnswer m 0 := by
  rw [doPortGongRearm, mbRun_of_takes h]
  simp only [hlo, hhi, Nat.zero_mul, Nat.add_zero, ne_eq, not_true_eq_false, if_true, if_false]

/-! ### Locks -/

/-- The request that lock command `op` offers Belfry. -/
def lockRequest (m : Fin 16) (x : MbCmd) (i op bop : Nat) : BfReq :=
  if op = 0x0A05 then
    { master := 0x200 + i, inst := i, op := x.f 8 1, addr := x.f 0x10 5, opa := x.f 0x18 8, opb := x.f 0x20 8, form := .host m,
      gseq := none }
  else { master := 0x200 + i, inst := i, op := bop, addr := x.f 8 5, opa := 0, opb := 0, form := .host m, gseq := none }

/-- R380: a lock command offers its request, and Belfry takes the request that the mailbox then has. -/
theorem doLock_eq {op bop : Nat} {r : BfReq} (h : s.mbTakes m op x i) (ht : t = (s.mbBegin m).bfOffer (lockRequest m x i op bop))
    (hcmd : (t.mbAt m).cmd = some { x with begun := true }) (hr : t.bfHost m = some r) :
    doLock m op bop s = if bfIsLock r.op then t.bfTakeLock r else t.bfTakeAtomic r := by
  have hrun : s.mbRun m op (fun x i s =>
      let r : BfReq := { master := 0x200 + i, inst := i, op := bop, addr := x.f 8 5, opa := 0, opb := 0, form := .host m, gseq := none }
      (s.mbBegin m).bfOffer
        (if op = 0x0A05 then { r with op := x.f 8 1, addr := x.f 0x10 5, opa := x.f 0x18 8, opb := x.f 0x20 8 } else r)) = t :=
    (mbRun_of_takes h _).trans ht.symm
  have hop : ({ x with begun := true } : MbCmd).op = op := by
    obtain ⟨-, -, -, hop, -⟩ := h
    exact hop
  rw [doLock, hrun]
  simp only [hcmd, hr, hop, decide_true, Bool.and_self, if_true]

theorem doLock_lock {op bop : Nat} (hop : op ≠ 0x0A05) {r : BfReq} (h : s.lockComes t m x i op bop)
    (hcmd : (t.mbAt m).cmd = some { x with begun := true }) (hr : t.bfHost m = some r) (hl : bfIsLock r.op = true) :
    doLock m op bop s = t.bfTakeLock r := by
  obtain ⟨htakes, ht⟩ := h
  have hreq : lockRequest m x i op bop =
      { master := 0x200 + i, inst := i, op := bop, addr := x.f 8 5, opa := 0, opb := 0, form := .host m, gseq := none } := if_neg hop
  rw [doLock_eq htakes (ht.trans (by rw [hreq])) hcmd hr, if_pos hl]

theorem doLock_atomic {r : BfReq} (h : s.mbTakes m 0x0A05 x i)
    (ht : t = (s.mbBegin m).bfOffer
      { master := 0x200 + i, inst := i, op := x.f 8 1, addr := x.f 0x10 5, opa := x.f 0x18 8, opb := x.f 0x20 8, form := .host m,
        gseq := none })
    (hcmd : (t.mbAt m).cmd = some { x with begun := true }) (hr : t.bfHost m = some r) (hl : bfIsLock r.op = false) :
    doLock m 0x0A05 0 s = t.bfTakeAtomic r := by
  rw [doLock_eq h (bop := 0) (ht.trans (by rw [lockRequest, if_pos rfl])) hcmd hr, if_neg (ne_true_of_eq_false hl)]

theorem doLockAcquireTimeout_due (hcmd : (s.mbAt m).cmd = some x) (hhold : s.sup.hold = false) (hop : x.op = 0x0A01)
    (hb : x.begun = true) (h0 : x.f 0x10 4 ≠ 0) (hdue : x.since + 1000 * x.f 0x10 4 ≤ s.now) :
    doLockAcquireTimeout m s = (s.bfHostEnd m).mbAnswer m 0x0108 := by
  simp [doLockAcquireTimeout, hcmd, hhold, hop, hb, h0, Nat.not_lt.mpr hdue]

theorem doLockAcquireTimeout_waits (hcmd : (s.mbAt m).cmd = some x) (h : s.sup.hold = true ∨ s.now < x.since + 1000 * x.f 0x10 4) :
    doLockAcquireTimeout m s = s := by
  rcases h with h | h <;> simp [doLockAcquireTimeout, hcmd, h]

/-- Settles O37: each port command is its row of Table 11.10, and a lock command offers its request and is taken by Belfry. -/
theorem portAndLockCommands : Obligations.PortAndLockCommands := by
  intro s t m x i
  refine ⟨fun h h0 ho => congrArg Host.Outcome.next (doPortStatus_ethernet h h0 ho),
    fun h h0 ho => congrArg Host.Outcome.next (doPortStatus_tideway h h0 ho),
    fun h ho => congrArg Host.Outcome.next (doPortCounters_owned h ho),
    fun h ho hp h0 => congrArg Host.Outcome.next (doPortGclLoad_lists h ho hp h0),
    fun h ho hp => congrArg Host.Outcome.next (doPortGclLoad_pending h ho hp),
    fun h => congrArg Host.Outcome.next (doPortGongWrite_i0 h), fun h hi => congrArg Host.Outcome.next (doPortGongWrite_tenant h hi),
    fun h hlo hhi => congrArg Host.Outcome.next (doPortGongRearm_low h hlo hhi), fun r hcmd hr => ⟨?acquire, ?tryacq, ?release, ?repaired, ?atomic⟩,
    fun hcmd hhold hop hb h0 hdue => congrArg Host.Outcome.next (doLockAcquireTimeout_due hcmd hhold hop hb h0 hdue),
    fun hcmd h => congrArg Host.Outcome.next (doLockAcquireTimeout_waits hcmd h)⟩
  case acquire => exact fun h hl => congrArg Host.Outcome.next (doLock_lock (by decide) h hcmd hr hl)
  case tryacq => exact fun h hl => congrArg Host.Outcome.next (doLock_lock (by decide) h hcmd hr hl)
  case release => exact fun h hl => congrArg Host.Outcome.next (doLock_lock (by decide) h hcmd hr hl)
  case repaired => exact fun h hl => congrArg Host.Outcome.next (doLock_lock (by decide) h hcmd hr hl)
  case atomic => exact fun h ht hl => congrArg Host.Outcome.next (doLock_atomic h ht hcmd hr hl)

end Sys2Proof.Machine
end

section
/-! PROOFS. The twin commands and the recorder's commands (spec/11 Tables 11.11 and 11.12; spec/14 R466 to R472; spec/15 R486, R492, R495). -/
namespace Sys2Proof.Machine

variable {s t : State} {m : Fin 16} {x : MbCmd} {i : Nat}

/-! ### Twin commands -/

theorem doTwinPair_on (h : s.mbTakes m 0x0702 x i) (h1 : x.f 8 1 = 1) : doTwinPair m s = s.pairOn.mbAnswer m 0 := by
  rw [doTwinPair, mbRun_of_takes h, if_pos h1]

theorem doTwinPair_off (h : s.mbTakes m 0x0702 x i) (h0 : x.f 8 1 = 0) : doTwinPair m s = s.pairOff.mbAnswer m 0 := by
  rw [doTwinPair, mbRun_of_takes h, if_neg (by omega)]

theorem doTwinDetach_lead (h : s.mbTakes m 0x0703 x i) (hl : s.ford.link = 2) (ht : s.ford.takeover = false)
    (hp : s.partnerFollows = true) : doTwinDetach m s = (s.detachPartner true).mbAnswer m 0 := by
  simp [doTwinDetach, mbRun_of_takes h, hl, ht, hp]

theorem doTwinDetach_shadow (h : s.mbTakes m 0x0703 x i) (hl : s.ford.link = 2) (ht : s.ford.takeover = false)
    (hp : s.partnerFollows = false) (hr : s.ford.role = .shadow) :
    doTwinDetach m s = ((s.fordSend 7 (Config.controlBytes .detach)).goDetached).mbAnswer m 0 := by
  simp [doTwinDetach, mbRun_of_takes h, hl, ht, hp, hr]

theorem doTwinResync_ready (h : s.mbTakes m 0x0704 x i) (hl : s.ford.link = 2) (hr : s.ford.role = .lead) (hs : s.ford.resync = none)
    (hh : s.ford.handover = none) (hp : s.ford.partnerReady = true) (hc : s.bt.ckpt ≠ 2) :
    doTwinResync m s =
      ({ s.mbBegin m with ford := { (s.mbBegin m).ford with resync := some m.val } } : State).ckptAsk ⟨m, true⟩ := by
  simp [doTwinResync, mbRun_of_takes h, hl, hr, hs, hh, hp, hc]

/-- The state in which a handover at the next GSEQ has begun. -/
def State.handoverBegun (t : State) (m : Nat) : State :=
  { t with ford := { t.ford with handover := some ⟨m, t.nextGseq, 1, false⟩ } }

theorem doTwinHandover_aligned (h : s.mbTakes m 0x0705 x i) (hl : s.ford.link = 2) (hr : s.ford.role = .lead)
    (hp : s.ford.peerRole = .shadow) (hf : bitAt s.ford.peerFlags 2 = true) (ha : s.ford.talign = true) (hh : s.ford.handover = none) :
    doTwinHandover m s = ((s.mbBegin m).handoverBegun m).fordSend 7
      (Config.controlBytes (.handover (BitVec.ofNat 48 (s.mbBegin m).nextGseq))) := by
  simp [doTwinHandover, mbRun_of_takes h, hl, hr, hp, hf, ha, hh, State.handoverBegun]

theorem doTwinHandover_link_down (h : s.mbTakes m 0x0705 x i) (hl : s.ford.link ≠ 2) : doTwinHandover m s = s.mbAnswer m 0x0602 := by
  simp [doTwinHandover, mbRun_of_takes h, hl]

/-! ### The recorder -/

section recorder

/-- REC_CONFIG's ring: populated DRAM that holds two slots and 32 MiB, elsewhere than the ring that stands. -/
def State.newRing (s : State) (x : MbCmd) : Prop :=
  2 * s.slotSize + 32 * 2 ^ 20 ≤ x.f 0x10 2 * 2 ^ 20 ∧ x.f 8 5 < 0x800000000 ∧
    s.mapOk .engine (x.f 8 5) (x.f 0x10 2 * 2 ^ 20) = true ∧ x.f 8 5 ≠ s.btBase

theorem doRecConfig_stopped (h : s.mbTakes m 0x0801 x i) (hen : s.bit 0x003B0000 0 = false) (hr : s.newRing x) :
    doRecConfig m s = ((((({ s with bt := { s.bt with slot0 := {}, slot1 := {}, total := 0 } } : State).setReg 0x003B0004
      (x.f 8 5 % 2 ^ 32)).setReg 0x003B0008 (x.f 8 5 / 2 ^ 32)).setReg 0x003B000C (x.f 0x10 2)).btCtlWrite 0xFF01
        (x.f 0x12 1 + 2 ^ 8 * x.f 0x13 1)).mbAnswer m 0 := by
  obtain ⟨hsize, ha, hmap, hne⟩ := hr
  rw [doRecConfig, mbRun_of_takes h]
  simp only [hen, hmap, hne, ha, Nat.not_lt.mpr hsize, ne_eq, not_false_eq_true, decide_true, decide_false, Bool.and_self, Bool.and_false,
    Bool.true_or, Bool.not_true, Bool.or_self, Bool.false_eq_true, if_true, if_false]

theorem doRecConfig_recording (h : s.mbTakes m 0x0801 x i) (hen : s.bit 0x003B0000 0 = true) (hr : s.newRing x) (h0 : x.f 0x12 1 ≠ 0) :
    doRecConfig m s = ((s.setBit btEvt 9).btCtlWrite 0xFF01 (x.f 0x12 1 + 2 ^ 8 * x.f 0x13 1)).mbAnswer m 0x0203 := by
  obtain ⟨hsize, ha, hmap, hne⟩ := hr
  rw [doRecConfig, mbRun_of_takes h]
  simp only [hen, hmap, hne, ha, h0, Nat.not_lt.mpr hsize, ne_eq, not_false_eq_true, decide_true, decide_false, Bool.and_self,
    Bool.false_and, Bool.true_or, Bool.not_true, Bool.or_self, Bool.false_eq_true, if_true, if_false]

theorem doRecStatus_no_checkpoint (h : s.mbTakes m 0x0802 x i) (h0 : s.bt.slot0.valid = false) (h1 : s.bt.slot1.valid = false) :
    doRecStatus m s = s.mbAnswer m 0 (leBytes 4 (if s.btRing.2 = 0 then 0 else s.bt.total / s.btRing.2) ++
      leBytes 2 (min s.btRing.2 s.bt.total / 2 ^ 20) ++ leBytes 2 0 ++ leBytes 6 0) := by
  rw [doRecStatus, mbRun_of_takes h]
  simp only [h0, h1, Bool.false_and, Bool.false_eq_true, if_false]

theorem doRecCheckpoint_asks (h : s.mbTakes m 0x0803 x i) (hc : s.bt.ckpt ≠ 2) (hen : s.bit 0x003B0000 0 = true) (hm : s.mode ≠ .replay) :
    doRecCheckpoint m s = (s.mbBegin m).ckptAsk ⟨m, false⟩ := by
  simp [doRecCheckpoint, mbRun_of_takes h, hc, hen, hm]

/-- R492: a case in populated DRAM is read, taken apart and compared with the device. -/
theorem doRecReplayEnter_case (h : s.mbTakes m 0x0804 x i) {l : List Byte} {c : CaseFile} (hm : s.mode = .hold) (hr : s.ford.role = .none)
    (ha : x.f 8 5 < 0x800000000) (hmap : s.mapOk .engine (x.f 8 5) (x.f 0x10 4) = true)
    (ht : s.rdMem (x.f 8 5) (x.f 0x10 4) (x.who m i) = (t, some l)) (hc : caseOf (x.f 8 5) l = some c) :
    doRecReplayEnter m s =
      if t.caseMatches l = true then (t.enterReplay c).mbAnswer m 0 (leBytes 6 c.g0) else t.mbAnswer m 0x0601 := by
  rw [doRecReplayEnter, mbRun_of_takes h]
  have hmode : (s.mode != .hold || !(s.ford.role == .none || s.ford.role == .detached)) = false := by simp [hm, hr]
  simp only [hmode, ha, hmap, ht, hc, decide_true, Bool.and_self, Bool.not_true, Bool.false_eq_true, if_false]
  cases t.caseMatches l <;> rfl

theorem doRecReplayEnter_unmapped (h : s.mbTakes m 0x0804 x i) (hm : s.mode = .hold) (hr : s.ford.role = .none)
    (ha : 0x800000000 ≤ x.f 8 5 ∨ s.mapOk .engine (x.f 8 5) (x.f 0x10 4) = false) :
    doRecReplayEnter m s = s.mapErr.mbAnswer m 0x0105 := by
  have hmode : (s.mode != .hold || !(s.ford.role == .none || s.ford.role == .detached)) = false := by simp [hm, hr]
  have hbad : (decide (x.f 8 5 < 0x800000000) && s.mapOk .engine (x.f 8 5) (x.f 0x10 4)) = false := by
    rw [Bool.and_eq_false_iff, decide_eq_false_iff_not, Nat.not_lt]
    exact ha
  rw [doRecReplayEnter, mbRun_of_takes h]
  simp only [hmode, hbad, Bool.not_false, Bool.false_eq_true, if_false, if_true]

theorem doRecReplayEnter_not_hold (h : s.mbTakes m 0x0804 x i) (hm : s.mode ≠ .hold) : doRecReplayEnter m s = s.mbAnswer m 0x0109 := by
  simp [doRecReplayEnter, mbRun_of_takes h, hm]

theorem doRecReplayExit_replay (h : s.mbTakes m 0x0805 x i) (hm : s.mode = .replay)
    (ht : t = { s with dlogIn := [], ford := { s.ford with configs := [] }, replay := { s.replay with records := [], digests := [] } }) :
    doRecReplayExit m s = ((t.setMode .hold).setBit 0x00370020 3).mbAnswer m 0 := by
  simp [doRecReplayExit, mbRun_of_takes h, hm, ht]

end recorder

/-- Settles O38: each twin or recorder command at its turn is its row of Tables 11.11 and 11.12, in the case that the clause names. -/
theorem twinAndRecorderCommands : Obligations.TwinAndRecorderCommands := by
  intro s t m x i
  refine ⟨fun h => congrArg Host.Outcome.next (mbRun_of_takes h _), fun h h1 => congrArg Host.Outcome.next (doTwinPair_on h h1),
    fun h h0 => congrArg Host.Outcome.next (doTwinPair_off h h0),
    fun h hl htk => ⟨fun hp => congrArg Host.Outcome.next (doTwinDetach_lead h hl htk hp),
      fun hp hr => congrArg Host.Outcome.next (doTwinDetach_shadow h hl htk hp hr)⟩,
    fun h hl hr hs hh hp hc ht => ?resync, fun h hl hr hp hf ha hh ht => ?handover,
    fun h hl => congrArg Host.Outcome.next (doTwinHandover_link_down h hl), fun h hen hsize ha hmap hne ht => ?stopped,
    fun h hen hsize ha hmap hne h0 => congrArg Host.Outcome.next (doRecConfig_recording h hen ⟨hsize, ha, hmap, hne⟩ h0),
    fun h h0 h1 => congrArg Host.Outcome.next (doRecStatus_no_checkpoint h h0 h1),
    fun h hc hen hm => congrArg Host.Outcome.next (doRecCheckpoint_asks h hc hen hm),
    fun h l c hm hr ha hmap ht hc => congrArg Host.Outcome.next (doRecReplayEnter_case h hm hr ha hmap ht hc),
    fun h hm hr ha => congrArg Host.Outcome.next (doRecReplayEnter_unmapped h hm hr ha),
    fun h hm => congrArg Host.Outcome.next (doRecReplayEnter_not_hold h hm),
    fun h hm ht => congrArg Host.Outcome.next (doRecReplayExit_replay h hm ht)⟩
  case resync =>
    subst ht
    exact congrArg Host.Outcome.next (doTwinResync_ready h hl hr hs hh hp hc)
  case handover =>
    subst ht
    exact congrArg Host.Outcome.next (doTwinHandover_aligned h hl hr hp hf ha hh)
  case stopped =>
    subst ht
    exact congrArg Host.Outcome.next (doRecConfig_stopped h hen ⟨hsize, ha, hmap, hne⟩)

end Sys2Proof.Machine
end

section
/-! PROOFS. The update and error commands (spec/11 Tables 11.13 and 11.15; spec/12 R398, R399; spec/15 R490; spec/18 R549). -/
namespace Sys2Proof.Machine

variable {s t : State} {m : Fin 16} {x : MbCmd} {i : Nat}

/-! ### Flash -/

theorem doUpdErase_eq (h : s.mbTakes m 0x0901 x i) (ok : Bool) :
    doUpdErase m ok s = if s.bootedFrom (x.f 8 1) then s.mbAnswer m 0x0104
      else if ok then (s.flashErase (x.f 8 1)).mbAnswer m 0 else (s.flashFail (x.f 8 1) 0 0x800000).mbAnswer m 0x0702 := by
  rw [doUpdErase, mbRun_of_takes h]

theorem doUpdWrite_eq (h : s.mbTakes m 0x0902 x i) (hb : s.bootedFrom (x.f 8 1) = false) {l : List Byte}
    (hl : l = (x.req.drop 0x10).take (x.len - 8)) (ok : Bool) :
    doUpdWrite m ok s = if ok then (s.flashProgram (x.f 8 1) (x.f 0x0C 4) l).mbAnswer m 0
      else (s.flashFail (x.f 8 1) (x.f 0x0C 4) l.length).mbAnswer m 0x0702 := by
  rw [doUpdWrite, mbRun_of_takes h, hl]
  simp only [hb, Bool.false_eq_true, if_false]

theorem doUpdSetBoot_other (h : s.mbTakes m 0x0904 x i) (hb : s.bootedFrom (x.f 8 1) = false) :
    doUpdSetBoot m s = (s.setFld 0x003C0100 0 1 (x.f 8 1)).mbAnswer m 0 := by
  rw [doUpdSetBoot, mbRun_of_takes h]
  simp only [hb, Bool.false_eq_true, if_false]

/-! ### Patches -/

/-- R398: the first step reads the file and checks it, and opens the window where its signature holds. -/
theorem doUpdPatch_file (h : s.mbTakes m 0x0905 x i) {l : List Byte} {p : PatchSet} (ha : x.f 8 5 < 0x800000000)
    (hm : s.mapOk .sup (x.f 8 5) (x.f 0x10 4) = true) (ht : s.rdMem (x.f 8 5) (x.f 0x10 4) (x.who m i) 8 = (t, some l))
    (hp : patchOf (t.regW 0x00370008) l = some p) (hhold : s.sup.hold = false) :
    doUpdPatch m s = if fileSigned t.tap.hashAtBoot l = true then (t.mbBegin m).windowOpen l else t.mbAnswer m 0x0701 := by
  rw [doUpdPatch, hhold, mbRun_of_takes h]
  simp only [hm, ht, hp, Nat.not_le.mpr ha, Bool.not_true, Bool.false_eq_true, if_false]

theorem doUpdPatch_unmapped (h : s.mbTakes m 0x0905 x i) (hm : s.mapOk .sup (x.f 8 5) (x.f 0x10 4) = false) (hhold : s.sup.hold = false) :
    doUpdPatch m s = s.mapErr.mbAnswer m 0x0105 := by
  rw [doUpdPatch, hhold, mbRun_of_takes h]
  simp only [hm, Bool.not_false, Bool.false_eq_true, if_true, if_false]

/-- The state in which the window of length `d` has closed, before UPD_PATCH is answered. -/
def State.windowClosed (t : State) : State :=
  ({ t with sup := { t.sup with hold := false, loading := [] },
            errors := { t.errors with svwdSince := t.errors.svwdSince + (t.now - t.sup.holdAt) } } : State).extendBounds
    (t.now - t.sup.holdAt)

theorem doUpdPatch_window {p : PatchSet} (hhold : s.sup.hold = true) (hh : s.sup.halted = false) (hs : s.sup.stopped = false)
    (hp : patchOf (s.regW 0x00370008) s.sup.loading = some p) :
    doUpdPatch 0 s = ((s.loadPatch p).windowClosed.mbAnswer 0 0 (leBytes 4 p.id)).mbFlush := by
  simp only [doUpdPatch, hhold, hh, hs, ne_eq, not_true_eq_false, decide_false, Bool.or_self, Bool.false_eq_true, if_true, if_false,
    State.patchDone, hp]
  rfl

/-- Extending bounds changes mailboxes alone. -/
theorem foldl_modMb_effect (f : Nat → Mailbox → Mailbox) (l : List Nat) : ∀ s : State,
    ∃ mb, l.foldl (fun s k => s.modMb k (f k)) s = { s with mb } := by
  induction l with
  | nil => exact fun s => ⟨s.mb, rfl⟩
  | cons k l ih =>
    intro s
    obtain ⟨mb, e⟩ := ih (s.modMb k (f k))
    exact ⟨mb, e⟩

theorem windowClosed_effect (t : State) : ∃ mb, t.windowClosed =
    { t with sup := { t.sup with hold := false, loading := [] },
             errors := { t.errors with svwdSince := t.errors.svwdSince + (t.now - t.sup.holdAt) }, mb } :=
  foldl_modMb_effect _ _ _

theorem windowClosed_mb (t : State) (h : t.mbTaken = []) : t.windowClosed.mb = t.mb := by
  simp [State.windowClosed, State.extendBounds, h]

theorem loadPatch_mbTaken (s : State) (p : PatchSet) : (s.loadPatch p).mbTaken = s.mbTaken := by
  have hmatches : ∀ (l : List (Nat × Nat)) (s : State),
      (l.foldl (fun s m => s.setReg (0x00370040 + 4 * m.2) m.1) s).mbTaken = s.mbTaken := by
    intro l
    induction l with
    | nil => exact fun _ => rfl
    | cons e l ih => exact fun s => ih _
  exact hmatches p.matches_.zipIdx s

/-! ### Errors -/

theorem doErrRead_eq (h : s.mbTakes m 0x0B01 x i) :
    doErrRead m s = match NatMap.get [] s.errors.queues i with
      | [] => s.mbAnswer m 0 (List.replicate 8 0)
      | r :: l => ({ s with errors := { s.errors with queues := NatMap.put [] s.errors.queues i l } } : State).mbAnswer m 0
          (leBytes 2 l.length ++ List.replicate 6 0 ++ r.toBytes) :=
  mbRun_of_takes h _

theorem doErrFaultlogRead_clean (h : s.mbTakes m 0x0B03 x i) (hecc : s.ecc = []) :
    doErrFaultlogRead m s = s.mbAnswer m 0 (s.rdBytes (flogAddr + 2048 * x.f 8 1 + x.f 0x0A 2) 128) := by
  rw [doErrFaultlogRead, mbRun_of_takes h]
  simp only [rdChk_clean hecc]

/-- Settles O39: each update or error command at its turn is its row of Tables 11.13 and 11.15; the loader's end closes the window. -/
theorem updateAndErrorCommands : Obligations.UpdateAndErrorCommands := by
  intro s t m x i
  refine ⟨fun h hb => ⟨?erased, ?eraseFails⟩, fun h hb ok => congrArg Host.Outcome.next ((doUpdErase_eq h ok).trans (if_pos hb)),
    fun h hb l hl => ⟨congrArg Host.Outcome.next (doUpdWrite_eq h hb hl true), congrArg Host.Outcome.next (doUpdWrite_eq h hb hl false)⟩,
    fun h => congrArg Host.Outcome.next (mbRun_of_takes h _), fun h hb => congrArg Host.Outcome.next (doUpdSetBoot_other h hb),
    fun h l p ha hm ht hp hhold => congrArg Host.Outcome.next (doUpdPatch_file h ha hm ht hp hhold),
    fun h _ hm hhold => congrArg Host.Outcome.next (doUpdPatch_unmapped h hm hhold), fun p h0 hhold hh hs hp ht => ?window,
    fun h => ⟨fun hq => ?noRecord, fun r l hq => ?record⟩, fun h => congrArg Host.Outcome.next (mbRun_of_takes h _),
    fun h hecc => congrArg Host.Outcome.next (doErrFaultlogRead_clean h hecc)⟩
  case erased => exact congrArg Host.Outcome.next ((doUpdErase_eq h true).trans (if_neg (ne_true_of_eq_false hb)))
  case eraseFails => exact congrArg Host.Outcome.next ((doUpdErase_eq h false).trans (if_neg (ne_true_of_eq_false hb)))
  case window =>
    subst ht
    have e := doUpdPatch_window hhold hh hs hp
    rw [← h0] at e
    obtain ⟨mb, he⟩ := windowClosed_effect (s.loadPatch p)
    refine ⟨(s.loadPatch p).windowClosed, ?_, ?_, ?_, ?_, ?_, fun htaken => windowClosed_mb _ ((loadPatch_mbTaken s p).trans htaken)⟩
    · rw [h0] at e
      change Host.Outcome.next (doUpdPatch m.val s) = _
      rw [h0, e]
    all_goals rw [he]
  case noRecord =>
    have e := doErrRead_eq h
    rw [hq] at e
    exact congrArg Host.Outcome.next e
  case record =>
    have e := doErrRead_eq h
    rw [hq] at e
    exact congrArg Host.Outcome.next e

end Sys2Proof.Machine
end

section
/-! PROOFS. The Supervisor's words, timer and watchdog, and the moves of records (spec/12 R392 to R395, R406, R407; spec/18 R546 to R556). -/
namespace Sys2Proof.Machine

variable {s t u : State} {a w : Nat}

/-! ### Words -/

/-- R393: a ROM word that has been fetched. -/
theorem doMicrowordRom_fetched (hh : s.sup.halted = false) (hs : s.sup.stopped = false) (hp : s.microPlace = (false, a))
    (hf : s.microFetch false a = (t, some w)) (hu : u = (if Config.microAfter then t.microExec w else t)) :
    doMicrowordRom s = if microFieldsOk w = true ∧ romSeqOk w = true then (t.microExec w).microGo false (romNext w u.microCond u.sup.d)
      else t.microFault a false 2 := by
  subst hu
  unfold doMicrowordRom
  simp only [hh, hs, hp, hf, Bool.or_self, Bool.false_eq_true, if_false]
  cases microFieldsOk w <;> cases romSeqOk w <;> rfl

/-- R394: a patch word that has been fetched and holds no reserved value goes where its sequence part says. -/
theorem doMicrowordPatch_fetched (hh : s.sup.halted = false) (hs : s.sup.stopped = false) (hp : s.microPlace = (true, a))
    (hf : s.microFetch true a = (t, some w)) (hu : u = (if Config.microAfter then t.microExec w else t))
    (hfields : microFieldsOk w = true) (hseq : patchSeqOk w = true) :
    doMicrowordPatch s =
      if u.microCond (bitsOf w 2 4) ≠ bitAt w 6 ∧ bitsOf w 0 2 = 1 then (t.microExec w).microGo true (bitsOf w 7 14)
      else if u.microCond (bitsOf w 2 4) ≠ bitAt w 6 ∧ bitsOf w 0 2 = 2 then (t.microExec w).microGo false (bitsOf w 7 14) (bitAt w 21)
      else if a + 1 < 0x200 then (t.microExec w).microGo true (a + 1)
      else (t.microExec w).microFault a true 3 := by
  subst hu
  unfold doMicrowordPatch
  simp only [hh, hs, hp, hf, hfields, hseq, Bool.not_true, Bool.or_self, Bool.false_eq_true, if_false, Bool.and_eq_true, bne_iff_ne,
    beq_iff_eq]

/-! ### Timer, watchdog and records -/

theorem doMicrotimerExpiry_due {n : Nat} (ht : s.sup.timerAt = some n) (hn : n ≤ s.now) :
    doMicrotimerExpiry s = ({ s with sup := { s.sup with timer := true, timerAt := none } } : State).gptpTimed := by
  simp only [doMicrotimerExpiry, ht, hn, if_true]

theorem doSvWatchdogKick_key (h : s.ohmythUp = true) :
    doSvWatchdogKick 0x5A5A s = { s with errors := { s.errors with svwdSince := s.now } } := by
  simp only [doSvWatchdogKick, h, State.kick, if_true]

theorem doSvWatchdogKick_other {v : Nat} (hv : v ≠ 0x5A5A) : doSvWatchdogKick v s = s := by
  simp only [doSvWatchdogKick, State.kick, hv, if_false, ite_self]

theorem doSvWatchdogExpiry_due (hr : s.sup.running = true) (hh : s.sup.hold = false) (he : s.errors.svwdExp = false)
    (hdue : s.errors.svwdSince + 100000000 ≤ s.now) :
    doSvWatchdogExpiry s =
      ({ s with errors := { s.errors with svwdExp := true } } : State).record { block := 0x0F, code := 0x00B3, sev := 4 } := by
  simp [doSvWatchdogExpiry, hr, hh, he, Nat.not_lt.mpr hdue]

theorem doSvWatchdogExpiry_early (h : s.now < s.errors.svwdSince + 100000000) : doSvWatchdogExpiry s = s := by
  simp [doSvWatchdogExpiry, h]

theorem faultLog_recordQueues (s : State) (r q : ErrRec) : (s.faultLog r).recordQueues q = s.recordQueues q := by
  obtain ⟨m, v, e⟩ := faultLog_effect s r
  rw [e]
  rfl

theorem doRecordMove_first {r : ErrRec} {direct : Bool} {rest : List (ErrRec × Bool)}
    (hc : s.errors.collector = (r, direct) :: rest) (hup : s.ohmythUp = true)
    (ht : t = { s with errors := { s.errors with collector := rest } }) :
    doRecordMove s = ((s.recordQueues r).foldl (fun s i => s.queueRecord r i)
      (if r.logged direct then t.faultLog r else t)).repeatLimit r := by
  have hq : (if r.logged direct then t.faultLog r else t).recordQueues r = s.recordQueues r := by
    subst ht
    split
    · exact faultLog_recordQueues _ _ _
    · rfl
  subst ht
  rw [← hq]
  simp only [doRecordMove, hc, hup, Bool.not_true, Bool.false_eq_true, if_false]

theorem doStreakClear_due (hup : s.ohmythUp = true) (hm : s.mode ≠ .boot) (hf : s.errors.fatalAt = none)
    (hdue : s.errors.bootEnd + 600000000000 ≤ s.now) : doStreakClear s = { s with viv := { s.viv with streak := 0 } } := by
  simp [doStreakClear, hup, hm, hf, hdue]

/-- Settles O40: each word goes by its sequence part, and each event of the Supervisor's is evaluated in the case that the clause names. -/
theorem supervisorCommands : Obligations.SupervisorCommands := by
  intro s t u a w
  refine ⟨fun hh hs hp hf hu => congrArg Host.Outcome.next (doMicrowordRom_fetched hh hs hp hf hu),
    fun hh hs hp hf hu hfields hseq => ?patch, fun n ht hn => congrArg Host.Outcome.next (doMicrotimerExpiry_due ht hn),
    fun h => congrArg Host.Outcome.next (doSvWatchdogKick_key h), fun v hv => ?other,
    fun hr hh he hdue => congrArg Host.Outcome.next (doSvWatchdogExpiry_due hr hh he hdue),
    fun h => congrArg Host.Outcome.next (doSvWatchdogExpiry_early h),
    fun r direct rest hc hup ht => congrArg Host.Outcome.next (doRecordMove_first hc hup ht),
    fun hup hm hf hdue => congrArg Host.Outcome.next (doStreakClear_due hup hm hf hdue)⟩
  case patch =>
    have e := doMicrowordPatch_fetched hh hs hp hf hu hfields hseq
    refine ⟨fun hc hop => ?jump, fun hc hop => ?toRom, fun hc ha => ?falls, fun hc ha => ?wraps⟩
    case jump => exact congrArg Host.Outcome.next (e.trans (if_pos ⟨hc, hop⟩))
    case toRom => exact congrArg Host.Outcome.next (e.trans ((if_neg (by omega)).trans (if_pos ⟨hc, hop⟩)))
    case falls =>
      have h (k : Nat) (hk : k ≠ 0) : ¬ (u.microCond (bitsOf w 2 4) ≠ bitAt w 6 ∧ bitsOf w 0 2 = k) :=
        fun hb => hc.elim hb.1 fun h0 => hk (hb.2.symm.trans h0)
      exact congrArg Host.Outcome.next
        (e.trans ((if_neg (h 1 (by decide))).trans ((if_neg (h 2 (by decide))).trans (if_pos ha))))
    case wraps =>
      exact congrArg Host.Outcome.next
        (e.trans ((if_neg fun hb => hb.1 hc).trans ((if_neg fun hb => hb.1 hc).trans (if_neg (Nat.not_lt.mpr ha)))))
  case other =>
    exact congrArg Host.Outcome.next (doSvWatchdogKick_other fun h => hv (BitVec.eq_of_toNat_eq h))

end Sys2Proof.Machine
end

section
/-! PROOFS. Host queues, interrupt enables and PCI Express configuration (spec/13 R410, R411, R424 to R433). -/
namespace Sys2Proof.Machine

/-! ### Doorbells -/

section doorbells
variable {s : State} {i q v n idx : Nat} {x : HostQueue}

/-- R429: a tail doorbell within the free part of the ring moves TAIL; any other is counted. -/
theorem doSqTailDoorbell_active (ha : s.active i = true) (hx : x = s.sqAt i q) (hn : n = s.ringLen (sqKey i q))
    (hidx : idx = bitsOf v 0 12) :
    doSqTailDoorbell i q v s =
      if s.bit (sqKey i q + 0x0C) 0 = true ∧ idx < n ∧ (idx + n - x.tail) % n ≤ n - 1 - (x.tail + n - x.head) % n then
        s.setSq i q { x with tail := idx }
      else s.badDoorbell i := by
  subst hx hn hidx
  simp only [doSqTailDoorbell, ha, Bool.not_true, Bool.false_eq_true, if_false, Bool.and_eq_true, decide_eq_true_eq, and_assoc]

theorem doCqHeadDoorbell_active (ha : s.active i = true) (hx : x = s.cqAt i q) (hn : n = s.ringLen (cqKey i q))
    (hidx : idx = bitsOf v 0 12) :
    doCqHeadDoorbell i q v s =
      if s.bit (cqKey i q + 0x0C) 0 = true ∧ idx < n ∧ (idx + n - x.head) % n ≤ (x.tail + n - x.head) % n then
        s.setCq i q { x with head := idx, spans := x.spans.drop ((idx + n - x.head) % n) }
      else s.badDoorbell i := by
  subst hx hn hidx
  simp only [doCqHeadDoorbell, ha, Bool.not_true, Bool.false_eq_true, if_false, Bool.and_eq_true, decide_eq_true_eq, and_assoc]

end doorbells

/-! ### Entries -/

section entries
variable {s : State} {i q : Nat} {e : List Byte}

theorem padTo_of_length {n : Nat} {l : List Byte} (h : l.length = n) : padTo n l = l := by simp [padTo, ← h]

/-- R425: whether an entry is well formed does not depend on the indirect payload. -/
theorem sqPayload_isSome (e d : List Byte) : (sqPayload e []).isSome = (sqPayload e d).isSome := by
  simp only [sqPayload]
  split <;> rfl

theorem doSqEntryRead_direct {rd : HostRead} (hr : s.sqReady i q = true) (hown : s.xferOwns i q = false) (hlen : e.length = 64)
    (hdir : bitAt (leAt e 2 1) 0 = false) :
    doSqEntryRead i q (.data e) rd s = (sqPayload e []).elim
      (((s.bump (instKey i 0x4010)).setSq i q { s.sqAt i q with fetched := (s.sqAt i q).fetched ++ [none] }).sqSkip i q)
      fun p => s.setSq i q { s.sqAt i q with fetched := (s.sqAt i q).fetched ++ [some p] } := by
  simp only [doSqEntryRead, hr, hown, padTo_of_length hlen, hdir, Bool.not_true, Bool.false_and, Bool.false_eq_true, if_false]
  cases sqPayload e [] <;> rfl

theorem doSqEntryRead_indirect {d p : List Byte} (hr : s.sqReady i q = true) (hlen : e.length = 64)
    (hind : bitAt (leAt e 2 1) 0 = true) (hp : sqPayload e d = some p) :
    doSqEntryRead i q (.data e) (.data d) s =
      s.setSq i q { s.sqAt i q with fetched := (s.sqAt i q).fetched ++ [some p] } := by
  have hwell : (sqPayload e []).isSome = true := by rw [sqPayload_isSome e d, hp, Option.isSome_some]
  simp only [doSqEntryRead, hr, padTo_of_length hlen, hind, hwell, hp, Bool.not_true, Bool.and_false, Bool.and_self, Bool.false_eq_true,
    if_false, if_true]

theorem doSqEntryRead_failed {rd : HostRead} (hr : s.sqReady i q = true) : doSqEntryRead i q .failed rd s = s.sqStop i q := by
  simp only [doSqEntryRead, hr, Bool.not_true, Bool.false_eq_true, if_false]

end entries

/-! ### Enables -/

section enables
variable {s : State} {i q v : Nat}

theorem bitsOf_one_of_bitAt (h : bitAt v 0 = true) : bitsOf v 0 1 = 1 := by
  simpa [bitAt, bitsOf] using h

/-- R424: enabling a queue that was disabled resets it. -/
theorem doQueueEnable_sq (ha : s.active i = true) (hoff : s.bit (sqKey i q + 0x0C) 0 = false) (hv : bitAt v 0 = true) :
    doQueueEnable i false q v s = (s.setReg (sqKey i q + 0x0C) 1).setSq i q {} := by
  simp only [doQueueEnable, ha, hoff, hv, bitsOf_one_of_bitAt hv, Bool.not_true, Bool.not_false, Bool.and_self, Bool.false_eq_true, if_false,
    if_true]

theorem doQueueEnable_cq (ha : s.active i = true) (hoff : s.bit (cqKey i q + 0x0C) 0 = false) (hv : bitAt v 0 = true) :
    doQueueEnable i true q v s = (s.setReg (cqKey i q + 0x0C) (bitsOf v 0 2)).setCq i q { drops := (s.cqAt i q).drops } := by
  simp only [doQueueEnable, ha, hoff, hv, Bool.not_true, Bool.not_false, Bool.and_self, Bool.false_eq_true, if_false, if_true]
  rfl

theorem doInIenWrite_active (ha : s.active i = true) :
    doInIenWrite i v s = (upTo 19).foldl (fun s' k => if bitAt v k && !bitAt (s.fld (instKey i 0x3004) 0 19) k &&
      s'.bit (instKey i 0x3000) k then s'.msix i (s'.ivec i k) else s') (s.setReg (instKey i 0x3004) (bitsOf v 0 19)) := by
  simp only [doInIenWrite, ha, Bool.not_true, Bool.false_eq_true, if_false]

/-- R411: once the Supervisor runs and the link is up, a configuration write is taken. -/
theorem doPcieConfigWrite_numVfs {f : Nat} (hr : s.sup.running = true) (hl : s.sup.linkWait = false) (n : Fin 16) :
    doPcieConfigWrite f (.numVfs n) s = { s with numVfs := n } := by
  simp only [doPcieConfigWrite, hr, hl, Bool.true_or, Bool.not_true, Bool.or_self, Bool.false_eq_true, if_false]

theorem doPcieConfigWrite_busMaster {f : Nat} (hr : s.sup.running = true) (hl : s.sup.linkWait = false) (b : Bool) :
    doPcieConfigWrite f (.busMaster b) s =
      ({ s with pcie := NatMap.put {} s.pcie f { s.fnAt f with busMaster := b } } : State).msixFlush f := by
  simp only [doPcieConfigWrite, hr, hl, Bool.true_or, Bool.not_true, Bool.or_self, Bool.false_eq_true, if_false]

theorem doPcieLinkUp_not_boot {sp wd : Nat} (hm : s.mode ≠ .boot) :
    doPcieLinkUp sp wd s = { s with linkSpeed := sp, linkWidth := wd, sup := { s.sup with linkWait := false } } := by
  simp [doPcieLinkUp, hm]

end enables

/-- Settles O41: each doorbell, read, enable or configuration write is evaluated in the case that the clause names. -/
theorem hostQueues : Obligations.HostQueues := by
  intro s i q v
  refine ⟨fun x n idx ha hx hn hidx => ⟨fun hb hi hroom => ?tail, fun hbad => ?badTail⟩,
    fun x n idx ha hx hn hidx => ⟨fun hb hi hroom => ?head, fun hbad => ?badHead⟩,
    fun e p rd hr hown hlen hdir => ⟨fun hp => ?queued, fun hp => ?malformed⟩,
    fun e p d hr hlen hind hp => congrArg Host.Outcome.next (doSqEntryRead_indirect hr hlen hind hp),
    fun rd hr => congrArg Host.Outcome.next (doSqEntryRead_failed hr), fun hr => congrArg Host.Outcome.next (if_pos hr),
    fun ha => congrArg Host.Outcome.next (if_pos ha), fun ha hoff hv => congrArg Host.Outcome.next (doQueueEnable_sq ha hoff hv),
    fun ha hoff hv => congrArg Host.Outcome.next (doQueueEnable_cq ha hoff hv), fun t ha ht => ?ien,
    fun hr hl => ⟨fun n => congrArg Host.Outcome.next (doPcieConfigWrite_numVfs hr hl n),
      fun b => congrArg Host.Outcome.next (doPcieConfigWrite_busMaster hr hl b)⟩,
    fun sp wd hm => congrArg Host.Outcome.next (doPcieLinkUp_not_boot hm)⟩
  case tail => exact congrArg Host.Outcome.next ((doSqTailDoorbell_active ha hx hn hidx).trans (if_pos ⟨hb, hi, hroom⟩))
  case badTail =>
    refine congrArg Host.Outcome.next ((doSqTailDoorbell_active ha hx hn hidx).trans (if_neg ?_))
    rintro ⟨hb, hi, hroom⟩
    rcases hbad with hbad | hbad | hbad
    · exact absurd hb (ne_true_of_eq_false hbad)
    · exact absurd hi (Nat.not_lt.mpr hbad)
    · exact absurd hroom (Nat.not_le.mpr hbad)
  case head => exact congrArg Host.Outcome.next ((doCqHeadDoorbell_active ha hx hn hidx).trans (if_pos ⟨hb, hi, hroom⟩))
  case badHead =>
    refine congrArg Host.Outcome.next ((doCqHeadDoorbell_active ha hx hn hidx).trans (if_neg ?_))
    rintro ⟨hb, hi, -⟩
    rcases hbad with hbad | hbad
    · exact absurd hb (ne_true_of_eq_false hbad)
    · exact absurd hi (Nat.not_lt.mpr hbad)
  case queued =>
    have e' := doSqEntryRead_direct (rd := rd) hr hown hlen hdir
    rw [hp, Option.elim_some] at e'
    exact congrArg Host.Outcome.next e'
  case malformed =>
    have e' := doSqEntryRead_direct (rd := rd) hr hown hlen hdir
    rw [hp, Option.elim_none] at e'
    exact congrArg Host.Outcome.next e'
  case ien =>
    rw [ht]
    exact congrArg Host.Outcome.next (doInIenWrite_active ha)

end Sys2Proof.Machine
end

section
/-! PROOFS. Hints, claims and dozing blocks (spec/13 R439 to R441). -/
namespace Sys2Proof.Machine

variable {s : State}

theorem doInHintWrite_active {i v : Nat} (ha : s.active i = true) :
    doInHintWrite i v s = (s.setReg (hintKey i) (v &&& s.shareMask i)).bumpBy (instKey i 0x4014)
      ((upTo 20).filter fun b => bitAt (v &&& s.shareMask i) b && s.blockClaimed b).length := by
  simp only [doInHintWrite, ha, Bool.not_true, Bool.false_eq_true, if_false]

theorem doInHintWrite_inactive {i v : Nat} (ha : s.active i = false) : doInHintWrite i v s = s := by
  simp only [doInHintWrite, ha, Bool.not_false, if_true]

/-- R440: the hints over which a claim arises are counted block by block. -/
theorem doInClaimWrite_eq (v : Nat) : doInClaimWrite v s =
    ((((upTo 20).filter (bitAt (v &&& claimMask))).filter fun b => !s.blockClaimed b).foldl (fun s b => s.claimOver b) s).setReg
      0x00380040 (v &&& claimMask) := by
  rw [doInClaimWrite, List.filter_filter]
  simp only [Bool.and_comm]

theorem filter_bitAt_zero : (upTo 20).filter (bitAt 0) = [] := by decide

theorem claimMask_pow : ∀ k : Fin 20, k.val ≠ 6 → k.val ≠ 7 → 2 ^ k.val &&& claimMask = 2 ^ k.val := by decide

theorem filter_bitAt_pow : ∀ k : Fin 20, (upTo 20).filter (bitAt (2 ^ k.val)) = [k.val] := by decide

theorem doInClaimWrite_none {v : Nat} (h : v &&& claimMask = 0) : doInClaimWrite v s = s.setReg 0x00380040 0 := by
  rw [doInClaimWrite_eq, h, filter_bitAt_zero]
  rfl

theorem doInClaimWrite_one {k : Fin 20} (h6 : k.val ≠ 6) (h7 : k.val ≠ 7) (hk : s.blockClaimed k = false) :
    doInClaimWrite (2 ^ k.val) s = (s.claimOver k).setReg 0x00380040 (2 ^ k.val) := by
  rw [doInClaimWrite_eq, claimMask_pow k h6 h7, filter_bitAt_pow k, List.filter_cons_of_pos (by rw [hk]; rfl), List.filter_nil,
    List.foldl_cons, List.foldl_nil]

theorem doBlockWake_wakes {b : Nat} (h : s.offered b = true ∨ s.mayDoze b = false) :
    doBlockWake b s = { s with dozing := putBits s.dozing b 1 0 } := by
  rcases h with h | h <;> simp [doBlockWake, h]

/-- R441: a block may doze when it is idle, unclaimed, and hinted by every tenant with a share. -/
theorem mayDoze_iff (b : Nat) : s.mayDoze b = true ↔ s.blockIdle b = true ∧ s.blockClaimed b = false ∧
    ∀ k, k < 16 → s.hasShare k b = true → s.bit (hintKey k) b = true := by
  simp only [State.mayDoze, Bool.and_eq_true, Bool.not_eq_true', and_assoc, upTo, List.all_eq_true, List.mem_range, Bool.or_eq_true]
  refine and_congr_right fun _ => and_congr_right fun _ => forall₂_congr fun k _ => ?_
  cases s.hasShare k b <;> simp

/-- Settles O42: each hint, claim, doze or wake is evaluated in the case that the clause names. -/
theorem hintsAndDoze : Obligations.HintsAndDoze := by
  intro s i b v
  refine ⟨fun ha => congrArg Host.Outcome.next (doInHintWrite_active ha), fun ha => congrArg Host.Outcome.next (doInHintWrite_inactive ha),
    fun h => congrArg Host.Outcome.next (doInClaimWrite_none h), fun k h6 h7 hv hk => ?claim,
    fun h => congrArg Host.Outcome.next (if_pos h), fun h => congrArg Host.Outcome.next (if_neg (ne_true_of_eq_false h)),
    fun h => congrArg Host.Outcome.next (doBlockWake_wakes h), mayDoze_iff b⟩
  case claim =>
    change Host.Outcome.next (doInClaimWrite v.toNat s) = _
    rw [hv, doInClaimWrite_one h6 h7 hk]

end Sys2Proof.Machine
end

section
/-! PROOFS. Encoder edges, Z edges and samples, and the first due cell (spec/03 R72, R77 to R82). -/
namespace Sys2Proof.Machine

/-! ### The first due cell -/

/-- R77: the first due cell is one of the list, and none is earlier. -/
theorem firstDue_spec : ∀ {l : List DueCell} {d : DueCell}, firstDue l = some d → d ∈ l ∧ ∀ e ∈ l, d.at_ ≤ e.at_ := by
  intro l
  induction l with
  | nil => exact fun h => nomatch h
  | cons c l ih =>
    intro d h
    rw [firstDue] at h
    cases hl : firstDue l with
    | none =>
      obtain rfl : c = d := by simpa [hl] using h
      have hnil : l = [] := by
        cases l with
        | nil => rfl
        | cons b l =>
          rw [firstDue] at hl
          split at hl
          · nomatch hl
          · split at hl <;> nomatch hl
      simp [hnil]
    | some e =>
      obtain ⟨hmem, hmin⟩ := ih hl
      simp only [hl] at h
      split at h
      · next hc =>
        obtain rfl : e = d := by simpa using h
        have hle : e.at_ ≤ c.at_ := by
          simp only [Bool.or_eq_true, decide_eq_true_eq, Bool.and_eq_true, beq_iff_eq] at hc
          omega
        exact ⟨List.mem_cons_of_mem _ hmem, List.forall_mem_cons.mpr ⟨hle, hmin⟩⟩
      · next hc =>
        obtain rfl : c = d := by simpa using h
        have hle : c.at_ ≤ e.at_ := by
          simp only [Bool.or_eq_true, decide_eq_true_eq, not_or, Nat.not_lt] at hc
          exact hc.1
        exact ⟨List.mem_cons_self, List.forall_mem_cons.mpr ⟨Nat.le_refl _, fun x hx => Nat.le_trans hle (hmin x hx)⟩⟩

/-! ### Edges -/

section edges
variable {s : State} {n : Nat} {a b : Bool}

/-- R82: no preset is due, so the edge is counted at once. -/
theorem doEncEdge_no_preset (h : ∀ x ∈ s.td.due, x.chan = n → s.tb.count < x.at_) : doEncEdge n a b s = s.encCount n a b := by
  unfold doEncEdge
  cases hf : firstDue (s.td.due.filter fun d => d.chan == n) with
  | none => rfl
  | some d =>
    have hmem := (firstDue_spec hf).1
    rw [List.mem_filter, beq_iff_eq] at hmem
    simp only [if_neg (Nat.not_le.mpr (h d hmem.1 hmem.2))]

theorem doEncEdge_preset {d : DueCell} (hf : firstDue (s.td.due.filter fun x => x.chan == n) = some d) (hdue : d.at_ ≤ s.tb.count) :
    doEncEdge n a b s = (s.applyAt d.at_ fun x => x.chan == n).encCount n a b := by
  simp only [doEncEdge, hf, if_pos hdue]

/-- R78: a step that comes 20 ns or more after the last edge. -/
theorem encCount_step {d : Int} (hm : s.fld (encCtl n) 0 2 = 1) (hne : ¬ (a = (s.encAt n).a ∧ b = (s.encAt n).b))
    (hslow : ∀ e, (s.encAt n).lastEdge = some e → e + 20 ≤ s.now) (hq : quadStep (s.encAt n).a (s.encAt n).b a b = some d) :
    s.encCount n a b = (s.setEnc n { s.encAt n with
      a := a, b := b, pos := wrapTo 32 (((s.encAt n).pos : Int) + if s.bit (encCtl n) 27 then -d else d)
      lastEdge := some s.now }).encWindow n (s.edgeStamp (5 * s.fld (encCtl n) 11 8)) := by
  have hfast : ((s.encAt n).lastEdge.any fun t => decide (s.now < t + 20)) = false := by
    cases h : (s.encAt n).lastEdge with
    | none => rfl
    | some e => simpa using hslow e h
  have hgo : ¬ (s.fld (encCtl n) 0 2 ≠ 1 ∨ (a = (s.encAt n).a ∧ b = (s.encAt n).b)) := fun h => h.elim (absurd hm) hne
  rw [State.encCount, if_neg hgo]
  simp only [hq, hfast, Bool.or_false, Bool.false_eq_true, if_false]

theorem encCount_illegal (hm : s.fld (encCtl n) 0 2 = 1) (hq : quadStep (s.encAt n).a (s.encAt n).b a b = none) :
    s.encCount n a b = (s.setEnc n { s.encAt n with
      a := a, b := b, illegal := true, lastEdge := some s.now
      overspeed := (s.encAt n).overspeed || (s.encAt n).lastEdge.any fun e => decide (s.now < e + 20) }).tdPortError n 4 := by
  have hne : ¬ (a = (s.encAt n).a ∧ b = (s.encAt n).b) := by
    rintro ⟨rfl, rfl⟩
    simp [quadStep] at hq
  have hgo : ¬ (s.fld (encCtl n) 0 2 ≠ 1 ∨ (a = (s.encAt n).a ∧ b = (s.encAt n).b)) := fun h => h.elim (absurd hm) hne
  rw [State.encCount, if_neg hgo]
  simp only [hq]

theorem doEncZEdge_latches (hm : s.fld (encCtl n) 0 2 = 1) (hz : s.bit (encCtl n) 2 = true) :
    doEncZEdge n s = (s.setEnc n { s.encAt n with zSeen := true, zpos := (s.encAt n).pos }).encCell n 1
      (s.edgeStamp (5 * s.fld (encCtl n) 11 8)) := by
  rw [doEncZEdge, if_neg (not_not_intro hm), hz]
  exact if_pos hz

theorem doEncZEdge_seen (hm : s.fld (encCtl n) 0 2 = 1) (hz : s.bit (encCtl n) 2 = false) :
    doEncZEdge n s = s.setEnc n { s.encAt n with zSeen := true } := by
  rw [doEncZEdge, if_neg (not_not_intro hm), hz]
  exact if_neg (ne_true_of_eq_false hz)

end edges

theorem quadStep_values : (∀ a b, quadStep a b (!a) (!b) = none ∧ quadStep a b a b = some 0) ∧
    quadStep false false true false = some 1 ∧ quadStep true false false false = some (-1) ∧
    quadStep false false false true = some (-1) ∧ quadStep true true false true = some 1 := by decide

/-! ### Samples -/

section samples
variable {s : State} {n : Nat} {rdy par : Bool} {bits : Nat}

theorem doEncSample_quad (hi : sampleInstant s.tb.count (s.regW (encCtl n + 4)) (s.regW (encCtl n + 8)) = true)
    (ho : s.chanOut n = false) (hm : s.fld (encCtl n) 0 2 = 1) : doEncSample n rdy bits par s = s.encCell n 0 s.tb.count := by
  simp only [doEncSample, hi, ho, hm, decide_true, Bool.true_or, Bool.not_true, Bool.or_self, Bool.false_eq_true, if_false, if_true]

/-- R81: a sample instant in SSI mode clocks a frame, unless the last one's monoflop time has not passed. -/
theorem doEncSample_ssi (hi : sampleInstant s.tb.count (s.regW (encCtl n + 4)) (s.regW (encCtl n + 8)) = true)
    (ho : s.chanOut n = false) (hm : s.fld (encCtl n) 0 2 = 2) :
    doEncSample n rdy bits par s = if ((s.encAt n).ssiUntil.any fun t => decide (s.now < t)) = true then
      s.setEnc n { s.encAt n with lost := true } else s.ssiSample n (s.ssiValue n rdy bits par) := by
  simp only [doEncSample, hi, ho, hm, decide_true, Bool.or_true, Bool.not_true, Bool.or_self, Bool.false_eq_true, if_false,
    (by decide : ¬ (2 : Nat) = 1)]

theorem doSsiMonoflopEnd_passed {u : Nat} (hu : (s.encAt n).ssiUntil = some u) (h : u ≤ s.now) :
    doSsiMonoflopEnd n s = s.setEnc n { s.encAt n with ssiUntil := none } := by
  simp only [doSsiMonoflopEnd, hu, if_pos h]

end samples

/-- Settles O44: each edge or sample is evaluated in the case that the clause names. -/
theorem tidewayEncoders : Obligations.TidewayEncoders := by
  intro s t n a b
  refine ⟨fun hm hno => ⟨fun d ts hne hslow hq hts => ?step, fun hq => ?illegal⟩,
    fun d hf hdue => congrArg Host.Outcome.next (doEncEdge_preset hf hdue), ?quad,
    fun hm hz => congrArg Host.Outcome.next (doEncZEdge_latches hm hz), fun hm hz => congrArg Host.Outcome.next (doEncZEdge_seen hm hz),
    fun rdy bits par hi ho => ⟨fun hm => congrArg Host.Outcome.next (doEncSample_quad hi ho hm),
      fun u v k h hm hu hv hk hh hut ht => ?frame, fun u hm hu hlt => ?lost⟩,
    fun u hu h => congrArg Host.Outcome.next (doSsiMonoflopEnd_passed hu h)⟩
  case step =>
    subst hts
    exact congrArg Host.Outcome.next ((doEncEdge_no_preset hno).trans (encCount_step hm hne hslow hq))
  case illegal => exact congrArg Host.Outcome.next ((doEncEdge_no_preset hno).trans (encCount_illegal hm hq))
  case quad =>
    obtain ⟨hab, hrest⟩ := quadStep_values
    exact ⟨(hab a b).1, (hab a b).2, hrest⟩
  case frame =>
    subst hk hh hut ht
    refine congrArg Host.Outcome.next ((doEncSample_ssi hi ho hm).trans ((if_neg ?_).trans ?_))
    · rw [hu]
      exact Bool.false_ne_true
    · rw [hv]
      rfl
  case lost =>
    refine congrArg Host.Outcome.next ((doEncSample_ssi hi ho hm).trans (if_pos ?_))
    rw [hu]
    exact decide_eq_true hlt

end Sys2Proof.Machine
end

section
/-! PROOFS. Outputs, segments, frames and PWM periods of Tideway (spec/03 R74 to R77, R83 to R87, R93). -/
namespace Sys2Proof.Machine

/-! ### Due cells -/

section due
variable {s : State} {d : DueCell}

theorem doOutputApply_due (hf : firstDue s.td.due = some d) (h : d.at_ ≤ s.tb.count) :
    doOutputApply s = s.applyAt d.at_ fun _ => true := by
  simp only [doOutputApply, hf, if_neg (Nat.not_lt.mpr h)]

theorem doOutputApply_early (hf : firstDue s.td.due = some d) (h : s.tb.count < d.at_) : doOutputApply s = s := by
  simp only [doOutputApply, hf, if_pos h]

/-- R77: of a list that holds one cell of the instant, that cell takes effect and leaves the others. -/
theorem applyAt_single {rest : List DueCell} (hdue : s.td.due = d :: rest) (hrest : ∀ e ∈ rest, d.at_ < e.at_) (hch : 16 ≤ d.chan) :
    s.applyAt d.at_ (fun _ => true) =
      (({ s with td := { s.td with due := rest } } : State).applyDue d (s.now - (s.tb.count - d.at_))).gongRun := by
  have hnone : rest.filter (fun e => e.at_ == d.at_ && true) = [] := by
    rw [List.filter_eq_nil_iff]
    intro e he
    simpa using Nat.ne_of_gt (hrest e he)
  have hnow : dueAt d.at_ (fun _ => true) s.td.due = [d] := by
    rw [hdue, dueAt, List.filter_cons_of_pos (by simp), hnone]
    rfl
  have hleft : (s.td.due.filter fun e => !(e.at_ == d.at_ && true)) = rest := by
    rw [hdue, List.filter_cons_of_neg (by simp), List.filter_eq_self]
    intro e he
    simpa using Nat.ne_of_gt (hrest e he)
  have henc (u : State) : ([d.chan].filter fun ch => decide (ch < 0x010) && u.chanRuns ch) = [] :=
    List.filter_cons_of_neg (by simp [Nat.not_lt.mpr hch])
  simp only [State.applyAt, hnow, hleft, List.foldl_cons, List.foldl_nil, List.map_cons, List.map_nil, henc, List.eraseDups_nil]

end due

/-! ### Segments and frames -/

section frames
variable {s t : State} {n : Nat}

/-- R83, R84: the segment that ends leaves its steps in the base, and the next one starts at its end. -/
theorem doSdSegmentEnd_ends {r : SegRun} (hr : (s.sdAt n).run = some r) (hend : r.endAt ≤ s.now) (hd : r.done = false)
    (ht : t = s.setSd n { s.sdAt n with base := (s.sdAt n).base + r.steps, run := none }) :
    doSdSegmentEnd n s = match (t.sdAt n).queue with
      | [] => t.sdStatus n 2
      | seg :: rest => (t.setSd n { t.sdAt n with queue := rest }).sdStart n seg r.endAt := by
  subst ht
  simp only [doSdSegmentEnd, hr, if_neg (Nat.not_lt.mpr hend), State.sdEnd, hd, Bool.false_eq_true, if_false, Nat.max_self] <;>
    rfl

theorem setSd_sdAt (s : State) (n : Nat) (x : StepDir) : (s.setSd n x).sdAt n = x := NatMap.get_put_same _ _ _ _

/-- R85 to R87: a frame without AUX LDAC that is not a safe value ends; in ADC mode its bits make a cell. -/
theorem doSpiFrameEnd_ends {f : SpiFrame} {rx : Nat} (hf : (s.spiAt n).run = some f) (hend : f.endAt ≤ s.now)
    (haux : s.fld (spiCtl n) 17 2 ≠ 1) (hsafe : f.safe = false) (hm : s.fld (spiCtl n) 0 2 = 1 ∨ s.fld (spiCtl n) 0 2 = 2)
    (ht : t = s.setSpi n { s.spiAt n with run := none, gapUntil := f.endAt + 10 * s.fld (spiCtl n) 20 8 }) {u : State}
    (hu : u = if s.fld (spiCtl n) 0 2 = 2 then t.spiCell n rx f.tstamp else t) :
    doSpiFrameEnd n rx s = match (u.spiAt n).queue with
      | [] => u
      | (d, safe, a) :: rest =>
        (u.setSpi n { u.spiAt n with queue := rest }).spiStart n d safe (f.endAt + 10 * s.fld (spiCtl n) 20 8) a u.tb.count := by
  have h3 : ¬ s.fld (spiCtl n) 0 2 = 3 := by omega
  have haux' : ¬ t.fld (spiCtl n) 17 2 = 1 := by rw [ht]; exact haux
  rw [doSpiFrameEnd, hf]
  simp only [if_neg (Nat.not_lt.mpr hend), hsafe, h3, if_false, Bool.false_eq_true, ← ht, haux', ← hu] <;> rfl

theorem doAdcSample_starts (hm : s.fld (spiCtl n) 0 2 = 2) (ho : s.chanOut (chSpi n) = false)
    (hi : sampleInstant s.tb.count (s.regW (spiCtl n + 8)) (s.regW (spiCtl n + 12)) = true) (hr : (s.spiAt n).run = none)
    (ht : t = (if s.fld (spiCtl n) 17 2 = 2 then s.spiAux n s.now else s)) :
    doAdcSample n s = t.spiStart n 0 false (s.now + s.fld (spiCtl n + 4) 0 16) s.now s.tb.count := by
  subst ht
  simp only [doAdcSample, hm, ho, hi, hr, ne_eq, not_true_eq_false, decide_false, Bool.not_true, Bool.or_self, Bool.false_eq_true, if_false,
    Option.isSome_none]
  split <;> rfl

theorem doAdcSample_lost (hm : s.fld (spiCtl n) 0 2 = 2) (ho : s.chanOut (chSpi n) = false)
    (hi : sampleInstant s.tb.count (s.regW (spiCtl n + 8)) (s.regW (spiCtl n + 12)) = true) (hr : (s.spiAt n).run.isSome = true) :
    doAdcSample n s = s.setSpi n { s.spiAt n with lost := true } := by
  simp only [doAdcSample, hm, ho, hi, hr, ne_eq, not_true_eq_false, decide_false, Bool.not_true, Bool.or_self, Bool.false_eq_true, if_false,
    if_true]

end frames

/-! ### PWM periods -/

section pwm
variable {s : State} {k : Nat}

theorem doPwmPeriodBoundary_pending (hr : (s.pwmAt k).running = true) (hb : (s.pwmAt k).boundary ≤ s.now) {per high : Nat}
    (hp : (s.pwmAt k).pending = some (per, high)) (hf : s.pwmForced k = none) :
    doPwmPeriodBoundary k s = s.pwmStart k { s.pwmAt k with
      period := per, high := high, pending := none, held := none, boundary := (s.pwmAt k).boundary + per } (s.pwmAt k).boundary := by
  simp only [doPwmPeriodBoundary, hr, Nat.not_lt.mpr hb, hp, hf, Bool.not_true, decide_false, Bool.or_self, Bool.false_eq_true, if_false]

theorem doPwmPeriodBoundary_goes_on (hr : (s.pwmAt k).running = true) (hb : (s.pwmAt k).boundary ≤ s.now)
    (hp : (s.pwmAt k).pending = none) :
    doPwmPeriodBoundary k s = s.pwmStart k { s.pwmAt k with boundary := (s.pwmAt k).boundary + (s.pwmAt k).period }
      (s.pwmAt k).boundary := by
  simp only [doPwmPeriodBoundary, hr, Nat.not_lt.mpr hb, hp, Bool.not_true, decide_false, Bool.or_self, Bool.false_eq_true, if_false]

theorem doPwmPeriodBoundary_early (h : s.now < (s.pwmAt k).boundary) : doPwmPeriodBoundary k s = s := by
  simp only [doPwmPeriodBoundary, h, decide_true, Bool.or_true, if_true]

end pwm

/-- Settles O45: each output event is evaluated in the case that the clause names. -/
theorem tidewayOutputs : Obligations.TidewayOutputs := by
  intro s t n k
  refine ⟨fun d hf h => congrArg Host.Outcome.next (doOutputApply_due hf h), fun d l hdue hch hl => ?single,
    fun d hf h => congrArg Host.Outcome.next (doOutputApply_early hf h), fun l d => firstDue_spec,
    fun r rest seg hr hend hd ht => ⟨fun hq => ?lastSegment, fun hq => ?nextSegment⟩,
    fun f rx hf hend haux hsafe ht => ⟨fun hm hq => ?dacEnds, fun hm hq => ?adcEnds, fun d safe a rest g hm hq hg => ?dacNext⟩,
    fun hm ho hi => ⟨fun hr ht => congrArg Host.Outcome.next (doAdcSample_starts hm ho hi hr ht),
      fun hr => congrArg Host.Outcome.next (doAdcSample_lost hm ho hi hr)⟩,
    fun hr hb => ⟨fun per high hp hf => congrArg Host.Outcome.next (doPwmPeriodBoundary_pending hr hb hp hf),
      fun hp => congrArg Host.Outcome.next (doPwmPeriodBoundary_goes_on hr hb hp)⟩,
    fun _ h => congrArg Host.Outcome.next (doPwmPeriodBoundary_early h)⟩
  case single =>
    subst hl
    rcases hdue with hdue | ⟨x, hdue, hlt⟩
    · rw [applyAt_single hdue (by simp) hch, hdue]
      rfl
    · rw [applyAt_single hdue (by simpa using hlt) hch, hdue]
      rfl
  case lastSegment =>
    have e := doSdSegmentEnd_ends hr hend hd ht
    have hqt : (t.sdAt n).queue = [] := by rw [ht, setSd_sdAt]; exact hq
    rw [hqt] at e
    exact congrArg Host.Outcome.next e
  case nextSegment =>
    have e := doSdSegmentEnd_ends hr hend hd ht
    have hqt : (t.sdAt n).queue = seg :: rest := by rw [ht, setSd_sdAt]; exact hq
    rw [hqt] at e
    exact congrArg Host.Outcome.next e
  case dacEnds =>
    have e := doSpiFrameEnd_ends (rx := rx.toNat) hf hend haux hsafe (.inl hm) ht (u := t) (by rw [hm]; rfl)
    rw [hq] at e
    exact congrArg Host.Outcome.next e
  case adcEnds =>
    have e := doSpiFrameEnd_ends (rx := rx.toNat) hf hend haux hsafe (.inr hm) ht rfl
    rw [if_pos hm, hq] at e
    exact congrArg Host.Outcome.next e
  case dacNext =>
    have e := doSpiFrameEnd_ends (rx := rx.toNat) hf hend haux hsafe (.inl hm) ht (u := t) (by rw [hm]; rfl)
    rw [hq, ← hg] at e
    exact congrArg Host.Outcome.next e

end Sys2Proof.Machine
end

section
/-! PROOFS. GPIO, UART and parallel inputs of Tideway (spec/03 R88 to R92, R97). -/
namespace Sys2Proof.Machine

/-! ### GPIO banks -/

section gpio
variable {s t : State} {b p : Nat} {l : Bool}

theorem doGpioEdge_same (h : bitAt (s.gpioAt b).input p = l) : doGpioEdge b p l s = s := by
  simp only [doGpioEdge, h, beq_self_eq_true, if_true]

/-- The state after a pin's change, before its edge is looked at. -/
def State.gpioChanged (s : State) (b p : Nat) (l : Bool) : State :=
  (s.setGpio b { s.gpioAt b with
    input := putBits (s.gpioAt b).input p 1 (b2n l), raw := putBits (s.gpioAt b).raw p 1 (b2n l) }).gongRun

/-- The edges that the bank's open cell selects, or the ones that a new cell would. -/
def State.gpioEdges (t : State) (b : Nat) : Nat := ((t.gpioAt b).cell.map (·.edge)).getD (t.regW (0x00140504 + 0x20 * b))

/-- R88: a pin's change, Gong's answer to it, and the edge's cell. -/
theorem doGpioEdge_changes (h : bitAt (s.gpioAt b).input p ≠ l) (ht : t = s.gpioChanged b p l) :
    doGpioEdge b p l s =
      if (t.chanOut (chGpio b) || !t.offersOwn || !bitAt (bitsOf (t.gpioEdges b) (2 * p) 2) (if l then 0 else 1)) = true then t
      else match (t.gpioAt b).cell with
        | some o => t.setGpio b { t.gpioAt b with cell := some { o with changed := o.changed ||| 2 ^ p } }
        | none =>
          let u := t.setGpio b { t.gpioAt b with
            cell := some ⟨t.edgeStamp (t.gpioFilter b), 2 ^ p, t.now + 10 * t.fld (0x0014050C + 0x20 * b) 10 8, t.gpioEdges b⟩ }
          if 10 * t.fld (0x0014050C + 0x20 * b) 10 8 = 0 then u.gpioClose b else u := by
  have hne : (bitAt (s.gpioAt b).input p == l) = false := by simpa using h
  have he : t.gpioEdges b = match (t.gpioAt b).cell with | some o => o.edge | none => t.regW (0x00140504 + 0x20 * b) := by
    unfold State.gpioEdges
    cases (t.gpioAt b).cell <;> rfl
  rw [he]
  subst ht
  unfold doGpioEdge
  simp only [hne, Bool.false_eq_true, if_false] <;> rfl

theorem doGpioEdge_joins (h : bitAt (s.gpioAt b).input p ≠ l) (ht : t = s.gpioChanged b p l) (ho : t.chanOut (chGpio b) = false)
    (hown : t.offersOwn = true) (he : bitAt (bitsOf (t.gpioEdges b) (2 * p) 2) (if l then 0 else 1) = true) {o : BankCell}
    (hc : (t.gpioAt b).cell = some o) :
    doGpioEdge b p l s = t.setGpio b { t.gpioAt b with cell := some { o with changed := o.changed ||| 2 ^ p } } := by
  rw [doGpioEdge_changes h ht, ho, hown, he, hc]
  rfl

theorem doGpioEdge_opens (h : bitAt (s.gpioAt b).input p ≠ l) (ht : t = s.gpioChanged b p l) (ho : t.chanOut (chGpio b) = false)
    (hown : t.offersOwn = true) (he : bitAt (bitsOf (t.gpioEdges b) (2 * p) 2) (if l then 0 else 1) = true)
    (hc : (t.gpioAt b).cell = none) (hcoal : t.fld (0x0014050C + 0x20 * b) 10 8 ≠ 0) :
    doGpioEdge b p l s = t.setGpio b { t.gpioAt b with
      cell := some ⟨t.edgeStamp (t.gpioFilter b), 2 ^ p, t.now + 10 * t.fld (0x0014050C + 0x20 * b) 10 8, t.gpioEdges b⟩ } := by
  rw [doGpioEdge_changes h ht, ho, hown, he, hc]
  exact (if_neg (by decide)).trans (if_neg (by omega))

theorem doGpioCoalClose_due {o : BankCell} (hc : (s.gpioAt b).cell = some o) (h : o.closeAt ≤ s.now) :
    doGpioCoalClose b s = s.gpioClose b := by
  simp only [doGpioCoalClose, hc, if_neg (Nat.not_lt.mpr h)]

end gpio

/-! ### UARTs -/

section uarts
variable {s w : State} {u : Nat} {c : Byte} {r : RxPath}

theorem doUartRxChar_good (hen : s.bit (uartKey u) 0 = true) (ho : s.chanOut (chUart u) = false) (h7 : s.bit (uartKey u) 1 = false)
    (hflow : s.fld (uartKey u) 5 2 ≠ 2) (hr : s.rxByte (chUart u) (uartKey u + 8) (s.uartAt u).rx c = (r, w)) :
    doUartRxChar u c false false false s = (w.setUart u { w.uartAt u with rx := r }).uartMarks u := by
  simp only [doUartRxChar, hen, ho, h7, hflow, hr, Bool.not_true, Bool.or_self, Bool.false_eq_true, if_false, false_and]

theorem doUartRxChar_break (hen : s.bit (uartKey u) 0 = true) (ho : s.chanOut (chUart u) = false)
    (hr : s.rxClose (chUart u) (s.uartAt u).rx 8 4 = (r, w)) :
    doUartRxChar u c false false true s =
      (w.setUart u { s.uartAt u with rx := { r with last := s.now } }).tdPortError (chUart u) 5 := by
  have hr' : s.rxClose (chUart u) (s.uartAt u).rx (b2n false + 2 * b2n false + 8 * b2n true) 4 = (r, w) := hr
  simp only [doUartRxChar, hen, ho, hr', Bool.not_true, Bool.or_self, Bool.or_false, Bool.false_eq_true, if_false, if_true]

theorem doUartGapClose_uart (hu : u < 4) (hgap : bitsOf (s.uartAt u).rx.cfg 8 8 ≠ 0) (hopen : (s.uartAt u).rx.open_ ≠ [])
    (hidle : bitsOf (s.uartAt u).rx.cfg 8 8 * s.uartBits u * max 17360 (s.regW (uartKey u + 4)) ≤
      16 * (s.now - (s.uartAt u).rx.last))
    (hr : s.rxClose (chUart u) (s.uartAt u).rx 0 2 = (r, w)) : doUartGapClose u s = w.setUart u { s.uartAt u with rx := r } := by
  simp only [doUartGapClose, hu, hgap, List.isEmpty_eq_false_iff.mpr hopen, Nat.not_lt.mpr hidle, hr, decide_false, Bool.or_self,
    Bool.false_eq_true, if_false, if_true]

theorem doUartGapClose_par (hgap : bitsOf s.td.par.rx.cfg 8 8 ≠ 0) (hopen : s.td.par.rx.open_ ≠ [])
    (hidle : 100000 * bitsOf s.td.par.rx.cfg 8 8 ≤ s.now - s.td.par.rx.last) (hr : s.rxClose chPar s.td.par.rx 0 2 = (r, w)) :
    doUartGapClose 4 s = w.setPar { s.td.par with rx := r } := by
  simp only [doUartGapClose, hgap, List.isEmpty_eq_false_iff.mpr hopen, Nat.not_lt.mpr hidle, hr, decide_false, Bool.or_self,
    Bool.false_eq_true, if_false, Nat.lt_irrefl]

/-- R103: with four cells buffered, a closed cell stays in the receive FIFO. -/
theorem rxClose_full {ch stat : Nat} {close : Byte} {x : RxPath} (ho : s.chanOut ch = false) (hown : s.offersOwn = true)
    (hfull : 4 ≤ s.buffered ch) :
    s.rxClose ch x stat close = ({ x with
      open_ := [], overrun := false
      closed := x.closed ++ [[BitVec.ofNat 8 (stat + 4 * b2n x.overrun), close] ++ x.open_] }, s) := by
  have h0 : 4 - s.buffered ch = 0 := by omega
  simp only [State.rxClose, State.rxMove, ho, hown, h0, Bool.not_true, Bool.or_self, Bool.false_eq_true, if_false, List.drop_zero,
    List.take_zero, List.foldl_nil]

theorem doUartTxCharEnd_due {x : Byte × Nat} (hs : (s.uartAt u).sending = some x) (h : x.2 ≤ s.now) :
    doUartTxCharEnd u s = (s.setUart u { s.uartAt u with sending := none }).uartKick u := by
  simp only [doUartTxCharEnd, hs, if_neg (Nat.not_lt.mpr h)]

end uarts

/-! ### The parallel port -/

section par
variable {s t w : State} {c : Byte} {r : RxPath}

theorem doParStrobeIn_latches (hm : s.fld 0x00140700 0 2 = 1) (ho : s.chanOut chPar = false)
    (hr : s.rxByte chPar 0x00140708 s.td.par.rx c = (r, w)) (ht : t = w.setPar { w.td.par with rx := r }) :
    doParStrobeIn c s = (t.emit .tideway chPar (t.now + 100 * zeroAs 1 (t.fld 0x00140704 16 8))
      (leBytes 1 (zeroAs 1 (t.fld 0x00140704 24 8)) ++ leBytes 1 (t.fld 0x00140700 3 1))).parMarks := by
  subst ht
  simp only [doParStrobeIn, hm, ho, hr, ne_eq, not_true_eq_false, decide_false, Bool.or_self, Bool.false_eq_true, if_false]

theorem doParAckIn_sending (hm : s.fld 0x00140700 0 2 = 2) (hs : s.td.par.sending.isSome = true) :
    doParAckIn s = (s.setPar { s.td.par with acked := true }).parDone := by
  simp only [doParAckIn, hm, Option.isNone_iff_eq_none, Option.isSome_iff_ne_none.mp hs, ne_eq, not_true_eq_false, decide_false,
    Bool.false_or, if_false]

theorem doParBusyChange_out {l : Bool} (ht : t = s.setPar { s.td.par with busy := l }) (hm : t.fld 0x00140700 0 2 = 2) :
    doParBusyChange l s = if t.td.par.sending.isSome then t.parDone else t.parKick := by
  subst ht
  simp only [doParBusyChange, hm, ne_eq, not_true_eq_false, if_false]

theorem doParAckTimeout_due {x : Byte × Nat} (hs : s.td.par.sending = some x) (hm : s.fld 0x00140700 0 2 = 2)
    (hlim : s.fld 0x00140700 8 8 ≠ 0) (ha : s.td.par.acked = false) (hdue : x.2 + 1000000 * s.fld 0x00140700 8 8 ≤ s.now)
    (ht : t = s.setPar { s.td.par with sending := none, txCells := s.td.par.txCells.drop 1 })
    (hr : t.rxClose chPar { closed := s.td.par.rx.closed } 0 5 = (r, w)) :
    doParAckTimeout s = ((w.setPar { w.td.par with rx := { s.td.par.rx with closed := r.closed } }).tdPortError chPar 6).parKick := by
  have hgo : ¬ (decide (s.fld 0x00140700 0 2 ≠ 2) || decide (s.fld 0x00140700 8 8 = 0) || s.td.par.acked ||
      decide (s.now < x.2 + 1000000 * s.fld 0x00140700 8 8)) = true := by
    simp [hm, hlim, ha, hdue]
  have hr₁ := congrArg Prod.fst hr
  have hr₂ := congrArg Prod.snd hr
  subst ht hr₁ hr₂
  simp only [doParAckTimeout, hs]
  exact if_neg hgo

end par

theorem doGgRearm_word {s : State} (hi : Bool) (v : Word) :
    doGgRearm hi v.toNat s = s.gongRearm (if hi then v.toNat * 2 ^ 32 else v.toNat) := by
  rw [doGgRearm, Nat.mod_eq_of_lt v.isLt]

/-- Settles O46: each input event is evaluated in the case that the clause names. -/
theorem tidewayInputs : Obligations.TidewayInputs := by
  intro s t b p u l
  refine ⟨fun x hne hx ht e he => ⟨fun hbit => ?unselected, fun ho hown hbit => ⟨fun o hc => ?joins, fun hc hcoal => ?opens⟩⟩,
    fun h => congrArg Host.Outcome.next (doGpioEdge_same h), fun o hc h => congrArg Host.Outcome.next (doGpioCoalClose_due hc h),
    fun c x r w hen ho h7 hx => ⟨fun hflow hr => ?character, fun hr => ?brk⟩, fun x r w hx hgap hopen hidle hr => ?idle,
    fun x r w hx hgap hopen hidle hr => ?parIdle, fun ch x stat close ho hown hfull => rxClose_full ho hown hfull, rfl,
    fun c at_ hs h => congrArg Host.Outcome.next (doUartTxCharEnd_due hs h),
    fun c r w hm ho hr ht => congrArg Host.Outcome.next (doParStrobeIn_latches hm ho hr ht),
    fun hm hs => congrArg Host.Outcome.next (doParAckIn_sending hm hs), fun ht hm => ⟨fun hs => ?busySending, fun hs => ?busyIdle⟩,
    fun c at_ hs hm hlim ha hdue ht r w hr => congrArg Host.Outcome.next (doParAckTimeout_due hs hm hlim ha hdue ht hr),
    fun v => ⟨congrArg Host.Outcome.next (doGgRearm_word false v), congrArg Host.Outcome.next (doGgRearm_word true v)⟩⟩
  case unselected =>
    subst hx he
    refine congrArg Host.Outcome.next ((doGpioEdge_changes hne ht).trans (if_pos ?_))
    rw [State.gpioEdges, hbit]
    simp
  case joins =>
    subst hx he
    exact congrArg Host.Outcome.next (doGpioEdge_joins hne ht ho hown hbit hc)
  case opens =>
    subst hx he
    exact congrArg Host.Outcome.next (doGpioEdge_opens hne ht ho hown hbit hc hcoal)
  case character =>
    subst hx
    exact congrArg Host.Outcome.next (doUartRxChar_good hen ho h7 hflow hr)
  case brk =>
    subst hx
    exact congrArg Host.Outcome.next (doUartRxChar_break hen ho hr)
  case idle =>
    subst hx
    exact congrArg Host.Outcome.next (doUartGapClose_uart u.isLt hgap hopen hidle hr)
  case parIdle =>
    subst hx
    exact congrArg Host.Outcome.next (doUartGapClose_par hgap hopen hidle hr)
  case busySending => exact congrArg Host.Outcome.next ((doParBusyChange_out ht hm).trans (if_pos hs))
  case busyIdle =>
    refine congrArg Host.Outcome.next ((doParBusyChange_out ht hm).trans (if_neg ?_))
    rw [hs]
    exact Bool.false_ne_true

end Sys2Proof.Machine
end

section
/-! PROOFS. Frames, links, gate lists and recovery functions of the Ethernet ports (spec/04 R110 to R118, R138 to R146). -/
namespace Sys2Proof.Machine

/-! ### Frames that come in -/

section receive
variable {s t : State} {p : Nat} {f : List Byte}

/-- The port's state once a good frame has been counted. -/
def State.rxCounted (s : State) (p : Nat) (f : List Byte) : EthPort :=
  { s.ethAt p with rxFrm := ((s.ethAt p).rxFrm + 1) % 2 ^ 64, rxOct := ((s.ethAt p).rxOct + f.length + 4) % 2 ^ 64 }

theorem doFrameReceived_bad_fcs (hl : (s.ethAt p).link = true) (hon : s.ethOn p = true) :
    doFrameReceived p f false s = (s.bump (enKey p + 0x40)).ethLine p := by
  simp only [doFrameReceived, hl, hon, Bool.not_true, Bool.or_self, Bool.false_eq_true, Bool.not_false, if_false, if_true]

theorem doFrameReceived_refused (hl : (s.ethAt p).link = true) (hon : s.ethOn p = true)
    (hbad : f.length < 60 ∨ 9216 < f.length ∨ s.wdState 5 p ≠ .running) :
    doFrameReceived p f true s = s.bump (enKey p + 0x40) := by
  have hb : (decide (f.length < 60) || decide (9216 < f.length) || s.wdState 5 p != .running) = true := by
    simpa [or_assoc] using hbad
  simp only [doFrameReceived, hl, hon, hb, Bool.not_true, Bool.or_self, Bool.false_eq_true, if_false, if_true]

section good
variable (hl : (s.ethAt p).link = true) (hon : s.ethOn p = true) (hw : s.wdState 5 p = .running) (h60 : 60 ≤ f.length)
  (hmax : f.length ≤ 9216) (ht : t = s.setEth p (s.rxCounted p f))
include hl hon hw h60 hmax ht

/-- R111: a good frame is counted, and classed by its type. -/
theorem doFrameReceived_good : doFrameReceived p f true s =
    if ethType f = 0x8808 then (if beAt f 14 2 = 1 then t else t.bump (enKey p + 0x40))
    else if ethType f = 0x88F7 ∧ f.take 6 = [0x01, 0x80, 0xC2, 0x00, 0x00, 0x0E] then
      if t.ohmythUp then (t.emit .ohmyth p t.tb.count f).gptpReceive p f else t
    else if ethType f = 0x8100 ∧ beAt f 14 2 % 0x1000 = 0xFFF then t.bump (enKey p + 0x40)
    else if t.mode = .shadow ∨ t.mode = .replay then t
    else if ¬(t.mode = .lead ∨ t.mode = .commission) then t.bump (enKey p + 0x40)
    else if ethBuffer p < (s.rxCounted p f).buffered + f.length then t.bump (enKey p + 0x40)
    else t.setEth p { s.rxCounted p f with ingress := (s.rxCounted p f).ingress ++ [(mod48 t.tb.count, f)] } := by
  subst ht
  have hb : (decide (f.length < 60) || decide (9216 < f.length) || s.wdState 5 p != .running) = false := by
    simp [hw, h60, hmax]
  have hgo : (!(s.ethAt p).link || !s.ethOn p) = false := by simp [hl, hon]
  unfold doFrameReceived
  simp only [hgo, hb, Bool.not_true, Bool.false_eq_true, if_false, Bool.and_eq_true, beq_iff_eq]
  rfl

theorem doFrameReceived_plain (h1 : ethType f ≠ 0x8808) (h2 : ethType f ≠ 0x88F7) (h3 : ethType f ≠ 0x8100) : doFrameReceived p f true s =
    if t.mode = .shadow ∨ t.mode = .replay then t
    else if ¬(t.mode = .lead ∨ t.mode = .commission) then t.bump (enKey p + 0x40)
    else if ethBuffer p < (s.rxCounted p f).buffered + f.length then t.bump (enKey p + 0x40)
    else t.setEth p { s.rxCounted p f with ingress := (s.rxCounted p f).ingress ++ [(mod48 t.tb.count, f)] } := by
  rw [doFrameReceived_good hl hon hw h60 hmax ht, if_neg h1, if_neg (fun h => h2 h.1), if_neg (fun h => h3 h.1)]

theorem doFrameReceived_kept (h1 : ethType f ≠ 0x8808) (h2 : ethType f ≠ 0x88F7) (h3 : ethType f ≠ 0x8100)
    (hm : s.mode = .lead ∨ s.mode = .commission) (hroom : (s.ethAt p).buffered + f.length ≤ ethBuffer p) :
    doFrameReceived p f true s =
      t.setEth p { s.rxCounted p f with ingress := (s.rxCounted p f).ingress ++ [(mod48 t.tb.count, f)] } := by
  have hmt : t.mode = .lead ∨ t.mode = .commission := by rw [ht]; exact hm
  have hno : ¬(t.mode = .shadow ∨ t.mode = .replay) := by rcases hmt with h | h <;> simp [h]
  rw [doFrameReceived_plain hl hon hw h60 hmax ht h1 h2 h3, if_neg hno, if_neg (not_not_intro hmt)]
  exact if_neg (Nat.not_lt.mpr hroom)

theorem doFrameReceived_idle (h1 : ethType f ≠ 0x8808) (h2 : ethType f ≠ 0x88F7) (h3 : ethType f ≠ 0x8100)
    (hm : t.mode = .hold ∨ t.mode = .boot) : doFrameReceived p f true s = t.bump (enKey p + 0x40) := by
  have hno : ¬(t.mode = .shadow ∨ t.mode = .replay) := by rcases hm with h | h <;> simp [h]
  have hno' : ¬(t.mode = .lead ∨ t.mode = .commission) := by rcases hm with h | h <;> simp [h]
  rw [doFrameReceived_plain hl hon hw h60 hmax ht h1 h2 h3, if_neg hno, if_pos hno']

theorem doFrameReceived_pause (h1 : ethType f = 0x8808) (hop : beAt f 14 2 = 1) : doFrameReceived p f true s = t := by
  rw [doFrameReceived_good hl hon hw h60 hmax ht, if_pos h1, if_pos hop]

theorem doFrameReceived_gptp (h2 : ethType f = 0x88F7) (hd : f.take 6 = [0x01, 0x80, 0xC2, 0x00, 0x00, 0x0E])
    (hup : t.ohmythUp = true) : doFrameReceived p f true s = (t.emit .ohmyth p t.tb.count f).gptpReceive p f := by
  rw [doFrameReceived_good hl hon hw h60 hmax ht, if_neg (by omega), if_pos ⟨h2, hd⟩, if_pos hup]

end good

end receive

/-! ### Links -/

/-- R110: the port links up at full duplex alone, at a speed of its own. -/
theorem doLinkUp_down {s : State} {p sp : Nat} (hon : s.ethOn p = true) (hl : (s.ethAt p).link = false) (hsp : p < 4 ↔ sp ≠ 3)
    (full : Bool) : doLinkUp p sp full s = if full then s.setEth p { s.ethAt p with link := true, hdx := false, speed := sp }
      else s.setEth p { s.ethAt p with hdx := true } := by
  refine if_neg ?_
  rw [hon, hl]
  by_cases hp : p < 4
  · simp [hp, hsp.mp hp]
  · simp [hp, Decidable.not_not.mp fun h => hp (hsp.mpr h)]

/-! ### Frames that leave -/

section transmit
variable {s : State} {p q : Nat}

theorem doFrameTransmit_mgmt (hl : (s.ethAt p).link = true) (hon : s.ethOn p = true) (hb : (s.ethAt p).busyUntil ≤ s.now)
    {g : List Byte} {after : GptpThen} {rest : List (List Byte × GptpThen)} (hm : (s.ethAt p).mgmt = (g, after) :: rest) :
    doFrameTransmit p q s =
      (s.ethSend p { s.ethAt p with mgmt := rest } (g ++ List.replicate (60 - g.length) 0)).gptpSent p after := by
  simp only [doFrameTransmit, hl, hon, Nat.not_lt.mpr hb, hm, Bool.not_true, decide_false, Bool.or_self, Bool.false_eq_true, if_false]

/-- R118, R120, R140: the head frame of queue `q`, at a frame boundary without a gPTP frame. -/
theorem doFrameTransmit_head (hl : (s.ethAt p).link = true) (hon : s.ethOn p = true) (hb : (s.ethAt p).busyUntil ≤ s.now)
    {fr : TxFrame} {frs : List TxFrame} {l : List Byte} (hm : (s.ethAt p).mgmt = [])
    (hq : NatMap.get [] (s.ethAt p).queues q = fr :: frs) (hlen : l = s.ethBuild p fr) :
    doFrameTransmit p q s =
      if (fr.reserved p || decide (9216 < l.length)) = true then
        (s.bump 0x00160810).setEth p { s.ethAt p with queues := NatMap.put [] (s.ethAt p).queues q frs }
      else if (s.bit (enKey p + 0x60) 0 && (s.ethAt p).sched.tooLong q (wireTime (s.ethAt p).speed (8 + l.length + 4))) = true then
        (s.bump (enKey p + 0x4C)).setEth p { s.ethAt p with queues := NatMap.put [] (s.ethAt p).queues q frs }
      else if (s.bit (enKey p + 0x60) 0 && !(bitAt (s.ethAt p).gates q &&
          (s.ethAt p).sched.fits q s.tb.count (wireTime (s.ethAt p).speed (8 + l.length + 4)))) = true then s
      else s.ethSend p { s.ethAt p with queues := NatMap.put [] (s.ethAt p).queues q frs } l := by
  subst hlen
  simp only [doFrameTransmit, hl, hon, Nat.not_lt.mpr hb, hm, hq, Bool.not_true, decide_false, Bool.or_self, Bool.false_eq_true, if_false]

theorem doFrameTransmit_sends (hl : (s.ethAt p).link = true) (hon : s.ethOn p = true) (hb : (s.ethAt p).busyUntil ≤ s.now)
    {fr : TxFrame} {frs : List TxFrame} {l : List Byte} (hm : (s.ethAt p).mgmt = [])
    (hq : NatMap.get [] (s.ethAt p).queues q = fr :: frs) (hlen : l = s.ethBuild p fr) (hr : fr.reserved p = false)
    (hmax : l.length ≤ 9216) (hg : s.bit (enKey p + 0x60) 0 = false) :
    doFrameTransmit p q s = s.ethSend p { s.ethAt p with queues := NatMap.put [] (s.ethAt p).queues q frs } l := by
  rw [doFrameTransmit_head hl hon hb hm hq hlen, hr, hg, decide_eq_false (Nat.not_lt.mpr hmax)]
  rfl

theorem doFrameTransmit_drops (hl : (s.ethAt p).link = true) (hon : s.ethOn p = true) (hb : (s.ethAt p).busyUntil ≤ s.now)
    {fr : TxFrame} {frs : List TxFrame} {l : List Byte} (hm : (s.ethAt p).mgmt = [])
    (hq : NatMap.get [] (s.ethAt p).queues q = fr :: frs) (hlen : l = s.ethBuild p fr)
    (hbad : fr.reserved p = true ∨ 9216 < l.length) :
    doFrameTransmit p q s =
      (s.bump 0x00160810).setEth p { s.ethAt p with queues := NatMap.put [] (s.ethAt p).queues q frs } := by
  rw [doFrameTransmit_head hl hon hb hm hq hlen]
  exact if_pos (by simpa using hbad)

theorem doFrameTransmit_gate_closed (hl : (s.ethAt p).link = true) (hon : s.ethOn p = true) (hb : (s.ethAt p).busyUntil ≤ s.now)
    {fr : TxFrame} {frs : List TxFrame} {l : List Byte} (hm : (s.ethAt p).mgmt = [])
    (hq : NatMap.get [] (s.ethAt p).queues q = fr :: frs) (hlen : l = s.ethBuild p fr) (hr : fr.reserved p = false)
    (hmax : l.length ≤ 9216) (hg : s.bit (enKey p + 0x60) 0 = true) (hgate : bitAt (s.ethAt p).gates q = false)
    (hshort : (s.ethAt p).sched.tooLong q (wireTime (s.ethAt p).speed (8 + l.length + 4)) = false) : doFrameTransmit p q s = s := by
  rw [doFrameTransmit_head hl hon hb hm hq hlen, hr, hg, hgate, hshort, decide_eq_false (Nat.not_lt.mpr hmax)]
  rfl

end transmit

/-! ### Gate lists and recovery functions -/

section lists
variable {s : State}

theorem doConfigChange_eq (p v : Nat) : doConfigChange p v s =
    if bitAt v 1 then (s.setFld (enKey p + 0x60) 0 1 (bitsOf v 0 1)).ethChange p else s.setFld (enKey p + 0x60) 0 1 (bitsOf v 0 1) := rfl

theorem doConfigChangeTime_port {p : Nat} (hp : p < 6) {sc : GateSched} (h : (s.ethAt p).sched.take s.tb.count = some sc) :
    doConfigChangeTime p s = s.setEth p { s.ethAt p with sched := sc, gates := sc.statesAt 0xFF s.tb.count } := by
  simp only [doConfigChangeTime, if_pos hp, h]

theorem doConfigChangeTime_streamGate {g : Nat} {sc : GateSched} (h : (s.sgAt g).take s.tb.count s.oldestFrame = some sc) :
    doConfigChangeTime (6 + g) s = s.setSg g sc := by
  have hg : ¬ 6 + g < 6 := by omega
  simp only [doConfigChangeTime, if_neg hg, Nat.add_sub_cancel_left, h]

/-- R146: with no frame still to come, a function whose timeout has passed returns to its reset state. -/
theorem doFrerResetTimeout_passed {r : Nat} {x : Frer} (hx : x = NatMap.get {} s.frer r) (ha : x.takeAny = false)
    (ho : s.oldestFrame = none) (h : x.last + clampNat 1 65535 x.timeout * 1000000 ≤ s.tb.count) :
    doFrerResetTimeout r s = { s with frer := NatMap.mod {} s.frer r fun x => { x with takeAny := true, history := 0 } } := by
  have he : x.expire s.tb.count = { x with takeAny := true, history := 0 } := by
    simp [Frer.expire, Frer.deadline, ha, h]
  subst hx
  simp only [doFrerResetTimeout, ho, Option.getD_none, Nat.min_self, NatMap.mod, he]

theorem doFrerResetTimeout_not_yet {r o : Nat} {x : Frer} (hx : x = NatMap.get {} s.frer r)
    (ho : s.oldestFrame = some o) (h : o < x.last + clampNat 1 65535 x.timeout * 1000000) :
    NatMap.get {} (doFrerResetTimeout r s).frer r = x := by
  have hlt : ¬ x.deadline ≤ min s.tb.count o := fun hle => absurd (Nat.le_trans hle (Nat.min_le_right _ _)) (Nat.not_le.mpr h)
  have he : x.expire (min s.tb.count o) = x := by simp [Frer.expire, hlt]
  subst hx
  simp only [doFrerResetTimeout, ho, Option.getD_some, NatMap.mod, NatMap.get_put_same, he]

end lists

/-- Settles O47: each event of a port is evaluated in the case that the clause names. -/
theorem ethernetPorts : Obligations.EthernetPorts := by
  intro s t p f
  refine ⟨fun x hl hon hw h60 hmax hx ht => ?good, fun hl hon => congrArg Host.Outcome.next (doFrameReceived_bad_fcs hl hon),
    fun hl hon hbad => congrArg Host.Outcome.next (doFrameReceived_refused hl hon hbad),
    fun sp hon hl hsp => ⟨congrArg Host.Outcome.next (doLinkUp_down hon hl hsp true),
      congrArg Host.Outcome.next (doLinkUp_down hon hl hsp false)⟩,
    fun hl => congrArg Host.Outcome.next (if_pos hl), fun hl hon hb q => ⟨fun g after rest l hm hlen => ?mgmt, fun fr frs l hm hq hlen => ?head⟩,
    rfl, fun v hv => congrArg Host.Outcome.next ((doConfigChange_eq p v.toNat).trans (if_neg (ne_true_of_eq_false hv))),
    fun v hv => congrArg Host.Outcome.next ((doConfigChange_eq p v.toNat).trans (if_pos hv)),
    fun sc h => congrArg Host.Outcome.next (doConfigChangeTime_port p.isLt h),
    fun g sc h => congrArg Host.Outcome.next (doConfigChangeTime_streamGate h), fun g => rfl,
    fun r x hx ha => ⟨fun ho h => congrArg Host.Outcome.next (doFrerResetTimeout_passed hx ha ho h),
      fun o ho h => ⟨_, rfl, doFrerResetTimeout_not_yet hx ho h, rfl⟩⟩⟩
  case good =>
    subst hx
    exact ⟨fun h1 h2 h3 hm hroom => congrArg Host.Outcome.next (doFrameReceived_kept hl hon hw h60 hmax ht h1 h2 h3 hm hroom),
      fun h1 h2 h3 hm => congrArg Host.Outcome.next (doFrameReceived_idle hl hon hw h60 hmax ht h1 h2 h3 hm),
      fun h1 hop => congrArg Host.Outcome.next (doFrameReceived_pause hl hon hw h60 hmax ht h1 hop),
      fun h2 hd hup => congrArg Host.Outcome.next (doFrameReceived_gptp hl hon hw h60 hmax ht h2 hd hup)⟩
  case mgmt =>
    subst hlen
    exact congrArg Host.Outcome.next (doFrameTransmit_mgmt hl hon hb hm)
  case head =>
    exact ⟨fun hr hmax hg => congrArg Host.Outcome.next (doFrameTransmit_sends hl hon hb hm hq hlen hr hmax hg),
      fun hbad => congrArg Host.Outcome.next (doFrameTransmit_drops hl hon hb hm hq hlen hbad),
      fun hr hmax hg hgate hshort => congrArg Host.Outcome.next
        (doFrameTransmit_gate_closed hl hon hb hm hq hlen hr hmax hg hgate hshort)⟩

end Sys2Proof.Machine
end

section
/-! PROOFS. The Timebase's states, steps, rate and references (spec/02 R57 to R62, R66, R69, R70). -/
namespace Sys2Proof.Machine

/-! ### Syncs -/

/-- What a valid Sync of the active domain with offset `o` leaves: the offset, the state `st`, and all but the Timebase's registers
and messages. -/
def SyncLeaves (s u : State) (o : Int) (st : TbState) : Prop :=
  u.tb.offset = o ∧ u.tb.state = st ∧ u.mem = s.mem ∧ u.weir = s.weir

/-- R63: entering ACQUIRE or LOCKED makes no record. -/
theorem tbEnter_syncLeaves (s : State) {st : TbState} (hst : st = .acquire ∨ st = .locked) :
    SyncLeaves s (s.tbEnter st) s.tb.offset st := by
  unfold State.tbEnter
  by_cases h : st = s.tb.state
  · rw [if_pos h]
    exact ⟨rfl, h.symm, rfl, rfl⟩
  · have hover : st.holdover = false := by rcases hst with rfl | rfl <;> rfl
    have href : st ≠ .holdRef := by rcases hst with rfl | rfl <;> decide
    simp only [if_neg h, hover, if_neg href, Bool.false_or, Bool.false_eq_true, if_false]
    split
    · obtain ⟨r, p, o, e⟩ := causeAll_effect
        (({ s with tb := { s.tb with state := st, goodSyncs := 0, badSyncs := 0, missed := 0 } } : State).setBit tbEvt 0) 9
      rw [e]
      exact ⟨rfl, rfl, rfl, rfl⟩
    · exact ⟨rfl, rfl, rfl, rfl⟩

/-- A change of the Timebase's counts keeps what a Sync leaves. -/
theorem SyncLeaves.upd {s t u : State} {o : Int} {st : TbState} (h : SyncLeaves s t o st) (htb : u.tb.offset = t.tb.offset)
    (hst : u.tb.state = t.tb.state) (hmem : u.mem = t.mem) (hweir : u.weir = t.weir) : SyncLeaves s u o st := by
  obtain ⟨h1, h2, h3, h4⟩ := h
  exact ⟨htb.trans h1, hst.trans h2, hmem.trans h3, hweir.trans h4⟩

theorem clampInt_int32 {o : Int} (hlo : -(2 ^ 31) ≤ o) (hhi : o < 2 ^ 31) : clampInt (-2147483648) 2147483647 o = o := by
  unfold clampInt
  omega

section syncs
variable {s : State} {d : Nat} {o : Int}

/-- The state after a valid Sync's offset has been taken. -/
def State.syncTaken (s : State) (o : Int) : State := { s with tb := { s.tb with offset := o, missed := 0 } }

/-- R59: the Timebase's state after a valid Sync of the active domain with offset `o`. -/
def State.syncStep (s : State) (o : Int) : State :=
  let t := s.syncTaken o
  match s.tb.state with
  | .free | .holdSync =>
    let u := t.tbEnter .acquire
    { u with tb := { u.tb with goodSyncs := if o.natAbs < 100 then 1 else 0 } }
  | .acquire =>
    let good := if o.natAbs < 100 then s.tb.goodSyncs + 1 else 0
    if 16 ≤ good then t.tbEnter .locked else { t with tb := { t.tb with goodSyncs := good } }
  | .locked =>
    let bad := if 1000 < o.natAbs then s.tb.badSyncs + 1 else 0
    if 4 ≤ bad then t.tbEnter .acquire else { t with tb := { t.tb with badSyncs := bad } }
  | .holdRef => t

/-- R60: OFFSET_LARGE follows the Sync's offset. -/
def State.largeNoted (u : State) (o : Int) : State :=
  { u with tb := { u.tb with offsetLarge := u.tb.state != .free && u.tb.state != .holdRef && decide (1000000 < o.natAbs) } }

theorem syncStep_unlocked (hst : s.tb.state = .free ∨ s.tb.state = .holdSync) : SyncLeaves s (s.syncStep o) o .acquire := by
  have h := tbEnter_syncLeaves (s.syncTaken o) (.inl rfl)
  rcases hst with hst | hst <;>
  · rw [State.syncStep, hst]
    exact h.upd rfl rfl rfl rfl

theorem syncStep_acquire (hst : s.tb.state = .acquire) :
    SyncLeaves s (s.syncStep o) o (if o.natAbs < 100 ∧ 15 ≤ s.tb.goodSyncs then .locked else .acquire) := by
  have hgood : 16 ≤ (if o.natAbs < 100 then s.tb.goodSyncs + 1 else 0) ↔ o.natAbs < 100 ∧ 15 ≤ s.tb.goodSyncs := by
    split <;> omega
  rw [State.syncStep, hst]
  simp only [hgood]
  split
  · exact (tbEnter_syncLeaves (s.syncTaken o) (.inr rfl)).upd rfl rfl rfl rfl
  · exact ⟨rfl, hst, rfl, rfl⟩

theorem syncStep_locked (hst : s.tb.state = .locked) :
    SyncLeaves s (s.syncStep o) o (if 1000 < o.natAbs ∧ 3 ≤ s.tb.badSyncs then .acquire else .locked) := by
  have hbad : 4 ≤ (if 1000 < o.natAbs then s.tb.badSyncs + 1 else 0) ↔ 1000 < o.natAbs ∧ 3 ≤ s.tb.badSyncs := by
    split <;> omega
  rw [State.syncStep, hst]
  simp only [hbad]
  split
  · exact (tbEnter_syncLeaves (s.syncTaken o) (.inl rfl)).upd rfl rfl rfl rfl
  · exact ⟨rfl, hst, rfl, rfl⟩

theorem syncStep_holdRef (hst : s.tb.state = .holdRef) : SyncLeaves s (s.syncStep o) o .holdRef := by
  rw [State.syncStep, hst]
  exact ⟨rfl, hst, rfl, rfl⟩

/-- R59: the states that a valid Sync of the active domain leads to. -/
theorem syncStep_leaves : ∃ st, SyncLeaves s (s.syncStep o) o st ∧
    (s.tb.state = .free ∨ s.tb.state = .holdSync → st = .acquire) ∧
    (s.tb.state = .acquire → (st = .locked ↔ o.natAbs < 100 ∧ 15 ≤ s.tb.goodSyncs)) ∧
    (s.tb.state = .locked → (st = .acquire ↔ 1000 < o.natAbs ∧ 3 ≤ s.tb.badSyncs)) ∧ (s.tb.state = .holdRef → st = .holdRef) := by
  cases hst : s.tb.state with
  | free => exact ⟨_, syncStep_unlocked (.inl hst), by simp⟩
  | holdSync => exact ⟨_, syncStep_unlocked (.inr hst), by simp⟩
  | acquire => exact ⟨_, syncStep_acquire hst, by simp⟩
  | locked => exact ⟨_, syncStep_locked hst, by simp⟩
  | holdRef => exact ⟨_, syncStep_holdRef hst, by simp⟩

theorem doSyncReceived_active (hup : s.ohmythUp = true) (hm : s.mode ≠ .boot) (hc : s.tb.actConfigured = true)
    (hr : s.tb.running = true) (hd : d = s.tb.actDomain) :
    doSyncReceived d o s = (s.syncStep (clampInt (-2147483648) 2147483647 o)).largeNoted (clampInt (-2147483648) 2147483647 o) := by
  have hmode : ¬ (!s.ohmythUp || s.mode == .boot) = true := by simp [hup, hm]
  have hact : (s.tb.actConfigured && s.tb.running && d == s.tb.actDomain) = true := by simp [hc, hr, hd]
  exact (if_neg hmode).trans (if_pos hact)

theorem doSyncReceived_monitored (hup : s.ohmythUp = true) (hm : s.mode ≠ .boot) (hc : s.tb.actConfigured = false)
    (hd : d = s.tb.monDomain) :
    doSyncReceived d o s =
      { s with tb := { s.tb with monOffset := clampInt (-2147483648) 2147483647 o, monValid := true } } := by
  have hmode : ¬ (!s.ohmythUp || s.mode == .boot) = true := by simp [hup, hm]
  have hact : ¬ (s.tb.actConfigured && s.tb.running && d == s.tb.actDomain) = true := by simp [hc]
  exact (if_neg hmode).trans ((if_neg hact).trans (if_pos (by rw [hd, beq_self_eq_true])))

end syncs

/-! ### References and the PLL -/

section references
variable {s t : State}

theorem doSyncLoss_syncing (h : s.tb.state = .acquire ∨ s.tb.state = .locked) (ht : t = s.tick.tbEnter .holdSync) :
    doSyncLoss s = { t with tb := { t.tb with rate := s.meanRate } } := by
  rw [doSyncLoss, if_pos h, ht]

theorem doSyncLoss_free (h : s.tb.state = .free) : doSyncLoss s = s := by simp [doSyncLoss, h]

theorem doRefLost_running (hran : s.tb.everRan = true) (hst : s.tb.state ≠ .holdRef) (ht : t = s.enterHoldRef) :
    doRefLost s = { t with tb := { t.tb with refOk := false, pllLock := false } } := by
  simp [doRefLost, hran, hst, ht]

theorem doRefRestored_holdRef (hst : s.tb.state = .holdRef)
    (ht : t = { s with tb := { s.tb with refOk := true, pllLock := true } }) (hc : s.tb.actConfigured = true) :
    doRefRestored s = t.tbEnter .acquire := by
  rw [doRefRestored, if_pos hst, ht]
  exact if_pos hc

theorem doPllLock_first (hr : s.tb.running = false) :
    doPllLock s = { s with tb := { s.tb with refOk := true, pllLock := true, running := true, everRan := true } } :=
  if_neg (ne_true_of_eq_false hr)

theorem doPllLock_again (hr : s.tb.running = true) (hok : s.tb.refOk = true) :
    doPllLock s = { s with tb := { s.tb with pllLock := true } } :=
  (if_pos hr).trans (if_pos hok)

theorem doPllLockLost_locked (hran : s.tb.everRan = true) (hok : s.tb.refOk = true) (hlock : s.tb.pllLock = true)
    (hst : s.tb.state ≠ .holdRef) (ht : t = s.enterHoldRef) :
    doPllLockLost s = { t with tb := { t.tb with pllLock := false } } := by
  have hgo : (s.tb.everRan && s.tb.refOk && s.tb.pllLock) = true := by rw [hran, hok, hlock]; rfl
  simp only [doPllLockLost, hgo, if_true, if_neg hst, ht]

end references

/-! ### Steps and rates -/

section rates
variable {s : State} {o : Int}

theorem doTbStep_allowed (hup : s.ohmythUp = true) (hm : s.mode = .hold ∨ s.mode = .commission ∨ s.mode = .boot)
    (hw : s.weirTimed = false) (h0 : 0 ≤ (s.tb.count : Int) + o) :
    doTbStep o s = ({ s with tb := { s.tb with count := ((s.tb.count : Int) + o).toNat } } : State).setBit tbEvt 3 := by
  have hmode : s.mode = .boot ∨ s.mode = .commission ∨ s.mode = .hold := by
    rcases hm with hm | hm | hm <;> simp [hm]
  exact (if_pos hup).trans (if_pos ⟨hmode, hw, h0⟩)

theorem doTbStep_refused (h : s.mode = .lead ∨ s.weirTimed = true ∨ (s.tb.count : Int) + o < 0) : doTbStep o s = s := by
  have hno : ¬ ((s.mode = .boot ∨ s.mode = .commission ∨ s.mode = .hold) ∧ s.weirTimed = false ∧ 0 ≤ (s.tb.count : Int) + o) := by
    rintro ⟨hm, hw, h0⟩
    rcases h with h | h | h
    · rw [h] at hm
      rcases hm with hm | hm | hm <;> exact nomatch hm
    · rw [h] at hw
      exact nomatch hw
    · omega
  unfold doTbStep State.stepTo
  rw [if_neg hno, ite_self]

theorem doTbRateWrite_taken (hst : s.tb.state ≠ .holdSync) (hfree : s.tb.state ≠ .free ∨ s.alignsToLead = true)
    (hup : s.ohmythUp = true) :
    doTbRateWrite o s = { s with tb := { s.tb with rate := clampRate o, rates := (clampRate o :: s.tb.rates).take 16 } } := by
  rcases hfree with h | h <;> simp [doTbRateWrite, hst, hup, h]

theorem doTbRateWrite_ignored (h : s.tb.state = .holdSync ∨ s.tb.state = .free ∧ s.alignsToLead = false) : doTbRateWrite o s = s := by
  rcases h with h | ⟨h, ha⟩
  · simp [doTbRateWrite, h]
  · simp [doTbRateWrite, h, ha]

/-- Rounding the quotient of `sum` by `n` to the nearest, whichever way a half goes, moves the product by at most half of `n`. -/
theorem round_div_bounds {sum n : Int} (hn : 0 < n) (up : Bool) :
    let mean := if n < 2 * (sum % n) || (2 * (sum % n) == n && up) then sum / n + 1 else sum / n
    2 * (mean * n - sum) ≤ n ∧ 2 * (sum - mean * n) ≤ n := by
  intro mean
  have hlo := Int.emod_nonneg sum (Int.ne_of_gt hn)
  have hhi := Int.emod_lt_of_pos sum hn
  have hsum := Int.mul_ediv_add_emod sum n
  have hcomm : sum / n * n = n * (sum / n) := Int.mul_comm _ _
  have hone : (sum / n + 1) * n = n * (sum / n) + n := by rw [Int.add_mul, hcomm, Int.one_mul]
  by_cases hc : (n < 2 * (sum % n) || (2 * (sum % n) == n && up)) = true
  · have hmean : mean = sum / n + 1 := if_pos hc
    have hge : n ≤ 2 * (sum % n) := by
      simp only [Bool.or_eq_true, decide_eq_true_eq, Bool.and_eq_true, beq_iff_eq] at hc
      omega
    rw [hmean, hone]
    omega
  · have hmean : mean = sum / n := if_neg hc
    have hle : 2 * (sum % n) ≤ n := by
      simp only [Bool.or_eq_true, decide_eq_true_eq, not_or, Int.not_lt] at hc
      exact hc.1
    rw [hmean, hcomm]
    omega

theorem meanRate_bounds {r : List Int} {sum : Int} (hr : s.tb.rates.take 16 = r) (hne : r ≠ []) (hsum : sum = r.foldl (· + ·) 0) :
    2 * (s.meanRate * r.length - sum) ≤ r.length ∧ 2 * (sum - s.meanRate * r.length) ≤ r.length := by
  have hn : (0 : Int) < r.length := by exact_mod_cast List.length_pos_iff.mpr hne
  have hempty : r.isEmpty = false := List.isEmpty_eq_false_iff.mpr hne
  have hmean : s.meanRate = if (r.length : Int) < 2 * (sum % r.length) || (2 * (sum % r.length) == (r.length : Int) && Config.meanRoundsUp s.fresh)
      then sum / r.length + 1 else sum / r.length := by
    simp only [State.meanRate, hr, hempty, hsum, Bool.false_eq_true, if_false]
  rw [hmean]
  exact round_div_bounds hn (Config.meanRoundsUp s.fresh)

end rates

/-- Settles O48: each event of the Timebase is evaluated in the case that the clause names; entering a locked state keeps memory. -/
theorem timebaseEvents : Obligations.TimebaseEvents := by
  intro s t d o hlo hhi
  refine ⟨fun hup hm hc hr hd => ?sync, fun hup hm hc hd => ?monitored,
    fun h ht => congrArg Host.Outcome.next (doSyncLoss_syncing h ht), fun h => congrArg Host.Outcome.next (doSyncLoss_free h),
    fun hran hst ht => congrArg Host.Outcome.next (doRefLost_running hran hst ht),
    fun hst ht hc => congrArg Host.Outcome.next (doRefRestored_holdRef hst ht hc), fun hr => congrArg Host.Outcome.next (doPllLock_first hr),
    fun hr hok => congrArg Host.Outcome.next (doPllLock_again hr hok),
    fun hran hok hlock hst ht => congrArg Host.Outcome.next (doPllLockLost_locked hran hok hlock hst ht),
    fun hup hm hw h0 => congrArg Host.Outcome.next (doTbStep_allowed hup hm hw h0),
    fun h => congrArg Host.Outcome.next (doTbStep_refused h),
    fun hst hfree hup => congrArg Host.Outcome.next (doTbRateWrite_taken hst hfree hup),
    fun h => congrArg Host.Outcome.next (doTbRateWrite_ignored h), fun r sum hr hne hsum => meanRate_bounds hr hne hsum, rfl⟩
  case sync =>
    have e := doSyncReceived_active (o := o) hup hm hc hr hd
    rw [clampInt_int32 hlo hhi] at e
    obtain ⟨st, ⟨hoff, hstate, hmem, hweir⟩, hrest⟩ := syncStep_leaves (s := s) (o := o)
    refine ⟨_, congrArg Host.Outcome.next e, hoff, hmem, hweir, ?_⟩
    have hst : ((s.syncStep o).largeNoted o).tb.state = st := hstate
    rw [hst]
    exact hrest
  case monitored =>
    have e := doSyncReceived_monitored (o := o) hup hm hc hd
    rw [clampInt_int32 hlo hhi] at e
    exact congrArg Host.Outcome.next e

end Sys2Proof.Machine
end

section
/-! PROOFS. The Baton, the Ford link and heartbeats (spec/14 R444, R446, R448 to R450, R457, R462, R466). -/
namespace Sys2Proof.Machine

variable {s t : State}

/-! ### The Baton -/

section baton

/-- R448: a claim that has stood for 1 µs while the partner's line is high gives the Baton. -/
theorem doBatonSettle_held {n : Nat} (hc : s.ford.claimAt = some n) (hdue : n + 1000 ≤ s.now) (hp : s.ford.peerLine = false)
    (he : s.batonHeld.ford.entry = none) : doBatonSettle s = s.batonHeld := by
  simp only [doBatonSettle, hc, hp, hdue, he, decide_true, Bool.not_true, Bool.not_false, Bool.false_eq_true, if_false, if_true]

theorem doBatonSettle_tie {n : Nat} (hc : s.ford.claimAt = some n) (hdue : n + 1000 ≤ s.now) (hp : s.ford.peerLine = true)
    (hid : s.ford.twinId = 1) (ht : t = (s.setBit fdEvt 7).batonRelease) (he : t.ford.entry = none) : doBatonSettle s = t := by
  have hid' : (s.setBit fdEvt 7).ford.twinId = 1 := hid
  subst ht
  simp only [doBatonSettle, hc, hp, hdue, hid', he, decide_true, Bool.not_true, Bool.false_eq_true, if_false, if_true]

theorem doBatonSettle_no_claim (hc : s.ford.claimAt = none) (he : s.ford.entry = none) : doBatonSettle s = s := by
  simp only [doBatonSettle, hc, he, Bool.not_false, if_true]

theorem doBatonLineChange_taken (hh : s.ford.holds = true)
    (ht : t = ({ s with ford := { s.ford with peerLine := true } } : State).setBit fdEvt 7) (hid : s.ford.twinId = 1) :
    doBatonLineChange true s = t.loseBaton := by
  subst ht
  exact (if_pos hh).trans (if_pos hid)

theorem doBatonLineChange_falls (hh : s.ford.holds = false) :
    doBatonLineChange true s = { s with ford := { s.ford with peerLine := true } } :=
  if_neg (ne_true_of_eq_false hh)

theorem doKeeperRefresh_fails (hh : s.ford.holds = true) (hk : s.keeperOk = false) : doKeeperRefresh s = s.loseBaton := by
  simp only [doKeeperRefresh, hh, hk, Bool.not_true, Bool.not_false, Bool.false_eq_true, if_false, if_true]

theorem doKeeperRefresh_refreshes (hh : s.ford.holds = true) (hk : s.keeperOk = true) (hp : s.passed 2 10000 = true) :
    doKeeperRefresh s = { s.stamp 2 with ford := { s.ford with keepAt := s.now } } := by
  simp only [doKeeperRefresh, hh, hk, hp, Bool.not_true, Bool.false_eq_true, if_false, if_true]

theorem doBatonWatchdogExpiry_due (hh : s.ford.holds = true) (h : s.ford.keepAt + 50000 ≤ s.now) :
    doBatonWatchdogExpiry s = (s.setBit fdBaton 2).loseBaton := by
  simp only [doBatonWatchdogExpiry, hh, h, decide_true, Bool.and_self, if_true]

theorem doBatonWatchdogExpiry_early (h : s.now < s.ford.keepAt + 50000) : doBatonWatchdogExpiry s = s := by
  simp only [doBatonWatchdogExpiry, Nat.not_le.mpr h, decide_false, Bool.and_false, Bool.false_eq_true, if_false]

end baton

/-! ### The link and heartbeats -/

section link

theorem doFordLinkUp_same (hen : s.bit fdCtl 0 = true) (hl : s.ford.link ≠ 2) (d : Nat) : doFordLinkUp d 1 s = s.fordUp d := by
  simp [doFordLinkUp, hen, hl]

theorem doFordLinkUp_other {v : Nat} (hen : s.bit fdCtl 0 = true) (hl : s.ford.link ≠ 2) (hv : v ≠ 1) (d : Nat) :
    doFordLinkUp d v s = ({ s with ford := { s.ford with link := 1 } } : State).setBit fdEvt 8 := by
  simp [doFordLinkUp, hen, hl, hv]

/-- R446: a heartbeat leaves every 10 µs, a lead's while it holds the Baton. -/
theorem doHeartbeatSend_due (hl : s.ford.link = 2) (hen : s.bit fdCtl 0 = true) (hf : s.errors.fatalAt = none)
    (hs : s.ford.hbStopped = false) (hh : s.ford.role ≠ .lead ∨ s.ford.holds = true) (hp : s.passed 1 10000 = true)
    (ht : t = s.stamp 1) : doHeartbeatSend s = t.fordSend 1 t.heartbeatBody := by
  subst ht
  have hgo : ¬ (decide (s.ford.link ≠ 2) || !s.bit fdCtl 0 || s.errors.fatalAt.isSome || s.ford.hbStopped ||
      (s.ford.role == .lead && !s.ford.holds) || !s.passed 1 10000) = true := by
    rcases hh with hh | hh <;> simp [hl, hen, hf, hs, hh, hp]
  exact if_neg hgo

theorem doHeartbeatSend_stopped (hr : s.ford.role = .lead) (hh : s.ford.holds = false) : doHeartbeatSend s = s := by
  simp [doHeartbeatSend, hr, hh]

section missed
variable (ht : t = ({ s with ford := { s.ford with missed := s.ford.missed + 1, intervalAt := s.ford.intervalAt + 10000 } } :
    State).bump 0x003A0040) (hb : s.ford.hbAt.isSome = true) (hdue : s.ford.intervalAt + 10000 ≤ s.now)
include ht hb hdue

/-- R457, R462: an interval without a heartbeat is counted. -/
theorem doHeartbeatMissed_counts (hr : s.ford.role = .shadow ∨ s.ford.role = .lead ∧ s.ford.link = 2) :
    doHeartbeatMissed s = if s.ford.role == .shadow || s.ford.role == .syncing then t.takeoverCheck
      else if (decide (3 ≤ s.ford.missed + 1) && s.partnerFollows) = true then t.detachPartner true else t := by
  subst ht
  have hgo : ¬ (!((s.ford.role == .shadow || s.ford.role == .syncing) || (s.ford.role == .lead && s.ford.link == 2)) ||
      s.ford.hbAt.isNone || decide (s.now < s.ford.intervalAt + 10000)) = true := by
    have hn : s.ford.hbAt.isNone = false := by rw [← Option.not_isSome, hb, Bool.not_true]
    rcases hr with hr | ⟨hr, hl⟩
    · simp [hr, hn, Nat.not_lt.mpr hdue]
    · simp [hr, hl, hn, Nat.not_lt.mpr hdue]
  exact if_neg hgo

theorem doHeartbeatMissed_shadow (hr : s.ford.role = .shadow) : doHeartbeatMissed s = t.takeoverCheck := by
  rw [doHeartbeatMissed_counts ht hb hdue (.inl hr), hr]
  rfl

theorem doHeartbeatMissed_lead (hr : s.ford.role = .lead) (hl : s.ford.link = 2) :
    doHeartbeatMissed s = if (decide (3 ≤ s.ford.missed + 1) && s.partnerFollows) = true then t.detachPartner true else t := by
  rw [doHeartbeatMissed_counts ht hb hdue (.inr ⟨hr, hl⟩), hr]
  rfl

end missed

theorem doGateLimitDetach_old {f : FordFrame} (hr : s.ford.role = .lead) (hp : s.partnerFollows = true) (hf : f ∈ s.ford.ring)
    (hold : f.at_ + 1000 * clampNat 5 100 (s.fld fdCtl 16 7) < s.now) : doGateLimitDetach s = s.detachPartner true := by
  have hany : (s.ford.ring.any fun f => decide (f.at_ + 1000 * clampNat 5 100 (s.fld fdCtl 16 7) < s.now)) = true :=
    List.any_eq_true.mpr ⟨f, hf, decide_eq_true hold⟩
  simp only [doGateLimitDetach, hr, hp, hany, beq_self_eq_true, Bool.and_self, if_true]

end link

/-- Settles O49: each event of the Baton or the link is evaluated in the case that the clause names. -/
theorem batonAndLink : Obligations.BatonAndLink := by
  intro s t
  refine ⟨fun n hc hdue _ => ⟨fun hp he => congrArg Host.Outcome.next (doBatonSettle_held hc hdue hp he),
      fun hp hid ht he => congrArg Host.Outcome.next (doBatonSettle_tie hc hdue hp hid ht he)⟩,
    fun hc he => congrArg Host.Outcome.next (doBatonSettle_no_claim hc he),
    fun hh ht hid => congrArg Host.Outcome.next (doBatonLineChange_taken hh ht hid),
    fun hh => congrArg Host.Outcome.next (doBatonLineChange_falls hh), fun ht => ?rises,
    fun hh hk => congrArg Host.Outcome.next (doKeeperRefresh_fails hh hk),
    fun hh hk hp => congrArg Host.Outcome.next (doKeeperRefresh_refreshes hh hk hp),
    fun hh h => congrArg Host.Outcome.next (doBatonWatchdogExpiry_due hh h),
    fun h => congrArg Host.Outcome.next (doBatonWatchdogExpiry_early h),
    fun d hen hl => congrArg Host.Outcome.next (doFordLinkUp_same hen hl d.toNat), fun d v hen hl hv => ?version, rfl,
    fun hl hen hf hs hh hp ht => congrArg Host.Outcome.next (doHeartbeatSend_due hl hen hf hs hh hp ht),
    fun hr hh => congrArg Host.Outcome.next (doHeartbeatSend_stopped hr hh), fun ht hb hdue =>
      ⟨fun hr => ?shadow, fun hr hl h2 => ?few, fun hr hl h2 hp => ?many⟩,
    fun f hr hp hf hold => congrArg Host.Outcome.next (doGateLimitDetach_old hr hp hf hold)⟩
  case rises =>
    subst ht
    rfl
  case version =>
    exact congrArg Host.Outcome.next (doFordLinkUp_other hen hl (fun h => hv (BitVec.eq_of_toNat_eq h)) d.toNat)
  case shadow => exact congrArg Host.Outcome.next (doHeartbeatMissed_shadow ht hb hdue hr)
  case few =>
    refine congrArg Host.Outcome.next ((doHeartbeatMissed_lead ht hb hdue hr hl).trans (if_neg ?_))
    rw [decide_eq_false (by omega)]
    exact Bool.false_ne_true
  case many =>
    refine congrArg Host.Outcome.next ((doHeartbeatMissed_lead ht hb hdue hr hl).trans (if_pos ?_))
    rw [decide_eq_true (by omega), hp]
    rfl

end Sys2Proof.Machine
end

section
/-! PROOFS. The frames of the Ford link (spec/14 R447, R453 to R461, R466, R468, R473). -/
namespace Sys2Proof.Machine

variable {s t : State} {h : FordHdr} {b : List Byte}

/-! ### A header that is out of sequence: the frame does nothing more -/

section refused
variable (ht : s.fordTake h = none)
include ht

theorem doIngress_refused : doIngress h b s = s := by simp only [doIngress, ht]
theorem doDecision_refused : doDecision h b s = s := by simp only [doDecision, ht]
theorem doConfig_refused : doConfig h b s = s := by simp only [doConfig, ht]
theorem doDigest_refused : doDigest h b s = s := by simp only [doDigest, ht]
theorem doState_refused : doState h b s = s := by simp only [doState, ht]
theorem doApp_refused : doApp h b s = s := by simp only [doApp, ht]
theorem doHeartbeat_refused : doHeartbeat h b s = s := by simp only [doHeartbeat, ht]
theorem doControl_refused (m : FordMsg) : doControl h m s = s := by simp only [doControl, ht]

end refused

/-! ### A header in sequence: the frame acts on the state `t` that took it -/

section taken
variable (ht : s.fordTake h = some t)
include ht

section follower
variable (hf : t.following = true)
include hf

theorem doIngress_follows {r : IngressRec} (hr : (ingressRecords b.length b).getLast? = some r) : doIngress h b s =
    { t with ford := { t.ford with records := t.ford.records ++ ingressRecords b.length b, nextRecord := mod48 (r.gseq + 1) } } := by
  simp only [doIngress, ht, hr, hf, Bool.not_true, Bool.false_eq_true, if_false]

theorem doDecision_follows : doDecision h b s =
    (({ t with dlogIn := t.dlogIn ++ dEntries b.length b } : State).keepEntries (dEntries b.length b)).weirRun := by
  simp only [doDecision, ht, hf, Bool.not_true, Bool.false_eq_true, if_false]

theorem doConfig_follows : doConfig h b s =
    ({ t with ford := { t.ford with configs := t.ford.configs ++ dEntries b.length b } } : State).keepEntries
      (dEntries b.length b) := by
  simp only [doConfig, ht, hf, Bool.not_true, Bool.false_eq_true, if_false]

theorem doDigest_follows {x : Nat × Digest} (hx : t.ford.closed.find? (fun x => x.1 == leAt b 0 6) = some x) : doDigest h b s =
    ({ t with ford := { t.ford with closed := NatMap.del t.ford.closed (leAt b 0 6) } } : State).compareWindow (leAt b 0 6) x.2
      { count := leAt b 6 4, sum := leAt b 0x10 8 } := by
  simp only [doDigest, ht, hf, hx, Bool.not_true, Bool.false_eq_true, if_false]

theorem doControl_detach_follows : doControl h .detach s = t.goDetached := by simp only [doControl, ht, hf, if_true]

end follower

section leader
variable (hf : t.following = false)
include hf

theorem doIngress_leads : doIngress h b s = t := by
  simp only [doIngress, ht, hf, Bool.not_false, if_true]
  cases (ingressRecords b.length b).getLast? <;> rfl

theorem doDecision_leads : doDecision h b s = t := by simp only [doDecision, ht, hf, Bool.not_false, if_true]
theorem doConfig_leads : doConfig h b s = t := by simp only [doConfig, ht, hf, Bool.not_false, if_true]
theorem doDigest_leads : doDigest h b s = t := by simp only [doDigest, ht, hf, Bool.not_false, if_true]

end leader

theorem doState_syncing (hr : t.ford.role = .syncing) (hi : t.ford.imageOk = false) :
    doState h b s = { t with ford := { t.ford with imageIn := t.ford.imageIn ++ b } } := by
  have hgo : (t.ford.role == .syncing && !t.ford.imageOk) = true := by rw [hr, hi]; rfl
  simp only [doState, ht, hgo, if_true]

theorem doControl_detach_leads (hr : t.ford.role = .lead) (hp : t.partnerFollows = true) :
    doControl h .detach s = t.detachPartner false := by
  have hf : t.following = false := by rw [State.following, hr]; rfl
  have hgo : (t.ford.role == .lead && t.partnerFollows) = true := by rw [hr, hp]; rfl
  simp only [doControl, ht, hf, hgo, Bool.false_eq_true, if_false, if_true]

theorem doControl_resync (g : BitVec 48) (d : BitVec 32) : doControl h (.resync g d) s = t.resyncAsked g.toNat d.toNat := by
  simp only [doControl, ht]

theorem doControl_imageEnd : doControl h .imageEnd s = t.imageTaken := by simp only [doControl, ht]

/-- R466: a shadow that is asked to take over claims the Baton. -/
theorem doControl_handover (hr : t.ford.role = .shadow) (g : BitVec 48) : doControl h (.handover g) s =
    ({ t with ford := { t.ford with handIn := some g.toNat } } : State).claimWaiting := by
  have hgo : (t.ford.role == .shadow) = true := by rw [hr]; rfl
  simp only [doControl, ht, hgo, if_true]

theorem doApp_driving (hd : t.driving = true) (hlen : leAt b 0x1C 2 ≤ 9216) : doApp h b s = { t with ford := { t.ford with
    appIn := t.ford.appIn ++ [(mod48 t.tb.count, padTo (leAt b 0x1C 2) (b.drop 64))] } } := by
  simp only [doApp, ht, hd, hlen, decide_true, Bool.and_self, if_true]

theorem doApp_discarded (hd : t.driving = false ∨ 9216 < leAt b 0x1C 2) : doApp h b s = t.bump 0x003A0050 := by
  have hgo : (t.driving && decide (leAt b 0x1C 2 ≤ 9216)) = false := by
    rcases hd with hd | hd
    · rw [hd, Bool.false_and]
    · rw [decide_eq_false (Nat.not_le.mpr hd), Bool.and_false]
  simp only [doApp, ht, hgo, Bool.false_eq_true, if_false]

theorem doHeartbeat_other_version (hv : leAt b 3 1 ≠ 1) :
    doHeartbeat h b s = ({ t with ford := { t.ford with link := 1 } } : State).setBit fdEvt 8 := by
  simp only [doHeartbeat, ht, hv, ne_eq, not_false_eq_true, if_true]

end taken

/-! ### Heartbeats (R446, R458, R461) -/

/-- The Ford's state after a heartbeat of this version: what it names, and the offset that it measures. -/
def State.heartbeatFord (t : State) (b : List Byte) : Ford :=
  let f := t.ford
  let f : Ford :=
    { f with
      peerRole := nextPeer f.peerRole (roleOf (leAt b 0 1)), seenRole := roleOf (leAt b 0 1), peerFlags := leAt b 2 1
      peerMode := leAt b 1 1, peerNext := leAt b 0x0C 6, hbAt := some t.now, intervalAt := t.now, missed := 0 }
  f.align ((leAt b 4 8 + t.ford.delay : Nat) - (t.tb.count : Int))

theorem handoverDone_none (r : FordRole) (hh : t.ford.handover = none) : t.handoverDone r = t := by
  simp only [State.handoverDone, hh]

theorem resyncDone_none (r : FordRole) (hh : t.ford.resync = none) : t.resyncDone r = t := by
  simp only [State.resyncDone, hh]

/-- A heartbeat that acknowledges something new, at a device without a role: it is noted, and the Weir runs. -/
theorem doHeartbeat_noted (ht : s.fordTake h = some t) (hv : leAt b 3 1 = 1) (hr : t.ford.role = .none)
    (hh : t.ford.handover = none) (hs : t.ford.resync = none) (hack : s.ford.ackSeen ≠ h.ack.toNat) :
    doHeartbeat h b s = ({ t with ford := t.heartbeatFord b } : State).weirRun := by
  obtain ⟨u, hu⟩ : ∃ u : State, u = { t with ford := t.heartbeatFord b } := ⟨_, rfl⟩
  have hrole : (u.ford.role == .lead) = false := by
    rw [hu, show ({ t with ford := t.heartbeatFord b } : State).ford.role = .none from hr]
    rfl
  have hhand : u.ford.handover = none := hu ▸ hh
  have hres : u.ford.resync = none := hu ▸ hs
  simp only [doHeartbeat, ht, hv, hack, ne_eq, not_true_eq_false, if_false, decide_false, Bool.false_and, Bool.false_eq_true]
  change ((State.handoverDone (if (_ && ({ t with ford := t.heartbeatFord b } : State).ford.role == .lead) = true then _
    else { t with ford := t.heartbeatFord b }) _).resyncDone _).weirRun = _
  rw [← hu, hrole, Bool.and_false, if_neg Bool.false_ne_true, handoverDone_none _ hhand, resyncDone_none _ hres]

/-! ### Windows and catching up -/

theorem doSyncCatchUp_near (hr : s.ford.role = .syncing) (hi : s.ford.imageOk = true) (hlag : s.ford.lag < 50000) :
    doSyncCatchUp s = ({ s with ford := { s.ford with role := .shadow } } : State).setMode .shadow := by
  have hgo : (s.ford.role == .syncing && s.ford.imageOk &&
      (decide (s.ford.lag < 50000) || (s.ford.records.isEmpty && s.ford.nextRecord == s.ford.peerNext))) = true := by
    rw [hr, hi, decide_eq_true hlag]
    rfl
  exact if_pos hgo

theorem doSyncCatchUp_other (hr : s.ford.role ≠ .syncing) : doSyncCatchUp s = s := by
  have hgo : (s.ford.role == .syncing && s.ford.imageOk &&
      (decide (s.ford.lag < 50000) || (s.ford.records.isEmpty && s.ford.nextRecord == s.ford.peerNext))) = false := by
    rw [beq_false_of_ne hr, Bool.false_and, Bool.false_and]
  exact if_neg (ne_true_of_eq_false hgo)

/-- Settles O50: a frame whose header is refused changes nothing, and one that is taken acts as its kind and the device's role say. -/
theorem fordFrames : Obligations.FordFrames := by
  intro s t h b
  refine ⟨fun ht => ?refused, fun ht => ⟨fun hv => ?version, fun hv hr hh hs hack => ?noted, fun rs r hrs hlast hf => ?ingress,
    fun hf => congrArg Host.Outcome.next (doDecision_follows ht hf), fun hf => congrArg Host.Outcome.next (doConfig_follows ht hf),
    fun hf => ?leads, fun x hf hx => congrArg Host.Outcome.next (doDigest_follows ht hf hx),
    fun hr hi => congrArg Host.Outcome.next (doState_syncing ht hr hi),
    fun hf => congrArg Host.Outcome.next (doControl_detach_follows ht hf),
    fun hr hp => congrArg Host.Outcome.next (doControl_detach_leads ht hr hp),
    fun g d => congrArg Host.Outcome.next (doControl_resync ht g d), congrArg Host.Outcome.next (doControl_imageEnd ht),
    fun g hr => congrArg Host.Outcome.next (doControl_handover ht hr g),
    fun hd hlen => congrArg Host.Outcome.next (doApp_driving ht hd hlen),
    fun hd => congrArg Host.Outcome.next (doApp_discarded ht hd)⟩, rfl,
    fun hr hi hlag => congrArg Host.Outcome.next (doSyncCatchUp_near hr hi hlag),
    fun hr => congrArg Host.Outcome.next (doSyncCatchUp_other hr)⟩
  case refused =>
    exact ⟨congrArg Host.Outcome.next (doIngress_refused ht), congrArg Host.Outcome.next (doDecision_refused ht),
      congrArg Host.Outcome.next (doConfig_refused ht), congrArg Host.Outcome.next (doDigest_refused ht),
      congrArg Host.Outcome.next (doState_refused ht), congrArg Host.Outcome.next (doApp_refused ht),
      congrArg Host.Outcome.next (doHeartbeat_refused ht), fun m => congrArg Host.Outcome.next (doControl_refused ht m)⟩
  case version => exact congrArg Host.Outcome.next (doHeartbeat_other_version ht hv)
  case noted =>
    exact ⟨_, congrArg Host.Outcome.next (doHeartbeat_noted ht hv hr hh hs hack), rfl, rfl, rfl, rfl, rfl, rfl, rfl, rfl, rfl⟩
  case ingress =>
    subst hrs
    exact congrArg Host.Outcome.next (doIngress_follows ht hf hlast)
  case leads =>
    exact ⟨congrArg Host.Outcome.next (doIngress_leads ht hf), congrArg Host.Outcome.next (doDecision_leads ht hf),
      congrArg Host.Outcome.next (doConfig_leads ht hf), congrArg Host.Outcome.next (doDigest_leads ht hf)⟩

end Sys2Proof.Machine
end

section
/-! PROOFS. The recorder, checkpoints, transfers and replay (spec/15 R480 to R487, R491, R493 to R495). -/
namespace Sys2Proof.Machine

variable {s t : State}

/-! ### Recording -/

section recording
variable (hrec : s.records = true)
include hrec

/-- R481: recording is EN and a mode of the device that drives, commissions or follows. -/
theorem records_spec : s.bit 0x003B0000 0 = true ∧ (s.mode != .replay) = true := by
  unfold State.records at hrec
  obtain ⟨hen, hmode⟩ := (Bool.and_eq_true ..).mp hrec
  refine ⟨hen, ?_⟩
  revert hmode
  cases s.mode <;> decide

theorem doBitternRecord_oldest {c : Cell} (hc : s.cells.find? (fun c => !c.recorded) = some c) (hcl : c.classifiedYet = true)
    (hh : before48 c.hdr.gseq s.horizon = true) : doBitternRecord s = s.recordCell c := by
  simp only [doBitternRecord, hrec, hc, hcl, hh, Bool.not_true, Bool.false_eq_true, Bool.and_self, if_false, if_true]

theorem doChunkClose_due (hdue : s.bt.closeAt + 1000000 ≤ s.now) (ht : t = s.closeChunks.gapWrite) :
    doChunkClose s = { t with bt := { t.bt with closeAt := t.now } } := by
  obtain ⟨hen, hm⟩ := records_spec hrec
  subst ht
  simp only [doChunkClose, hrec, hen, hm, hdue, decide_true, Bool.and_self, if_true]

theorem doChunkClose_early (hearly : s.now < s.bt.closeAt + 1000000) : doChunkClose s = s := by
  simp only [doChunkClose, hrec, Nat.not_le.mpr hearly, decide_false, Bool.and_false, Bool.false_eq_true, if_true, if_false]

theorem doCheckpointPeriod_due (hp : s.fld 0x003B0000 8 8 ≠ 0) (hc : s.bt.ckpt = 0) (hr : s.bt.retryAt = none)
    (hdue : s.bt.lastCkpt + s.fld 0x003B0000 8 8 * 1000000000 ≤ s.now) : doCheckpointPeriod s = s.ckptStart 0 := by
  simp only [doCheckpointPeriod, hrec, hp, hc, hr, hdue, ne_eq, not_false_eq_true, Option.isNone_none, decide_true, Bool.and_self,
    if_true]

end recording

theorem doChunkClose_off (hen : s.bit 0x003B0000 0 = false) : doChunkClose s = { s with dlogOut := [] } := by
  have hrec : s.records = false := by rw [State.records, hen, Bool.false_and]
  have hen' : ({ s with dlogOut := [] } : State).bit 0x003B0000 0 = false := hen
  simp only [doChunkClose, hrec, hen', Bool.false_and, Bool.false_eq_true, if_false]

/-! ### Checkpoints (R486, R487) -/

theorem doCheckpointMark_quiet (hc : s.bt.ckpt = 1) (hq : s.quiesced = true) : doCheckpointMark s = s.ckptMark := by
  simp only [doCheckpointMark, hc, hq, decide_true, Bool.and_self, if_true]

theorem doCheckpointMark_busy (hq : s.quiesced = false) : doCheckpointMark s = s := by
  simp only [doCheckpointMark, hq, Bool.and_false, Bool.false_eq_true, if_false]

theorem doCheckpointQuiesceTimeout_due (hc : s.bt.ckpt = 1) (hdue : s.bt.since + 25000 ≤ s.now) :
    doCheckpointQuiesceTimeout s = s.ckptFail := by
  simp only [doCheckpointQuiesceTimeout, hc, hdue, decide_true, Bool.and_self, if_true]

theorem doCheckpointRetry_due {n : Nat} (hr : s.bt.retryAt = some n) (hc : s.bt.ckpt = 0) (hdue : n ≤ s.now) :
    doCheckpointRetry s = s.ckptStart s.bt.tries := by
  simp only [doCheckpointRetry, hr, hc, hdue, decide_true, Bool.and_self, if_true]

theorem doCheckpointCopyDone_copied (hc : s.bt.ckpt = 2) : doCheckpointCopyDone s = s.ckptDone := if_pos hc

/-! ### Transfers (R491) -/

theorem xferWrite_go {v : Nat} (hoff : s.bit 0x003B00A0 0 = false) (ht : t = (s.putReg 0x003B00A0 0xFFFFFFFF v).1)
    (hon : t.bit 0x003B00A0 0 = true) :
    s.xferWrite 0xFFFFFFFF v = { t.setFld 0x003B00A0 5 1 0 with bt := { t.bt with moved := 0 } } := by
  subst ht
  have hgo : (!s.bit 0x003B00A0 0 && (s.putReg 0x003B00A0 0xFFFFFFFF v).1.bit 0x003B00A0 0) = true := by rw [hoff, hon]; rfl
  exact if_pos hgo

section transfer
variable (hgo : s.bit 0x003B00A0 0 = true) (hdone : s.bit 0x003B00A0 5 = false) (hmoved : s.bt.moved ≤ s.xferLen)
include hgo hdone hmoved

/-- The transfer runs: started, neither done nor refused. -/
theorem xfer_runs : (!s.bit 0x003B00A0 0 || s.bit 0x003B00A0 5 || decide (s.xferLen < s.bt.moved)) = false := by
  rw [hgo, hdone, decide_eq_false (Nat.not_lt.mpr hmoved)]
  rfl

theorem doXferDone_exported (hb : s.xferBase < 0x800000000) (hmap : s.mapOk .engine s.xferBase s.xferLen = true)
    (hexp : s.xferExports = true) (ht : t = s.xferOut (s.xferLen / 8192 + 1)) (hall : t.bt.moved = s.xferLen)
    (hok : t.bit 0x003B00A0 6 = false) : doXferDone s = (t.setBit 0x003B00A0 5).setBit btEvt 8 := by
  subst ht
  simp only [doXferDone, xfer_runs hgo hdone hmoved, hb, hmap, hexp, hall, hok, decide_true, Bool.and_self, Bool.not_true,
    Bool.not_false, Bool.false_and, Bool.false_eq_true, if_false, if_true]

theorem doXferDone_unmapped (hlen : s.xferLen ≠ 0) (hmap : s.mapOk .engine s.xferBase s.xferLen = false) :
    doXferDone s = s.mapErr.xferRefuse := by
  simp only [doXferDone, xfer_runs hgo hdone hmoved, hmap, hlen, ne_eq, not_false_eq_true, decide_true, Bool.and_false, Bool.not_false,
    Bool.and_self, Bool.false_eq_true, if_false, if_true]

end transfer

/-! ### Replay (R493 to R495) -/

theorem doReplayOffer_replay (hm : s.mode = .replay) : doReplayOffer s = doIntakeAccept .supervisor s := by
  have hgo : (s.mode == .replay) = true := by rw [hm]; rfl
  exact if_pos hgo

theorem doReplayOffer_other (hm : s.mode ≠ .replay) : doReplayOffer s = s :=
  if_neg (ne_true_of_eq_false (beq_false_of_ne hm))

theorem doReplayStuck_due {e : DEntry} {l : List DEntry} (he : s.dlogIn = e :: l) (hm : s.mode = .replay)
    (hs : s.replay.stuck = false) (hd : s.replay.done = false) (hdue : s.replay.moved + 100000000 ≤ s.now) :
    doReplayStuck s = ({ s with replay := { s.replay with stuck := true, site := e.site } } : State).setBit btEvt 6 := by
  have hgo : (s.mode == .replay && !s.replay.stuck && !s.replay.done && decide (s.replay.moved + 100000000 ≤ s.now)) = true := by
    rw [hm, hs, hd, decide_eq_true hdue]
    rfl
  simp only [doReplayStuck, he, hgo, if_true]

theorem doReplayDone_last (hm : s.mode = .replay) (hd : s.replay.done = false) (hr : s.replay.records = []) (hc : s.cells = []) :
    doReplayDone s = (({ s with replay := { s.replay with done := true } } : State).setBit btEvt 5).cause 0 18 := by
  have hgo : (s.mode == .replay && !s.replay.done && s.replay.records.isEmpty && s.cells.all (fun c => c.stage == .done)) = true := by
    rw [hm, hd, hr, hc]
    rfl
  exact if_pos hgo

/-- Settles O51: each event of the recorder is evaluated in the case that the clause names. -/
theorem recorderEvents : Obligations.RecorderEvents := by
  intro s t
  exact ⟨fun c hrec hc hcl hh => congrArg Host.Outcome.next (doBitternRecord_oldest hrec hc hcl hh),
    fun hrec hdue ht => congrArg Host.Outcome.next (doChunkClose_due hrec hdue ht),
    fun hrec he => congrArg Host.Outcome.next (doChunkClose_early hrec he),
    fun hen => congrArg Host.Outcome.next (doChunkClose_off hen),
    fun hrec hp hc hr hdue => congrArg Host.Outcome.next (doCheckpointPeriod_due hrec hp hc hr hdue),
    fun hc hq => congrArg Host.Outcome.next (doCheckpointMark_quiet hc hq),
    fun _ hq => congrArg Host.Outcome.next (doCheckpointMark_busy hq),
    fun hc hdue => congrArg Host.Outcome.next (doCheckpointQuiesceTimeout_due hc hdue),
    fun n hr hc hdue => congrArg Host.Outcome.next (doCheckpointRetry_due hr hc hdue),
    fun hc => congrArg Host.Outcome.next (doCheckpointCopyDone_copied hc),
    fun v hoff ht hon => congrArg Host.Outcome.next (xferWrite_go hoff ht hon),
    fun hgo hd hm hb hmap hexp ht hall hok => congrArg Host.Outcome.next (doXferDone_exported hgo hd hm hb hmap hexp ht hall hok),
    fun hgo hd hm hlen hmap => congrArg Host.Outcome.next (doXferDone_unmapped hgo hd hm hlen hmap),
    fun hm => congrArg Host.Outcome.next (doReplayOffer_replay hm), fun hm => congrArg Host.Outcome.next (doReplayOffer_other hm),
    fun e l he hm hs hd hdue => congrArg Host.Outcome.next (doReplayStuck_due he hm hs hd hdue),
    fun hm hd hr hc => congrArg Host.Outcome.next (doReplayDone_last hm hd hr hc)⟩

end Sys2Proof.Machine
end

section
/-! PROOFS. The steps of BOOT (spec/17 R524 to R531, Table 17.4; spec/09 R339, R340; spec/12 R409; spec/16 R520). -/
namespace Sys2Proof.Machine

variable {s t : State}

/-- R520, R524: a step of BOOT other than the next one does nothing. -/
theorem bootAt_false_of_mode {k : Nat} (hm : s.mode ≠ .boot) : s.bootAt k = false := by
  rw [State.bootAt, beq_false_of_ne hm, Bool.false_and, Bool.false_and]

theorem stage_of_bootAt {k : Nat} (h : s.bootAt k = true) : s.sup.stage = k := by
  unfold State.bootAt at h
  simp only [Bool.and_eq_true, beq_iff_eq] at h
  exact h.1.2

/-! ### The start, and the image that is booted (R525 to R529) -/

theorem doBootStart_fuses_read (hb : s.bootAt 0 = true) (hu : s.tap.unread = false)
    (ht : t = ({ s with sup := { s.sup with upc := 0, inPatch := false, noMatch := false } } : State)) :
    doBootStart s = (if s.tap.hashAtBoot = 0 then t.setBit svBoot 3 else t).bootNext := by
  subst ht
  simp only [doBootStart, hb, hu, Bool.not_true, Bool.false_eq_true, if_false]

section image
variable (hb : s.bootAt 1 = true) (hr : s.tb.running = true)
include hb hr

theorem doImageVerified_preferred {i : BootImage} (hi : s.imageIn true (s.fld 0x003C0100 0 1) = some i) :
    doImageVerified s = s.bootImage (s.fld 0x003C0100 0 1) false i := by
  simp only [doImageVerified, hb, hr, hi, Bool.not_true, Bool.or_self, Bool.false_eq_true, if_false]

theorem doImageVerified_fallback {i : BootImage} (hn : s.imageIn true (s.fld 0x003C0100 0 1) = none)
    (hi : s.imageIn true (1 - s.fld 0x003C0100 0 1) = some i) :
    doImageVerified s = s.bootImage (1 - s.fld 0x003C0100 0 1) true i := by
  simp only [doImageVerified, hb, hr, hn, hi, Bool.not_true, Bool.or_self, Bool.false_eq_true, if_false]

theorem doImageVerified_none (hn : s.imageIn true (s.fld 0x003C0100 0 1) = none)
    (hn' : s.imageIn true (1 - s.fld 0x003C0100 0 1) = none) :
    doImageVerified s = (s.setBit svBoot 2).record { block := 0x0F, code := 0x00B4, sev := 4 } := by
  simp only [doImageVerified, hb, hr, hn, hn', Bool.not_true, Bool.or_self, Bool.false_eq_true, if_false]

end image

/-! ### The configuration store and the DRAM (R108, R311, R339, R340) -/

/-- R311: the Sluice's registers that the configuration store gives take effect. -/
theorem foldl_sluice_congr (l : List (Nat × Nat)) (s : State) :
    l.foldl (fun s r => if r.1 = slCtl || r.1 = slGeom 0 || r.1 = slGeom 1 then (s.putReg r.1 0xFFFFFFFF r.2).1 else s) s =
      l.foldl (fun s r => if r.1 = slCtl ∨ r.1 = slGeom 0 ∨ r.1 = slGeom 1 then (s.putReg r.1 0xFFFFFFFF r.2).1 else s) s := by
  simp only [Bool.or_eq_true, decide_eq_true_eq, or_assoc]

theorem doConfigStoreLoaded_good {u : State} (hb : s.bootAt 2 = true)
    (ht : t = tidewayChannels.foldl State.chanSafe ({ s with td := { s.td with loaded := true } } : State))
    (hu : u = t.storeConfig.sluice.foldl (fun s r =>
      if r.1 = slCtl ∨ r.1 = slGeom 0 ∨ r.1 = slGeom 1 then (s.putReg r.1 0xFFFFFFFF r.2).1 else s) t) :
    doConfigStoreLoaded true s = ((u.checkGeometry.gptpConfig u.storeConfig).alarmsWaiting).bootNext := by
  subst ht
  subst hu
  rw [← foldl_sluice_congr]
  simp only [doConfigStoreLoaded, hb, Bool.not_true, Bool.false_eq_true, if_false, if_true]

theorem doDramTrained_turn (hb : s.bootAt 3 = true) (a b : Bool) :
    doDramTrained a b s = ((s.trainChannel 0 a).trainChannel 1 b).bootNext := by
  simp only [doDramTrained, hb, Bool.not_true, Bool.false_eq_true, if_false]

/-- The machine with the memory that BOOT zeroes at 0. -/
def State.zeroed (s : State) : State :=
  { s with mem := s.mem.filter fun c => keptAt s.zeroesDram c.1, ecc := s.ecc.filter fun e => keptGranule s.zeroesDram e.1 }

theorem doDramZeroed_turn (hb : s.bootAt 4 = true) : doDramZeroed s = s.zeroed.bootNext := by
  simp only [doDramZeroed, hb, Bool.not_true, Bool.false_eq_true, if_false]
  rfl

theorem rd8_zeroed (s : State) (k : Nat) : s.zeroed.rd8 k = if keptAt s.zeroesDram k then s.rd8 k else memDefault :=
  NatMap.get_keep memDefault (keptAt s.zeroesDram) s.mem k

/-! ### Ohmyth (R399, R409) -/

theorem RegsOnly.foldl {α : Type} {f : State → α → State} (hf : ∀ t x, RegsOnly s t → RegsOnly s (f t x)) :
    ∀ (l : List α) {t : State}, RegsOnly s t → RegsOnly s (l.foldl f t)
  | [], _, h => h
  | x :: l, t, h => RegsOnly.foldl hf l (hf t x h)

/-- R399: a patch set changes registers, the patch RAM and its check bits. -/
theorem loadPatch_effect (s : State) (p : PatchSet) :
    ∃ rg w e, s.loadPatch p = { s with regs := rg, sup := { s.sup with patch := w }, ecc := e } := by
  obtain ⟨rg, h⟩ : RegsOnly s (p.matches_.zipIdx.foldl (fun s m => s.setReg (0x00370040 + 4 * m.2) m.1) s) :=
    .foldl (fun _ _ h => .setReg h) _ (.refl s)
  unfold State.loadPatch
  rw [h]
  exact ⟨_, _, _, rfl⟩

/-- The state with the image's patch set, if it has one. -/
def State.patched (s : State) (p : Option PatchSet) : State := p.elim s s.loadPatch

theorem patched_effect (s : State) (p : Option PatchSet) :
    ∃ rg w e, s.patched p = { s with regs := rg, sup := { s.sup with patch := w }, ecc := e } := by
  cases p with
  | none => exact ⟨_, _, _, rfl⟩
  | some p => exact loadPatch_effect s p

/-- Ohmyth's code stands in its RAM, and it runs. -/
def State.ohmythStarted (s : State) (code : List Byte) : State :=
  let s := s.wrBytes supRamAddr code
  let frer := s.storeConfig.frer.foldl (fun m f =>
    NatMap.mod {} m (f.1 % 64) fun x => { x with histLen := f.2.1, timeout := f.2.2 }) s.frer
  let sup := { s.sup with running := true, codeLen := code.length }
  State.bootNext { s with frer, sup, errors := { s.errors with svwdSince := s.now } }

theorem doOhmythStart_runs {i : BootImage} (hb : s.bootAt 5 = true) (hh : s.sup.halted = false) (hs : s.sup.stopped = false)
    (hi : s.imageIn true (s.fld svBoot 0 1) = some i) : doOhmythStart s = (s.patched i.patch).ohmythStarted i.code := by
  have hgo : (!s.bootAt 5 || s.sup.halted || s.sup.stopped) = false := by rw [hb, hh, hs]; rfl
  simp only [doOhmythStart, hgo, hi, Bool.false_eq_true, if_false]
  cases i.patch <;> rfl

/-- What an image's start leaves, in terms of the state before it. -/
theorem ohmythStarted_patched {i : BootImage} {u : State} (hb : s.bootAt 5 = true) (hu : u = (s.patched i.patch).ohmythStarted i.code) :
    u.sup.stage = 6 ∧ u.sup.running = true ∧ u.sup.codeLen = i.code.length ∧ u.errors.svwdSince = s.now ∧
      u.mem = (s.wrBytes supRamAddr i.code).mem ∧ u.regs = (s.patched i.patch).regs := by
  have hstage := stage_of_bootAt hb
  obtain ⟨rg, w, e, h⟩ := patched_effect s i.patch
  rw [h] at hu ⊢
  subst hu
  exact ⟨congrArg (· + 1) hstage, rfl, rfl, rfl, rfl, rfl⟩

theorem doOhmythStart_no_image (hi : s.imageIn true (s.fld svBoot 0 1) = none) : doOhmythStart s = s := by
  simp only [doOhmythStart, hi, ite_self]

/-! ### The end of BOOT (R520, R531) -/

theorem doBootEnd_retires (hup : s.ohmythUp = true) (hb : s.bootAt 6 = true) : doBootEnd s = s.retire.firstCommit.bootNext := by
  simp only [doBootEnd, hup, hb, Bool.not_true, Bool.false_eq_true, if_false, if_true]

theorem doBootEnd_ends (hup : s.ohmythUp = true) (hb : s.bootAt 7 = true) (hm : s.markers = []) (hc : s.commits = []) :
    doBootEnd s = s.bootDone := by
  have h6 : s.bootAt 6 = false := by
    unfold State.bootAt
    rw [stage_of_bootAt hb, show ((7 : Nat) == 6) = false from rfl, Bool.and_false, Bool.false_and]
  simp only [doBootEnd, hup, h6, hb, hm, hc, List.isEmpty_nil, Bool.and_self, Bool.not_true, Bool.false_eq_true, if_false, if_true]

/-- Settles O52: each step of BOOT is evaluated at its turn, and does nothing outside BOOT. -/
theorem bootSteps : Obligations.BootSteps := by
  intro s t a b
  refine ⟨fun hb hu ht => congrArg Host.Outcome.next (doBootStart_fuses_read hb hu ht), fun hb hr => ?image,
    fun u hb ht hu => congrArg Host.Outcome.next (doConfigStoreLoaded_good hb ht hu),
    fun hb => congrArg Host.Outcome.next (doDramTrained_turn hb a b),
    fun hb => ⟨_, congrArg Host.Outcome.next (doDramZeroed_turn hb), rfl, rfl, rd8_zeroed s⟩, fun hb hh hs => ?ohmyth,
    fun hup hb => congrArg Host.Outcome.next (doBootEnd_retires hup hb),
    fun hup hb hm hc => congrArg Host.Outcome.next (doBootEnd_ends hup hb hm hc), fun hm => ?elsewhere⟩
  case image =>
    cases hi : s.imageIn true (s.fld 0x003C0100 0 1) with
    | some i => exact congrArg Host.Outcome.next (doImageVerified_preferred hb hr hi)
    | none =>
      cases hj : s.imageIn true (1 - s.fld 0x003C0100 0 1) with
      | some i => exact congrArg Host.Outcome.next (doImageVerified_fallback hb hr hi hj)
      | none => exact congrArg Host.Outcome.next (doImageVerified_none hb hr hi hj)
  case ohmyth =>
    cases hi : s.imageIn true (s.fld svBoot 0 1) with
    | none => exact ⟨s, congrArg Host.Outcome.next (doOhmythStart_no_image hi), rfl⟩
    | some i =>
      obtain ⟨hstage, hrun, hlen, hsince, hmem, hregs⟩ := ohmythStarted_patched (i := i) hb rfl
      refine ⟨_, congrArg Host.Outcome.next (doOhmythStart_runs hb hh hs hi), hstage, hrun, hlen, hsince, hmem, hregs.trans ?_⟩
      cases i.patch <;> rfl
  case elsewhere =>
    have hat (k : Nat) : (!s.bootAt k) = true := by rw [bootAt_false_of_mode hm]; rfl
    have hend : doBootEnd s = s := by
      simp only [doBootEnd, bootAt_false_of_mode hm, Bool.false_and, Bool.false_eq_true, if_false, ite_self]
    exact ⟨congrArg Host.Outcome.next (if_pos (hat 0)),
      congrArg Host.Outcome.next (if_pos (by rw [hat 1, Bool.true_or])), congrArg Host.Outcome.next (if_pos (hat 2)),
      congrArg Host.Outcome.next (if_pos (hat 3)), congrArg Host.Outcome.next (if_pos (hat 4)),
      congrArg Host.Outcome.next (if_pos (by rw [hat 5, Bool.true_or, Bool.true_or])), congrArg Host.Outcome.next hend⟩

end Sys2Proof.Machine
end

section
/-! PROOFS. What Tideway's outputs and Gong can change, and the test access port (spec/03 R93 to R97, spec/19 R584 to R588). -/
namespace Sys2Proof.Machine

variable {s t : State}

/-! ### What Tideway's outputs and Gong change -/

/-- `t` is `s` but for Tideway, the values of registers and the outputs. -/
def TidewayOnly (s t : State) : Prop := ∃ td rg o, t = { s with td := td, regs := rg, out := o }

namespace TidewayOnly

theorem refl (s : State) : TidewayOnly s s := ⟨_, _, _, rfl⟩

theorem upd (h : TidewayOnly s t) (td : Tideway) (rg : NatMap Nat) (o : List Output) :
    TidewayOnly s { t with td := td, regs := rg, out := o } := by
  obtain ⟨_, _, _, rfl⟩ := h
  exact ⟨_, _, _, rfl⟩

theorem ite {u : State} {c : Prop} [Decidable c] (ht : TidewayOnly s t) (hu : TidewayOnly s u) :
    TidewayOnly s (if c then t else u) := by
  split <;> assumption

theorem foldl {α : Type} {f : State → α → State} (hf : ∀ t x, TidewayOnly s t → TidewayOnly s (f t x)) :
    ∀ (l : List α) {t : State}, TidewayOnly s t → TidewayOnly s (l.foldl f t)
  | [], _, h => h
  | x :: l, t, h => TidewayOnly.foldl hf l (hf t x h)

theorem setSd {n : Nat} {e : StepDir} (h : TidewayOnly s t) : TidewayOnly s (t.setSd n e) := h.upd ..

theorem setSpi {n : Nat} {e : Spi} (h : TidewayOnly s t) : TidewayOnly s (t.setSpi n e) := h.upd ..

theorem setGpio {b : Nat} {e : Gpio} (h : TidewayOnly s t) : TidewayOnly s (t.setGpio b e) := h.upd ..

theorem setUart {u : Nat} {e : Uart} (h : TidewayOnly s t) : TidewayOnly s (t.setUart u e) := h.upd ..

theorem setPar {p : ParPort} (h : TidewayOnly s t) : TidewayOnly s (t.setPar p) := h.upd ..

theorem setPwm {k : Nat} {e : Pwm} (h : TidewayOnly s t) : TidewayOnly s (t.setPwm k e) := h.upd ..

theorem bump {k : Nat} (h : TidewayOnly s t) : TidewayOnly s (t.bump k) := h.upd ..

theorem tdOverflow (h : TidewayOnly s t) : TidewayOnly s t.tdOverflow := h.upd ..

theorem pinCell {tstamp src : Nat} {payload : List Byte} {kind : CellKind} (h : TidewayOnly s t) :
    TidewayOnly s (t.pinCell tstamp src payload kind) := .ite (h.upd ..) h

theorem sdStop {n : Nat} (h : TidewayOnly s t) : TidewayOnly s (t.sdStop n) := by
  dsimp only [State.sdStop]
  split
  · exact h.setSd
  · exact h.setSd

theorem sdStatus {n evt : Nat} (h : TidewayOnly s t) : TidewayOnly s (t.sdStatus n evt) :=
  .ite h (.ite h.tdOverflow h.pinCell)

theorem spiStart {n data : Nat} {safe : Bool} {start apply_ tstamp : Nat} (h : TidewayOnly s t) :
    TidewayOnly s (t.spiStart n data safe start apply_ tstamp) := h.upd ..

theorem spiUnsend {n at_ : Nat} (h : TidewayOnly s t) : TidewayOnly s (t.spiUnsend n at_) := h.upd ..

theorem spiSafe {n : Nat} (h : TidewayOnly s t) : TidewayOnly s (t.spiSafe n) := by
  dsimp only [State.spiSafe]
  split
  · split
    · exact .ite h.spiUnsend.setSpi.spiStart h.setSpi
    · exact h.setSpi.spiStart
  · exact h

theorem applyForces (h : TidewayOnly s t) : TidewayOnly s t.applyForces := by
  dsimp only [State.applyForces]
  split
  · exact h
  · refine .foldl (fun _ _ hu => ?_) _ (.foldl (fun _ _ hu => .ite hu hu.setGpio) _ h)
    split
    · exact hu
    · split
      · exact hu.setPwm
      · exact hu

theorem chanSafe {ch : Nat} (h : TidewayOnly s t) : TidewayOnly s (t.chanSafe ch) :=
  .ite h (.ite h.sdStop (.ite h.spiSafe (.ite h.setGpio (.ite h.setUart (.ite h.setPar h.setPwm)))))

theorem gongAct {k : Nat} (h : TidewayOnly s t) : TidewayOnly s (t.gongAct k) := by
  dsimp only [State.gongAct]
  split
  · exact h.applyForces
  · exact .foldl (fun _ _ hu => .ite hu.sdStop.setSd.sdStatus hu) _ h
  · exact h.applyForces
  · exact .foldl (fun _ _ hu => .ite hu.spiSafe hu) _ h
  · exact h

theorem gongFire {k : Nat} (h : TidewayOnly s t) : TidewayOnly s (t.gongFire k) :=
  (gongAct (h.upd ..)).bump.pinCell

theorem gongRun_go (n : Nat) (h : TidewayOnly s t) : TidewayOnly s (State.gongRun.go n t) := by
  induction n generalizing t with
  | zero => exact h
  | succ n ih =>
    unfold State.gongRun.go
    split
    · exact ih h.gongFire
    · exact h

theorem gongRun (h : TidewayOnly s t) : TidewayOnly s t.gongRun := .ite (gongRun_go 64 h) h

theorem chansSafe {chs : List Nat} (h : TidewayOnly s t) : TidewayOnly s (t.chansSafe chs) :=
  (applyForces (.foldl (fun _ _ hu => hu.chanSafe) chs h)).gongRun

theorem outEnFall (h : TidewayOnly s t) : TidewayOnly s t.outEnFall := .ite (chansSafe (h.upd ..)) h

end TidewayOnly

/-! ### Instructions of the TAP (R584, R585) -/

/-- R584: loading an instruction takes it, and frees the pads. -/
theorem tapLoad_effect (s : State) (ir : Nat) :
    ∃ td rg o, s.tapLoad ir = { s with tap := { s.tap with ir := ir, pads := false }, td := td, regs := rg, out := o } := by
  obtain ⟨td, rg, o, h⟩ : TidewayOnly { s with tap := { s.tap with ir := ir, pads := false } } (s.tapLoad ir) :=
    .ite (.chansSafe (.refl _)) (.refl _)
  exact ⟨td, rg, o, h⟩

theorem batonRelease_effect (s : State) : ∃ td rg o, s.batonRelease =
    { s with ford := { s.ford with ownLine := false, claimAt := none, holds := false }, td := td, regs := rg, out := o } := by
  obtain ⟨td, rg, o, h⟩ : TidewayOnly { s with ford := { s.ford with ownLine := false, claimAt := none, holds := false } }
      s.batonRelease := .outEnFall (.refl _)
  exact ⟨td, rg, o, h⟩

section pads
variable {ir : Nat}

theorem padsTake_ok (hp : s.padsOk = true) (ht : t = s.tapLoad ir) :
    s.padsTake ir = ({ t with tap := { t.tap with pads := true } } : State).batonRelease := by
  subst ht
  exact if_pos hp

theorem padsTake_bypass (hp : s.padsOk = false) : s.padsTake ir = s.tapLoad 0xFF := if_neg (ne_true_of_eq_false hp)

theorem padsTake_ok_fields (hp : s.padsOk = true) :
    (s.padsTake ir).tap.pads = true ∧ (s.padsTake ir).tap.ir = ir ∧ (s.padsTake ir).ford.holds = false := by
  rw [padsTake_ok hp rfl]
  obtain ⟨td, rg, o, h⟩ := tapLoad_effect s ir
  rw [h]
  obtain ⟨td', rg', o', h'⟩ := batonRelease_effect _
  rw [h']
  exact ⟨rfl, rfl, rfl⟩

theorem doExtest_ok (hp : s.padsOk = true) (l : List Byte) :
    doExtest l s = { s.padsTake 0x03 with tap := { (s.padsTake 0x03).tap with boundary := l } } :=
  if_pos (padsTake_ok_fields hp).1

theorem doExtest_bypass (hp : s.padsOk = false) (l : List Byte) : doExtest l s = s.tapLoad 0xFF := by
  have hpads : (s.tapLoad 0xFF).tap.pads = false := by
    obtain ⟨td, rg, o, h⟩ := tapLoad_effect s 0xFF
    rw [h]
  simp only [doExtest, padsTake_bypass hp, hpads, Bool.false_eq_true, if_false]

end pads

/-! ### Fuses (R586) -/

section fuses
variable {v : Nat} (ht : t = s.tapLoad 0x20) (hprog : t.tap.prog = none) (hmode : t.mode = .boot ∨ t.mode = .hold)
  (hkey : bitsOf v 264 8 = 0x5A) (htarget : bitsOf v 256 8 = 0) (hblank : t.tap.keyHash = 0) (hv : bitsOf v 0 256 ≠ 0)
include ht

theorem doFuseProg_no_voltage :
    doFuseProg false v s = { t with tap := { t.tap with fail := true } } := by
  subst ht
  simp only [doFuseProg, Bool.false_and, Bool.false_eq_true, if_false]

include hprog hmode hkey htarget hblank hv

theorem doFuseProg_key : doFuseProg true v s =
    { t with tap := { t.tap with prog := some (0, bitsOf v 0 256, t.now), fail := false } } := by
  have hm : (t.mode == .boot || t.mode == .hold) = true := by
    rcases hmode with h | h <;> rw [h] <;> rfl
  subst ht
  simp [doFuseProg, hm, htarget, hblank, hv, hkey, hprog]

end fuses

theorem doFuseProgDone_key {v n : Nat} (hp : s.tap.prog = some (0, v, n)) :
    doFuseProgDone s = { s with tap := { s.tap with prog := none, keyHash := v } } := by
  simp only [doFuseProgDone, hp, if_true]

theorem doFuseProgDone_debug {v n : Nat} (hp : s.tap.prog = some (1, v, n)) :
    doFuseProgDone s = { s with tap := { s.tap with prog := none, dbgOpen := true } } := by
  simp only [doFuseProgDone, hp, Nat.one_ne_zero, if_false]

/-! ### Debug (R587) -/

theorem doDbgUnlock_spec (ht : t = s.tapLoad 0x30) (l : List Byte) :
    doDbgUnlock l s = { t with tap := { t.tap with token := t.tap.token || tokenOk t.tap.keyHash l } } := by
  subst ht
  cases h : tokenOk (s.tapLoad 0x30).tap.keyHash l with
  | true =>
    rw [Bool.or_true]
    exact if_pos h
  | false =>
    rw [Bool.or_false]
    exact if_neg (ne_true_of_eq_false h)

/-- How a debug access ends: DBG_ACCESS holds the word and the status, and both are shifted out. -/
def State.dbgEnd (u : State) (val x : Nat) (err : Bool) : State :=
  State.tapOut { u with tap := { u.tap with dbg := (x, !err, err) } } (leBytes 10 (bitsOf val 0 40 + 2 ^ 40 * b2n (bitAt val 40) +
    2 ^ 41 * x + 2 ^ 73 * b2n (!err) + 2 ^ 74 * b2n err))

theorem doDbgAccess_read {v x : Nat} {u : State} (ht : t = s.tapLoad 0x31) (hp : t.tap.permits = true)
    (ha : bitsOf v 0 40 % 4 = 0) (hw : bitAt v 40 = false) (hr : t.supRead (bitsOf v 0 40) 4 = (u, some x)) :
    doDbgAccess v s = u.dbgEnd v x false := by
  subst ht
  simp only [doDbgAccess, hp, ha, decide_true, Bool.and_self, if_true, State.dbgDo, State.dbgEnd, hw, Bool.false_eq_true, if_false, hr]

theorem doDbgAccess_refused {v : Nat} (ht : t = s.tapLoad 0x31) (hp : t.tap.permits = false) :
    doDbgAccess v s = t.dbgEnd v (bitsOf v 41 32) true := by
  subst ht
  simp only [doDbgAccess, hp, Bool.false_and, Bool.false_eq_true, if_false]
  rfl

/-- Settles O54: each instruction of the TAP is evaluated in the case that the clause names. -/
theorem testAccessPort : Obligations.TestAccessPort := by
  intro s t l p
  refine ⟨rfl, rfl, fun ht => ?preload, fun hp ht => congrArg Host.Outcome.next (padsTake_ok hp ht),
    fun hp ht => congrArg Host.Outcome.next (padsTake_ok hp ht),
    fun hp => ⟨congrArg Host.Outcome.next (padsTake_bypass hp), congrArg Host.Outcome.next (padsTake_bypass hp)⟩, fun hp => ?extest,
    fun hp => congrArg Host.Outcome.next (doExtest_bypass hp l),
    fun v ht hprog hmode hkey htarget hblank hv =>
      ⟨congrArg Host.Outcome.next (doFuseProg_key ht hprog hmode hkey htarget hblank hv),
        congrArg Host.Outcome.next (doFuseProg_no_voltage ht)⟩,
    fun v n hp => congrArg Host.Outcome.next (doFuseProgDone_key hp),
    fun v n hp => congrArg Host.Outcome.next (doFuseProgDone_debug hp), fun ht => ?fuseRead,
    fun ht => congrArg Host.Outcome.next (doDbgUnlock_spec ht l), fun v ht hp ha hw u x hr => ?read, fun v ht hp => ?refused⟩
  case preload =>
    subst ht
    rfl
  case extest =>
    obtain ⟨hpads, hir, hholds⟩ := padsTake_ok_fields (ir := 0x03) hp
    exact ⟨_, congrArg Host.Outcome.next (doExtest_ok hp l), rfl, hpads, hir, hholds⟩
  case fuseRead =>
    subst ht
    rfl
  case read => exact ⟨_, congrArg Host.Outcome.next (doDbgAccess_read ht hp ha hw hr), rfl, rfl, rfl, rfl⟩
  case refused => exact ⟨_, congrArg Host.Outcome.next (doDbgAccess_refused ht hp), rfl, rfl, rfl⟩

end Sys2Proof.Machine
end
